-- ==== Sys2Proof/Word.lean ====
section
/-! DEFINITION. The word types of the GHG-6424 model: a byte, an engine word, a double word, a finite table by number, and a
signed reading of a number's low bits. -/

namespace Sys2Proof

/-- One byte of a frame or a memory. -/
abbrev Byte := BitVec 8

/-- A 32-bit engine or register word. -/
abbrev Word := BitVec 32

/-- A finite table by number, its keys rising: what is not listed has its default. -/
abbrev Tab (α : Type) := List (Nat × α)

/-- The two's complement reading of the low `w` bits of `v`. -/
def toSigned (w v : Nat) : Int :=
  if v % 2 ^ w < 2 ^ (w - 1) then Int.ofNat (v % 2 ^ w) else Int.ofNat (v % 2 ^ w) - Int.ofNat (2 ^ w)

/-- The low `w` bits of an integer, as a number. -/
def ofSigned (w : Nat) (i : Int) : Nat := (i % Int.ofNat (2 ^ w)).toNat

end Sys2Proof
end

