-- ==== Sys2Proof/Syntax.lean ====
section
/-! DEFINITION. The commands the block takes, one constructor for each row of the command table, and the types of their
operands. -/

namespace Sys2Proof.Machine

/-- A bus master, as R526 numbers masters by unit identifier: the supervisor, the PCIe host, the SPI host, a DMA channel, an
engine, the loader. -/
inductive Master where
  | supervisor
  | pcie
  | spi
  | dma (c : Nat)
  | engine (n : Nat)
  | loader
deriving DecidableEq, Repr

/-- A frame as a port's PCS hands it over with its last bit (R14, R78): destination address to FCS; how many ticks ago its start of
frame fell, and the receive TDC's count of 62.5 ps steps after that tick (R40); a line code error inside the frame, and an end by
loss of link or lock. -/
structure RxFrame where
  bytes : List (BitVec 8)
  ago : Nat
  sub : Nat
  codeErr : Bool
  trunc : Bool
deriving DecidableEq, Repr

/-- An mPacket's start delimiter (R75): SMD-S0–S3, SMD-C with its frame count, or one that the port does not know. -/
inductive Smd where
  | start (n : Nat)
  | cont (n : Nat)
  | unknown
deriving DecidableEq, Repr

/-- An mPacket (R77): delimiter, fragment count, data bytes, whether it is the last of its frame (then the data end with the FCS),
how many ticks ago it started and the TDC's count there, and a line code error in it. -/
structure MPacket where
  smd : Smd
  frag : Nat
  data : List (BitVec 8)
  last : Bool
  ago : Nat
  sub : Nat
  codeErr : Bool
deriving DecidableEq, Repr

/-- A CAN frame on the bus (R382, R386): identifier, extended, remote, FD format, bit rate switch, error state indicator, length
code and data bytes. -/
structure CanFrame where
  id : Nat
  ide : Bool
  rtr : Bool
  fdf : Bool
  brs : Bool
  esi : Bool
  dlc : Nat
  data : List (BitVec 8)
deriving DecidableEq, Repr

/-- A bus error at a CAN controller (R389, R390): the error code as CAN_ERR.LEC numbers it, whether the controller was the
transmitter, whether ISO 11898-1 exempts the transmitter's counter (an ACK error of a passive node with no dominant bit during its
error flag, a stuff error during arbitration), whether a receiver saw a dominant bit right after its error flag, and the loop delay
measured in the frame, where one was. -/
structure CanErr where
  lec : Nat
  tx : Bool
  exempt : Bool
  primary : Bool
  tdcv : Option Nat
deriving DecidableEq, Repr

/-- What ends Standby (R452). -/
inductive WakeSrc where
  | wakeN | rtc | rstN
deriving DecidableEq, Repr

/-- A register of the PCIe configuration space (R476, R527): the IDs, the command register, class and revision, the two base addresses (low or
high word), the subsystem IDs, the power state, device control, the MSI-X control word with the capability's header, the serial number (low
or high word), and of AER the uncorrectable mask and severity and the correctable mask. -/
inductive CfgReg where
  | ids
  | command
  | classRev
  | bar0 (hi : Bool)
  | bar2 (hi : Bool)
  | subsystem
  | power
  | devControl
  | msix
  | serial (hi : Bool)
  | aerMask
  | aerSeverity
  | aerCorMask
deriving DecidableEq, Repr

/-- What the host does outside BAR0 (R476, R478, R480): it reads a register of the configuration space or a word of BAR2; it writes a word of
BAR2, an entry of the MSI-X table whole, the function mask of its MSI-X capability, Bus Master Enable, D3hot, the base addresses, the
payload and read request sizes (0 is 128 bytes, each next code the double), or the masks and severity of AER. -/
inductive HostCfg where
  | read (r : CfgReg)
  | bar2Read (off : Nat)
  | bar2Write (off v : Nat)
  | entry (v addr data : Nat) (masked : Bool)
  | fnMask (b : Bool)
  | busMaster (b : Bool)
  | d3hot (b : Bool)
  | bases (bar0 bar2 : Nat)
  | sizes (mps mrrs : Nat)
  | aer (mask sev cor : Nat)
deriving DecidableEq, Repr

/-- What happens to the PCIe link or its reset ball (R476, R522): the link trains up; it goes down; PERST_N falls or rises; VDDIO_B is lost or returns. -/
inductive PcieChange where
  | up
  | down
  | perst (low : Bool)
  | ioB (there : Bool)
deriving DecidableEq, Repr

/-- What a swap was requested of (R286, R287): an engine, or a depot. -/
inductive SwapTarget where
  | engine (e : Nat)
  | depot (n : Nat)
deriving DecidableEq, Repr

/-- A word or an entry in which an upset has changed bits (R278, R334, R350): a 64-bit word of the shared memory, a 32-bit word of an engine's
data, active or shadow instruction memory, or an entry that a queue holds in queue RAM, the oldest first. -/
inductive EccPlace where
  | bank (w : Nat)
  | dm (e w : Nat)
  | im (e w : Nat)
  | sh (e w : Nat)
  | entry (q i : Nat)
deriving DecidableEq, Repr

/-- An access to the shared memory (R328): a read, or a write of bytes; and the words of the memories with check bits in which bits have
flipped by then, each with whether more than one has (R334, notes/assumptions/75). -/
structure BankAccess where
  write : Option (List (BitVec 8))
  upsets : List (EccPlace × Bool) := []
deriving DecidableEq, Repr

/-- How a write of the recorder to the MRAM ends (R464, R466, R522): its read-back matches; it does not; a brown-out cuts the write. -/
inductive WriteEnd where
  | good
  | bad
  | cut
deriving DecidableEq, Repr

/-- What starts write inhibit (R444, R522): POWERFAIL_N; VDDIO_A below its threshold; VDDIO_A lost altogether, so that its pads float. -/
inductive Sag where
  | powerfail
  | low
  | lost
deriving DecidableEq, Repr

/-- What a line shows as the up condition of its port is met: the partner's or the PHY's word (R62, R66), and whether Remote Fault is being
received (R84). -/
structure LineUp where
  ability : BitVec 16
  remote : Bool := false
deriving DecidableEq, Repr

/-- What a line shows as the down condition of its port is met: the cause as R65 numbers it, and whether Remote Fault is being received
(R84). -/
structure LineDown where
  cause : Nat
  remote : Bool := false
deriving DecidableEq, Repr

/-- What is pushed on a queue (R340): the low word, with the high word staged before, or the host's 64 bits at once. -/
inductive PushWord where
  | low (v : BitVec 32)
  | wide (hi v : BitVec 32)
deriving DecidableEq, Repr

/-- A queue's pop register, and whether the host reads all its 64 bits at once (R340). -/
structure PopReg where
  q : Nat
  wide : Bool := false
deriving DecidableEq, Repr

end Sys2Proof.Machine

namespace Sys2Proof

open Sys2Proof.Machine

/-- The commands the block takes: one constructor for each row of the command table (spec/opcode_table.json). -/
inductive Instr where
  /-- REGISTER_WRITE (R6): A master writes a register that has no step of its own; the write is applied as its access codes allow. -/
  | registerWrite (m : Master) (off : Nat) (v : BitVec 32) (whole : Bool)
  /-- WIDE_REGISTER_STAGE (R535): A write to a word of a wide register below its highest word is held in the writing master's staging. -/
  | wideRegisterStage (m : Master) (off : Nat) (v : BitVec 32)
  /-- LATCHING_READ (R535): A read of the low word of a wide register or counter latches its higher words for that master. -/
  | latchingRead (m : Master) (off : Nat)
  /-- READ_CLEAR (R6): A read of an RC field returns its value and clears it in the same access. -/
  | readClear (m : Master) (off : Nat)
  /-- FRAME_RECEIVED (R14): An Ethernet frame received on P0–P21 is stamped, checked, parsed, classified and disposed of. -/
  | frameReceived (p : Nat) (f : RxFrame)
  /-- MPACKET_RECEIVED (R77): A preemption mPacket is received and assembled, or discarded for an SMD or assembly error. -/
  | mpacketReceived (p : Nat) (f : MPacket)
  /-- VERIFY_MPACKET_RECEIVED (R76): A received verify mPacket is answered with a respond mPacket. -/
  | verifyMpacketReceived (p : Nat)
  /-- RESPOND_MPACKET_RECEIVED (R76): A respond mPacket ends verification with VERSTAT succeeded. -/
  | respondMpacketReceived (p : Nat)
  /-- VERIFY_TIMER (R76): VERTIME expires; the port sends another verify mPacket or, after three, sets VERSTAT failed. -/
  | verifyTimer (p : Nat)
  /-- CAPTURE (R28): A write of TB_SNAPn_CTRL.CAPTURE captures LT and TD0–TD3 on one tick. -/
  | capture (m : Master) (n : Nat) (v : BitVec 32)
  /-- SNAPSHOT_VALID (R28): The snapshot completes and VALID is set no more than 12 ns after the capture. -/
  | snapshotValid (n : Nat)
  /-- DOMAIN_SET (R36): A committing write of TB_TDn_SET is accepted as a step or refused by servo state. -/
  | domainSet (m : Master) (n : Nat) (v : BitVec 32)
  /-- DOMAIN_STEP_WRITE (R36): A committing write of TB_TDn_STEP is accepted as a step or refused by servo state. -/
  | domainStepWrite (m : Master) (n : Nat) (v : BitVec 32)
  /-- INCR_NOM_WRITE (R35): A write of TB_TDn_INCR_NOM is accepted only while SERVO = 0. -/
  | incrNomWrite (m : Master) (n : Nat) (v : BitVec 32)
  /-- OFFSET_SUBMIT (R31): A committing write of TB_TDn_OFFS submits an FW offset, stalling while an earlier update is processed. -/
  | offsetSubmit (m : Master) (n : Nat) (v : BitVec 32)
  /-- SERVO_DISABLE (R536): A write clearing TB_TDn_CFG.SERVO returns the servo to FREE with f and I cleared. -/
  | servoDisable (m : Master) (n : Nat) (v : BitVec 32)
  /-- DOMAIN_STEP (R36): A step takes effect at a tick boundary, sets STEPPED, counts and fires passed compares. -/
  | domainStep (n : Nat)
  /-- SERVO_UPDATE (R31): The servo processes an offset update through its state machine and PI computation. -/
  | servoUpdate (n : Nat)
  /-- SERVO_HOLD_TIMEOUT (R32): No update arrives within TIMEOUT; TRACK enters HOLDOVER and ACQUIRE enters FREE. -/
  | servoHoldTimeout (n : Nat)
  /-- EST_RECOMPUTE (R33): Every 1 µs the device recomputes each domain's error estimate. -/
  | estRecompute
  /-- TDC_CALIBRATION (R38): Every 1 ms each TDC is calibrated against the 4 ns tick and may fail with CALFAIL. -/
  | tdcCalibration (p : Nat) (tx : Bool) (taps : Nat)
  /-- PPS_EDGE (R49): A PPS_IN edge is stamped, judged plausible or not, and may supply an offset. -/
  | ppsEdge (rising : Bool) (width sub : Nat)
  /-- PPS_MISSED (R50): No PPS_IN edge arrives by 1 s plus the window; MISSING increments and event 0x0B04. -/
  | ppsMissed
  /-- FREQ_WINDOW_END (R51): A 1 ms FREQ_IN measurement window ends and is judged good or bad. -/
  | freqWindowEnd (present : Bool) (ppb : Int)
  /-- PPSO_PULSE_START (R52): A PPSO output begins a pulse at its scheduled instant. -/
  | ppsoPulseStart (k : Nat)
  /-- PPSO_PULSE_END (R52): A PPSO pulse ends after WIDTH. -/
  | ppsoPulseEnd (k : Nat)
  /-- DEPARTURE_RECORD_READ (R47): Reading word 3 of TB_Pp_DRQ removes the departure record. -/
  | departureRecordRead (m : Master) (p : Nat)
  /-- LINK_UP_CONDITION (R64): A port's up condition is met and its up debounce begins. -/
  | linkUpCondition (p : Nat) (line : LineUp)
  /-- LINK_DOWN_CONDITION (R64): A port's down condition is detected and its down debounce begins. -/
  | linkDownCondition (p : Nat) (line : LineDown)
  /-- LINK_UP (R65): The up condition has held for LUDEB; LINK is set and event 0x0801 recorded. -/
  | linkUp (p : Nat)
  /-- LINK_DOWN (R65): The down condition has held for LDDEB; the link goes down with its cause. -/
  | linkDown (p : Nat)
  /-- MDIO_POLL (R64): An MDPOLL interval expires and the port polls its PHY's link status. -/
  | mdioPoll (p : Nat) (link : Bool)
  /-- COLLISION (R67): A collision on P20–P21 jams and schedules a back-off, or discards after ATTLIM attempts. -/
  | collision (p : Nat)
  /-- BACKOFF_EXPIRY (R67): The back-off after a collision expires and the frame is attempted again. -/
  | backoffExpiry (p sub : Nat)
  /-- LATE_COLLISION (R68): A collision after 512 bit times jams and discards the frame without retry. -/
  | lateCollision (p bitTime : Nat)
  /-- PLCA_INACTIVE (R69): plca_status falls false and the port falls back to CSMA/CD. -/
  | plcaInactive (p : Nat)
  /-- PAUSE_TAKES_EFFECT (R71): An honoured PAUSE loads the port timer at most 40 ns after its FCS. -/
  | pauseTakesEffect (p : Nat)
  /-- PFC_TAKES_EFFECT (R71): An honoured PFC loads the timers of its enabled classes. -/
  | pfcTakesEffect (p : Nat)
  /-- PAUSE_TIMER_EXPIRY (R71): A PAUSE or PFC timer reaches zero and its paused classes may start frames again. -/
  | pauseTimerExpiry (p t : Nat)
  /-- PAUSE_REFRESH (R74): The REFRESH interval expires and the port repeats its PAUSE or PFC. -/
  | pauseRefresh (p : Nat)
  /-- PORT_POWER_DOWN (R80): PRT_CTRL.PWRDN written 1 powers the lane off after any frame in transmission. -/
  | portPowerDown (m : Master) (p : Nat) (v : BitVec 32)
  /-- LANE_POWER_UP (R80): PWRDN cleared starts lane power-up, PLL lock and first TDC calibration. -/
  | lanePowerUp (m : Master) (p : Nat) (v : BitVec 32)
  /-- LANE_READY (R80): The lane has locked and calibrated; PWRDY is set and link bring-up begins. -/
  | laneReady (p : Nat) (sdOk : Bool) (rxTaps txTaps : Nat)
  /-- PORT_RESET (R81): A function reset of a port cuts, discards, restarts the link and clears FN fields. -/
  | portReset (p : Nat)
  /-- TABLE_READ (R93): FAB_TBLCMD OP 0 reads a bridging table entry into FAB_TBLDATA. -/
  | tableRead (m : Master) (v : BitVec 32)
  /-- TABLE_WRITE (R93): FAB_TBLCMD OP 1 writes a bridging table entry. -/
  | tableWrite (m : Master) (v : BitVec 32)
  /-- TABLE_INVALIDATE (R93): FAB_TBLCMD OP 2 invalidates a table entry. -/
  | tableInvalidate (m : Master) (v : BitVec 32)
  /-- TABLE_FLUSH (R93): FAB_TBLCMD OP 3 flushes the learned FDB. -/
  | tableFlush (m : Master) (v : BitVec 32)
  /-- TABLE_COMMAND_DONE (R93): A table command completes and BUSY clears. -/
  | tableCommandDone
  /-- FDB_AGEING (R94): A learned entry not refreshed within FAB_AGE is removed. -/
  | fdbAgeing (k : Nat)
  /-- KEY_COMMIT (R109): A new key written to KS_KEY commits between frames. -/
  | keyCommit (m : Master) (k : Nat) (v : BitVec 32)
  /-- FABRIC_RESET (R117): A function reset of the fabric cuts frames, discards stored frames and clears learned entries. -/
  | fabricReset
  /-- REDUNDANCY_RESET (R117): A function reset of redundancy empties the node tables. -/
  | redundancyReset
  /-- AUTHENTICATION_RESET (R117): A function reset of authentication gives frames under verification FAIL. -/
  | authenticationReset
  /-- EXPRESS_RULE_RESET (R117): A function reset of the express rules stops firings and invalidates LASTST. -/
  | expressRuleReset
  /-- DESCRIPTOR_HANDOVER (R120): A descriptor handed to a scheduler is queued or refused with one reason. -/
  | descriptorHandover (p : Nat)
  /-- TRANSMIT_START (R122): The highest eligible class starts its head frame on the port. -/
  | transmitStart (p sub : Nat)
  /-- TRANSMIT_END (R123): A frame finishes leaving and its descriptor completes with its reason. -/
  | transmitEnd (p : Nat)
  /-- GATE_EVENT (R125): A gate control list entry ends and the next entry's gate states take force. -/
  | gateEvent (p : Nat)
  /-- CHANGE (R127): SCH_CTRL.CHANGE checks the administrative list and computes the change time. -/
  | change (m : Master) (p : Nat) (v : BitVec 32)
  /-- CANCEL (R128): SCH_CTRL.CANCEL clears a pending configuration change. -/
  | cancel (m : Master) (p : Nat) (v : BitVec 32)
  /-- CONFIG_SWAP (R127): At the change time the administrative list becomes operational. -/
  | configSwap (p : Nat)
  /-- MAC_HOLD (R132): A Set-And-Hold-MAC entry holds preemptable traffic HOLDADV before it begins. -/
  | macHold (p : Nat)
  /-- MAC_RELEASE (R132): A Set-And-Release-MAC entry releases the hold RELADV before it begins. -/
  | macRelease (p : Nat)
  /-- LAUNCH_TIME_REACHED (R135): The domain reaches a frame's LAUNCH and the frame becomes eligible. -/
  | launchTimeReached (p c k : Nat)
  /-- LATE_TOLERANCE_EXPIRY (R136): A launch-time frame not started by LAUNCH + LATETOL is judged under its LATEPOL. -/
  | lateToleranceExpiry (p c k : Nat)
  /-- SCHEDULER_RESET (R143): A function reset of a scheduler cuts, aborts descriptors and clears the operational list. -/
  | schedulerReset (p : Nat)
  /-- COACH_RECEIVED (R156): A Ripiost coach is processed on the fly and forwarded or turned with latency L. -/
  | coachReceived (p : Nat) (f : RxFrame)
  /-- SURVEY_DELAY_COMPUTE (R170): Within 1 µs of a RESULT coach the node computes DLYF and DLYR. -/
  | surveyDelayCompute (r : Nat)
  /-- TRAIN_DEPARTURE (R181): At S_c the master sends the cycle's train, survey or command coaches with DEP inserted. -/
  | trainDeparture (r sub : Nat)
  /-- MASTER_OUT_TAKE (R165): 1,024 ns before mark 0 the master takes its OUT copies and flips. -/
  | masterOutTake (r : Nat)
  /-- CYCLE_MARK (R189): A cycle mark fires and is delivered to doorbell, sequencer flags and MSI-X. -/
  | cycleMark (r j : Nat)
  /-- MIRROR_COMMIT_WRITE (R165): Software writes COMMIT in an OUT status word to offer the back copy. -/
  | mirrorCommitWrite (m : Master) (r a : Nat) (v : BitVec 32)
  /-- RING_ENABLE (R176): TRN_CFG.EN written 1 puts the ring's controller in NODE. -/
  | ringEnable (m : Master) (r : Nat) (v : BitVec 32)
  /-- SILENCE_TIMEOUT (R176): No good train or survey coach for TRN_SILENCE; a PRIO ≠ 0 node enters CLAIMING. -/
  | silenceTimeout (r : Nat)
  /-- START_COACH_SEND (R178): A claimant sends a start coach every MAXRT. -/
  | startCoachSend (r sub : Nat)
  /-- START_COACH_TIMEOUT (R178): A start coach not returned after MAXRT starts a new claim window. -/
  | startCoachTimeout (r : Nat)
  /-- CLAIM_WINDOW_END (R178): A claim window ends with all coaches returned unchanged and the claimant becomes master. -/
  | claimWindowEnd (r : Nat)
  /-- SURVEY (R183): TRN_MCTRL.SURVEY requests that the master run a survey. -/
  | survey (m : Master) (r : Nat) (v : BitVec 32)
  /-- SURVEY_ABANDON (R183): The MEASURE coach has not returned by S_(s+1) − 1,024 ns and the survey is abandoned. -/
  | surveyAbandon (r : Nat)
  /-- SWGO (R187): TRN_MCTRL.SWGO requests a mode switch, accepted or refused by the master. -/
  | swgo (m : Master) (r : Nat) (v : BitVec 32)
  /-- MODE_COMMIT (R186): TRN_MCMD OP 0 commits the staging table as a mode. -/
  | modeCommit (m : Master) (r : Nat) (v : BitVec 32)
  /-- MODE_COMMIT_APPLY (R186): The committed table takes effect between two coaches and is judged valid or INVALID. -/
  | modeCommitApply (r : Nat)
  /-- MODE_INVALIDATE (R186): TRN_MCMD OP 1 invalidates a mode. -/
  | modeInvalidate (m : Master) (r : Nat) (v : BitVec 32)
  /-- MODE_READ_BACK (R186): TRN_MCMD OP 2 copies a mode into the staging table. -/
  | modeReadBack (m : Master) (r : Nat) (v : BitVec 32)
  /-- LATE_DEADLINE (R191): No good coach 0 by the expected time; the node is late for the cycle. -/
  | lateDeadline (r : Nat)
  /-- RETURN_TIMEOUT (R194): Coach 0 has not returned by S_c + MAXRT at the master. -/
  | returnTimeout (r : Nat)
  /-- COMMAND_FIFO_READ (R200): Reading word 2 of TRN_CMDFIFO removes the command entry. -/
  | commandFifoRead (m : Master) (r : Nat)
  /-- TRAIN_RESET (R201): A function reset of the train controller stomps the coach in progress and loses master role. -/
  | trainReset
  /-- SAMPLE_FRAME (R206): A matched sampled-value frame reaches the unit and is validated and placed. -/
  | sampleFrame (ecc : Bool)
  /-- STREAM_TIMEOUT (R208): No sample accepted for TMO; the stream enters LOST. -/
  | streamTimeout (k : Nat)
  /-- STREAM_ENABLE (R210): A write of SAU_S_CFG.EN = 1 enables the stream or is refused. -/
  | streamEnable (m : Master) (k : Nat) (v : BitVec 32)
  /-- STREAM_DISABLE (R230): Clearing a stream's EN makes it OFF and its members absent. -/
  | streamDisable (m : Master) (k : Nat) (v : BitVec 32)
  /-- MATRIX_ENABLE (R214): A write of SAU_Mm_CFG.EN = 1 enables the matrix or is refused. -/
  | matrixEnable (m : Master) (k : Nat) (v : BitVec 32)
  /-- MATRIX_DISABLE (R230): Clearing a matrix's EN completes open rows INCOMPLETE and stops it. -/
  | matrixDisable (m : Master) (k : Nat) (v : BitVec 32)
  /-- ROW_OPEN (R222): A grid instant opens a row and its slot's SEQ is set to 0xFFFF_FFFF. -/
  | rowOpen (k : Nat)
  /-- ROW_DEADLINE (R222): The domain reaches g + DEADLINE and the row completes with absent members. -/
  | rowDeadline (k : Nat)
  /-- ROW_COMPLETE (R224): The unit writes a row's flags, header and SEQ and hands it to delivery. -/
  | rowComplete (k : Nat)
  /-- SAU_RESET (R232): A function reset of the unit completes open rows and returns streams to WAIT. -/
  | sauReset
  /-- FILTERED_EDGE (R240): A pin's filtered level changes after N agreeing samples. -/
  | filteredEdge (n : Nat) (level : Bool) (ago sub : Nat)
  /-- EDGE_STAMP_READ (R242): Reading word 3 of PIN_ESQ removes the edge-stamp entry. -/
  | edgeStampRead (m : Master)
  /-- REL (R245): PIN_IOn_SAFE.REL releases the pin if all causes have ended, otherwise is refused. -/
  | rel (m : Master) (n : Nat) (v : BitVec 32)
  /-- EXPRESS_HOLD_EXPIRY (R246): The express hold timer expires; XACT clears or the pin stays latched. -/
  | expressHoldExpiry (n : Nat)
  /-- XCLR (R246): A write of XCLR ends a latched express level at once or at expiry. -/
  | xclr (m : Master) (n : Nat) (v : BitVec 32)
  /-- GROUP_CLOCK_WRITE (R248): A write to PIN_GRP_CLK changes the group divider, refused while a sequencer runs. -/
  | groupClockWrite (m : Master) (g : Nat) (v : BitVec 32)
  /-- SEND (R250): A sequencer shifts WIDTH bits out of SDR to its pins. -/
  | send (q : Nat)
  /-- TAKE (R250): A sequencer shifts WIDTH bits from pins, IMM or C0 into TKR. -/
  | take (q : Nat)
  /-- LOAD (R256): A sequencer loads SDR, TKR, a counter or TCMP from its source. -/
  | load (q : Nat)
  /-- STORE (R256): A sequencer moves a register's word into THD. -/
  | store (q : Nat)
  /-- BRANCH (R257): A sequencer branches to TARGET when its condition holds. -/
  | branch (q : Nat)
  /-- WAIT (R258): A sequencer waits until its condition holds and then releases. -/
  | wait (q : Nat)
  /-- COUNT (R256): A sequencer loads C0 or C1 with IMM or its reload register. -/
  | count (q : Nat)
  /-- DRIVE (R256): A sequencer drives, releases or toggles one owned pin's latch. -/
  | drive (q : Nat)
  /-- SIGNAL (R256): A sequencer raises a flag, rings a doorbell or posts an IRQ and vector. -/
  | signal (q : Nat)
  /-- NOP (R256): A sequencer executes a no-operation. -/
  | nop (q : Nat) (ecc : Bool)
  /-- SPF_FEED (R251): SPF takes the head word of the FIFO from the engines. -/
  | spfFeed (q : Nat)
  /-- THD_DELIVER (R251): THD passes its word into the FIFO to the engines when it has room. -/
  | thdDeliver (q : Nat)
  /-- GROUP_START (R260): PIN_GRP_START starts selected sequencers at LO or arms a timed start. -/
  | groupStart (m : Master) (g : Nat) (v : BitVec 32)
  /-- TIMED_START_FIRE (R260): An armed start takes place on the first group edge at or past TSTART. -/
  | timedStartFire (g : Nat)
  /-- GROUP_HALT (R261): PIN_GRP_HALT halts selected sequencers after the instruction in progress. -/
  | groupHalt (m : Master) (g : Nat) (v : BitVec 32)
  /-- INSTRUCTION_WRITE (R262): A write of a group instruction word, refused while a user of it runs. -/
  | instructionWrite (m : Master) (g w : Nat) (v : BitVec 32)
  /-- FLAG_SET_WRITE (R254): A write of PIN_GRP_FLAGSET raises SF flags in the group. -/
  | flagSetWrite (m : Master) (g : Nat) (v : BitVec 32)
  /-- KICK (R254): PIN_SEQ_CTRL.KICK sets the sequencer's kick latch. -/
  | kick (m : Master) (q : Nat) (v : BitVec 32)
  /-- CLRSHIFT (R260): PIN_SEQ_CTRL.CLRSHIFT clears the shift registers, counts, SPF and THD. -/
  | clrshift (m : Master) (q : Nat) (v : BitVec 32)
  /-- TX_FIFO_WRITE (R253): A write to PIN_SEQ_TXF enters a word into the FIFO from the engines, or is refused. -/
  | txFifoWrite (m : Master) (q : Nat) (v : BitVec 32)
  /-- RX_FIFO_READ (R253): A read of PIN_SEQ_RXF removes a word from the FIFO to the engines. -/
  | rxFifoRead (m : Master) (q : Nat)
  /-- GROUP_RESET (R263): A function reset of a group halts and clears its sequencers and forces their pins. -/
  | groupReset (g : Nat)
  /-- PIN_BANK_RESET (R263): A function reset of the pin bank resets both groups, forces all pins and empties the stamp FIFO. -/
  | pinBankReset
  /-- DEPOT_POWER_ON (R268): DEP_CTRL.PWRON written 1 starts the depot waking and clearing its memories. -/
  | depotPowerOn (m : Master) (n : Nat) (v : BitVec 32)
  /-- DEPOT_WAKE_DONE (R268): The depot finishes waking and enters ON with every engine HALTED. -/
  | depotWakeDone (n : Nat)
  /-- DEPOT_POWER_OFF (R268): PWRON written 0 powers the depot off if its engines are halted and queues empty, else refused. -/
  | depotPowerOff (m : Master) (n : Nat) (v : BitVec 32)
  /-- DEPOT_OFF_DONE (R268): POWERING OFF ends and the depot is OFF. -/
  | depotOffDone (n : Nat)
  /-- RX_RELEASE (R271): An OUT to RXREL frees the n oldest occupied slots. -/
  | rxRelease (e k : Nat) (v : BitVec 32)
  /-- INGRESS_POP (R279): An IN from an ingress queue's low word pops a receive descriptor. -/
  | ingressPop (e k : Nat)
  /-- EGRESS_STAGE (R272): An OUT to egress staging words 0–4 stages a transmit descriptor word. -/
  | egressStage (e j w : Nat) (v : BitVec 32)
  /-- EGRESS_PUSH (R272): An OUT to staging word 5 pushes the descriptor, or is refused when full. -/
  | egressPush (e j : Nat) (v : BitVec 32)
  /-- FRAME_INTERFACE_FETCH (R273): The frame interface takes a descriptor, checks it and copies its frame. -/
  | frameInterfaceFetch (n : Nat)
  /-- COPY_COMPLETE (R273): The frame copy completes, the completion reads FETCHED and the descriptor is handed over. -/
  | copyComplete (n : Nat)
  /-- TIMER_COMPARE_FIRE (R275): A depot timer compare fires at its value and disarms or advances. -/
  | timerCompareFire (n k : Nat)
  /-- INTERRUPT_ENTRY (R282): A pending unmasked interrupt line is taken between words. -/
  | interruptEntry (e : Nat)
  /-- WFE_WAKE (R283): A wake line becomes pending and a sleeping engine runs again. -/
  | wfeWake (e : Nat)
  /-- SWAP_REQUEST (R286): ENG_SWAP.REQ requests a hitless swap, taking effect at once if halted. -/
  | swapRequest (m : Master) (e : Nat) (v : BitVec 32)
  /-- SWAP_CANCEL (R288): ENG_SWAP.CANCEL ends a pending swap without effect. -/
  | swapCancel (m : Master) (e : Nat) (v : BitVec 32)
  /-- SWAP_TIMEOUT (R288): A swap still pending after DEP_SWTMO ends without effect. -/
  | swapTimeout (t : SwapTarget)
  /-- DEPOT_SWAP_GO (R287): DEP_SWAP.GO requests a depot-wide swap of the engines in MASK. -/
  | depotSwapGo (m : Master) (n : Nat) (v : BitVec 32)
  /-- DEPOT_SWAP_CANCEL (R288): DEP_SWAP.CANCEL ends a pending depot-wide swap. -/
  | depotSwapCancel (m : Master) (n : Nat) (v : BitVec 32)
  /-- RUN (R291): ENG_CTRL.RUN starts the engine at ENG_BOOT and clears RPTV. -/
  | run (m : Master) (e : Nat) (v : BitVec 32)
  /-- HALT (R280): ENG_CTRL.HALT halts the engine after the current word. -/
  | halt (m : Master) (e : Nat) (v : BitVec 32)
  /-- STEP (R292): ENG_CTRL.STEP executes one instruction word then halts. -/
  | step (m : Master) (e : Nat) (v : BitVec 32)
  /-- ENGINE_RESET (R289): A function reset of an engine halts it and clears its state, releasing its locks broken. -/
  | engineReset (e : Nat)
  /-- DEPOT_RESET (R290): A function reset of a depot resets its engines, aborts queued descriptors and empties rings. -/
  | depotReset (n : Nat)
  /-- INSTRUCTION_PAIR (R298): An engine executes a word holding two short operations in one cycle. -/
  | instructionPair (e : Nat)
  /-- ADD (R305): Long ADD: Wd := Wa + Wb. -/
  | add (e : Nat)
  /-- ADDC (R305): Long ADDC: Wd := Wa + Wb + C. -/
  | addc (e : Nat)
  /-- SUB (R305): Long SUB: Wd := Wa − Wb. -/
  | sub (e : Nat)
  /-- SUBB (R305): Long SUBB: Wd := Wa − Wb − (1 − C). -/
  | subb (e : Nat)
  /-- AND (R305): Long AND. -/
  | and (e : Nat)
  /-- OR (R305): Long OR. -/
  | or (e : Nat)
  /-- XOR (R305): Long XOR. -/
  | xor (e : Nat)
  /-- ANDN (R305): Long ANDN: Wa AND NOT Wb. -/
  | andn (e : Nat)
  /-- SHL (R313): Long shift left by Wb. -/
  | shl (e : Nat)
  /-- SHR (R313): Long logical shift right by Wb. -/
  | shr (e : Nat)
  /-- SAR (R313): Long arithmetic shift right by Wb. -/
  | sar (e : Nat)
  /-- ROL (R313): Long rotate left by Wb. -/
  | rol (e : Nat)
  /-- ROR (R313): Long rotate right by Wb. -/
  | ror (e : Nat)
  /-- ADDS (R314): Signed saturating add. -/
  | adds (e : Nat)
  /-- SUBS (R314): Signed saturating subtract. -/
  | subs (e : Nat)
  /-- ADDUS (R314): Unsigned saturating add. -/
  | addus (e : Nat)
  /-- SUBUS (R314): Unsigned saturating subtract. -/
  | subus (e : Nat)
  /-- MULU (R305): Unsigned 64-bit multiply into a register pair. -/
  | mulu (e : Nat)
  /-- MULS (R305): Signed 64-bit multiply into a register pair. -/
  | muls (e : Nat)
  /-- DIVU (R312): Unsigned divide giving quotient and remainder, or trapping on zero with DZT. -/
  | divu (e : Nat)
  /-- DIVS (R312): Signed divide truncating toward zero. -/
  | divs (e : Nat)
  /-- CMP (R305): Compare Wa − Wb setting flags only. -/
  | cmp (e : Nat)
  /-- TST (R305): Test Wa AND Wb setting Z and N only. -/
  | tst (e : Nat)
  /-- ADDI (R306): Add a sign-extended immediate. -/
  | addi (e : Nat)
  /-- ANDI (R306): AND with a zero-extended immediate. -/
  | andi (e : Nat)
  /-- ORI (R306): OR with a zero-extended immediate. -/
  | ori (e : Nat)
  /-- XORI (R306): XOR with a zero-extended immediate. -/
  | xori (e : Nat)
  /-- SHI (R306): Shift or rotate by an immediate amount of the selected KIND. -/
  | shi (e : Nat)
  /-- CMPI (R306): Compare with a sign-extended immediate. -/
  | cmpi (e : Nat)
  /-- MOVL (R306): Load a sign-extended 16-bit immediate. -/
  | movl (e : Nat)
  /-- MOVH (R306): Load an immediate into the upper half of Wd. -/
  | movh (e : Nat)
  /-- BFX (R306): Extract a bit field. -/
  | bfx (e : Nat)
  /-- BFI (R306): Insert a bit field. -/
  | bfi (e : Nat)
  /-- CRC32 (R320): Advance a CRC-32 state over 1, 2 or 4 bytes. -/
  | crc32 (e : Nat)
  /-- CRC32C (R320): Advance a CRC-32C state over 1, 2 or 4 bytes. -/
  | crc32c (e : Nat)
  /-- CRC16 (R320): Advance a CRC-16/CCITT state over 1, 2 or 4 bytes. -/
  | crc16 (e : Nat)
  /-- OCADD (R321): Ones' complement sum of 16-bit halves. -/
  | ocadd (e : Nat)
  /-- BSWAP (R307): Reverse the four bytes of Wa. -/
  | bswap (e : Nat)
  /-- BSWAP16 (R307): Exchange the bytes of each 16-bit half. -/
  | bswap16 (e : Nat)
  /-- CLZ (R307): Count leading zero bits. -/
  | clz (e : Nat)
  /-- BERLEN (R322): Decode a BER length into length and octets used. -/
  | berlen (e : Nat)
  /-- MOV (R305): UN FN 0: Wd := Wa. -/
  | mov (e : Nat)
  /-- NOT (R305): UN FN 1: Wd := NOT Wa. -/
  | not (e : Nat)
  /-- NEG (R305): UN FN 2: Wd := 0 − Wa. -/
  | neg (e : Nat)
  /-- LDB (R308): Load a zero-extended byte. -/
  | ldb (e : Nat)
  /-- LDBS (R308): Load a sign-extended byte. -/
  | ldbs (e : Nat)
  /-- LDH (R308): Load a zero-extended 16-bit value. -/
  | ldh (e : Nat)
  /-- LDHS (R308): Load a sign-extended 16-bit value. -/
  | ldhs (e : Nat)
  /-- LDW (R308): Load a 32-bit value. -/
  | ldw (e : Nat)
  /-- LDD (R308): Load a 64-bit value from a shared bank into a register pair. -/
  | ldd (e : Nat)
  /-- STB (R308): Store a byte. -/
  | stb (e : Nat)
  /-- STH (R308): Store a 16-bit value. -/
  | sth (e : Nat)
  /-- STW (R308): Store a 32-bit value. -/
  | stw (e : Nat)
  /-- STD (R308): Store a 64-bit value to a shared bank. -/
  | std (e : Nat)
  /-- LDI (R317): Read a word of the active instruction memory. -/
  | ldi (e : Nat)
  /-- IN (R279): Read an engine I/O port. -/
  | ioIn (e : Nat)
  /-- OUT (R279): Write an engine I/O port. -/
  | ioOut (e : Nat)
  /-- BR (R318): Conditional relative branch. -/
  | br (e : Nat)
  /-- CALL (R308): Push the return address and branch. -/
  | call (e : Nat)
  /-- JR (R308): Jump to Wa, optionally pushing the return address. -/
  | jr (e : Nat)
  /-- RET (R309): Pop the return stack into PC. -/
  | ret (e : Nat)
  /-- RETI (R309): Return from interrupt, restoring FL and clearing the lowest INSVC bit. -/
  | reti (e : Nat)
  /-- RFT (R309): Return from trap to TPC and clear TACT. -/
  | rft (e : Nat)
  /-- WFE (R283): Sleep until a wake line is pending. -/
  | wfe (e : Nat)
  /-- SAFE (R286): A swap point; a pending swap takes effect. -/
  | safe (e : Nat)
  /-- TRAP (R309): Trap with cause 0x10 + N. -/
  | trap (e : Nat)
  /-- BRK (R309): Trap with cause 0x0C. -/
  | brk (e : Nat)
  /-- GETS (R310): Read a special register. -/
  | gets (e : Nat)
  /-- PUTS (R310): Write a special register. -/
  | puts (e : Nat)
  /-- PUSH (R319): Push Wa onto the data stack. -/
  | push (e : Nat)
  /-- POP (R319): Pop the data stack into Wd. -/
  | pop (e : Nat)
  /-- PEEK (R319): Read a data-stack entry below the top. -/
  | peek (e : Nat)
  /-- DROP (R319): Remove the top data-stack entry. -/
  | drop (e : Nat)
  /-- SHARED_MEMORY_ACCESS (R328): A host or DMA access to a shared bank is served under owner rules or ends in a bus error. -/
  | sharedMemoryAccess (m : Master) (a n : Nat) (w : BankAccess)
  /-- BANK_CONFIG_WRITE (R330): A write of MEM_BANKb that keeps OWNER sets RDOPEN and LEND, or is refused. -/
  | bankConfigWrite (m : Master) (b : Nat) (v : BitVec 32)
  /-- BANK_HANDOVER (R330): A write changing OWNER sets PEND, ends any borrow and drains the old owner. -/
  | bankHandover (m : Master) (b : Nat) (v : BitVec 32)
  /-- HANDOVER_EFFECT (R330): The drain ends and the new owner becomes effective, recording 0x0504. -/
  | handoverEffect (b : Nat)
  /-- SCRUB_STEP (R335): The scrubber reads one word of a bank every STEP cycles and corrects it. -/
  | scrubStep
  /-- BORROW_BEGIN (R337): A lent bank idle for IDLE cycles is borrowed and a row saved. -/
  | borrowBegin
  /-- BORROW_END (R337): The row test and restore complete and the bank is returned. -/
  | borrowEnd (diff : Option (Nat × Nat))
  /-- BORROW_ABORT (R338): An allowed access, LEND clear, handover or reset aborts a borrow and restores the row. -/
  | borrowAbort (b : Nat)
  /-- QUEUE_PUSH (R346): A push to a queue stores an entry or is refused when full. -/
  | queuePush (m : Master) (q : Nat) (v : PushWord)
  /-- QUEUE_STAGE (R340): A write of a queue's high word stages it for the writing master. -/
  | queueStage (m : Master) (q : Nat) (v : BitVec 32)
  /-- QUEUE_POP (R345): A pop returns the oldest entry, an empty read or an ECC-lost marker. -/
  | queuePop (m : Master) (r : PopReg)
  /-- QUEUE_REFILL (R343): The queue manager refills a deep queue's head half or spills its tail half. -/
  | queueRefill (q : Nat)
  /-- QUEUE_RESET (R349): A function reset of a queue empties it. -/
  | queueReset (q : Nat)
  /-- QUEUE_MANAGER_RESET (R349): A function reset of the queue manager empties every queue. -/
  | queueManagerReset
  /-- MAILBOX_STAGE (R356): A sender writes a mailbox data word w = 4–6 into its staging. -/
  | mailboxStage (m : Master) (n w : Nat) (v : BitVec 32)
  /-- MAILBOX_POST (R358): A write of w = 7 posts the message, or is refused. -/
  | mailboxPost (m : Master) (n : Nat) (v : BitVec 32)
  /-- MAILBOX_HEADER_READ (R360): The receiver's read of w = 0 latches the whole message. -/
  | mailboxHeaderRead (m : Master) (n : Nat)
  /-- MAILBOX_TAKE (R360): The receiver's read of w = 7 takes the latched message if still current. -/
  | mailboxTake (m : Master) (n : Nat)
  /-- MAILBOX_RESET (R363): A function reset of a mailbox discards its message and staging. -/
  | mailboxReset (n : Nat)
  /-- MAILBOX_UNIT_RESET (R363): A function reset of the mailbox unit clears all mailboxes, doorbells and locks. -/
  | mailboxUnitReset
  /-- DOORBELL_RING (R366): A doorbell rings and latches engine lines, DBPEND, its count and MSI-X. -/
  | doorbellRing (m : Master) (n : Nat)
  /-- LOCK_ACQUIRE (R368): An acquire read of a lock acquires it or reports its holder. -/
  | lockAcquire (m : Master) (n : Nat)
  /-- LOCK_PEEK (R368): A read of MBX_LKn_PEEK returns the lock's state without acquiring. -/
  | lockPeek (m : Master) (n : Nat)
  /-- LOCK_RELEASE (R369): The holder releases a lock; other releases are refused. -/
  | lockRelease (m : Master) (n : Nat) (v : BitVec 32)
  /-- LOCK_FORCE (R370): A supervisor write of MBX_LKn_FORCE releases the lock broken. -/
  | lockForce (m : Master) (n : Nat) (v : BitVec 32)
  /-- TX_REQUEST (R382): A write of CAN_TXREQ makes transmit buffers PENDING, or is refused. -/
  | txRequest (m : Master) (p : Nat) (v : BitVec 32)
  /-- TX_ABORT (R385): A write of CAN_TXABT registers an abort of a transmit buffer. -/
  | txAbort (m : Master) (p : Nat) (v : BitVec 32)
  /-- ATTEMPT_START (R383): At the end of intermission the controller chooses the pending buffer to send. -/
  | attemptStart (p : Nat)
  /-- ARBITRATION_LOST (R382): A transmit attempt loses arbitration and retries or ends ARB_LOST. -/
  | arbitrationLost (p : Nat)
  /-- CAN_FRAME_SENT (R384): A transmit attempt succeeds; the buffer ends SENT and is stamped. -/
  | canFrameSent (p sof tdcv : Nat)
  /-- CAN_FRAME_RECEIVED (R386): A CAN frame received without error is stored in the receive ring. -/
  | canFrameReceived (p : Nat) (f : CanFrame) (sof : Nat)
  /-- CAN_ERROR (R389): A bus error updates TEC/REC and error state and ends or retries the buffer. -/
  | canError (p : Nat) (e : CanErr)
  /-- PROTOCOL_EXCEPTION (R379): A recessive FDF or res bit stops reception and waits for bus idle. -/
  | protocolException (p : Nat)
  /-- BOREC (R389): CAN_CTRL.BOREC starts bus-off recovery. -/
  | borec (m : Master) (p : Nat) (v : BitVec 32)
  /-- BUS_OFF_RECOVERED (R389): 128 occurrences of 11 recessive bits complete recovery. -/
  | busOffRecovered (p : Nat)
  /-- ABR (R381): CAN_CTRL.ABR starts automatic rate detection in listen-only mode. -/
  | abr (m : Master) (p : Nat) (v : BitVec 32)
  /-- DWELL_EXPIRY (R381): A candidate rate's dwell ends without confirmation; the next is tried or detection fails. -/
  | dwellExpiry (p : Nat)
  /-- CAN_PORT_RESET (R391): A function reset of a CAN port leaves the bus and aborts buffers. -/
  | canPortReset (p : Nat)
  /-- POR (R428): VAON falls below 1.55 V and power-on reset is asserted. -/
  | por
  /-- POR_END (R428): POR ends 2 ms after VAON rises and start-up begins. -/
  | porEnd
  /-- VDD_BROWN_OUT (R429): VDD falls below 0.72 V; WARM with cause CORE and pins forced. -/
  | vddBrownOut
  /-- RST_N (R429): RST_N held low for 1 µs starts a WARM reset. -/
  | rstN
  /-- SUP_RST (R429): A keyed write of SUP_RST starts a WARM reset. -/
  | supRst (m : Master)
  /-- REFCLK_LOSS (R449): No REFCLK edge for 10 µs starts a WARM reset. -/
  | refclkLoss
  /-- TESTEN (R506): TESTEN high holds the core in WARM reset with cause RSTN. -/
  | testen
  /-- WARM_END (R429): Every WARM cause has ended and start-up runs. -/
  | warmEnd
  /-- COARSE_CLOCK_CHECK (R397): Each 10 ms the REFCLK coarse count is checked in CLKCHK. -/
  | coarseClockCheck (count : Nat)
  /-- PLL_LOCK (R395): The core PLL locks and the supervisor starts from ROM. -/
  | pllLock
  /-- FINE_CLOCK_CHECK (R397): Each second REFCLK is counted over 1,024 XTAL32 cycles. -/
  | fineClockCheck (count : Nat)
  /-- XTAL32_CHECK (R398): XTAL32 is judged good or the island falls back to its RC oscillator. -/
  | xtal32Check (good : Bool)
  /-- NOR_PROBE (R400): The loader reads SFDP, switches to octal DDR and chooses a slot. -/
  | norProbe (density : Option Nat) (failsA failsB : Nat)
  /-- NOR_BURST (R402): A NOR read burst completes, or fails and is reissued. -/
  | norBurst (bytes : Nat) (good : Bool)
  /-- NOR_BURST_TIMEOUT (R402): A burst not complete after 1 ms is a failed read. -/
  | norBurstTimeout
  /-- REGWRITE (R408): A REGWRITE record is checked and its entries applied. -/
  | regwrite
  /-- POLL (R408): A REGWRITE POLL entry waits for a register value or times out. -/
  | poll (expired : Bool)
  /-- DELAY (R408): A REGWRITE DELAY entry waits VALUE µs. -/
  | delay
  /-- MEMLOAD (R409): A MEMLOAD record loads shared memory or engine DM. -/
  | memload
  /-- ENGIMAGE (R410): An ENGIMAGE record powers a depot and loads engine code, DM and registers. -/
  | engimage
  /-- TABLE (R411): A TABLE record writes register words, a mode table or bridging entries. -/
  | table
  /-- PINSAFE (R412): A PINSAFE record is checked and held for commit. -/
  | pinsafe
  /-- KEYREF (R413): A KEYREF record configures key slots and may load fused keys. -/
  | keyref
  /-- ROLLBACK (R418): The rollback completes and the other slot is tried or NOIMAGE entered. -/
  | rollback
  /-- SIGNATURE_CHECK (R415): The slot's signature check completes and passes or fails. -/
  | signatureCheck
  /-- COMMIT (R414): The loader applies pin safe states, releases and the commit list, then enters RUN. -/
  | commit
  /-- NOR_READ (R423): LDR_NORCMD READ copies NOR bytes into LDR_NORBUF. -/
  | norRead (m : Master) (v : BitVec 32)
  /-- NOR_PROGRAM (R423): LDR_NORCMD PROGRAM writes one page, refused on the running slot. -/
  | norProgram (m : Master) (v : BitVec 32)
  /-- NOR_ERASE4K (R423): LDR_NORCMD ERASE4K erases an aligned 4 KiB sector. -/
  | norErase4k (m : Master) (v : BitVec 32)
  /-- NOR_ERASE64K (R423): LDR_NORCMD ERASE64K erases an aligned 64 KiB block. -/
  | norErase64k (m : Master) (v : BitVec 32)
  /-- NOR_CHECK (R423): LDR_NORCMD CHECK validates a slot without applying it. -/
  | norCheck (m : Master) (v : BitVec 32)
  /-- NOR_COMMAND_DONE (R423): A NOR command ends and DONE or ERR is set. -/
  | norCommandDone (left : Option (List (BitVec 8)))
  /-- LOADER_RESET (R425): A function reset of the loader loses the NOR command result and clears the buffer. -/
  | loaderReset
  /-- WRITE_INHIBIT_START (R444): POWERFAIL_N or low VDDIO_A starts write inhibit. -/
  | writeInhibitStart (why : Sag)
  /-- WRITE_INHIBIT_END (R444): Supplies good for 1 ms end write inhibit and the fallback buffer is flushed. -/
  | writeInhibitEnd
  /-- FUNCTION_RESET_REQUEST (R430): A keyed write of SUP_FNRST requests a per-function reset of a UID. -/
  | functionResetRequest (m : Master) (uid : Nat)
  /-- DOMAIN_RESET (R27): A function reset of a time domain returns its servo to FREE. -/
  | domainReset (n : Nat)
  /-- TIMESTAMP_UNIT_RESET (R54): A function reset of the timestamp units cuts one-step frames and empties departure queues. -/
  | timestampUnitReset
  /-- SUPERVISOR_RESET (R431): A function reset of UID 0x000 restarts the supervisor at its ROM health entry. -/
  | supervisorReset
  /-- BTU_RESET (R351): A function reset of the background test unit restores a row and returns the bank. -/
  | btuReset
  /-- FAULT_SET (R439): SUP_FAULT.SET sets cause 0 and enters a device fault. -/
  | faultSet (m : Master) (v : BitVec 32)
  /-- FAULT_CLEAR (R441): SUP_FAULT.CLR ends the fault when every cause is 0, else refused. -/
  | faultClear (m : Master) (v : BitVec 32)
  /-- PLL_LOCK_LOSS (R439): A core or timebase PLL loses lock and sets fault cause CLK. -/
  | pllLockLoss
  /-- PLL_RELOCK (R439): The PLL has relocked for 1 ms and cause CLK clears. -/
  | pllRelock
  /-- WATCHDOG_KICK (R446): A keyed write of SUP_WDKICK reloads the watchdog, or is an early violation. -/
  | watchdogKick (m : Master) (v : BitVec 32)
  /-- WATCHDOG_EXPIRY (R447): The watchdog expires and acts according to ACTION. -/
  | watchdogExpiry
  /-- GRACE_EXPIRY (R447): SUP_WDGRACE after an ACTION 1 expiry, WARM with cause FAULT. -/
  | graceExpiry
  /-- TEMPERATURE_SAMPLE (R448): Each 1 ms the junction sensor reads Tj and applies TWARN, TCRIT and 140 °C. -/
  | temperatureSample (tj : Int)
  /-- STANDBY (R451): A keyed SUP_PWR.STBY write enters Standby, or is refused. -/
  | standby (m : Master)
  /-- STANDBY_CORE_RESET (R451): The core enters reset and CORE_EN goes low. -/
  | standbyCoreReset
  /-- WAKE (R452): WAKE_N, the RTC alarm or RST_N ends Standby and raises CORE_EN. -/
  | wake (src : WakeSrc)
  /-- CLOCK_GATE_WRITE (R453): A write of SUP_CGATE gates or ungates a block, refused while in use. -/
  | clockGateWrite (m : Master) (v : BitVec 32)
  /-- SUP_LOCK (R534): A write of 1 to SUP_LOCK locks every RWL field until WARM. -/
  | supLock (m : Master)
  /-- EVENT_POST (R461): A unit posts an event record into the recorder's ingress FIFO. -/
  | eventPost (typ src : Nat) (detail : BitVec 32)
  /-- RECORD_WRITE (R464): The writer writes a new record into its MRAM slot and reads it back. -/
  | recordWrite (w : WriteEnd)
  /-- WORD7_REWRITE (R463): The writer rewrites word 7 of the last stored record with its REPEAT and CRC. -/
  | word7Rewrite (w : WriteEnd)
  /-- FALLBACK_BUFFER_WRITE (R468): Under write inhibit the writer moves a record into the fallback buffer. -/
  | fallbackBufferWrite
  /-- OPSEC_INCREMENT (R460): Each second of powered core time increments OPSEC. -/
  | opsecIncrement
  /-- CLEAR (R470): Keyed EVR_CTRL.CLEAR releases the log's records. -/
  | clear (m : Master)
  /-- RETEST (R470): Keyed EVR_CTRL.RETEST clears the bad map and LOGFAIL. -/
  | retest (m : Master)
  /-- INJECT (R471): A write of EVR_INJECT posts a software record. -/
  | inject (m : Master) (v : BitVec 32)
  /-- INJECT_DATA_STAGE (R471): A write of EVR_INJDATA stages a detail word for the master. -/
  | injectDataStage (m : Master) (v : BitVec 32)
  /-- RECORDER_RESET (R472): A function reset of the recorder discards its FIFO and pending rewrite. -/
  | recorderReset
  /-- PCIE_LINK_CHANGE (R476): The PCIe link trains up or goes down. -/
  | pcieLinkChange (c : PcieChange) (rate width : Nat)
  /-- FLR (R479): A PCIe FLR or reset of UID 0x001 resets the host interface and DMA channels. -/
  | flr (byFn : Bool)
  /-- MSIX_POST (R480): A source posts an MSI-X vector, sent or held pending. -/
  | msixPost (v : Nat)
  /-- MSIX_UNMASK (R480): Unmasking a pending vector sends one message and clears its PBA bit. -/
  | msixUnmask (c : HostCfg)
  /-- RING_TAIL_WRITE (R483): A write of a DMA ring TAIL makes descriptors available, or is refused. -/
  | ringTailWrite (m : Master) (c : Nat) (rx : Bool) (v : BitVec 32)
  /-- DESCRIPTOR_FETCH (R482): A ready DMA channel fetches its next work item and advances HEAD. -/
  | descriptorFetch (c : Nat) (rx : Bool) (answer : Option (List (BitVec 8)))
  /-- DMA_READ (R485): A READ descriptor copies shared memory to host memory. -/
  | dmaRead (c : Nat) (err : Option Nat)
  /-- DMA_WRITE (R485): A WRITE descriptor copies host memory to shared memory. -/
  | dmaWrite (c : Nat) (data : List (BitVec 8))
  /-- DMA_TX (R485): A TX descriptor fetches a frame and hands it to a scheduler. -/
  | dmaTx (c : Nat) (data : List (BitVec 8))
  /-- RXBUF (R485): An RXBUF descriptor receives one fabric-delivered frame into host memory. -/
  | rxbuf (c : Nat) (err : Option Nat)
  /-- ROW_TRANSFER (R226): A DMA channel transfers a Sample Alignment Unit row to host memory. -/
  | rowTransfer (c : Nat) (err : Option Nat)
  /-- CHANNEL_RESET (R487): A function reset of a DMA channel writes completions and returns HEAD and TAIL to 0. -/
  | channelReset (c : Nat)
  /-- SPI_READ (R490): An SPI READ request reads up to 32 words. -/
  | spiRead (l : List (BitVec 8))
  /-- SPI_WRITE (R491): An SPI WRITE request is applied after its CRC checks. -/
  | spiWrite (l : List (BitVec 8))
  /-- SPI_RESET (R491): An SPI RESET request starts a WARM with cause SPI when CS_N rises. -/
  | spiReset (l : List (BitVec 8))
  /-- SPI_FRAME_DISCARD (R491): CS_N rising early or a byte gap over 10 µs discards the SPI request. -/
  | spiFrameDiscard (l : List (BitVec 8))
  /-- EXTEST (R518): JTAG EXTEST takes control of the scanned balls. -/
  | extest (cells : List (Option Bool))
  /-- SAMPLE_PRELOAD (R516): JTAG SAMPLE/PRELOAD captures and loads the boundary scan. -/
  | samplePreload (cells : List (Option Bool))
  /-- IDCODE (R516): JTAG IDCODE selects the 32-bit identification register. -/
  | idcode
  /-- CLAMP (R518): JTAG CLAMP holds scanned outputs and selects bypass. -/
  | clamp
  /-- HIGHZ (R518): JTAG HIGHZ floats scanned outputs. -/
  | highz
  /-- BYPASS (R516): JTAG BYPASS selects the 1-bit bypass register. -/
  | bypass (code : Nat)
  /-- DBGACC (R517): A DBGACC Update-DR reads or writes a BAR0 register as host SPI. -/
  | dbgacc (v : BitVec 64)
  /-- PLCA_ACTIVE (R69): The PHY's plca_status rises true, PRT_STAT.PLCAACT is set and the port transmits only in its own transmit opportunity. -/
  | plcaActive (p : Nat)
  /-- CAN_RECESSIVE_WAIT_END (R379): After a protocol exception the controller has seen 11 recessive bits and resumes taking part in the bus. -/
  | canRecessiveWaitEnd (p : Nat)
  /-- SUPERVISOR_ENGINE_ERROR (R439): The supervisor engine double-traps or meets an uncorrectable ECC error in its ROM or RAM, setting device-fault cause SUPERR. -/
  | supervisorEngineError
  /-- UNDEFINED_INSTRUCTION (R301): An engine executes a word whose long opcode or sub-function is undefined, such as the all-zero word, and traps with cause 0x01. -/
  | undefinedInstruction (e : Nat)
  /-- INSTRUCTION_FETCH_FAULT (R302): A sequential fetch runs past 0x7FFC, meets an uncorrectable ECC error or hits a breakpoint on a long word, and the engine traps before execution. -/
  | instructionFetchFault (e : Nat)
  /-- RESERVED_RECORD (R407): The loader meets an image record whose TYPE is reserved and refuses it with reason 0x12, failing the slot if it is essential. -/
  | reservedRecord
  /-- DMA_TRANSFER_COMPLETE (R485): A DMA transfer's last PCIe completion or write finishes; the completion word is written and the ring vector or row notification is posted. -/
  | dmaTransferComplete (c : Nat)
deriving DecidableEq, Repr

end Sys2Proof
end

