-- ==== Sys2Proof/Decode.lean ====
section
/-! DEFINITION. The command that a word spells. The command table (spec/opcode_table.json) gives no row any bits: commands reach the
block as accesses, frames, messages and events, never as words. So no word spells a command. The instruction words of the engines (R299)
and of the sequencers (R256) lie in memories of the block and are decoded where they are executed (Machine/Engine.lean,
Machine/Seq.lean). -/

namespace Sys2Proof

/-- The command that the bits of a word spell by the command table: none, for the table gives no bits (notes/assumptions/5). -/
def decodeTableWord (_nbits _w : Nat) : Option Instr := none

end Sys2Proof
end

