-- ==== Sys2Proof/Config.lean ====
section
/-! DEFINITION. What an implementation fixes and the spec does not give: the free values (opaque constants without a body, so
that nothing in Lean can evaluate them), the contents of OTP and ROM, and the published algorithms that the spec names without
restating them (IEC 62351-6 GMAC, SHA-256, ECDSA, Clause 37 abilities). -/

namespace Sys2Proof.Config

/-- The free value number `n`: a value the spec leaves open and the machine goes on with (notes/assumptions/3). -/
opaque freeValue : Nat → Nat
/-- The level that a ball shows at a tick (LT, pin) while nothing drives it and its pull is off (R240: no defined level). -/
opaque ballFloat : Nat → Nat → Bool
/-- The direction in which an exact tie of the effective increment is rounded (R26 says "rounded" and no more). -/
opaque effTieUp : Bool
/-- Whether a PPS reference instant exactly half way between two seconds counts from the earlier one (R49 allows both). -/
opaque ppsTieDown : Bool
/-- The servo's frequency correction when two updates arrive on one tick, so that T is 0 (R31 divides by T). -/
opaque servoZeroT : Int → Int
/-- The device's EUI-64 (OTP; R526). -/
opaque otpEui : Nat
/-- The characterised receive latency of a port, 2^-16 ns (OTP; R39). -/
opaque otpRxLat : Nat → Nat
/-- The characterised transmit latency of a port, 2^-16 ns (OTP; R39). -/
opaque otpTxLat : Nat → Nat
/-- The supervisor ROM's version (ROM; R526). -/
opaque romVersion : Nat
/-- The revision of the characterisation data (OTP; R526). -/
opaque otpVersion : Nat
/-- SECBOOT: whether the loader requires a signature (OTP; R415). -/
opaque otpSecure : Nat
/-- The MAC address of a port, from which WARM seeds its back-off generator (R67). -/
opaque portMac : Nat → Nat
/-- The seed that WARM gives a port's 32-bit back-off generator from its MAC address and LT (R67 does not give the function). -/
opaque lfsrSeed : Nat → Nat → Nat
/-- One step of the back-off generator (R67 does not give its polynomial). -/
opaque lfsrNext : Nat → Nat

/-- The constant latency of a cut-through frame between two ports at 1 Gb/s, in units of 2^-16 ns (R97 bounds it by 240 ns and no more). -/
opaque ctLatency : Nat → Nat → Nat

/-- Whether a frame carries an IEC 62351-6 authentication extension (R107 names the standard). -/
opaque authPresent : List Byte → Bool
/-- Whether the extension's algorithm is one the hardware handles (R86, AUTH 4). -/
opaque authHandled : List Byte → Bool
/-- The key identifier of a frame's extension. -/
opaque authKeyId : List Byte → Nat
/-- Whether a frame's authentication value is right under an algorithm, a tag length code and a key (R107). -/
opaque authGood : Nat → Nat → Nat → List Byte → Bool
/-- A frame with its authentication value computed and written, or, with no key, its value field zero (R110). -/
opaque authFill : Nat → Nat → Option Nat → List Byte → List Byte

/-- The 32-byte key hash of OTP as a number; 0 is unprogrammed (R415). -/
opaque otpKeyHash : Nat
/-- SHA-256 of a byte sequence, as a number (R415 names it). -/
opaque sha256 : List Byte → Nat
/-- Whether an ECDSA P-256 signature (64 bytes, r then s) is valid for a hash under a public key (64 bytes, X then Y; R415 names it). -/
opaque ecdsaOk : List Byte → Nat → List Byte → Bool
/-- The fused key FKn of OTP (R413). -/
opaque fusedKey : Nat → Nat
/-- Whether the fused key FKn has been programmed (R413). -/
opaque fusedKeySet : Nat → Bool
/-- Where entry i of the capability list stands, for i ≥ 1 (R492 gives the first entry's place and no more). -/
opaque capEntryAt : Nat → Nat
/-- Where the body of entry i of the capability list stands. -/
opaque capBodyAt : Nat → Nat
/-- The 8-bit instance count that the capability list shows for more than 255 instances (R492, R528 do not say). -/
opaque capCount : Nat → Nat

end Sys2Proof.Config
end

