-- ==== Sys2Proof/Machine/RegTypes.lean ====
section
/-! DEFINITION. The vocabulary of the register map: a field's home in the register store, a field's bits, access code (R6),
reset value and reset class (R7), and a register's row of the map. -/

namespace Sys2Proof.Machine

/-- A field's home: its absolute bit address in BAR0 (8 × the register's offset + its low bit), its width, and the value it
has after reset. -/
structure Fld where
  key : Nat
  width : Nat
  reset : Nat
deriving DecidableEq, Repr

/-- The access codes of R6. -/
inductive Acc where
  | rw | ro | wo | w1c | rc | rwk | rwl
deriving DecidableEq, Repr

/-- The "Cleared by" column of R7. -/
inductive Clr where
  | por | warm | fn | never
deriving DecidableEq, Repr

/-- Registers of the `tb` block whose access does more than store or return a field. -/
inductive TbKind where
  | stat | snapCtrl | tdCfg | tdStat | incrNom | tdSet | tdStep | tdOffs | portCfg | drq | drDepth | ppsIn | freqIn | ppsoCfg | ppsoPeriod | ppsoWidth | ppsoStat
deriving DecidableEq, Repr

/-- Registers of the `prt` block whose access does more than store or return a field. -/
inductive PrtKind where
  | ctrl | cfg | preempt | plca | hdx
deriving DecidableEq, Repr

/-- Registers of the `fab` block whose access does more than store or return a field. -/
inductive FabKind where
  | buf | tblCmd | redCfg | ksStat | ksKey | xrLastSt | xrLastV | clRule | xrRule
deriving DecidableEq, Repr

/-- Registers of the `sch` block whose access does more than store or return a field. -/
inductive SchKind where
  | ctrl | muting | adm | admList | qDepth | pos | mordant
deriving DecidableEq, Repr

/-- Registers of the `trn` block whose access does more than store or return a field. -/
inductive TrnKind where
  | cfg | mctrl | mcmd | stat | cmdFifo
deriving DecidableEq, Repr

/-- Registers of the `sau` block whose access does more than store or return a field. -/
inductive SauKind where
  | matrixCfg | matrixReg | timeLimit | streamCfg | streamRate | member | hostAddr | streamReg | rowSize
deriving DecidableEq, Repr

/-- Registers of the `pin` block whose access does more than store or return a field. -/
inductive PinKind where
  | esq | filtClk | esDepth | inLow | inHigh | ioCfg | ioXdrv | ioSafe | grpClk | grpStart | grpHalt | grpStat | flagSet | imem | seqCtrl | seqStat | txf | rxf | fDepth | seqCfg | seqSide
deriving DecidableEq, Repr

/-- Registers of the `dep` block whose access does more than store or return a field. -/
inductive DepKind where
  | ctrl | swap | rxRing | txCfg | tcmpValue | tcmpStat | engCtrl | irqSel | irq | engSwap | dbgReg | dStack | rStack
deriving DecidableEq, Repr

/-- Registers of the `mem` block whose access does more than store or return a field. -/
inductive MemKind where
  | bank | pop | push | queueCfg | ptr | depth
deriving DecidableEq, Repr

/-- Registers of the `mbx` block whose access does more than store or return a field. -/
inductive MbxKind where
  | dbRing | lock | peek | force | boxCfg | boxStat | word
deriving DecidableEq, Repr

/-- Registers of the `can` block whose access does more than store or return a field. -/
inductive CanKind where
  | ctrl | cfg | nbt | dbt | abrCfg | abr | txReq | txPend | txAbt | txb
deriving DecidableEq, Repr

/-- Registers of the `ldr` block whose access does more than store or return a field. -/
inductive LdrKind where
  | norCmd
deriving DecidableEq, Repr

/-- Registers of the `sup` block whose access does more than store or return a field. -/
inductive SupKind where
  | lock | fnRst | rst | fault | wdCfg | wdKick | wdStat | tLim | tMax | cGate | pwr | pwrStat
deriving DecidableEq, Repr

/-- Registers of the `evr` block whose access does more than store or return a field. -/
inductive EvrKind where
  | stat | ctrl | wIdx | oldest | count | opsec | pwrCyc | badCnt | fifo | inject | injData | badMap | fallback | winData
deriving DecidableEq, Repr

/-- Registers of the `hif` block whose access does more than store or return a field. -/
inductive HifKind where
  | cTail | rTail
deriving DecidableEq, Repr

/-- What an access to a register does beside storing and returning its fields. -/
inductive RegKind where
  | plain
  | tb (k : TbKind)
  | prt (k : PrtKind)
  | fab (k : FabKind)
  | sch (k : SchKind)
  | trn (k : TrnKind)
  | sau (k : SauKind)
  | pin (k : PinKind)
  | dep (k : DepKind)
  | mem (k : MemKind)
  | mbx (k : MbxKind)
  | can (k : CanKind)
  | ldr (k : LdrKind)
  | sup (k : SupKind)
  | evr (k : EvrKind)
  | hif (k : HifKind)
deriving DecidableEq, Repr

/-- One field of a register's table: bits `[lo + width - 1 : lo]` of the whole register; `reset` by the first instance
number; `legal` the ranges of values that are not reserved (R9), none meaning that every value is legal. -/
structure FieldSpec where
  lo : Nat
  width : Nat
  acc : Acc
  reset : Nat → Nat
  clr : Clr
  legal : List (Nat × Nat)

/-- One register of the map: its BAR0 offset, the (stride, count) of each of its instance numbers, its width in 32-bit
words, its fields, and its kind. -/
structure RegRow where
  name : String
  base : Nat
  dims : List (Nat × Nat)
  words : Nat
  fields : List FieldSpec
  kind : RegKind

end Sys2Proof.Machine
end

