-- ==== Sys2Proof/Machine/RegsCan.lean ====
section
/-! DEFINITION. The register fields of the CAN ports (spec/14, R394): for each field of the spec's register table its home in the
register store (`<REGISTER>_<FIELD>`, a function of the instance numbers), for each register its row of the map (offset,
instances, fields with bits, access code, reset value and reset class, reserved values), and for each unit the fields its
function reset clears. -/

namespace Sys2Proof.Machine

def CAN_CTRL_EN (i : Nat) : Fld := ⟨0x3800000 + 0x40000 * i, 1, 0x0⟩
def CAN_CTRL_MODE (i : Nat) : Fld := ⟨0x3800001 + 0x40000 * i, 2, 0x0⟩
def CAN_CTRL_ABR (i : Nat) : Fld := ⟨0x3800003 + 0x40000 * i, 1, 0x0⟩
def CAN_CTRL_BOREC (i : Nat) : Fld := ⟨0x3800004 + 0x40000 * i, 1, 0x0⟩
def row_CAN_CTRL : RegRow := ⟨"CAN_CTRL", 0x700000, [(0x8000, 2)], 1,
  [⟨0, 1, .rw, fun _ => 0x0, .warm, []⟩, ⟨1, 2, .rw, fun _ => 0x0, .warm, [(0, 2)]⟩, ⟨3, 1, .wo, fun _ => 0x0, .never, []⟩, ⟨4, 1, .wo, fun _ => 0x0, .never, []⟩], .can .ctrl⟩
def CAN_CFG_FDEN (i : Nat) : Fld := ⟨0x3800020 + 0x40000 * i, 1, 0x1⟩
def CAN_CFG_TRIPLE (i : Nat) : Fld := ⟨0x3800021 + 0x40000 * i, 1, 0x0⟩
def CAN_CFG_TDCEN (i : Nat) : Fld := ⟨0x3800022 + 0x40000 * i, 1, 0x0⟩
def CAN_CFG_AUTOBO (i : Nat) : Fld := ⟨0x3800023 + 0x40000 * i, 1, 0x1⟩
def CAN_CFG_SELFRX (i : Nat) : Fld := ⟨0x3800024 + 0x40000 * i, 1, 0x0⟩
def CAN_CFG_PXDIS (i : Nat) : Fld := ⟨0x3800025 + 0x40000 * i, 1, 0x0⟩
def CAN_CFG_DOM (i : Nat) : Fld := ⟨0x3800026 + 0x40000 * i, 3, 0x0⟩
def row_CAN_CFG : RegRow := ⟨"CAN_CFG", 0x700004, [(0x8000, 2)], 1,
  [⟨0, 1, .rw, fun _ => 0x1, .warm, []⟩, ⟨1, 1, .rw, fun _ => 0x0, .warm, []⟩, ⟨2, 1, .rw, fun _ => 0x0, .warm, []⟩, ⟨3, 1, .rw, fun _ => 0x1, .warm, []⟩, ⟨4, 1, .rw, fun _ => 0x0, .warm, []⟩, ⟨5, 1, .rw, fun _ => 0x0, .warm, []⟩, ⟨6, 3, .rw, fun _ => 0x0, .warm, [(0, 4)]⟩], .can .cfg⟩
def CAN_NBT_NBRP (i : Nat) : Fld := ⟨0x3800040 + 0x40000 * i, 5, 0x0⟩
def CAN_NBT_NTSEG1 (i : Nat) : Fld := ⟨0x3800045 + 0x40000 * i, 8, 0x7E⟩
def CAN_NBT_NTSEG2 (i : Nat) : Fld := ⟨0x380004D + 0x40000 * i, 7, 0x1F⟩
def CAN_NBT_NSJW (i : Nat) : Fld := ⟨0x3800054 + 0x40000 * i, 7, 0x1F⟩
def row_CAN_NBT : RegRow := ⟨"CAN_NBT", 0x700008, [(0x8000, 2)], 1,
  [⟨0, 5, .rw, fun _ => 0x0, .warm, []⟩, ⟨5, 8, .rw, fun _ => 0x7E, .warm, []⟩, ⟨13, 7, .rw, fun _ => 0x1F, .warm, []⟩, ⟨20, 7, .rw, fun _ => 0x1F, .warm, []⟩], .can .nbt⟩
def CAN_DBT_DBRP (i : Nat) : Fld := ⟨0x3800060 + 0x40000 * i, 5, 0x0⟩
def CAN_DBT_DTSEG1 (i : Nat) : Fld := ⟨0x3800065 + 0x40000 * i, 5, 0x1C⟩
def CAN_DBT_DTSEG2 (i : Nat) : Fld := ⟨0x380006A + 0x40000 * i, 4, 0x9⟩
def CAN_DBT_DSJW (i : Nat) : Fld := ⟨0x380006E + 0x40000 * i, 4, 0x9⟩
def CAN_DBT_TDCO (i : Nat) : Fld := ⟨0x3800072 + 0x40000 * i, 7, 0x1E⟩
def row_CAN_DBT : RegRow := ⟨"CAN_DBT", 0x70000C, [(0x8000, 2)], 1,
  [⟨0, 5, .rw, fun _ => 0x0, .warm, []⟩, ⟨5, 5, .rw, fun _ => 0x1C, .warm, []⟩, ⟨10, 4, .rw, fun _ => 0x9, .warm, []⟩, ⟨14, 4, .rw, fun _ => 0x9, .warm, []⟩, ⟨18, 7, .rw, fun _ => 0x1E, .warm, []⟩], .can .dbt⟩
def CAN_STAT_STATE (i : Nat) : Fld := ⟨0x3800080 + 0x40000 * i, 2, 0x0⟩
def CAN_STAT_NOACK (i : Nat) : Fld := ⟨0x3800082 + 0x40000 * i, 1, 0x0⟩
def CAN_STAT_ABRBUSY (i : Nat) : Fld := ⟨0x3800083 + 0x40000 * i, 1, 0x0⟩
def CAN_STAT_ABRDONE (i : Nat) : Fld := ⟨0x3800084 + 0x40000 * i, 1, 0x0⟩
def CAN_STAT_ABRFAIL (i : Nat) : Fld := ⟨0x3800085 + 0x40000 * i, 1, 0x0⟩
def CAN_STAT_ABRRATE (i : Nat) : Fld := ⟨0x3800086 + 0x40000 * i, 3, 0x0⟩
def CAN_STAT_CFGREF (i : Nat) : Fld := ⟨0x3800089 + 0x40000 * i, 1, 0x0⟩
def CAN_STAT_TDCV (i : Nat) : Fld := ⟨0x380008A + 0x40000 * i, 7, 0x0⟩
def row_CAN_STAT : RegRow := ⟨"CAN_STAT", 0x700010, [(0x8000, 2)], 1,
  [⟨0, 2, .ro, fun _ => 0x0, .fn, []⟩, ⟨2, 1, .ro, fun _ => 0x0, .fn, []⟩, ⟨3, 1, .ro, fun _ => 0x0, .fn, []⟩, ⟨4, 1, .w1c, fun _ => 0x0, .fn, []⟩, ⟨5, 1, .w1c, fun _ => 0x0, .fn, []⟩, ⟨6, 3, .ro, fun _ => 0x0, .fn, []⟩, ⟨9, 1, .w1c, fun _ => 0x0, .fn, []⟩, ⟨10, 7, .ro, fun _ => 0x0, .fn, []⟩], .plain⟩
def CAN_ERR_TEC (i : Nat) : Fld := ⟨0x38000A0 + 0x40000 * i, 8, 0x0⟩
def CAN_ERR_REC (i : Nat) : Fld := ⟨0x38000A8 + 0x40000 * i, 7, 0x0⟩
def CAN_ERR_RP (i : Nat) : Fld := ⟨0x38000AF + 0x40000 * i, 1, 0x0⟩
def CAN_ERR_LEC (i : Nat) : Fld := ⟨0x38000B0 + 0x40000 * i, 3, 0x0⟩
def row_CAN_ERR : RegRow := ⟨"CAN_ERR", 0x700014, [(0x8000, 2)], 1,
  [⟨0, 8, .ro, fun _ => 0x0, .fn, []⟩, ⟨8, 7, .ro, fun _ => 0x0, .fn, []⟩, ⟨15, 1, .ro, fun _ => 0x0, .fn, []⟩, ⟨16, 3, .ro, fun _ => 0x0, .fn, []⟩], .plain⟩
def CAN_ABRCFG_MASK (i : Nat) : Fld := ⟨0x38000C0 + 0x40000 * i, 8, 0x0⟩
def CAN_ABRCFG_DWELL (i : Nat) : Fld := ⟨0x38000C8 + 0x40000 * i, 16, 0x64⟩
def CAN_ABRCFG_ROUNDS (i : Nat) : Fld := ⟨0x38000D8 + 0x40000 * i, 8, 0xA⟩
def row_CAN_ABRCFG : RegRow := ⟨"CAN_ABRCFG", 0x700018, [(0x8000, 2)], 1,
  [⟨0, 8, .rw, fun _ => 0x0, .warm, []⟩, ⟨8, 16, .rw, fun _ => 0x64, .warm, [(1, 65535)]⟩, ⟨24, 8, .rw, fun _ => 0xA, .warm, [(1, 255)]⟩], .can .abrCfg⟩
def CAN_ABRr_TIMING (i j : Nat) : Fld := ⟨0x3800100 + 0x40000 * i + 0x20 * j, 27, 0x0⟩
def row_CAN_ABRr : RegRow := ⟨"CAN_ABRr", 0x700020, [(0x8000, 2), (0x4, 8)], 1,
  [⟨0, 27, .rw, fun _ => 0x0, .warm, []⟩], .can .abr⟩
def CAN_TXREQ_REQ (i : Nat) : Fld := ⟨0x3800200 + 0x40000 * i, 32, 0x0⟩
def row_CAN_TXREQ : RegRow := ⟨"CAN_TXREQ", 0x700040, [(0x8000, 2)], 1,
  [⟨0, 32, .wo, fun _ => 0x0, .never, []⟩], .can .txReq⟩
def CAN_TXPEND_PEND (i : Nat) : Fld := ⟨0x3800220 + 0x40000 * i, 32, 0x0⟩
def row_CAN_TXPEND : RegRow := ⟨"CAN_TXPEND", 0x700044, [(0x8000, 2)], 1,
  [⟨0, 32, .ro, fun _ => 0x0, .fn, []⟩], .can .txPend⟩
def CAN_TXABT_ABT (i : Nat) : Fld := ⟨0x3800240 + 0x40000 * i, 32, 0x0⟩
def row_CAN_TXABT : RegRow := ⟨"CAN_TXABT", 0x700048, [(0x8000, 2)], 1,
  [⟨0, 32, .wo, fun _ => 0x0, .never, []⟩], .can .txAbt⟩
def CAN_TXDONE_DONE (i : Nat) : Fld := ⟨0x3800260 + 0x40000 * i, 32, 0x0⟩
def row_CAN_TXDONE : RegRow := ⟨"CAN_TXDONE", 0x70004C, [(0x8000, 2)], 1,
  [⟨0, 32, .w1c, fun _ => 0x0, .fn, []⟩], .plain⟩
def CAN_RXWIDX_WIDX (i : Nat) : Fld := ⟨0x3800280 + 0x40000 * i, 7, 0x0⟩
def row_CAN_RXWIDX : RegRow := ⟨"CAN_RXWIDX", 0x700050, [(0x8000, 2)], 1,
  [⟨0, 7, .ro, fun _ => 0x0, .fn, []⟩], .plain⟩
def CAN_NOTIFY_DB (i : Nat) : Fld := ⟨0x38002A0 + 0x40000 * i, 9, 0x0⟩
def CAN_NOTIFY_DBEN (i : Nat) : Fld := ⟨0x38002A9 + 0x40000 * i, 1, 0x0⟩
def row_CAN_NOTIFY : RegRow := ⟨"CAN_NOTIFY", 0x700054, [(0x8000, 2)], 1,
  [⟨0, 9, .rw, fun _ => 0x0, .warm, []⟩, ⟨9, 1, .rw, fun _ => 0x0, .warm, []⟩], .plain⟩
def CAN_RXOK_CNT (i : Nat) : Fld := ⟨0x3800800 + 0x40000 * i, 64, 0x0⟩
def row_CAN_RXOK : RegRow := ⟨"CAN_RXOK", 0x700100, [(0x8000, 2)], 2,
  [⟨0, 64, .ro, fun _ => 0x0, .fn, []⟩], .plain⟩
def CAN_RXERR_CNT (i : Nat) : Fld := ⟨0x3800840 + 0x40000 * i, 64, 0x0⟩
def row_CAN_RXERR : RegRow := ⟨"CAN_RXERR", 0x700108, [(0x8000, 2)], 2,
  [⟨0, 64, .ro, fun _ => 0x0, .fn, []⟩], .plain⟩
def CAN_RXOVW_CNT (i : Nat) : Fld := ⟨0x3800880 + 0x40000 * i, 64, 0x0⟩
def row_CAN_RXOVW : RegRow := ⟨"CAN_RXOVW", 0x700110, [(0x8000, 2)], 2,
  [⟨0, 64, .ro, fun _ => 0x0, .fn, []⟩], .plain⟩
def CAN_TXOK_CNT (i : Nat) : Fld := ⟨0x38008C0 + 0x40000 * i, 64, 0x0⟩
def row_CAN_TXOK : RegRow := ⟨"CAN_TXOK", 0x700118, [(0x8000, 2)], 2,
  [⟨0, 64, .ro, fun _ => 0x0, .fn, []⟩], .plain⟩
def CAN_TXERR_CNT (i : Nat) : Fld := ⟨0x3800900 + 0x40000 * i, 64, 0x0⟩
def row_CAN_TXERR : RegRow := ⟨"CAN_TXERR", 0x700120, [(0x8000, 2)], 2,
  [⟨0, 64, .ro, fun _ => 0x0, .fn, []⟩], .plain⟩
def CAN_ARBLOST_CNT (i : Nat) : Fld := ⟨0x3800940 + 0x40000 * i, 64, 0x0⟩
def row_CAN_ARBLOST : RegRow := ⟨"CAN_ARBLOST", 0x700128, [(0x8000, 2)], 2,
  [⟨0, 64, .ro, fun _ => 0x0, .fn, []⟩], .plain⟩
def CAN_ACKERR_CNT (i : Nat) : Fld := ⟨0x3800980 + 0x40000 * i, 64, 0x0⟩
def row_CAN_ACKERR : RegRow := ⟨"CAN_ACKERR", 0x700130, [(0x8000, 2)], 2,
  [⟨0, 64, .ro, fun _ => 0x0, .fn, []⟩], .plain⟩
def CAN_BUSOFF_CNT (i : Nat) : Fld := ⟨0x38009C0 + 0x40000 * i, 64, 0x0⟩
def row_CAN_BUSOFF : RegRow := ⟨"CAN_BUSOFF", 0x700138, [(0x8000, 2)], 2,
  [⟨0, 64, .ro, fun _ => 0x0, .fn, []⟩], .plain⟩
def CAN_PXCNT_CNT (i : Nat) : Fld := ⟨0x3800A00 + 0x40000 * i, 64, 0x0⟩
def row_CAN_PXCNT : RegRow := ⟨"CAN_PXCNT", 0x700140, [(0x8000, 2)], 2,
  [⟨0, 64, .ro, fun _ => 0x0, .fn, []⟩], .plain⟩
def CAN_TXBb_ID_ID (i j : Nat) : Fld := ⟨0x3804000 + 0x40000 * i + 0x300 * j, 29, 0x0⟩
def CAN_TXBb_ID_IDE (i j : Nat) : Fld := ⟨0x380401D + 0x40000 * i + 0x300 * j, 1, 0x0⟩
def CAN_TXBb_ID_RTR (i j : Nat) : Fld := ⟨0x380401E + 0x40000 * i + 0x300 * j, 1, 0x0⟩
def CAN_TXBb_ID_ONESHOT (i j : Nat) : Fld := ⟨0x380401F + 0x40000 * i + 0x300 * j, 1, 0x0⟩
def row_CAN_TXBb_ID : RegRow := ⟨"CAN_TXBb_ID", 0x700800, [(0x8000, 2), (0x60, 32)], 1,
  [⟨0, 29, .rw, fun _ => 0x0, .warm, []⟩, ⟨29, 1, .rw, fun _ => 0x0, .warm, []⟩, ⟨30, 1, .rw, fun _ => 0x0, .warm, []⟩, ⟨31, 1, .rw, fun _ => 0x0, .warm, []⟩], .can .txb⟩
def CAN_TXBb_CTL_DLC (i j : Nat) : Fld := ⟨0x3804020 + 0x40000 * i + 0x300 * j, 4, 0x0⟩
def CAN_TXBb_CTL_FDF (i j : Nat) : Fld := ⟨0x3804024 + 0x40000 * i + 0x300 * j, 1, 0x0⟩
def CAN_TXBb_CTL_BRS (i j : Nat) : Fld := ⟨0x3804025 + 0x40000 * i + 0x300 * j, 1, 0x0⟩
def row_CAN_TXBb_CTL : RegRow := ⟨"CAN_TXBb_CTL", 0x700804, [(0x8000, 2), (0x60, 32)], 1,
  [⟨0, 4, .rw, fun _ => 0x0, .warm, []⟩, ⟨4, 1, .rw, fun _ => 0x0, .warm, []⟩, ⟨5, 1, .rw, fun _ => 0x0, .warm, []⟩], .can .txb⟩
def CAN_TXBb_STAT_TXST (i j : Nat) : Fld := ⟨0x3804040 + 0x40000 * i + 0x300 * j, 4, 0x0⟩
def CAN_TXBb_STAT_ATTEMPTS (i j : Nat) : Fld := ⟨0x3804050 + 0x40000 * i + 0x300 * j, 16, 0x0⟩
def row_CAN_TXBb_STAT : RegRow := ⟨"CAN_TXBb_STAT", 0x700808, [(0x8000, 2), (0x60, 32)], 1,
  [⟨0, 4, .ro, fun _ => 0x0, .fn, []⟩, ⟨16, 16, .ro, fun _ => 0x0, .fn, []⟩], .plain⟩
def CAN_TXBb_STAMP_STAMP (i j : Nat) : Fld := ⟨0x3804080 + 0x40000 * i + 0x300 * j, 64, 0x0⟩
def row_CAN_TXBb_STAMP : RegRow := ⟨"CAN_TXBb_STAMP", 0x700810, [(0x8000, 2), (0x60, 32)], 2,
  [⟨0, 64, .ro, fun _ => 0x0, .fn, []⟩], .plain⟩
def CAN_TXBb_DATAw_DATA (i j k : Nat) : Fld := ⟨0x3804100 + 0x40000 * i + 0x300 * j + 0x20 * k, 32, 0x0⟩
def row_CAN_TXBb_DATAw : RegRow := ⟨"CAN_TXBb_DATAw", 0x700820, [(0x8000, 2), (0x60, 32), (0x4, 16)], 1,
  [⟨0, 32, .rw, fun _ => 0x0, .warm, []⟩], .can .txb⟩
def CAN_RXe_HDR_DLC (i j : Nat) : Fld := ⟨0x3820000 + 0x40000 * i + 0x400 * j, 4, 0x0⟩
def CAN_RXe_HDR_LEN (i j : Nat) : Fld := ⟨0x3820010 + 0x40000 * i + 0x400 * j, 7, 0x0⟩
def CAN_RXe_HDR_IDE (i j : Nat) : Fld := ⟨0x3820019 + 0x40000 * i + 0x400 * j, 1, 0x0⟩
def CAN_RXe_HDR_RTR (i j : Nat) : Fld := ⟨0x382001A + 0x40000 * i + 0x400 * j, 1, 0x0⟩
def CAN_RXe_HDR_FDF (i j : Nat) : Fld := ⟨0x382001B + 0x40000 * i + 0x400 * j, 1, 0x0⟩
def CAN_RXe_HDR_BRS (i j : Nat) : Fld := ⟨0x382001C + 0x40000 * i + 0x400 * j, 1, 0x0⟩
def CAN_RXe_HDR_ESI (i j : Nat) : Fld := ⟨0x382001D + 0x40000 * i + 0x400 * j, 1, 0x0⟩
def CAN_RXe_HDR_OWN (i j : Nat) : Fld := ⟨0x382001E + 0x40000 * i + 0x400 * j, 1, 0x0⟩
def CAN_RXe_HDR_ND (i j : Nat) : Fld := ⟨0x382001F + 0x40000 * i + 0x400 * j, 1, 0x0⟩
def row_CAN_RXe_HDR : RegRow := ⟨"CAN_RXe_HDR", 0x704000, [(0x8000, 2), (0x80, 128)], 1,
  [⟨0, 4, .ro, fun _ => 0x0, .fn, []⟩, ⟨16, 7, .ro, fun _ => 0x0, .fn, []⟩, ⟨25, 1, .ro, fun _ => 0x0, .fn, []⟩, ⟨26, 1, .ro, fun _ => 0x0, .fn, []⟩, ⟨27, 1, .ro, fun _ => 0x0, .fn, []⟩, ⟨28, 1, .ro, fun _ => 0x0, .fn, []⟩, ⟨29, 1, .ro, fun _ => 0x0, .fn, []⟩, ⟨30, 1, .ro, fun _ => 0x0, .fn, []⟩, ⟨31, 1, .w1c, fun _ => 0x0, .fn, []⟩], .plain⟩
def CAN_RXe_ID_ID (i j : Nat) : Fld := ⟨0x3820020 + 0x40000 * i + 0x400 * j, 29, 0x0⟩
def row_CAN_RXe_ID : RegRow := ⟨"CAN_RXe_ID", 0x704004, [(0x8000, 2), (0x80, 128)], 1,
  [⟨0, 29, .ro, fun _ => 0x0, .fn, []⟩], .plain⟩
def CAN_RXe_STAMP_STAMP (i j : Nat) : Fld := ⟨0x3820040 + 0x40000 * i + 0x400 * j, 64, 0x0⟩
def row_CAN_RXe_STAMP : RegRow := ⟨"CAN_RXe_STAMP", 0x704008, [(0x8000, 2), (0x80, 128)], 2,
  [⟨0, 64, .ro, fun _ => 0x0, .fn, []⟩], .plain⟩
def CAN_RXe_DATA_DATA (i j : Nat) : Fld := ⟨0x3820080 + 0x40000 * i + 0x400 * j, 512, 0x0⟩
def row_CAN_RXe_DATA : RegRow := ⟨"CAN_RXe_DATA", 0x704010, [(0x8000, 2), (0x80, 128)], 16,
  [⟨0, 512, .ro, fun _ => 0x0, .fn, []⟩], .plain⟩
/-- The FN fields of unit group CAN (column "Cleared by", R7). -/
def fnFields_CAN (i : Nat) : List Fld :=
  [CAN_STAT_STATE i, CAN_STAT_NOACK i, CAN_STAT_ABRBUSY i, CAN_STAT_ABRDONE i, CAN_STAT_ABRFAIL i, CAN_STAT_ABRRATE i, CAN_STAT_CFGREF i, CAN_STAT_TDCV i, CAN_ERR_TEC i, CAN_ERR_REC i, CAN_ERR_RP i, CAN_ERR_LEC i]
  ++ [CAN_TXPEND_PEND i, CAN_TXDONE_DONE i, CAN_RXWIDX_WIDX i, CAN_RXOK_CNT i, CAN_RXERR_CNT i, CAN_RXOVW_CNT i, CAN_TXOK_CNT i, CAN_TXERR_CNT i, CAN_ARBLOST_CNT i, CAN_ACKERR_CNT i, CAN_BUSOFF_CNT i, CAN_PXCNT_CNT i]
/-- The FN fields of unit group CANTB (column "Cleared by", R7). -/
def fnFields_CANTB (i : Nat) : List Fld :=
  (List.range 32).map (fun j => CAN_TXBb_STAT_TXST i j)
  ++ (List.range 32).map (fun j => CAN_TXBb_STAT_ATTEMPTS i j)
  ++ (List.range 32).map (fun j => CAN_TXBb_STAMP_STAMP i j)
/-- The FN fields of unit group CANRX (column "Cleared by", R7). -/
def fnFields_CANRX (i : Nat) : List Fld :=
  (List.range 128).map (fun j => CAN_RXe_HDR_DLC i j)
  ++ (List.range 128).map (fun j => CAN_RXe_HDR_LEN i j)
  ++ (List.range 128).map (fun j => CAN_RXe_HDR_IDE i j)
  ++ (List.range 128).map (fun j => CAN_RXe_HDR_RTR i j)
  ++ (List.range 128).map (fun j => CAN_RXe_HDR_FDF i j)
  ++ (List.range 128).map (fun j => CAN_RXe_HDR_BRS i j)
  ++ (List.range 128).map (fun j => CAN_RXe_HDR_ESI i j)
  ++ (List.range 128).map (fun j => CAN_RXe_HDR_OWN i j)
  ++ (List.range 128).map (fun j => CAN_RXe_HDR_ND i j)
  ++ (List.range 128).map (fun j => CAN_RXe_ID_ID i j)
  ++ (List.range 128).map (fun j => CAN_RXe_STAMP_STAMP i j)
  ++ (List.range 128).map (fun j => CAN_RXe_DATA_DATA i j)
/-- The registers of this block. -/
def rowsCan : List RegRow :=
  [row_CAN_CTRL, row_CAN_CFG, row_CAN_NBT, row_CAN_DBT, row_CAN_STAT, row_CAN_ERR, row_CAN_ABRCFG, row_CAN_ABRr, row_CAN_TXREQ, row_CAN_TXPEND, row_CAN_TXABT, row_CAN_TXDONE, row_CAN_RXWIDX, row_CAN_NOTIFY, row_CAN_RXOK, row_CAN_RXERR, row_CAN_RXOVW, row_CAN_TXOK, row_CAN_TXERR, row_CAN_ARBLOST]
  ++ [row_CAN_ACKERR, row_CAN_BUSOFF, row_CAN_PXCNT, row_CAN_TXBb_ID, row_CAN_TXBb_CTL, row_CAN_TXBb_STAT, row_CAN_TXBb_STAMP, row_CAN_TXBb_DATAw, row_CAN_RXe_HDR, row_CAN_RXe_ID, row_CAN_RXe_STAMP, row_CAN_RXe_DATA]

end Sys2Proof.Machine
end

