-- ==== Sys2Proof/Machine/RegsDepot.lean ====
section
/-! DEFINITION. The register fields of the depots and engines (spec/10, R295): for each field of the spec's register table its home in the
register store (`<REGISTER>_<FIELD>`, a function of the instance numbers), for each register its row of the map (offset,
instances, fields with bits, access code, reset value and reset class, reserved values), and for each unit the fields its
function reset clears. -/

namespace Sys2Proof.Machine

def DEP_CTRL_PWRON (i : Nat) : Fld := ⟨0x4000000 + 0x800000 * i, 1, 0x0⟩
def row_DEP_CTRL : RegRow := ⟨"DEP_CTRL", 0x800000, [(0x100000, 8)], 1,
  [⟨0, 1, .rw, fun _ => 0x0, .warm, []⟩], .dep .ctrl⟩
def DEP_STAT_PWRSTATE (i : Nat) : Fld := ⟨0x4000020 + 0x800000 * i, 2, 0x0⟩
def DEP_STAT_REFUSED (i : Nat) : Fld := ⟨0x4000022 + 0x800000 * i, 1, 0x0⟩
def DEP_STAT_SWPEND (i : Nat) : Fld := ⟨0x4000023 + 0x800000 * i, 1, 0x0⟩
def DEP_STAT_SWDONE (i : Nat) : Fld := ⟨0x4000024 + 0x800000 * i, 1, 0x0⟩
def DEP_STAT_SWFAIL (i : Nat) : Fld := ⟨0x4000025 + 0x800000 * i, 1, 0x0⟩
def row_DEP_STAT : RegRow := ⟨"DEP_STAT", 0x800004, [(0x100000, 8)], 1,
  [⟨0, 2, .ro, fun _ => 0x0, .warm, []⟩, ⟨2, 1, .w1c, fun _ => 0x0, .fn, []⟩, ⟨3, 1, .ro, fun _ => 0x0, .fn, []⟩, ⟨4, 1, .w1c, fun _ => 0x0, .fn, []⟩, ⟨5, 1, .w1c, fun _ => 0x0, .fn, []⟩], .plain⟩
def DEP_SWAP_MASK (i : Nat) : Fld := ⟨0x4000040 + 0x800000 * i, 8, 0x0⟩
def DEP_SWAP_GO (i : Nat) : Fld := ⟨0x4000048 + 0x800000 * i, 1, 0x0⟩
def DEP_SWAP_CANCEL (i : Nat) : Fld := ⟨0x4000049 + 0x800000 * i, 1, 0x0⟩
def row_DEP_SWAP : RegRow := ⟨"DEP_SWAP", 0x800008, [(0x100000, 8)], 1,
  [⟨0, 8, .wo, fun _ => 0x0, .never, []⟩, ⟨8, 1, .wo, fun _ => 0x0, .never, []⟩, ⟨9, 1, .wo, fun _ => 0x0, .never, []⟩], .dep .swap⟩
def DEP_SWTMO_SWTMO (i : Nat) : Fld := ⟨0x4000060 + 0x800000 * i, 20, 0x3E8⟩
def row_DEP_SWTMO : RegRow := ⟨"DEP_SWTMO", 0x80000C, [(0x100000, 8)], 1,
  [⟨0, 20, .rw, fun _ => 0x3E8, .warm, [(0, 1000000)]⟩], .plain⟩
def DEP_RXRi_BASE (i j : Nat) : Fld := ⟨0x4000100 + 0x800000 * i + 0x40 * j, 24, 0x0⟩
def DEP_RXRi_SLOTSZ (i j : Nat) : Fld := ⟨0x4000118 + 0x800000 * i + 0x40 * j, 6, 0x8⟩
def DEP_RXRi_NSLOT (i j : Nat) : Fld := ⟨0x4000120 + 0x800000 * i + 0x40 * j, 11, 0x40⟩
def DEP_RXRi_EN (i j : Nat) : Fld := ⟨0x4000130 + 0x800000 * i + 0x40 * j, 1, 0x0⟩
def row_DEP_RXRi : RegRow := ⟨"DEP_RXRi", 0x800020, [(0x100000, 8), (0x8, 2)], 2,
  [⟨0, 24, .rw, fun _ => 0x0, .warm, []⟩, ⟨24, 6, .rw, fun _ => 0x8, .warm, [(1, 39)]⟩, ⟨32, 11, .rw, fun _ => 0x40, .warm, [(2, 1024)]⟩, ⟨48, 1, .rw, fun _ => 0x0, .warm, []⟩], .dep .rxRing⟩
def DEP_TXC_CBASE (i : Nat) : Fld := ⟨0x4000180 + 0x800000 * i, 24, 0x0⟩
def DEP_TXC_DBEN (i : Nat) : Fld := ⟨0x40001A0 + 0x800000 * i, 1, 0x0⟩
def DEP_TXC_DB (i : Nat) : Fld := ⟨0x40001A1 + 0x800000 * i, 9, 0x0⟩
def row_DEP_TXC : RegRow := ⟨"DEP_TXC", 0x800030, [(0x100000, 8)], 2,
  [⟨0, 24, .rw, fun _ => 0x0, .warm, []⟩, ⟨32, 1, .rw, fun _ => 0x0, .warm, []⟩, ⟨33, 9, .rw, fun _ => 0x0, .warm, []⟩], .dep .txCfg⟩
def DEP_RXFRM0_CNT (i : Nat) : Fld := ⟨0x4000200 + 0x800000 * i, 64, 0x0⟩
def row_DEP_RXFRM0 : RegRow := ⟨"DEP_RXFRM0", 0x800040, [(0x100000, 8)], 2,
  [⟨0, 64, .ro, fun _ => 0x0, .fn, []⟩], .plain⟩
def DEP_RXFRM1_CNT (i : Nat) : Fld := ⟨0x4000240 + 0x800000 * i, 64, 0x0⟩
def row_DEP_RXFRM1 : RegRow := ⟨"DEP_RXFRM1", 0x800048, [(0x100000, 8)], 2,
  [⟨0, 64, .ro, fun _ => 0x0, .fn, []⟩], .plain⟩
def DEP_RXREF0_CNT (i : Nat) : Fld := ⟨0x4000280 + 0x800000 * i, 64, 0x0⟩
def row_DEP_RXREF0 : RegRow := ⟨"DEP_RXREF0", 0x800050, [(0x100000, 8)], 2,
  [⟨0, 64, .ro, fun _ => 0x0, .fn, []⟩], .plain⟩
def DEP_RXREF1_CNT (i : Nat) : Fld := ⟨0x40002C0 + 0x800000 * i, 64, 0x0⟩
def row_DEP_RXREF1 : RegRow := ⟨"DEP_RXREF1", 0x800058, [(0x100000, 8)], 2,
  [⟨0, 64, .ro, fun _ => 0x0, .fn, []⟩], .plain⟩
def DEP_TXFRM_CNT (i : Nat) : Fld := ⟨0x4000300 + 0x800000 * i, 64, 0x0⟩
def row_DEP_TXFRM : RegRow := ⟨"DEP_TXFRM", 0x800060, [(0x100000, 8)], 2,
  [⟨0, 64, .ro, fun _ => 0x0, .fn, []⟩], .plain⟩
def DEP_TXBAD_CNT (i : Nat) : Fld := ⟨0x4000340 + 0x800000 * i, 64, 0x0⟩
def row_DEP_TXBAD : RegRow := ⟨"DEP_TXBAD", 0x800068, [(0x100000, 8)], 2,
  [⟨0, 64, .ro, fun _ => 0x0, .fn, []⟩], .plain⟩
def DEP_TCMPk_EN (i j : Nat) : Fld := ⟨0x4000800 + 0x800000 * i + 0x100 * j, 1, 0x0⟩
def DEP_TCMPk_DOM (i j : Nat) : Fld := ⟨0x4000801 + 0x800000 * i + 0x100 * j, 3, 0x0⟩
def DEP_TCMPk_PERIODIC (i j : Nat) : Fld := ⟨0x4000804 + 0x800000 * i + 0x100 * j, 1, 0x0⟩
def row_DEP_TCMPk : RegRow := ⟨"DEP_TCMPk", 0x800100, [(0x100000, 8), (0x20, 4)], 1,
  [⟨0, 1, .rw, fun _ => 0x0, .fn, []⟩, ⟨1, 3, .rw, fun _ => 0x0, .warm, [(0, 4)]⟩, ⟨4, 1, .rw, fun _ => 0x0, .warm, []⟩], .plain⟩
def DEP_TCMPV_VALUE (i j : Nat) : Fld := ⟨0x4000820 + 0x800000 * i + 0x100 * j, 64, 0x0⟩
def row_DEP_TCMPV : RegRow := ⟨"DEP_TCMPV", 0x800104, [(0x100000, 8), (0x20, 4)], 2,
  [⟨0, 64, .rw, fun _ => 0x0, .fn, []⟩], .dep .tcmpValue⟩
def DEP_TCMPP_PERIOD (i j : Nat) : Fld := ⟨0x4000860 + 0x800000 * i + 0x100 * j, 48, 0x0⟩
def row_DEP_TCMPP : RegRow := ⟨"DEP_TCMPP", 0x80010C, [(0x100000, 8), (0x20, 4)], 2,
  [⟨0, 48, .rw, fun _ => 0x0, .warm, []⟩], .plain⟩
def DEP_TCMPS_LATE (i j : Nat) : Fld := ⟨0x40008A0 + 0x800000 * i + 0x100 * j, 1, 0x0⟩
def DEP_TCMPS_ARMED (i j : Nat) : Fld := ⟨0x40008A1 + 0x800000 * i + 0x100 * j, 1, 0x0⟩
def DEP_TCMPS_SKIP (i j : Nat) : Fld := ⟨0x40008B0 + 0x800000 * i + 0x100 * j, 16, 0x0⟩
def row_DEP_TCMPS : RegRow := ⟨"DEP_TCMPS", 0x800114, [(0x100000, 8), (0x20, 4)], 1,
  [⟨0, 1, .w1c, fun _ => 0x0, .fn, []⟩, ⟨1, 1, .ro, fun _ => 0x0, .fn, []⟩, ⟨16, 16, .ro, fun _ => 0x0, .fn, []⟩], .dep .tcmpStat⟩
def ENG_CTRL_RUN (i : Nat) : Fld := ⟨0x4080000 + 0x800000 * (i / 8) + 0x8000 * (i % 8), 1, 0x0⟩
def ENG_CTRL_HALT (i : Nat) : Fld := ⟨0x4080001 + 0x800000 * (i / 8) + 0x8000 * (i % 8), 1, 0x0⟩
def ENG_CTRL_STEP (i : Nat) : Fld := ⟨0x4080002 + 0x800000 * (i / 8) + 0x8000 * (i % 8), 1, 0x0⟩
def row_ENG_CTRL : RegRow := ⟨"ENG_CTRL", 0x810000, [(0x100000, 8), (0x1000, 8)], 1,
  [⟨0, 1, .wo, fun _ => 0x0, .never, []⟩, ⟨1, 1, .wo, fun _ => 0x0, .never, []⟩, ⟨2, 1, .wo, fun _ => 0x0, .never, []⟩], .dep .engCtrl⟩
def ENG_STAT_STATE (i : Nat) : Fld := ⟨0x4080020 + 0x800000 * (i / 8) + 0x8000 * (i % 8), 3, 0x0⟩
def ENG_STAT_TACT (i : Nat) : Fld := ⟨0x4080023 + 0x800000 * (i / 8) + 0x8000 * (i % 8), 1, 0x0⟩
def ENG_STAT_REFUSED (i : Nat) : Fld := ⟨0x4080024 + 0x800000 * (i / 8) + 0x8000 * (i % 8), 1, 0x0⟩
def row_ENG_STAT : RegRow := ⟨"ENG_STAT", 0x810004, [(0x100000, 8), (0x1000, 8)], 1,
  [⟨0, 3, .ro, fun _ => 0x0, .fn, []⟩, ⟨3, 1, .ro, fun _ => 0x0, .fn, []⟩, ⟨4, 1, .w1c, fun _ => 0x0, .fn, []⟩], .plain⟩
def ENG_BOOT_PC (i : Nat) : Fld := ⟨0x4080042 + 0x800000 * (i / 8) + 0x8000 * (i % 8), 13, 0x0⟩
def row_ENG_BOOT : RegRow := ⟨"ENG_BOOT", 0x810008, [(0x100000, 8), (0x1000, 8)], 1,
  [⟨2, 13, .rw, fun _ => 0x0, .warm, []⟩], .plain⟩
def ENG_TVEC_TVEC (i : Nat) : Fld := ⟨0x4080062 + 0x800000 * (i / 8) + 0x8000 * (i % 8), 13, 0x0⟩
def row_ENG_TVEC : RegRow := ⟨"ENG_TVEC", 0x81000C, [(0x100000, 8), (0x1000, 8)], 1,
  [⟨2, 13, .rw, fun _ => 0x0, .warm, []⟩], .plain⟩
def ENG_IVEC_IVEC (i : Nat) : Fld := ⟨0x4080084 + 0x800000 * (i / 8) + 0x8000 * (i % 8), 11, 0x0⟩
def row_ENG_IVEC : RegRow := ⟨"ENG_IVEC", 0x810010, [(0x100000, 8), (0x1000, 8)], 1,
  [⟨4, 11, .rw, fun _ => 0x0, .warm, []⟩], .plain⟩
def ENG_RIGHTS_R_REGIONS (i : Nat) : Fld := ⟨0x40800A0 + 0x800000 * (i / 8) + 0x8000 * (i % 8), 17, 0x0⟩
def row_ENG_RIGHTS_R : RegRow := ⟨"ENG_RIGHTS_R", 0x810014, [(0x100000, 8), (0x1000, 8)], 1,
  [⟨0, 17, .rwl, fun _ => 0x0, .warm, []⟩], .plain⟩
def ENG_RIGHTS_W_REGIONS (i : Nat) : Fld := ⟨0x40800C0 + 0x800000 * (i / 8) + 0x8000 * (i % 8), 17, 0x0⟩
def row_ENG_RIGHTS_W : RegRow := ⟨"ENG_RIGHTS_W", 0x810018, [(0x100000, 8), (0x1000, 8)], 1,
  [⟨0, 17, .rwl, fun _ => 0x0, .warm, []⟩], .plain⟩
def ENG_IRQSELL_KIND (i j : Nat) : Fld := ⟨0x4080100 + 0x800000 * (i / 8) + 0x8000 * (i % 8) + 0x20 * j, 3, 0x0⟩
def ENG_IRQSELL_INDEX (i j : Nat) : Fld := ⟨0x4080103 + 0x800000 * (i / 8) + 0x8000 * (i % 8) + 0x20 * j, 9, 0x0⟩
def row_ENG_IRQSELL : RegRow := ⟨"ENG_IRQSELL", 0x810020, [(0x100000, 8), (0x1000, 8), (0x4, 8)], 1,
  [⟨0, 3, .rw, fun _ => 0x0, .warm, [(0, 6)]⟩, ⟨3, 9, .rw, fun _ => 0x0, .warm, []⟩], .dep .irqSel⟩
def ENG_IRQ_PEND (i : Nat) : Fld := ⟨0x4080200 + 0x800000 * (i / 8) + 0x8000 * (i % 8), 8, 0x0⟩
def ENG_IRQ_IMASK (i : Nat) : Fld := ⟨0x4080208 + 0x800000 * (i / 8) + 0x8000 * (i % 8), 8, 0x0⟩
def ENG_IRQ_WAKEMASK (i : Nat) : Fld := ⟨0x4080210 + 0x800000 * (i / 8) + 0x8000 * (i % 8), 8, 0x0⟩
def ENG_IRQ_INSVC (i : Nat) : Fld := ⟨0x4080218 + 0x800000 * (i / 8) + 0x8000 * (i % 8), 8, 0x0⟩
def row_ENG_IRQ : RegRow := ⟨"ENG_IRQ", 0x810040, [(0x100000, 8), (0x1000, 8)], 1,
  [⟨0, 8, .w1c, fun _ => 0x0, .fn, []⟩, ⟨8, 8, .rw, fun _ => 0x0, .fn, []⟩, ⟨16, 8, .rw, fun _ => 0x0, .fn, []⟩, ⟨24, 8, .ro, fun _ => 0x0, .fn, []⟩], .dep .irq⟩
def ENG_SWAP_REQ (i : Nat) : Fld := ⟨0x4080280 + 0x800000 * (i / 8) + 0x8000 * (i % 8), 1, 0x0⟩
def ENG_SWAP_CANCEL (i : Nat) : Fld := ⟨0x4080281 + 0x800000 * (i / 8) + 0x8000 * (i % 8), 1, 0x0⟩
def ENG_SWAP_KEEPSTK (i : Nat) : Fld := ⟨0x4080282 + 0x800000 * (i / 8) + 0x8000 * (i % 8), 1, 0x1⟩
def ENG_SWAP_USEENTRY (i : Nat) : Fld := ⟨0x4080283 + 0x800000 * (i / 8) + 0x8000 * (i % 8), 1, 0x0⟩
def ENG_SWAP_ENTRY (i : Nat) : Fld := ⟨0x4080284 + 0x800000 * (i / 8) + 0x8000 * (i % 8), 13, 0x0⟩
def ENG_SWAP_PEND (i : Nat) : Fld := ⟨0x4080298 + 0x800000 * (i / 8) + 0x8000 * (i % 8), 1, 0x0⟩
def ENG_SWAP_DONE (i : Nat) : Fld := ⟨0x4080299 + 0x800000 * (i / 8) + 0x8000 * (i % 8), 1, 0x0⟩
def ENG_SWAP_FAILED (i : Nat) : Fld := ⟨0x408029A + 0x800000 * (i / 8) + 0x8000 * (i % 8), 1, 0x0⟩
def row_ENG_SWAP : RegRow := ⟨"ENG_SWAP", 0x810050, [(0x100000, 8), (0x1000, 8)], 1,
  [⟨0, 1, .wo, fun _ => 0x0, .never, []⟩, ⟨1, 1, .wo, fun _ => 0x0, .never, []⟩, ⟨2, 1, .rw, fun _ => 0x1, .warm, []⟩, ⟨3, 1, .rw, fun _ => 0x0, .warm, []⟩, ⟨4, 13, .rw, fun _ => 0x0, .warm, []⟩, ⟨24, 1, .ro, fun _ => 0x0, .fn, []⟩, ⟨25, 1, .w1c, fun _ => 0x0, .fn, []⟩, ⟨26, 1, .w1c, fun _ => 0x0, .fn, []⟩], .dep .engSwap⟩
def ENG_SWAPCNT_SWAPCNT (i : Nat) : Fld := ⟨0x40802A0 + 0x800000 * (i / 8) + 0x8000 * (i % 8), 32, 0x0⟩
def row_ENG_SWAPCNT : RegRow := ⟨"ENG_SWAPCNT", 0x810054, [(0x100000, 8), (0x1000, 8)], 1,
  [⟨0, 32, .ro, fun _ => 0x0, .warm, []⟩], .plain⟩
def ENG_RPT0_RCAUSE (i : Nat) : Fld := ⟨0x4080300 + 0x800000 * (i / 8) + 0x8000 * (i % 8), 3, 0x0⟩
def ENG_RPT0_TCAUSE (i : Nat) : Fld := ⟨0x4080308 + 0x800000 * (i / 8) + 0x8000 * (i % 8), 8, 0x0⟩
def ENG_RPT0_DSD (i : Nat) : Fld := ⟨0x4080310 + 0x800000 * (i / 8) + 0x8000 * (i % 8), 6, 0x0⟩
def ENG_RPT0_RSD (i : Nat) : Fld := ⟨0x4080316 + 0x800000 * (i / 8) + 0x8000 * (i % 8), 6, 0x0⟩
def ENG_RPT0_RPTV (i : Nat) : Fld := ⟨0x408031F + 0x800000 * (i / 8) + 0x8000 * (i % 8), 1, 0x0⟩
def row_ENG_RPT0 : RegRow := ⟨"ENG_RPT0", 0x810060, [(0x100000, 8), (0x1000, 8)], 1,
  [⟨0, 3, .ro, fun _ => 0x0, .warm, []⟩, ⟨8, 8, .ro, fun _ => 0x0, .warm, []⟩, ⟨16, 6, .ro, fun _ => 0x0, .warm, []⟩, ⟨22, 6, .ro, fun _ => 0x0, .warm, []⟩, ⟨31, 1, .ro, fun _ => 0x0, .warm, []⟩], .plain⟩
def ENG_RPT1_PC (i : Nat) : Fld := ⟨0x4080320 + 0x800000 * (i / 8) + 0x8000 * (i % 8), 15, 0x0⟩
def row_ENG_RPT1 : RegRow := ⟨"ENG_RPT1", 0x810064, [(0x100000, 8), (0x1000, 8)], 1,
  [⟨0, 15, .ro, fun _ => 0x0, .warm, []⟩], .plain⟩
def ENG_RPT2_IOPORT (i : Nat) : Fld := ⟨0x4080340 + 0x800000 * (i / 8) + 0x8000 * (i % 8), 16, 0x0⟩
def ENG_RPT2_IODIR (i : Nat) : Fld := ⟨0x4080350 + 0x800000 * (i / 8) + 0x8000 * (i % 8), 1, 0x0⟩
def row_ENG_RPT2 : RegRow := ⟨"ENG_RPT2", 0x810068, [(0x100000, 8), (0x1000, 8)], 1,
  [⟨0, 16, .ro, fun _ => 0x0, .warm, []⟩, ⟨16, 1, .ro, fun _ => 0x0, .warm, []⟩], .plain⟩
def ENG_RPT3_LTNS (i : Nat) : Fld := ⟨0x4080360 + 0x800000 * (i / 8) + 0x8000 * (i % 8), 32, 0x0⟩
def row_ENG_RPT3 : RegRow := ⟨"ENG_RPT3", 0x81006C, [(0x100000, 8), (0x1000, 8)], 1,
  [⟨0, 32, .ro, fun _ => 0x0, .warm, []⟩], .plain⟩
def ENG_CYC_CNT (i : Nat) : Fld := ⟨0x4080400 + 0x800000 * (i / 8) + 0x8000 * (i % 8), 64, 0x0⟩
def row_ENG_CYC : RegRow := ⟨"ENG_CYC", 0x810080, [(0x100000, 8), (0x1000, 8)], 2,
  [⟨0, 64, .ro, fun _ => 0x0, .fn, []⟩], .plain⟩
def ENG_SLEEP_CNT (i : Nat) : Fld := ⟨0x4080440 + 0x800000 * (i / 8) + 0x8000 * (i % 8), 64, 0x0⟩
def row_ENG_SLEEP : RegRow := ⟨"ENG_SLEEP", 0x810088, [(0x100000, 8), (0x1000, 8)], 2,
  [⟨0, 64, .ro, fun _ => 0x0, .fn, []⟩], .plain⟩
def ENG_BCONF_CNT (i : Nat) : Fld := ⟨0x4080480 + 0x800000 * (i / 8) + 0x8000 * (i % 8), 64, 0x0⟩
def row_ENG_BCONF : RegRow := ⟨"ENG_BCONF", 0x810090, [(0x100000, 8), (0x1000, 8)], 2,
  [⟨0, 64, .ro, fun _ => 0x0, .fn, []⟩], .plain⟩
def ENG_ECCCOR_CNT (i : Nat) : Fld := ⟨0x40804C0 + 0x800000 * (i / 8) + 0x8000 * (i % 8), 64, 0x0⟩
def row_ENG_ECCCOR : RegRow := ⟨"ENG_ECCCOR", 0x810098, [(0x100000, 8), (0x1000, 8)], 2,
  [⟨0, 64, .ro, fun _ => 0x0, .fn, []⟩], .plain⟩
def ENG_DBG_BKHALT (i : Nat) : Fld := ⟨0x4080800 + 0x800000 * (i / 8) + 0x8000 * (i % 8), 1, 0x0⟩
def row_ENG_DBG : RegRow := ⟨"ENG_DBG", 0x810100, [(0x100000, 8), (0x1000, 8)], 1,
  [⟨0, 1, .rw, fun _ => 0x0, .warm, []⟩], .plain⟩
def ENG_BPk_EN (i j : Nat) : Fld := ⟨0x4080880 + 0x800000 * (i / 8) + 0x8000 * (i % 8) + 0x20 * j, 1, 0x0⟩
def ENG_BPk_ADDR (i j : Nat) : Fld := ⟨0x4080882 + 0x800000 * (i / 8) + 0x8000 * (i % 8) + 0x20 * j, 13, 0x0⟩
def row_ENG_BPk : RegRow := ⟨"ENG_BPk", 0x810110, [(0x100000, 8), (0x1000, 8), (0x4, 4)], 1,
  [⟨0, 1, .rw, fun _ => 0x0, .warm, []⟩, ⟨2, 13, .rw, fun _ => 0x0, .warm, []⟩], .plain⟩
def ENG_DBGREG_VALUE (i j : Nat) : Fld := ⟨0x4081000 + 0x800000 * (i / 8) + 0x8000 * (i % 8) + 0x20 * j, 32, 0x0⟩
def row_ENG_DBGREG : RegRow := ⟨"ENG_DBGREG", 0x810200, [(0x100000, 8), (0x1000, 8), (0x4, 23)], 1,
  [⟨0, 32, .rw, fun _ => 0x0, .fn, []⟩], .dep .dbgReg⟩
def ENG_DSTACK_DSTACK (i j : Nat) : Fld := ⟨0x4081800 + 0x800000 * (i / 8) + 0x8000 * (i % 8) + 0x20 * j, 32, 0x0⟩
def row_ENG_DSTACK : RegRow := ⟨"ENG_DSTACK", 0x810300, [(0x100000, 8), (0x1000, 8), (0x4, 32)], 1,
  [⟨0, 32, .rw, fun _ => 0x0, .fn, []⟩], .dep .dStack⟩
def ENG_RSTACK_RSTACK (i j : Nat) : Fld := ⟨0x4081C00 + 0x800000 * (i / 8) + 0x8000 * (i % 8) + 0x20 * j, 32, 0x0⟩
def row_ENG_RSTACK : RegRow := ⟨"ENG_RSTACK", 0x810380, [(0x100000, 8), (0x1000, 8), (0x4, 32)], 1,
  [⟨0, 32, .rw, fun _ => 0x0, .fn, []⟩], .dep .rStack⟩
/-- The FN fields of unit group DEP (column "Cleared by", R7). -/
def fnFields_DEP (i : Nat) : List Fld :=
  [DEP_STAT_REFUSED i, DEP_STAT_SWPEND i, DEP_STAT_SWDONE i, DEP_STAT_SWFAIL i, DEP_RXFRM0_CNT i, DEP_RXFRM1_CNT i, DEP_RXREF0_CNT i, DEP_RXREF1_CNT i, DEP_TXFRM_CNT i, DEP_TXBAD_CNT i]
  ++ (List.range 4).map (fun j => DEP_TCMPk_EN i j)
  ++ (List.range 4).map (fun j => DEP_TCMPV_VALUE i j)
  ++ (List.range 4).map (fun j => DEP_TCMPS_LATE i j)
  ++ (List.range 4).map (fun j => DEP_TCMPS_ARMED i j)
  ++ (List.range 4).map (fun j => DEP_TCMPS_SKIP i j)
/-- The FN fields of unit group ENG (column "Cleared by", R7). -/
def fnFields_ENG (i : Nat) : List Fld :=
  [ENG_STAT_STATE i, ENG_STAT_TACT i, ENG_STAT_REFUSED i, ENG_IRQ_PEND i, ENG_IRQ_IMASK i, ENG_IRQ_WAKEMASK i, ENG_IRQ_INSVC i, ENG_SWAP_PEND i, ENG_SWAP_DONE i, ENG_SWAP_FAILED i, ENG_CYC_CNT i, ENG_SLEEP_CNT i]
  ++ [ENG_BCONF_CNT i, ENG_ECCCOR_CNT i]
  ++ (List.range 23).map (fun j => ENG_DBGREG_VALUE i j)
  ++ (List.range 32).map (fun j => ENG_DSTACK_DSTACK i j)
  ++ (List.range 32).map (fun j => ENG_RSTACK_RSTACK i j)
/-- The registers of this block. -/
def rowsDepot : List RegRow :=
  [row_DEP_CTRL, row_DEP_STAT, row_DEP_SWAP, row_DEP_SWTMO, row_DEP_RXRi, row_DEP_TXC, row_DEP_RXFRM0, row_DEP_RXFRM1, row_DEP_RXREF0, row_DEP_RXREF1, row_DEP_TXFRM, row_DEP_TXBAD, row_DEP_TCMPk, row_DEP_TCMPV, row_DEP_TCMPP, row_DEP_TCMPS, row_ENG_CTRL, row_ENG_STAT, row_ENG_BOOT, row_ENG_TVEC]
  ++ [row_ENG_IVEC, row_ENG_RIGHTS_R, row_ENG_RIGHTS_W, row_ENG_IRQSELL, row_ENG_IRQ, row_ENG_SWAP, row_ENG_SWAPCNT, row_ENG_RPT0, row_ENG_RPT1, row_ENG_RPT2, row_ENG_RPT3, row_ENG_CYC, row_ENG_SLEEP, row_ENG_BCONF, row_ENG_ECCCOR, row_ENG_DBG, row_ENG_BPk, row_ENG_DBGREG, row_ENG_DSTACK, row_ENG_RSTACK]

end Sys2Proof.Machine
end

