-- ==== Sys2Proof/Machine/RegsDev.lean ====
section
/-! DEFINITION. The register fields of the device identification (spec/21, R526): for each field of the spec's register table its home in the
register store (`<REGISTER>_<FIELD>`, a function of the instance numbers), for each register its row of the map (offset,
instances, fields with bits, access code, reset value and reset class, reserved values), and for each unit the fields its
function reset clears. -/

namespace Sys2Proof.Machine

def DEV_ID_PART : Fld := ⟨0x0, 16, 0x6424⟩
def DEV_ID_FAMILY : Fld := ⟨0x10, 8, 0x1⟩
def row_DEV_ID : RegRow := ⟨"DEV_ID", 0x0, [], 1,
  [⟨0, 16, .ro, fun _ => 0x6424, .never, []⟩, ⟨16, 8, .ro, fun _ => 0x1, .never, []⟩], .plain⟩
def DEV_REV_STEPPING : Fld := ⟨0x20, 8, 0x2⟩
def DEV_REV_ROMVER : Fld := ⟨0x28, 8, (Config.romVersion % 256)⟩
def DEV_REV_OTPVER : Fld := ⟨0x30, 8, (Config.otpVersion % 256)⟩
def DEV_REV_GRADE : Fld := ⟨0x38, 8, 0x1⟩
def row_DEV_REV : RegRow := ⟨"DEV_REV", 0x4, [], 1,
  [⟨0, 8, .ro, fun _ => 0x2, .never, []⟩, ⟨8, 8, .ro, fun _ => (Config.romVersion % 256), .never, []⟩, ⟨16, 8, .ro, fun _ => (Config.otpVersion % 256), .never, []⟩, ⟨24, 8, .ro, fun _ => 0x1, .never, []⟩], .plain⟩
def DEV_SERIAL_EUI : Fld := ⟨0x40, 64, (Config.otpEui % 18446744073709551616)⟩
def row_DEV_SERIAL : RegRow := ⟨"DEV_SERIAL", 0x8, [], 2,
  [⟨0, 64, .ro, fun _ => (Config.otpEui % 18446744073709551616), .never, []⟩], .plain⟩
def DEV_CAPPTR_PTR : Fld := ⟨0x80, 32, 0x100⟩
def row_DEV_CAPPTR : RegRow := ⟨"DEV_CAPPTR", 0x10, [], 1,
  [⟨0, 32, .ro, fun _ => 0x100, .never, []⟩], .plain⟩
def DEV_PCIID_VENDOR : Fld := ⟨0xA0, 16, 0x1F3A⟩
def DEV_PCIID_DEVICE : Fld := ⟨0xB0, 16, 0x6424⟩
def row_DEV_PCIID : RegRow := ⟨"DEV_PCIID", 0x14, [], 1,
  [⟨0, 16, .ro, fun _ => 0x1F3A, .never, []⟩, ⟨16, 16, .ro, fun _ => 0x6424, .never, []⟩], .plain⟩
def DEV_IDCODE_IDCODE : Fld := ⟨0xC0, 32, 0x264249CB⟩
def row_DEV_IDCODE : RegRow := ⟨"DEV_IDCODE", 0x18, [], 1,
  [⟨0, 32, .ro, fun _ => 0x264249CB, .never, []⟩], .plain⟩
/-- The registers of this block. -/
def rowsDev : List RegRow :=
  [row_DEV_ID, row_DEV_REV, row_DEV_SERIAL, row_DEV_CAPPTR, row_DEV_PCIID, row_DEV_IDCODE]

end Sys2Proof.Machine
end

