-- ==== Sys2Proof/Machine/RegsEvent.lean ====
section
/-! DEFINITION. The register fields of the event recorder (spec/17, R475): for each field of the spec's register table its home in the
register store (`<REGISTER>_<FIELD>`, a function of the instance numbers), for each register its row of the map (offset,
instances, fields with bits, access code, reset value and reset class, reserved values), and for each unit the fields its
function reset clears. -/

namespace Sys2Proof.Machine

def EVR_STAT_LOGFAIL : Fld := ⟨0x180000, 1, 0x0⟩
def EVR_STAT_INHIB : Fld := ⟨0x180001, 1, 0x0⟩
def EVR_STAT_CTRBAD : Fld := ⟨0x180002, 1, 0x0⟩
def EVR_STAT_LOSS : Fld := ⟨0x180003, 1, 0x0⟩
def EVR_STAT_REFUSED : Fld := ⟨0x180004, 1, 0x0⟩
def EVR_STAT_DIRTY : Fld := ⟨0x180005, 1, 0x0⟩
def EVR_STAT_FBCNT : Fld := ⟨0x180008, 5, 0x0⟩
def row_EVR_STAT : RegRow := ⟨"EVR_STAT", 0x30000, [], 1,
  [⟨0, 1, .ro, fun _ => 0x0, .never, []⟩, ⟨1, 1, .ro, fun _ => 0x0, .warm, []⟩, ⟨2, 1, .w1c, fun _ => 0x0, .warm, []⟩, ⟨3, 1, .w1c, fun _ => 0x0, .warm, []⟩, ⟨4, 1, .w1c, fun _ => 0x0, .warm, []⟩, ⟨5, 1, .ro, fun _ => 0x0, .never, []⟩, ⟨8, 5, .ro, fun _ => 0x0, .por, []⟩], .evr .stat⟩
def EVR_CFG_EVTFB : Fld := ⟨0x180020, 1, 0x0⟩
def row_EVR_CFG : RegRow := ⟨"EVR_CFG", 0x30004, [], 1,
  [⟨0, 1, .rw, fun _ => 0x0, .warm, []⟩], .plain⟩
def EVR_CTRL_CLEAR : Fld := ⟨0x180040, 1, 0x0⟩
def EVR_CTRL_RETEST : Fld := ⟨0x180041, 1, 0x0⟩
def EVR_CTRL_KEY : Fld := ⟨0x180058, 8, 0x0⟩
def row_EVR_CTRL : RegRow := ⟨"EVR_CTRL", 0x30008, [], 1,
  [⟨0, 1, .rwk, fun _ => 0x0, .never, []⟩, ⟨1, 1, .rwk, fun _ => 0x0, .never, []⟩, ⟨24, 8, .wo, fun _ => 0x0, .never, []⟩], .evr .ctrl⟩
def EVR_WIDX_WIDX : Fld := ⟨0x180080, 17, 0x0⟩
def row_EVR_WIDX : RegRow := ⟨"EVR_WIDX", 0x30010, [], 1,
  [⟨0, 17, .ro, fun _ => 0x0, .never, []⟩], .evr .wIdx⟩
def EVR_OLDEST_OLDEST : Fld := ⟨0x1800A0, 17, 0x0⟩
def row_EVR_OLDEST : RegRow := ⟨"EVR_OLDEST", 0x30014, [], 1,
  [⟨0, 17, .ro, fun _ => 0x0, .never, []⟩], .evr .oldest⟩
def EVR_COUNT_COUNT : Fld := ⟨0x1800C0, 18, 0x0⟩
def row_EVR_COUNT : RegRow := ⟨"EVR_COUNT", 0x30018, [], 1,
  [⟨0, 18, .ro, fun _ => 0x0, .never, []⟩], .evr .count⟩
def EVR_OPSEC_OPSEC : Fld := ⟨0x1800E0, 32, 0x0⟩
def row_EVR_OPSEC : RegRow := ⟨"EVR_OPSEC", 0x3001C, [], 1,
  [⟨0, 32, .ro, fun _ => 0x0, .never, []⟩], .evr .opsec⟩
def EVR_PWRCYC_PWRCYC : Fld := ⟨0x180100, 32, 0x0⟩
def row_EVR_PWRCYC : RegRow := ⟨"EVR_PWRCYC", 0x30020, [], 1,
  [⟨0, 32, .ro, fun _ => 0x0, .never, []⟩], .evr .pwrCyc⟩
def EVR_BADCNT_BAD : Fld := ⟨0x180120, 11, 0x0⟩
def row_EVR_BADCNT : RegRow := ⟨"EVR_BADCNT", 0x30024, [], 1,
  [⟨0, 11, .ro, fun _ => 0x0, .never, []⟩], .evr .badCnt⟩
def EVR_FIFO_DEPTH : Fld := ⟨0x180140, 9, 0x0⟩
def EVR_FIFO_HWM : Fld := ⟨0x180150, 9, 0x0⟩
def row_EVR_FIFO : RegRow := ⟨"EVR_FIFO", 0x30028, [], 1,
  [⟨0, 9, .ro, fun _ => 0x0, .never, []⟩, ⟨16, 9, .rc, fun _ => 0x0, .fn, []⟩], .evr .fifo⟩
def EVR_LOST_CNT : Fld := ⟨0x180180, 64, 0x0⟩
def row_EVR_LOST : RegRow := ⟨"EVR_LOST", 0x30030, [], 2,
  [⟨0, 64, .ro, fun _ => 0x0, .fn, []⟩], .plain⟩
def EVR_ACCEPT_CNT : Fld := ⟨0x1801C0, 64, 0x0⟩
def row_EVR_ACCEPT : RegRow := ⟨"EVR_ACCEPT", 0x30038, [], 2,
  [⟨0, 64, .ro, fun _ => 0x0, .fn, []⟩], .plain⟩
def EVR_CTRFIX_FIX : Fld := ⟨0x180200, 16, 0x0⟩
def row_EVR_CTRFIX : RegRow := ⟨"EVR_CTRFIX", 0x30040, [], 1,
  [⟨0, 16, .ro, fun _ => 0x0, .warm, []⟩], .plain⟩
def EVR_WIN_SEC : Fld := ⟨0x180280, 10, 0x0⟩
def row_EVR_WIN : RegRow := ⟨"EVR_WIN", 0x30050, [], 1,
  [⟨0, 10, .rw, fun _ => 0x0, .warm, []⟩], .plain⟩
def EVR_INJECT_EVT : Fld := ⟨0x180300, 4, 0x0⟩
def row_EVR_INJECT : RegRow := ⟨"EVR_INJECT", 0x30060, [], 1,
  [⟨0, 4, .wo, fun _ => 0x0, .never, []⟩], .evr .inject⟩
def EVR_INJDATA_DETAIL : Fld := ⟨0x180320, 32, 0x0⟩
def row_EVR_INJDATA : RegRow := ⟨"EVR_INJDATA", 0x30064, [], 1,
  [⟨0, 32, .wo, fun _ => 0x0, .never, []⟩], .evr .injData⟩
def EVR_BADMAPi_BAD (i : Nat) : Fld := ⟨0x180800 + 0x20 * i, 32, 0x0⟩
def row_EVR_BADMAPi : RegRow := ⟨"EVR_BADMAPi", 0x30100, [(0x4, 32)], 1,
  [⟨0, 32, .ro, fun _ => 0x0, .never, []⟩], .evr .badMap⟩
def EVR_FBe_ENTRY (i : Nat) : Fld := ⟨0x184000 + 0x100 * i, 256, 0x0⟩
def row_EVR_FBe : RegRow := ⟨"EVR_FBe", 0x30800, [(0x20, 16)], 8,
  [⟨0, 256, .ro, fun _ => 0x0, .por, []⟩], .evr .fallback⟩
def EVR_WINDATA_DATA (i : Nat) : Fld := ⟨0x188000 + 0x20 * i, 32, 0x0⟩
def row_EVR_WINDATA : RegRow := ⟨"EVR_WINDATA", 0x31000, [(0x4, 1024)], 1,
  [⟨0, 32, .ro, fun _ => 0x0, .never, []⟩], .evr .winData⟩
/-- The FN fields of unit group EVR (column "Cleared by", R7). -/
def fnFields_EVR : List Fld :=
  [EVR_FIFO_HWM, EVR_LOST_CNT, EVR_ACCEPT_CNT]
/-- The registers of this block. -/
def rowsEvent : List RegRow :=
  [row_EVR_STAT, row_EVR_CFG, row_EVR_CTRL, row_EVR_WIDX, row_EVR_OLDEST, row_EVR_COUNT, row_EVR_OPSEC, row_EVR_PWRCYC, row_EVR_BADCNT, row_EVR_FIFO, row_EVR_LOST, row_EVR_ACCEPT, row_EVR_CTRFIX, row_EVR_WIN, row_EVR_INJECT, row_EVR_INJDATA, row_EVR_BADMAPi, row_EVR_FBe, row_EVR_WINDATA]

end Sys2Proof.Machine
end

