-- ==== Sys2Proof/Machine/RegsFabric.lean ====
section
/-! DEFINITION. The register fields of the fabric, redundancy, key slots and express rules (spec/04, R119): for each field of the spec's register table its home in the
register store (`<REGISTER>_<FIELD>`, a function of the instance numbers), for each register its row of the map (offset,
instances, fields with bits, access code, reset value and reset class, reserved values), and for each unit the fields its
function reset clears. -/

namespace Sys2Proof.Machine

def FAB_CTRL_EN : Fld := ⟨0x1000000, 1, 0x0⟩
def FAB_CTRL_CTEN : Fld := ⟨0x1000001, 1, 0x1⟩
def row_FAB_CTRL : RegRow := ⟨"FAB_CTRL", 0x200000, [], 1,
  [⟨0, 1, .rw, fun _ => 0x0, .warm, []⟩, ⟨1, 1, .rw, fun _ => 0x1, .warm, []⟩], .plain⟩
def FAB_STAT_REFUSED : Fld := ⟨0x1000020, 1, 0x0⟩
def FAB_STAT_LEARNFULL : Fld := ⟨0x1000021, 1, 0x0⟩
def FAB_STAT_NOBUF : Fld := ⟨0x1000022, 1, 0x0⟩
def row_FAB_STAT : RegRow := ⟨"FAB_STAT", 0x200004, [], 1,
  [⟨0, 1, .w1c, fun _ => 0x0, .fn, []⟩, ⟨1, 1, .w1c, fun _ => 0x0, .fn, []⟩, ⟨2, 1, .w1c, fun _ => 0x0, .fn, []⟩], .plain⟩
def FAB_AGE_AGE : Fld := ⟨0x1000040, 20, 0x12C⟩
def row_FAB_AGE : RegRow := ⟨"FAB_AGE", 0x200008, [], 1,
  [⟨0, 20, .rw, fun _ => 0x12C, .warm, []⟩], .plain⟩
def FAB_BUF_RESV : Fld := ⟨0x1000060, 15, 0x400⟩
def FAB_BUF_FREE : Fld := ⟨0x1000070, 16, 0x8000⟩
def row_FAB_BUF : RegRow := ⟨"FAB_BUF", 0x20000C, [], 1,
  [⟨0, 15, .rw, fun _ => 0x400, .warm, []⟩, ⟨16, 16, .ro, fun _ => 0x8000, .fn, []⟩], .fab .buf⟩
def FAB_ETYPE_SV : Fld := ⟨0x1000080, 16, 0x88BA⟩
def row_FAB_ETYPE : RegRow := ⟨"FAB_ETYPE", 0x200010, [], 1,
  [⟨0, 16, .rw, fun _ => 0x88BA, .warm, []⟩], .plain⟩
def FAB_AUTHCFG_UNSYNCOK : Fld := ⟨0x10000A0, 1, 0x1⟩
def row_FAB_AUTHCFG : RegRow := ⟨"FAB_AUTHCFG", 0x200014, [], 1,
  [⟨0, 1, .rw, fun _ => 0x1, .warm, []⟩], .plain⟩
def FAB_LEARNMISS_CNT : Fld := ⟨0x10000C0, 64, 0x0⟩
def row_FAB_LEARNMISS : RegRow := ⟨"FAB_LEARNMISS", 0x200018, [], 2,
  [⟨0, 64, .ro, fun _ => 0x0, .fn, []⟩], .plain⟩
def FAB_CONSREF_CNT (i : Nat) : Fld := ⟨0x1000100 + 0x40 * i, 64, 0x0⟩
def row_FAB_CONSREF : RegRow := ⟨"FAB_CONSREF", 0x200020, [(0x8, 25)], 2,
  [⟨0, 64, .ro, fun _ => 0x0, .fn, []⟩], .plain⟩
def FAB_PCFG_PVID (i : Nat) : Fld := ⟨0x1008000 + 0x200 * i, 12, 0x1⟩
def FAB_PCFG_DEFPRI (i : Nat) : Fld := ⟨0x100800C + 0x200 * i, 3, 0x0⟩
def FAB_PCFG_PSTATE (i : Nat) : Fld := ⟨0x100800F + 0x200 * i, 2, 0x0⟩
def FAB_PCFG_LEARN (i : Nat) : Fld := ⟨0x1008011 + 0x200 * i, 1, 0x1⟩
def FAB_PCFG_INGFILT (i : Nat) : Fld := ⟨0x1008012 + 0x200 * i, 1, 0x1⟩
def FAB_PCFG_ACCEPT (i : Nat) : Fld := ⟨0x1008013 + 0x200 * i, 2, 0x0⟩
def FAB_PCFG_CTIN (i : Nat) : Fld := ⟨0x1008015 + 0x200 * i, 1, 0x1⟩
def FAB_PCFG_CTOUT (i : Nat) : Fld := ⟨0x1008016 + 0x200 * i, 1, 0x1⟩
def FAB_PCFG_AUTHEN (i : Nat) : Fld := ⟨0x1008017 + 0x200 * i, 1, 0x0⟩
def row_FAB_PCFG : RegRow := ⟨"FAB_PCFG", 0x201000, [(0x40, 22)], 1,
  [⟨0, 12, .rw, fun _ => 0x1, .warm, []⟩, ⟨12, 3, .rw, fun _ => 0x0, .warm, []⟩, ⟨15, 2, .rw, fun _ => 0x0, .warm, [(0, 2)]⟩, ⟨17, 1, .rw, fun _ => 0x1, .warm, []⟩, ⟨18, 1, .rw, fun _ => 0x1, .warm, []⟩, ⟨19, 2, .rw, fun _ => 0x0, .warm, [(0, 2)]⟩, ⟨21, 1, .rw, fun _ => 0x1, .warm, []⟩, ⟨22, 1, .rw, fun _ => 0x1, .warm, []⟩, ⟨23, 1, .rw, fun _ => 0x0, .warm, []⟩], .plain⟩
def FAB_PCP2TC_MAP (i : Nat) : Fld := ⟨0x1008020 + 0x200 * i, 24, 0xFAC688⟩
def row_FAB_PCP2TC : RegRow := ⟨"FAB_PCP2TC", 0x201004, [(0x40, 22)], 1,
  [⟨0, 24, .rw, fun _ => 0xFAC688, .warm, []⟩], .plain⟩
def FAB_ADM_LIMIT (i : Nat) : Fld := ⟨0x1008040 + 0x200 * i, 16, 0x800⟩
def FAB_ADM_XOFF (i : Nat) : Fld := ⟨0x1008050 + 0x200 * i, 16, 0x400⟩
def row_FAB_ADM : RegRow := ⟨"FAB_ADM", 0x201008, [(0x40, 22)], 1,
  [⟨0, 16, .rw, fun _ => 0x800, .warm, []⟩, ⟨16, 16, .rw, fun _ => 0x400, .warm, []⟩], .plain⟩
def FAB_ADM2_XON (i : Nat) : Fld := ⟨0x1008060 + 0x200 * i, 16, 0x300⟩
def row_FAB_ADM2 : RegRow := ⟨"FAB_ADM2", 0x20100C, [(0x40, 22)], 1,
  [⟨0, 16, .rw, fun _ => 0x300, .warm, []⟩], .plain⟩
def FAB_PDEF_DEPQ (i : Nat) : Fld := ⟨0x1008080 + 0x200 * i, 4, 0x0⟩
def FAB_PDEF_DEPEN (i : Nat) : Fld := ⟨0x1008084 + 0x200 * i, 1, 0x0⟩
def FAB_PDEF_DMA (i : Nat) : Fld := ⟨0x1008085 + 0x200 * i, 3, 0x0⟩
def FAB_PDEF_DMAEN (i : Nat) : Fld := ⟨0x1008088 + 0x200 * i, 1, 0x0⟩
def row_FAB_PDEF : RegRow := ⟨"FAB_PDEF", 0x201010, [(0x40, 22)], 1,
  [⟨0, 4, .rw, fun _ => 0x0, .warm, []⟩, ⟨4, 1, .rw, fun _ => 0x0, .warm, []⟩, ⟨5, 3, .rw, fun _ => 0x0, .warm, []⟩, ⟨8, 1, .rw, fun _ => 0x0, .warm, []⟩], .plain⟩
def FAB_TBLCMD_TABLE : Fld := ⟨0x1010000, 3, 0x0⟩
def FAB_TBLCMD_OP : Fld := ⟨0x1010003, 2, 0x0⟩
def FAB_TBLCMD_INDEX : Fld := ⟨0x1010008, 16, 0x0⟩
def FAB_TBLCMD_BUSY : Fld := ⟨0x101001F, 1, 0x0⟩
def row_FAB_TBLCMD : RegRow := ⟨"FAB_TBLCMD", 0x202000, [], 1,
  [⟨0, 3, .rw, fun _ => 0x0, .warm, [(0, 4)]⟩, ⟨3, 2, .rw, fun _ => 0x0, .warm, []⟩, ⟨8, 16, .rw, fun _ => 0x0, .warm, []⟩, ⟨31, 1, .ro, fun _ => 0x0, .fn, []⟩], .fab .tblCmd⟩
def FAB_TBLDATAw_CNT (i : Nat) : Fld := ⟨0x1010080 + 0x20 * i, 32, 0x0⟩
def row_FAB_TBLDATAw : RegRow := ⟨"FAB_TBLDATAw", 0x202010, [(0x4, 4)], 1,
  [⟨0, 32, .rw, fun _ => 0x0, .warm, []⟩], .plain⟩
def CL_CFG_EN (i : Nat) : Fld := ⟨0x1080000 + 0x200 * i, 1, 0x0⟩
def CL_CFG_AUTHREQ (i : Nat) : Fld := ⟨0x1080001 + 0x200 * i, 1, 0x0⟩
def CL_CFG_AUTHFWD (i : Nat) : Fld := ⟨0x1080002 + 0x200 * i, 1, 0x0⟩
def CL_CFG_DUPKEEP (i : Nat) : Fld := ⟨0x1080003 + 0x200 * i, 1, 0x0⟩
def CL_CFG_FWD (i : Nat) : Fld := ⟨0x1080004 + 0x200 * i, 2, 0x0⟩
def CL_CFG_TCEN (i : Nat) : Fld := ⟨0x1080006 + 0x200 * i, 1, 0x0⟩
def CL_CFG_TC (i : Nat) : Fld := ⟨0x1080007 + 0x200 * i, 3, 0x0⟩
def CL_CFG_DEPQ (i : Nat) : Fld := ⟨0x108000A + 0x200 * i, 4, 0x0⟩
def CL_CFG_DEPEN (i : Nat) : Fld := ⟨0x108000E + 0x200 * i, 1, 0x0⟩
def CL_CFG_DMA (i : Nat) : Fld := ⟨0x108000F + 0x200 * i, 3, 0x0⟩
def CL_CFG_DMAEN (i : Nat) : Fld := ⟨0x1080012 + 0x200 * i, 1, 0x0⟩
def CL_CFG_CTMAX (i : Nat) : Fld := ⟨0x1080014 + 0x200 * i, 12, 0x0⟩
def row_CL_CFG : RegRow := ⟨"CL_CFG", 0x210000, [(0x40, 256)], 1,
  [⟨0, 1, .rwl, fun _ => 0x0, .warm, []⟩, ⟨1, 1, .rwl, fun _ => 0x0, .warm, []⟩, ⟨2, 1, .rwl, fun _ => 0x0, .warm, []⟩, ⟨3, 1, .rwl, fun _ => 0x0, .warm, []⟩, ⟨4, 2, .rwl, fun _ => 0x0, .warm, [(0, 2)]⟩, ⟨6, 1, .rwl, fun _ => 0x0, .warm, []⟩, ⟨7, 3, .rwl, fun _ => 0x0, .warm, []⟩, ⟨10, 4, .rwl, fun _ => 0x0, .warm, []⟩, ⟨14, 1, .rwl, fun _ => 0x0, .warm, []⟩, ⟨15, 3, .rwl, fun _ => 0x0, .warm, []⟩, ⟨18, 1, .rwl, fun _ => 0x0, .warm, []⟩, ⟨20, 12, .rwl, fun _ => 0x0, .warm, []⟩], .plain⟩
def CL_PORTS_PORTS (i : Nat) : Fld := ⟨0x1080020 + 0x200 * i, 22, 0x0⟩
def row_CL_PORTS : RegRow := ⟨"CL_PORTS", 0x210004, [(0x40, 256)], 1,
  [⟨0, 22, .rwl, fun _ => 0x0, .warm, []⟩], .fab .clRule⟩
def CL_FWDPORTS_FWDPORTS (i : Nat) : Fld := ⟨0x1080040 + 0x200 * i, 22, 0x0⟩
def row_CL_FWDPORTS : RegRow := ⟨"CL_FWDPORTS", 0x210008, [(0x40, 256)], 1,
  [⟨0, 22, .rwl, fun _ => 0x0, .warm, []⟩], .fab .clRule⟩
def CL_DMAC_L_DMAC (i : Nat) : Fld := ⟨0x1080060 + 0x200 * i, 32, 0x0⟩
def row_CL_DMAC_L : RegRow := ⟨"CL_DMAC_L", 0x21000C, [(0x40, 256)], 1,
  [⟨0, 32, .rwl, fun _ => 0x0, .warm, []⟩], .fab .clRule⟩
def CL_DMAC_H_DMAC (i : Nat) : Fld := ⟨0x1080080 + 0x200 * i, 16, 0x0⟩
def row_CL_DMAC_H : RegRow := ⟨"CL_DMAC_H", 0x210010, [(0x40, 256)], 1,
  [⟨0, 16, .rwl, fun _ => 0x0, .warm, []⟩], .fab .clRule⟩
def CL_DMASK_L_DMASK (i : Nat) : Fld := ⟨0x10800A0 + 0x200 * i, 32, 0x0⟩
def row_CL_DMASK_L : RegRow := ⟨"CL_DMASK_L", 0x210014, [(0x40, 256)], 1,
  [⟨0, 32, .rwl, fun _ => 0x0, .warm, []⟩], .fab .clRule⟩
def CL_DMASK_H_DMASK (i : Nat) : Fld := ⟨0x10800C0 + 0x200 * i, 16, 0x0⟩
def row_CL_DMASK_H : RegRow := ⟨"CL_DMASK_H", 0x210018, [(0x40, 256)], 1,
  [⟨0, 16, .rwl, fun _ => 0x0, .warm, []⟩], .fab .clRule⟩
def CL_ETYPE_VALUE (i : Nat) : Fld := ⟨0x10800E0 + 0x200 * i, 16, 0x0⟩
def CL_ETYPE_MASK (i : Nat) : Fld := ⟨0x10800F0 + 0x200 * i, 16, 0x0⟩
def row_CL_ETYPE : RegRow := ⟨"CL_ETYPE", 0x21001C, [(0x40, 256)], 1,
  [⟨0, 16, .rwl, fun _ => 0x0, .warm, []⟩, ⟨16, 16, .rwl, fun _ => 0x0, .warm, []⟩], .fab .clRule⟩
def CL_VLAN_VID (i : Nat) : Fld := ⟨0x1080100 + 0x200 * i, 12, 0x0⟩
def CL_VLAN_VIDEN (i : Nat) : Fld := ⟨0x108010C + 0x200 * i, 1, 0x0⟩
def CL_VLAN_PCP (i : Nat) : Fld := ⟨0x108010D + 0x200 * i, 3, 0x0⟩
def CL_VLAN_PCPEN (i : Nat) : Fld := ⟨0x1080110 + 0x200 * i, 1, 0x0⟩
def row_CL_VLAN : RegRow := ⟨"CL_VLAN", 0x210020, [(0x40, 256)], 1,
  [⟨0, 12, .rwl, fun _ => 0x0, .warm, []⟩, ⟨12, 1, .rwl, fun _ => 0x0, .warm, []⟩, ⟨13, 3, .rwl, fun _ => 0x0, .warm, []⟩, ⟨16, 1, .rwl, fun _ => 0x0, .warm, []⟩], .fab .clRule⟩
def CL_WORD_OFF (i : Nat) : Fld := ⟨0x1080120 + 0x200 * i, 6, 0x0⟩
def row_CL_WORD : RegRow := ⟨"CL_WORD", 0x210024, [(0x40, 256)], 1,
  [⟨0, 6, .rwl, fun _ => 0x0, .warm, []⟩], .fab .clRule⟩
def CL_WVAL_WVAL (i : Nat) : Fld := ⟨0x1080140 + 0x200 * i, 32, 0x0⟩
def row_CL_WVAL : RegRow := ⟨"CL_WVAL", 0x210028, [(0x40, 256)], 1,
  [⟨0, 32, .rwl, fun _ => 0x0, .warm, []⟩], .fab .clRule⟩
def CL_WMASK_WMASK (i : Nat) : Fld := ⟨0x1080160 + 0x200 * i, 32, 0x0⟩
def row_CL_WMASK : RegRow := ⟨"CL_WMASK", 0x21002C, [(0x40, 256)], 1,
  [⟨0, 32, .rwl, fun _ => 0x0, .warm, []⟩], .fab .clRule⟩
def CL_HITS_HITS (i : Nat) : Fld := ⟨0x1080180 + 0x200 * i, 32, 0x0⟩
def row_CL_HITS : RegRow := ⟨"CL_HITS", 0x210030, [(0x40, 256)], 1,
  [⟨0, 32, .ro, fun _ => 0x0, .fn, []⟩], .fab .clRule⟩
def RED_CFG_ROLE (i : Nat) : Fld := ⟨0x1100000 + 0x800 * i, 3, 0x0⟩
def RED_CFG_PORTA (i : Nat) : Fld := ⟨0x1100003 + 0x800 * i, 5, 0x0⟩
def RED_CFG_PORTB (i : Nat) : Fld := ⟨0x1100008 + 0x800 * i, 5, 0x0⟩
def RED_CFG_PORTC (i : Nat) : Fld := ⟨0x110000D + 0x800 * i, 5, 0x0⟩
def RED_CFG_PORTD (i : Nat) : Fld := ⟨0x1100012 + 0x800 * i, 5, 0x0⟩
def RED_CFG_HSRMODE (i : Nat) : Fld := ⟨0x1100017 + 0x800 * i, 2, 0x0⟩
def row_RED_CFG : RegRow := ⟨"RED_CFG", 0x220000, [(0x100, 4)], 1,
  [⟨0, 3, .rw, fun _ => 0x0, .warm, [(0, 5)]⟩, ⟨3, 5, .rw, fun _ => 0x0, .warm, []⟩, ⟨8, 5, .rw, fun _ => 0x0, .warm, []⟩, ⟨13, 5, .rw, fun _ => 0x0, .warm, []⟩, ⟨18, 5, .rw, fun _ => 0x0, .warm, []⟩, ⟨23, 2, .rw, fun _ => 0x0, .warm, [(0, 1)]⟩], .fab .redCfg⟩
def RED_FORGET_FORGET (i : Nat) : Fld := ⟨0x1100020 + 0x800 * i, 16, 0x190⟩
def row_RED_FORGET : RegRow := ⟨"RED_FORGET", 0x220004, [(0x100, 4)], 1,
  [⟨0, 16, .rw, fun _ => 0x190, .warm, [(1, 65535)]⟩], .plain⟩
def RED_SUP_SUPLAST (i : Nat) : Fld := ⟨0x1100040 + 0x800 * i, 8, 0x0⟩
def RED_SUP_SUPDEPQ (i : Nat) : Fld := ⟨0x1100048 + 0x800 * i, 4, 0x0⟩
def RED_SUP_SUPDEPEN (i : Nat) : Fld := ⟨0x110004C + 0x800 * i, 1, 0x0⟩
def row_RED_SUP : RegRow := ⟨"RED_SUP", 0x220008, [(0x100, 4)], 1,
  [⟨0, 8, .rw, fun _ => 0x0, .warm, []⟩, ⟨8, 4, .rw, fun _ => 0x0, .warm, []⟩, ⟨12, 1, .rw, fun _ => 0x0, .warm, []⟩], .plain⟩
def RED_SEQ_SEQ (i : Nat) : Fld := ⟨0x1100060 + 0x800 * i, 16, 0x0⟩
def row_RED_SEQ : RegRow := ⟨"RED_SEQ", 0x22000C, [(0x100, 4)], 1,
  [⟨0, 16, .ro, fun _ => 0x0, .warm, []⟩], .plain⟩
def RED_RXA_CNT (i : Nat) : Fld := ⟨0x1100200 + 0x800 * i, 64, 0x0⟩
def row_RED_RXA : RegRow := ⟨"RED_RXA", 0x220040, [(0x100, 4)], 2,
  [⟨0, 64, .ro, fun _ => 0x0, .fn, []⟩], .plain⟩
def RED_RXB_CNT (i : Nat) : Fld := ⟨0x1100240 + 0x800 * i, 64, 0x0⟩
def row_RED_RXB : RegRow := ⟨"RED_RXB", 0x220048, [(0x100, 4)], 2,
  [⟨0, 64, .ro, fun _ => 0x0, .fn, []⟩], .plain⟩
def RED_WRONGLAN_A_CNT (i : Nat) : Fld := ⟨0x1100280 + 0x800 * i, 64, 0x0⟩
def row_RED_WRONGLAN_A : RegRow := ⟨"RED_WRONGLAN_A", 0x220050, [(0x100, 4)], 2,
  [⟨0, 64, .ro, fun _ => 0x0, .fn, []⟩], .plain⟩
def RED_WRONGLAN_B_CNT (i : Nat) : Fld := ⟨0x11002C0 + 0x800 * i, 64, 0x0⟩
def row_RED_WRONGLAN_B : RegRow := ⟨"RED_WRONGLAN_B", 0x220058, [(0x100, 4)], 2,
  [⟨0, 64, .ro, fun _ => 0x0, .fn, []⟩], .plain⟩
def RED_OOW_CNT (i : Nat) : Fld := ⟨0x1100300 + 0x800 * i, 64, 0x0⟩
def row_RED_OOW : RegRow := ⟨"RED_OOW", 0x220060, [(0x100, 4)], 2,
  [⟨0, 64, .ro, fun _ => 0x0, .fn, []⟩], .plain⟩
def RED_NODEFULL_CNT (i : Nat) : Fld := ⟨0x1100340 + 0x800 * i, 64, 0x0⟩
def row_RED_NODEFULL : RegRow := ⟨"RED_NODEFULL", 0x220068, [(0x100, 4)], 2,
  [⟨0, 64, .ro, fun _ => 0x0, .fn, []⟩], .plain⟩
def RED_NORCT_CNT (i : Nat) : Fld := ⟨0x1100380 + 0x800 * i, 64, 0x0⟩
def row_RED_NORCT : RegRow := ⟨"RED_NORCT", 0x220070, [(0x100, 4)], 2,
  [⟨0, 64, .ro, fun _ => 0x0, .fn, []⟩], .plain⟩
def RED_OWNRET_CNT (i : Nat) : Fld := ⟨0x11003C0 + 0x800 * i, 64, 0x0⟩
def row_RED_OWNRET : RegRow := ⟨"RED_OWNRET", 0x220078, [(0x100, 4)], 2,
  [⟨0, 64, .ro, fun _ => 0x0, .fn, []⟩], .plain⟩
def KS_CFG_ALG (i : Nat) : Fld := ⟨0x1180000 + 0x200 * i, 2, 0x0⟩
def KS_CFG_TAGLEN (i : Nat) : Fld := ⟨0x1180002 + 0x200 * i, 2, 0x0⟩
def row_KS_CFG : RegRow := ⟨"KS_CFG", 0x230000, [(0x40, 256)], 1,
  [⟨0, 2, .rwl, fun _ => 0x0, .warm, [(0, 2)]⟩, ⟨2, 2, .rwl, fun _ => 0x0, .warm, [(0, 2)]⟩], .plain⟩
def KS_KEYID_KEYID (i : Nat) : Fld := ⟨0x1180020 + 0x200 * i, 32, 0x0⟩
def row_KS_KEYID : RegRow := ⟨"KS_KEYID", 0x230004, [(0x40, 256)], 1,
  [⟨0, 32, .rwl, fun _ => 0x0, .warm, []⟩], .plain⟩
def KS_PORTS_PORTS (i : Nat) : Fld := ⟨0x1180040 + 0x200 * i, 22, 0x0⟩
def row_KS_PORTS : RegRow := ⟨"KS_PORTS", 0x230008, [(0x40, 256)], 1,
  [⟨0, 22, .rwl, fun _ => 0x0, .warm, []⟩], .plain⟩
def KS_VFROM_VFROM (i : Nat) : Fld := ⟨0x1180060 + 0x200 * i, 48, 0x0⟩
def row_KS_VFROM : RegRow := ⟨"KS_VFROM", 0x23000C, [(0x40, 256)], 2,
  [⟨0, 48, .rwl, fun _ => 0x0, .warm, []⟩], .plain⟩
def KS_VUNTIL_VUNTIL (i : Nat) : Fld := ⟨0x11800A0 + 0x200 * i, 48, 0x0⟩
def row_KS_VUNTIL : RegRow := ⟨"KS_VUNTIL", 0x230014, [(0x40, 256)], 2,
  [⟨0, 48, .rwl, fun _ => 0x0, .warm, []⟩], .plain⟩
def KS_STAT_LOADED (i : Nat) : Fld := ⟨0x11800E0 + 0x200 * i, 1, 0x0⟩
def KS_STAT_FAILCNT (i : Nat) : Fld := ⟨0x11800F0 + 0x200 * i, 16, 0x0⟩
def row_KS_STAT : RegRow := ⟨"KS_STAT", 0x23001C, [(0x40, 256)], 1,
  [⟨0, 1, .ro, fun _ => 0x0, .warm, []⟩, ⟨16, 16, .ro, fun _ => 0x0, .fn, []⟩], .fab .ksStat⟩
def KS_KEY_KEY (i : Nat) : Fld := ⟨0x1180100 + 0x200 * i, 256, 0x0⟩
def row_KS_KEY : RegRow := ⟨"KS_KEY", 0x230020, [(0x40, 256)], 8,
  [⟨0, 256, .wo, fun _ => 0x0, .warm, []⟩], .fab .ksKey⟩
def XR_CFG_EN (i : Nat) : Fld := ⟨0x1200000 + 0x400 * i, 1, 0x0⟩
def XR_CFG_NSO (i : Nat) : Fld := ⟨0x1200001 + 0x400 * i, 1, 0x0⟩
def XR_CFG_AUTHREQ (i : Nat) : Fld := ⟨0x1200002 + 0x400 * i, 1, 0x0⟩
def XR_CFG_SIMPOL (i : Nat) : Fld := ⟨0x1200003 + 0x400 * i, 2, 0x0⟩
def XR_CFG_TESTPOL (i : Nat) : Fld := ⟨0x1200005 + 0x400 * i, 2, 0x0⟩
def XR_CFG_QVAL (i : Nat) : Fld := ⟨0x1200007 + 0x400 * i, 1, 0x0⟩
def XR_CFG_QIDX (i : Nat) : Fld := ⟨0x1200008 + 0x400 * i, 7, 0x0⟩
def XR_CFG_CREVEN (i : Nat) : Fld := ⟨0x120000F + 0x400 * i, 1, 0x0⟩
def XR_CFG_GOCBEN (i : Nat) : Fld := ⟨0x1200010 + 0x400 * i, 1, 0x0⟩
def XR_CFG_DMACEN (i : Nat) : Fld := ⟨0x1200011 + 0x400 * i, 1, 0x0⟩
def row_XR_CFG : RegRow := ⟨"XR_CFG", 0x240000, [(0x80, 64)], 1,
  [⟨0, 1, .rwl, fun _ => 0x0, .warm, []⟩, ⟨1, 1, .rwl, fun _ => 0x0, .warm, []⟩, ⟨2, 1, .rwl, fun _ => 0x0, .warm, []⟩, ⟨3, 2, .rwl, fun _ => 0x0, .warm, [(0, 2)]⟩, ⟨5, 2, .rwl, fun _ => 0x0, .warm, [(0, 2)]⟩, ⟨7, 1, .rwl, fun _ => 0x0, .warm, []⟩, ⟨8, 7, .rwl, fun _ => 0x0, .warm, [(0, 64)]⟩, ⟨15, 1, .rwl, fun _ => 0x0, .warm, []⟩, ⟨16, 1, .rwl, fun _ => 0x0, .warm, []⟩, ⟨17, 1, .rwl, fun _ => 0x0, .warm, []⟩], .plain⟩
def XR_PORTS_PORTS (i : Nat) : Fld := ⟨0x1200020 + 0x400 * i, 22, 0x0⟩
def row_XR_PORTS : RegRow := ⟨"XR_PORTS", 0x240004, [(0x80, 64)], 1,
  [⟨0, 22, .rwl, fun _ => 0x0, .warm, []⟩], .fab .xrRule⟩
def XR_DMAC_L_DMAC (i : Nat) : Fld := ⟨0x1200040 + 0x400 * i, 32, 0x0⟩
def row_XR_DMAC_L : RegRow := ⟨"XR_DMAC_L", 0x240008, [(0x80, 64)], 1,
  [⟨0, 32, .rwl, fun _ => 0x0, .warm, []⟩], .fab .xrRule⟩
def XR_DMAC_H_DMAC (i : Nat) : Fld := ⟨0x1200060 + 0x400 * i, 16, 0x0⟩
def row_XR_DMAC_H : RegRow := ⟨"XR_DMAC_H", 0x24000C, [(0x80, 64)], 1,
  [⟨0, 16, .rwl, fun _ => 0x0, .warm, []⟩], .fab .xrRule⟩
def XR_APPID_APPID (i : Nat) : Fld := ⟨0x1200080 + 0x400 * i, 16, 0x0⟩
def XR_APPID_ETYPE (i : Nat) : Fld := ⟨0x1200090 + 0x400 * i, 16, 0x88B8⟩
def row_XR_APPID : RegRow := ⟨"XR_APPID", 0x240010, [(0x80, 64)], 1,
  [⟨0, 16, .rwl, fun _ => 0x0, .warm, []⟩, ⟨16, 16, .rwl, fun _ => 0x88B8, .warm, []⟩], .fab .xrRule⟩
def XR_GOCB_GOCB (i : Nat) : Fld := ⟨0x12000A0 + 0x400 * i, 32, 0x0⟩
def row_XR_GOCB : RegRow := ⟨"XR_GOCB", 0x240014, [(0x80, 64)], 1,
  [⟨0, 32, .rwl, fun _ => 0x0, .warm, []⟩], .fab .xrRule⟩
def XR_CONFREV_CONFREV (i : Nat) : Fld := ⟨0x12000C0 + 0x400 * i, 32, 0x0⟩
def row_XR_CONFREV : RegRow := ⟨"XR_CONFREV", 0x240018, [(0x80, 64)], 1,
  [⟨0, 32, .rwl, fun _ => 0x0, .warm, []⟩], .fab .xrRule⟩
def XR_CONDj_IDX (i j : Nat) : Fld := ⟨0x1200100 + 0x400 * i + 0x80 * j, 7, 0x0⟩
def XR_CONDj_TAG (i j : Nat) : Fld := ⟨0x1200108 + 0x400 * i + 0x80 * j, 8, 0x0⟩
def XR_CONDj_OP (i j : Nat) : Fld := ⟨0x1200110 + 0x400 * i + 0x80 * j, 2, 0x0⟩
def row_XR_CONDj : RegRow := ⟨"XR_CONDj", 0x240020, [(0x80, 64), (0x10, 4)], 1,
  [⟨0, 7, .rwl, fun _ => 0x0, .warm, [(0, 64)]⟩, ⟨8, 8, .rwl, fun _ => 0x0, .warm, []⟩, ⟨16, 2, .rwl, fun _ => 0x0, .warm, []⟩], .fab .xrRule⟩
def XR_CONDM_MASK (i j : Nat) : Fld := ⟨0x1200120 + 0x400 * i + 0x80 * j, 32, 0x0⟩
def row_XR_CONDM : RegRow := ⟨"XR_CONDM", 0x240024, [(0x80, 64), (0x10, 4)], 1,
  [⟨0, 32, .rwl, fun _ => 0x0, .warm, []⟩], .fab .xrRule⟩
def XR_CONDV_VAL (i j : Nat) : Fld := ⟨0x1200140 + 0x400 * i + 0x80 * j, 32, 0x0⟩
def row_XR_CONDV : RegRow := ⟨"XR_CONDV", 0x240028, [(0x80, 64), (0x10, 4)], 1,
  [⟨0, 32, .rwl, fun _ => 0x0, .warm, []⟩], .fab .xrRule⟩
def XR_FIRECNT_FIRECNT (i : Nat) : Fld := ⟨0x1200300 + 0x400 * i, 32, 0x0⟩
def row_XR_FIRECNT : RegRow := ⟨"XR_FIRECNT", 0x240060, [(0x80, 64)], 1,
  [⟨0, 32, .ro, fun _ => 0x0, .fn, []⟩], .fab .xrRule⟩
def XR_MALF_MALF (i : Nat) : Fld := ⟨0x1200320 + 0x400 * i, 32, 0x0⟩
def row_XR_MALF : RegRow := ⟨"XR_MALF", 0x240064, [(0x80, 64)], 1,
  [⟨0, 32, .ro, fun _ => 0x0, .fn, []⟩], .fab .xrRule⟩
def XR_LASTSEL_PORT (i : Nat) : Fld := ⟨0x1200380 + 0x400 * i, 5, 0x0⟩
def row_XR_LASTSEL : RegRow := ⟨"XR_LASTSEL", 0x240070, [(0x80, 64)], 1,
  [⟨0, 5, .rw, fun _ => 0x0, .warm, []⟩], .plain⟩
def XR_LASTST_STNUM (i : Nat) : Fld := ⟨0x12003A0 + 0x400 * i, 32, 0x0⟩
def row_XR_LASTST : RegRow := ⟨"XR_LASTST", 0x240074, [(0x80, 64)], 1,
  [⟨0, 32, .ro, fun _ => 0x0, .fn, []⟩], .fab .xrLastSt⟩
def XR_LASTV_VALID (i : Nat) : Fld := ⟨0x12003C0 + 0x400 * i, 1, 0x0⟩
def row_XR_LASTV : RegRow := ⟨"XR_LASTV", 0x240078, [(0x80, 64)], 1,
  [⟨0, 1, .ro, fun _ => 0x0, .fn, []⟩], .fab .xrLastV⟩
def FAB_DROP_PSTATE_CNT (i : Nat) : Fld := ⟨0x1020000 + 0x800 * i, 64, 0x0⟩
def row_FAB_DROP_PSTATE : RegRow := ⟨"FAB_DROP_PSTATE", 0x204000, [(0x100, 22)], 2,
  [⟨0, 64, .ro, fun _ => 0x0, .fn, []⟩], .plain⟩
def FAB_DROP_VLAN_CNT (i : Nat) : Fld := ⟨0x1020040 + 0x800 * i, 64, 0x0⟩
def row_FAB_DROP_VLAN : RegRow := ⟨"FAB_DROP_VLAN", 0x204008, [(0x100, 22)], 2,
  [⟨0, 64, .ro, fun _ => 0x0, .fn, []⟩], .plain⟩
def FAB_DROP_RED_CNT (i : Nat) : Fld := ⟨0x1020080 + 0x800 * i, 64, 0x0⟩
def row_FAB_DROP_RED : RegRow := ⟨"FAB_DROP_RED", 0x204010, [(0x100, 22)], 2,
  [⟨0, 64, .ro, fun _ => 0x0, .fn, []⟩], .plain⟩
def FAB_DROP_DUP_CNT (i : Nat) : Fld := ⟨0x10200C0 + 0x800 * i, 64, 0x0⟩
def row_FAB_DROP_DUP : RegRow := ⟨"FAB_DROP_DUP", 0x204018, [(0x100, 22)], 2,
  [⟨0, 64, .ro, fun _ => 0x0, .fn, []⟩], .plain⟩
def FAB_DROP_AUTH_CNT (i : Nat) : Fld := ⟨0x1020100 + 0x800 * i, 64, 0x0⟩
def row_FAB_DROP_AUTH : RegRow := ⟨"FAB_DROP_AUTH", 0x204020, [(0x100, 22)], 2,
  [⟨0, 64, .ro, fun _ => 0x0, .fn, []⟩], .plain⟩
def FAB_DROP_RULE_CNT (i : Nat) : Fld := ⟨0x1020140 + 0x800 * i, 64, 0x0⟩
def row_FAB_DROP_RULE : RegRow := ⟨"FAB_DROP_RULE", 0x204028, [(0x100, 22)], 2,
  [⟨0, 64, .ro, fun _ => 0x0, .fn, []⟩], .plain⟩
def FAB_DROP_NODEST_CNT (i : Nat) : Fld := ⟨0x1020180 + 0x800 * i, 64, 0x0⟩
def row_FAB_DROP_NODEST : RegRow := ⟨"FAB_DROP_NODEST", 0x204030, [(0x100, 22)], 2,
  [⟨0, 64, .ro, fun _ => 0x0, .fn, []⟩], .plain⟩
def FAB_DROP_NOBUF_CNT (i : Nat) : Fld := ⟨0x10201C0 + 0x800 * i, 64, 0x0⟩
def row_FAB_DROP_NOBUF : RegRow := ⟨"FAB_DROP_NOBUF", 0x204038, [(0x100, 22)], 2,
  [⟨0, 64, .ro, fun _ => 0x0, .fn, []⟩], .plain⟩
def FAB_DROP_QFULL_CNT (i : Nat) : Fld := ⟨0x1020200 + 0x800 * i, 64, 0x0⟩
def row_FAB_DROP_QFULL : RegRow := ⟨"FAB_DROP_QFULL", 0x204040, [(0x100, 22)], 2,
  [⟨0, 64, .ro, fun _ => 0x0, .fn, []⟩], .plain⟩
def FAB_CTOK_CNT (i : Nat) : Fld := ⟨0x1020240 + 0x800 * i, 64, 0x0⟩
def row_FAB_CTOK : RegRow := ⟨"FAB_CTOK", 0x204048, [(0x100, 22)], 2,
  [⟨0, 64, .ro, fun _ => 0x0, .fn, []⟩], .plain⟩
def FAB_CTSTOMP_CNT (i : Nat) : Fld := ⟨0x1020280 + 0x800 * i, 64, 0x0⟩
def row_FAB_CTSTOMP : RegRow := ⟨"FAB_CTSTOMP", 0x204050, [(0x100, 22)], 2,
  [⟨0, 64, .ro, fun _ => 0x0, .fn, []⟩], .plain⟩
def FAB_CTOVER_CNT (i : Nat) : Fld := ⟨0x10202C0 + 0x800 * i, 64, 0x0⟩
def row_FAB_CTOVER : RegRow := ⟨"FAB_CTOVER", 0x204058, [(0x100, 22)], 2,
  [⟨0, 64, .ro, fun _ => 0x0, .fn, []⟩], .plain⟩
/-- The FN fields of unit group FAB (column "Cleared by", R7). -/
def fnFields_FAB : List Fld :=
  [FAB_STAT_REFUSED, FAB_STAT_LEARNFULL, FAB_STAT_NOBUF, FAB_BUF_FREE, FAB_LEARNMISS_CNT, FAB_TBLCMD_BUSY]
  ++ (List.range 25).map (fun i => FAB_CONSREF_CNT i)
/-- The FN fields of unit group FABP (column "Cleared by", R7). -/
def fnFields_FABP (i : Nat) : List Fld :=
  [FAB_DROP_PSTATE_CNT i, FAB_DROP_VLAN_CNT i, FAB_DROP_RED_CNT i, FAB_DROP_DUP_CNT i, FAB_DROP_AUTH_CNT i, FAB_DROP_RULE_CNT i, FAB_DROP_NODEST_CNT i, FAB_DROP_NOBUF_CNT i, FAB_DROP_QFULL_CNT i, FAB_CTOK_CNT i, FAB_CTSTOMP_CNT i, FAB_CTOVER_CNT i]
/-- The FN fields of unit group CL (column "Cleared by", R7). -/
def fnFields_CL (i : Nat) : List Fld :=
  [CL_HITS_HITS i]
/-- The FN fields of unit group RED (column "Cleared by", R7). -/
def fnFields_RED (i : Nat) : List Fld :=
  [RED_RXA_CNT i, RED_RXB_CNT i, RED_WRONGLAN_A_CNT i, RED_WRONGLAN_B_CNT i, RED_OOW_CNT i, RED_NODEFULL_CNT i, RED_NORCT_CNT i, RED_OWNRET_CNT i]
/-- The FN fields of unit group KS (column "Cleared by", R7). -/
def fnFields_KS (i : Nat) : List Fld :=
  [KS_STAT_FAILCNT i]
/-- The FN fields of unit group XR (column "Cleared by", R7). -/
def fnFields_XR (i : Nat) : List Fld :=
  [XR_FIRECNT_FIRECNT i, XR_MALF_MALF i, XR_LASTST_STNUM i, XR_LASTV_VALID i]
/-- The registers of this block. -/
def rowsFabric : List RegRow :=
  [row_FAB_CTRL, row_FAB_STAT, row_FAB_AGE, row_FAB_BUF, row_FAB_ETYPE, row_FAB_AUTHCFG, row_FAB_LEARNMISS, row_FAB_CONSREF, row_FAB_PCFG, row_FAB_PCP2TC, row_FAB_ADM, row_FAB_ADM2, row_FAB_PDEF, row_FAB_TBLCMD, row_FAB_TBLDATAw, row_CL_CFG, row_CL_PORTS, row_CL_FWDPORTS, row_CL_DMAC_L, row_CL_DMAC_H]
  ++ [row_CL_DMASK_L, row_CL_DMASK_H, row_CL_ETYPE, row_CL_VLAN, row_CL_WORD, row_CL_WVAL, row_CL_WMASK, row_CL_HITS, row_RED_CFG, row_RED_FORGET, row_RED_SUP, row_RED_SEQ, row_RED_RXA, row_RED_RXB, row_RED_WRONGLAN_A, row_RED_WRONGLAN_B, row_RED_OOW, row_RED_NODEFULL, row_RED_NORCT, row_RED_OWNRET]
  ++ [row_KS_CFG, row_KS_KEYID, row_KS_PORTS, row_KS_VFROM, row_KS_VUNTIL, row_KS_STAT, row_KS_KEY, row_XR_CFG, row_XR_PORTS, row_XR_DMAC_L, row_XR_DMAC_H, row_XR_APPID, row_XR_GOCB, row_XR_CONFREV, row_XR_CONDj, row_XR_CONDM, row_XR_CONDV, row_XR_FIRECNT, row_XR_MALF, row_XR_LASTSEL]
  ++ [row_XR_LASTST, row_XR_LASTV, row_FAB_DROP_PSTATE, row_FAB_DROP_VLAN, row_FAB_DROP_RED, row_FAB_DROP_DUP, row_FAB_DROP_AUTH, row_FAB_DROP_RULE, row_FAB_DROP_NODEST, row_FAB_DROP_NOBUF, row_FAB_DROP_QFULL, row_FAB_CTOK, row_FAB_CTSTOMP, row_FAB_CTOVER]

end Sys2Proof.Machine
end

