-- ==== Sys2Proof/Machine/RegsHost.lean ====
section
/-! DEFINITION. The register fields of the host interface (spec/18, R495): for each field of the spec's register table its home in the
register store (`<REGISTER>_<FIELD>`, a function of the instance numbers), for each register its row of the map (offset,
instances, fields with bits, access code, reset value and reset class, reserved values), and for each unit the fields its
function reset clears. -/

namespace Sys2Proof.Machine

def HIF_STAT_LINK : Fld := ⟨0x40000, 1, 0x0⟩
def HIF_STAT_RATE : Fld := ⟨0x40001, 2, 0x0⟩
def HIF_STAT_WIDTH : Fld := ⟨0x40003, 3, 0x0⟩
def HIF_STAT_BUSERR : Fld := ⟨0x40006, 1, 0x0⟩
def HIF_STAT_REFUSED : Fld := ⟨0x40007, 1, 0x0⟩
def row_HIF_STAT : RegRow := ⟨"HIF_STAT", 0x8000, [], 1,
  [⟨0, 1, .ro, fun _ => 0x0, .fn, []⟩, ⟨1, 2, .ro, fun _ => 0x0, .fn, []⟩, ⟨3, 3, .ro, fun _ => 0x0, .fn, []⟩, ⟨6, 1, .w1c, fun _ => 0x0, .fn, []⟩, ⟨7, 1, .w1c, fun _ => 0x0, .fn, []⟩], .plain⟩
def HIF_CFG_SPIIRQ : Fld := ⟨0x40020, 1, 0x0⟩
def row_HIF_CFG : RegRow := ⟨"HIF_CFG", 0x8004, [], 1,
  [⟨0, 1, .rw, fun _ => 0x0, .warm, []⟩], .plain⟩
def HIF_ERRADDR_OFFSET : Fld := ⟨0x40040, 26, 0x0⟩
def row_HIF_ERRADDR : RegRow := ⟨"HIF_ERRADDR", 0x8008, [], 1,
  [⟨0, 26, .ro, fun _ => 0x0, .fn, []⟩], .plain⟩
def HIF_MSIXSENT_CNT : Fld := ⟨0x40080, 64, 0x0⟩
def row_HIF_MSIXSENT : RegRow := ⟨"HIF_MSIXSENT", 0x8010, [], 2,
  [⟨0, 64, .ro, fun _ => 0x0, .fn, []⟩], .plain⟩
def HIF_MSIXMERGE_CNT : Fld := ⟨0x400C0, 64, 0x0⟩
def row_HIF_MSIXMERGE : RegRow := ⟨"HIF_MSIXMERGE", 0x8018, [], 2,
  [⟨0, 64, .ro, fun _ => 0x0, .fn, []⟩], .plain⟩
def HIF_SPICNT_CNT (i : Nat) : Fld := ⟨0x40100 + 0x40 * i, 64, 0x0⟩
def row_HIF_SPICNT : RegRow := ⟨"HIF_SPICNT", 0x8020, [(0x8, 6)], 2,
  [⟨0, 64, .ro, fun _ => 0x0, .warm, []⟩], .plain⟩
def HIF_PENDi_PEND (i : Nat) : Fld := ⟨0x40400 + 0x20 * i, 32, 0x0⟩
def row_HIF_PENDi : RegRow := ⟨"HIF_PENDi", 0x8080, [(0x4, 8)], 1,
  [⟨0, 32, .w1c, fun _ => 0x0, .fn, []⟩], .plain⟩
def HIF_SPIMASKi_MASK (i : Nat) : Fld := ⟨0x40500 + 0x20 * i, 32, 0x0⟩
def row_HIF_SPIMASKi : RegRow := ⟨"HIF_SPIMASKi", 0x80A0, [(0x4, 8)], 1,
  [⟨0, 32, .rw, fun _ => 0x0, .warm, []⟩], .plain⟩
def HIF_CHc_CTRL_EN (i : Nat) : Fld := ⟨0x48000 + 0x800 * i, 1, 0x0⟩
def row_HIF_CHc_CTRL : RegRow := ⟨"HIF_CHc_CTRL", 0x9000, [(0x100, 8)], 1,
  [⟨0, 1, .rw, fun _ => 0x0, .fn, []⟩], .plain⟩
def HIF_CHc_CBASE_BASE (i : Nat) : Fld := ⟨0x48046 + 0x800 * i, 58, 0x0⟩
def row_HIF_CHc_CBASE : RegRow := ⟨"HIF_CHc_CBASE", 0x9008, [(0x100, 8)], 2,
  [⟨6, 58, .rw, fun _ => 0x0, .warm, []⟩], .plain⟩
def HIF_CHc_CCFG_LOG2 (i : Nat) : Fld := ⟨0x48080 + 0x800 * i, 4, 0x4⟩
def HIF_CHc_CCFG_VEC (i : Nat) : Fld := ⟨0x48088 + 0x800 * i, 8, 0x0⟩
def row_HIF_CHc_CCFG : RegRow := ⟨"HIF_CHc_CCFG", 0x9010, [(0x100, 8)], 1,
  [⟨0, 4, .rw, fun _ => 0x4, .warm, [(4, 12)]⟩, ⟨8, 8, .rw, fun _ => 0x0, .warm, []⟩], .plain⟩
def HIF_CHc_CTAIL_TAIL (i : Nat) : Fld := ⟨0x480A0 + 0x800 * i, 16, 0x0⟩
def row_HIF_CHc_CTAIL : RegRow := ⟨"HIF_CHc_CTAIL", 0x9014, [(0x100, 8)], 1,
  [⟨0, 16, .rw, fun _ => 0x0, .fn, []⟩], .hif .cTail⟩
def HIF_CHc_CHEAD_HEAD (i : Nat) : Fld := ⟨0x480C0 + 0x800 * i, 16, 0x0⟩
def row_HIF_CHc_CHEAD : RegRow := ⟨"HIF_CHc_CHEAD", 0x9018, [(0x100, 8)], 1,
  [⟨0, 16, .ro, fun _ => 0x0, .fn, []⟩], .plain⟩
def HIF_CHc_RBASE_BASE (i : Nat) : Fld := ⟨0x48106 + 0x800 * i, 58, 0x0⟩
def row_HIF_CHc_RBASE : RegRow := ⟨"HIF_CHc_RBASE", 0x9020, [(0x100, 8)], 2,
  [⟨6, 58, .rw, fun _ => 0x0, .warm, []⟩], .plain⟩
def HIF_CHc_RCFG_LOG2 (i : Nat) : Fld := ⟨0x48140 + 0x800 * i, 4, 0x4⟩
def HIF_CHc_RCFG_VEC (i : Nat) : Fld := ⟨0x48148 + 0x800 * i, 8, 0x0⟩
def row_HIF_CHc_RCFG : RegRow := ⟨"HIF_CHc_RCFG", 0x9028, [(0x100, 8)], 1,
  [⟨0, 4, .rw, fun _ => 0x4, .warm, [(4, 10)]⟩, ⟨8, 8, .rw, fun _ => 0x0, .warm, []⟩], .plain⟩
def HIF_CHc_RTAIL_TAIL (i : Nat) : Fld := ⟨0x48160 + 0x800 * i, 16, 0x0⟩
def row_HIF_CHc_RTAIL : RegRow := ⟨"HIF_CHc_RTAIL", 0x902C, [(0x100, 8)], 1,
  [⟨0, 16, .rw, fun _ => 0x0, .fn, []⟩], .hif .rTail⟩
def HIF_CHc_RHEAD_HEAD (i : Nat) : Fld := ⟨0x48180 + 0x800 * i, 16, 0x0⟩
def row_HIF_CHc_RHEAD : RegRow := ⟨"HIF_CHc_RHEAD", 0x9030, [(0x100, 8)], 1,
  [⟨0, 16, .ro, fun _ => 0x0, .fn, []⟩], .plain⟩
def HIF_CHc_STAT_HALTED (i : Nat) : Fld := ⟨0x481A0 + 0x800 * i, 1, 0x0⟩
def HIF_CHc_STAT_ROWQ (i : Nat) : Fld := ⟨0x481A1 + 0x800 * i, 5, 0x0⟩
def row_HIF_CHc_STAT : RegRow := ⟨"HIF_CHc_STAT", 0x9034, [(0x100, 8)], 1,
  [⟨0, 1, .ro, fun _ => 0x0, .fn, []⟩, ⟨1, 5, .ro, fun _ => 0x0, .fn, []⟩], .plain⟩
def HIF_CHc_DESC_CNT (i : Nat) : Fld := ⟨0x48200 + 0x800 * i, 64, 0x0⟩
def row_HIF_CHc_DESC : RegRow := ⟨"HIF_CHc_DESC", 0x9040, [(0x100, 8)], 2,
  [⟨0, 64, .ro, fun _ => 0x0, .fn, []⟩], .plain⟩
def HIF_CHc_BYTES_CNT (i : Nat) : Fld := ⟨0x48240 + 0x800 * i, 64, 0x0⟩
def row_HIF_CHc_BYTES : RegRow := ⟨"HIF_CHc_BYTES", 0x9048, [(0x100, 8)], 2,
  [⟨0, 64, .ro, fun _ => 0x0, .fn, []⟩], .plain⟩
def HIF_CHc_ERR_CNT (i : Nat) : Fld := ⟨0x48280 + 0x800 * i, 64, 0x0⟩
def row_HIF_CHc_ERR : RegRow := ⟨"HIF_CHc_ERR", 0x9050, [(0x100, 8)], 2,
  [⟨0, 64, .ro, fun _ => 0x0, .fn, []⟩], .plain⟩
def HIF_CHc_ROWERR_CNT (i : Nat) : Fld := ⟨0x482C0 + 0x800 * i, 64, 0x0⟩
def row_HIF_CHc_ROWERR : RegRow := ⟨"HIF_CHc_ROWERR", 0x9058, [(0x100, 8)], 2,
  [⟨0, 64, .ro, fun _ => 0x0, .fn, []⟩], .plain⟩
/-- The FN fields of unit group HIF (column "Cleared by", R7). -/
def fnFields_HIF : List Fld :=
  [HIF_STAT_LINK, HIF_STAT_RATE, HIF_STAT_WIDTH, HIF_STAT_BUSERR, HIF_STAT_REFUSED, HIF_ERRADDR_OFFSET, HIF_MSIXSENT_CNT, HIF_MSIXMERGE_CNT]
  ++ (List.range 8).map (fun i => HIF_PENDi_PEND i)
/-- The FN fields of unit group CH (column "Cleared by", R7). -/
def fnFields_CH (i : Nat) : List Fld :=
  [HIF_CHc_CTRL_EN i, HIF_CHc_CTAIL_TAIL i, HIF_CHc_CHEAD_HEAD i, HIF_CHc_RTAIL_TAIL i, HIF_CHc_RHEAD_HEAD i, HIF_CHc_STAT_HALTED i, HIF_CHc_STAT_ROWQ i, HIF_CHc_DESC_CNT i, HIF_CHc_BYTES_CNT i, HIF_CHc_ERR_CNT i, HIF_CHc_ROWERR_CNT i]
/-- The registers of this block. -/
def rowsHost : List RegRow :=
  [row_HIF_STAT, row_HIF_CFG, row_HIF_ERRADDR, row_HIF_MSIXSENT, row_HIF_MSIXMERGE, row_HIF_SPICNT, row_HIF_PENDi, row_HIF_SPIMASKi, row_HIF_CHc_CTRL, row_HIF_CHc_CBASE, row_HIF_CHc_CCFG, row_HIF_CHc_CTAIL, row_HIF_CHc_CHEAD, row_HIF_CHc_RBASE, row_HIF_CHc_RCFG, row_HIF_CHc_RTAIL, row_HIF_CHc_RHEAD, row_HIF_CHc_STAT, row_HIF_CHc_DESC, row_HIF_CHc_BYTES]
  ++ [row_HIF_CHc_ERR, row_HIF_CHc_ROWERR]

end Sys2Proof.Machine
end

