-- ==== Sys2Proof/Machine/RegsLoader.lean ====
section
/-! DEFINITION. The register fields of the image loader (spec/15, R427): for each field of the spec's register table its home in the
register store (`<REGISTER>_<FIELD>`, a function of the instance numbers), for each register its row of the map (offset,
instances, fields with bits, access code, reset value and reset class, reserved values), and for each unit the fields its
function reset clears. -/

namespace Sys2Proof.Machine

def LDR_STAT_STATE : Fld := ⟨0x100000, 3, 0x0⟩
def LDR_STAT_SLOT : Fld := ⟨0x100003, 1, 0x0⟩
def LDR_STAT_FALLBACK : Fld := ⟨0x100004, 1, 0x0⟩
def LDR_STAT_SECURE : Fld := ⟨0x100005, 1, (Config.otpSecure % 2)⟩
def LDR_STAT_SIGCHK : Fld := ⟨0x100006, 1, 0x0⟩
def LDR_STAT_SIGOK : Fld := ⟨0x100007, 1, 0x0⟩
def LDR_STAT_RECREF : Fld := ⟨0x100008, 8, 0x0⟩
def row_LDR_STAT : RegRow := ⟨"LDR_STAT", 0x20000, [], 1,
  [⟨0, 3, .ro, fun _ => 0x0, .warm, []⟩, ⟨3, 1, .ro, fun _ => 0x0, .warm, []⟩, ⟨4, 1, .ro, fun _ => 0x0, .warm, []⟩, ⟨5, 1, .ro, fun _ => (Config.otpSecure % 2), .never, []⟩, ⟨6, 1, .ro, fun _ => 0x0, .warm, []⟩, ⟨7, 1, .ro, fun _ => 0x0, .warm, []⟩, ⟨8, 8, .ro, fun _ => 0x0, .warm, []⟩], .plain⟩
def LDR_GEN_GEN : Fld := ⟨0x100020, 32, 0x0⟩
def row_LDR_GEN : RegRow := ⟨"LDR_GEN", 0x20004, [], 1,
  [⟨0, 32, .ro, fun _ => 0x0, .warm, []⟩], .plain⟩
def LDR_DEVVER_STEPPING : Fld := ⟨0x100040, 8, 0x2⟩
def LDR_DEVVER_ROMVER : Fld := ⟨0x100048, 8, (Config.romVersion % 256)⟩
def row_LDR_DEVVER : RegRow := ⟨"LDR_DEVVER", 0x20008, [], 1,
  [⟨0, 8, .ro, fun _ => 0x2, .never, []⟩, ⟨8, 8, .ro, fun _ => (Config.romVersion % 256), .never, []⟩], .plain⟩
def LDR_SLOTs_GEN (i : Nat) : Fld := ⟨0x100080 + 0x40 * i, 32, 0x0⟩
def LDR_SLOTs_VALID (i : Nat) : Fld := ⟨0x1000A0 + 0x40 * i, 1, 0x0⟩
def LDR_SLOTs_CHECKED (i : Nat) : Fld := ⟨0x1000A1 + 0x40 * i, 1, 0x0⟩
def LDR_SLOTs_REASON (i : Nat) : Fld := ⟨0x1000A8 + 0x40 * i, 8, 0x0⟩
def LDR_SLOTs_RECIDX (i : Nat) : Fld := ⟨0x1000B0 + 0x40 * i, 16, 0xFFFF⟩
def row_LDR_SLOTs : RegRow := ⟨"LDR_SLOTs", 0x20010, [(0x8, 2)], 2,
  [⟨0, 32, .ro, fun _ => 0x0, .warm, []⟩, ⟨32, 1, .ro, fun _ => 0x0, .warm, []⟩, ⟨33, 1, .ro, fun _ => 0x0, .warm, []⟩, ⟨40, 8, .ro, fun _ => 0x0, .warm, []⟩, ⟨48, 16, .ro, fun _ => 0xFFFF, .warm, []⟩], .plain⟩
def LDR_LASTREF_INDEX : Fld := ⟨0x100100, 16, 0x0⟩
def LDR_LASTREF_REASON : Fld := ⟨0x100110, 8, 0x0⟩
def row_LDR_LASTREF : RegRow := ⟨"LDR_LASTREF", 0x20020, [], 1,
  [⟨0, 16, .ro, fun _ => 0x0, .warm, []⟩, ⟨16, 8, .ro, fun _ => 0x0, .warm, []⟩], .plain⟩
def LDR_CLKSTAT_REFOK : Fld := ⟨0x100120, 1, 0x0⟩
def LDR_CLKSTAT_REFFINE : Fld := ⟨0x100121, 1, 0x0⟩
def LDR_CLKSTAT_REFDIS : Fld := ⟨0x100122, 1, 0x0⟩
def LDR_CLKSTAT_SDOK : Fld := ⟨0x100123, 1, 0x0⟩
def LDR_CLKSTAT_X32OK : Fld := ⟨0x100124, 1, 0x0⟩
def LDR_CLKSTAT_RCFALL : Fld := ⟨0x100125, 1, 0x1⟩
def row_LDR_CLKSTAT : RegRow := ⟨"LDR_CLKSTAT", 0x20024, [], 1,
  [⟨0, 1, .ro, fun _ => 0x0, .warm, []⟩, ⟨1, 1, .ro, fun _ => 0x0, .warm, []⟩, ⟨2, 1, .w1c, fun _ => 0x0, .warm, []⟩, ⟨3, 1, .ro, fun _ => 0x0, .warm, []⟩, ⟨4, 1, .ro, fun _ => 0x0, .por, []⟩, ⟨5, 1, .ro, fun _ => 0x1, .por, []⟩], .plain⟩
def LDR_REFMEAS_COUNT : Fld := ⟨0x100140, 20, 0x0⟩
def row_LDR_REFMEAS : RegRow := ⟨"LDR_REFMEAS", 0x20028, [], 1,
  [⟨0, 20, .ro, fun _ => 0x0, .warm, []⟩], .plain⟩
def LDR_CLKFAIL_FAILS : Fld := ⟨0x100160, 16, 0x0⟩
def row_LDR_CLKFAIL : RegRow := ⟨"LDR_CLKFAIL", 0x2002C, [], 1,
  [⟨0, 16, .ro, fun _ => 0x0, .por, []⟩], .plain⟩
def LDR_BOOTSEL_SEL : Fld := ⟨0x100180, 2, 0x0⟩
def row_LDR_BOOTSEL : RegRow := ⟨"LDR_BOOTSEL", 0x20030, [], 1,
  [⟨0, 2, .rw, fun _ => 0x0, .por, [(0, 2)]⟩], .plain⟩
def LDR_NORINFO_DENSITY : Fld := ⟨0x100200, 8, 0x0⟩
def row_LDR_NORINFO : RegRow := ⟨"LDR_NORINFO", 0x20040, [], 1,
  [⟨0, 8, .ro, fun _ => 0x0, .warm, []⟩], .plain⟩
def LDR_SLOTBOFS_OFS : Fld := ⟨0x100220, 32, 0x0⟩
def row_LDR_SLOTBOFS : RegRow := ⟨"LDR_SLOTBOFS", 0x20044, [], 1,
  [⟨0, 32, .ro, fun _ => 0x0, .warm, []⟩], .plain⟩
def LDR_NORCMD_OP : Fld := ⟨0x100280, 3, 0x0⟩
def LDR_NORCMD_CSLOT : Fld := ⟨0x100283, 1, 0x0⟩
def LDR_NORCMD_LENM1 : Fld := ⟨0x100288, 8, 0xFF⟩
def LDR_NORCMD_BUSY : Fld := ⟨0x10029F, 1, 0x0⟩
def row_LDR_NORCMD : RegRow := ⟨"LDR_NORCMD", 0x20050, [], 1,
  [⟨0, 3, .rw, fun _ => 0x0, .fn, [(0, 4)]⟩, ⟨3, 1, .rw, fun _ => 0x0, .fn, []⟩, ⟨8, 8, .rw, fun _ => 0xFF, .fn, []⟩, ⟨31, 1, .ro, fun _ => 0x0, .fn, []⟩], .ldr .norCmd⟩
def LDR_NORADDR_ADDR : Fld := ⟨0x1002A0, 28, 0x0⟩
def row_LDR_NORADDR : RegRow := ⟨"LDR_NORADDR", 0x20054, [], 1,
  [⟨0, 28, .rw, fun _ => 0x0, .fn, []⟩], .plain⟩
def LDR_NORSTAT_DONE : Fld := ⟨0x1002C0, 1, 0x0⟩
def LDR_NORSTAT_ERR : Fld := ⟨0x1002C1, 1, 0x0⟩
def LDR_NORSTAT_REFUSED : Fld := ⟨0x1002C2, 1, 0x0⟩
def LDR_NORSTAT_INHIB : Fld := ⟨0x1002C3, 1, 0x0⟩
def LDR_NORSTAT_SUSP : Fld := ⟨0x1002C4, 1, 0x0⟩
def row_LDR_NORSTAT : RegRow := ⟨"LDR_NORSTAT", 0x20058, [], 1,
  [⟨0, 1, .w1c, fun _ => 0x0, .fn, []⟩, ⟨1, 1, .w1c, fun _ => 0x0, .fn, []⟩, ⟨2, 1, .w1c, fun _ => 0x0, .fn, []⟩, ⟨3, 1, .ro, fun _ => 0x0, .fn, []⟩, ⟨4, 1, .ro, fun _ => 0x0, .fn, []⟩], .plain⟩
def LDR_NORERR_ERRS : Fld := ⟨0x100300, 32, 0x0⟩
def row_LDR_NORERR : RegRow := ⟨"LDR_NORERR", 0x20060, [], 1,
  [⟨0, 32, .ro, fun _ => 0x0, .fn, []⟩], .plain⟩
def LDR_HOSTREF_REFS : Fld := ⟨0x100320, 32, 0x0⟩
def row_LDR_HOSTREF : RegRow := ⟨"LDR_HOSTREF", 0x20064, [], 1,
  [⟨0, 32, .ro, fun _ => 0x0, .warm, []⟩], .plain⟩
def LDR_NORBUFw_DATA (i : Nat) : Fld := ⟨0x100800 + 0x20 * i, 32, 0x0⟩
def row_LDR_NORBUFw : RegRow := ⟨"LDR_NORBUFw", 0x20100, [(0x4, 64)], 1,
  [⟨0, 32, .rw, fun _ => 0x0, .fn, []⟩], .plain⟩
/-- The FN fields of unit group LDR (column "Cleared by", R7). -/
def fnFields_LDR : List Fld :=
  [LDR_NORCMD_OP, LDR_NORCMD_CSLOT, LDR_NORCMD_LENM1, LDR_NORCMD_BUSY, LDR_NORADDR_ADDR, LDR_NORSTAT_DONE, LDR_NORSTAT_ERR, LDR_NORSTAT_REFUSED, LDR_NORSTAT_INHIB, LDR_NORSTAT_SUSP, LDR_NORERR_ERRS]
  ++ (List.range 64).map (fun i => LDR_NORBUFw_DATA i)
/-- The registers of this block. -/
def rowsLoader : List RegRow :=
  [row_LDR_STAT, row_LDR_GEN, row_LDR_DEVVER, row_LDR_SLOTs, row_LDR_LASTREF, row_LDR_CLKSTAT, row_LDR_REFMEAS, row_LDR_CLKFAIL, row_LDR_BOOTSEL, row_LDR_NORINFO, row_LDR_SLOTBOFS, row_LDR_NORCMD, row_LDR_NORADDR, row_LDR_NORSTAT, row_LDR_NORERR, row_LDR_HOSTREF, row_LDR_NORBUFw]

end Sys2Proof.Machine
end

