-- ==== Sys2Proof/Machine/RegsMbx.lean ====
section
/-! DEFINITION. The register fields of the mailboxes, doorbells and locks (spec/13, R373): for each field of the spec's register table its home in the
register store (`<REGISTER>_<FIELD>`, a function of the instance numbers), for each register its row of the map (offset,
instances, fields with bits, access code, reset value and reset class, reserved values), and for each unit the fields its
function reset clears. -/

namespace Sys2Proof.Machine

def MBX_STAT_REFUSED : Fld := ⟨0x200000, 1, 0x0⟩
def row_MBX_STAT : RegRow := ⟨"MBX_STAT", 0x40000, [], 1,
  [⟨0, 1, .w1c, fun _ => 0x0, .fn, []⟩], .plain⟩
def MBX_EPOCHu_EPOCH (i : Nat) : Fld := ⟨0x200800 + 0x20 * i, 8, 0x0⟩
def row_MBX_EPOCHu : RegRow := ⟨"MBX_EPOCHu", 0x40100, [(0x4, 128)], 1,
  [⟨0, 8, .ro, fun _ => 0x0, .warm, []⟩], .plain⟩
def MBX_DBRING_N : Fld := ⟨0x202000, 9, 0x0⟩
def row_MBX_DBRING : RegRow := ⟨"MBX_DBRING", 0x40400, [], 1,
  [⟨0, 9, .wo, fun _ => 0x0, .never, []⟩], .mbx .dbRing⟩
def MBX_DBPENDi_PEND (i : Nat) : Fld := ⟨0x202200 + 0x20 * i, 32, 0x0⟩
def row_MBX_DBPENDi : RegRow := ⟨"MBX_DBPENDi", 0x40440, [(0x4, 16)], 1,
  [⟨0, 32, .w1c, fun _ => 0x0, .fn, []⟩], .plain⟩
def MBX_DBn_CFG_MSIXEN (i : Nat) : Fld := ⟨0x208000 + 0x40 * i, 1, 0x0⟩
def MBX_DBn_CFG_VEC (i : Nat) : Fld := ⟨0x208001 + 0x40 * i, 8, 0x0⟩
def row_MBX_DBn_CFG : RegRow := ⟨"MBX_DBn_CFG", 0x41000, [(0x8, 512)], 1,
  [⟨0, 1, .rw, fun _ => 0x0, .warm, []⟩, ⟨1, 8, .rw, fun _ => 0x0, .warm, []⟩], .plain⟩
def MBX_DBn_CNT_RINGS (i : Nat) : Fld := ⟨0x208020 + 0x40 * i, 16, 0x0⟩
def row_MBX_DBn_CNT : RegRow := ⟨"MBX_DBn_CNT", 0x41004, [(0x8, 512)], 1,
  [⟨0, 16, .ro, fun _ => 0x0, .fn, []⟩], .plain⟩
def MBX_LKn_LOCK (i : Nat) : Fld := ⟨0x210000 + 0x80 * i, 32, 0x0⟩
def row_MBX_LKn : RegRow := ⟨"MBX_LKn", 0x42000, [(0x10, 64)], 1,
  [⟨0, 32, .ro, fun _ => 0x0, .fn, []⟩], .mbx .lock⟩
def MBX_LKn_PEEK_LOCK (i : Nat) : Fld := ⟨0x210020 + 0x80 * i, 32, 0x0⟩
def row_MBX_LKn_PEEK : RegRow := ⟨"MBX_LKn_PEEK", 0x42004, [(0x10, 64)], 1,
  [⟨0, 32, .ro, fun _ => 0x0, .fn, []⟩], .mbx .peek⟩
def MBX_LKn_FORCE_FORCE (i : Nat) : Fld := ⟨0x210040 + 0x80 * i, 1, 0x0⟩
def row_MBX_LKn_FORCE : RegRow := ⟨"MBX_LKn_FORCE", 0x42008, [(0x10, 64)], 1,
  [⟨0, 1, .wo, fun _ => 0x0, .never, []⟩], .mbx .force⟩
def MBX_LKn_CNT_ACQ (i : Nat) : Fld := ⟨0x210060 + 0x80 * i, 16, 0x0⟩
def MBX_LKn_CNT_CONT (i : Nat) : Fld := ⟨0x210070 + 0x80 * i, 16, 0x0⟩
def row_MBX_LKn_CNT : RegRow := ⟨"MBX_LKn_CNT", 0x4200C, [(0x10, 64)], 1,
  [⟨0, 16, .ro, fun _ => 0x0, .fn, []⟩, ⟨16, 16, .ro, fun _ => 0x0, .fn, []⟩], .plain⟩
def MBX_MBm_CFG_EN (i : Nat) : Fld := ⟨0x220000 + 0x200 * i, 1, 0x0⟩
def MBX_MBm_CFG_RCV (i : Nat) : Fld := ⟨0x220001 + 0x200 * i, 12, 0x0⟩
def MBX_MBm_CFG_SENDDEP (i : Nat) : Fld := ⟨0x22000D + 0x200 * i, 8, 0x0⟩
def MBX_MBm_CFG_SENDHOST (i : Nat) : Fld := ⟨0x220015 + 0x200 * i, 1, 0x0⟩
def MBX_MBm_CFG_SENDSUP (i : Nat) : Fld := ⟨0x220016 + 0x200 * i, 1, 0x0⟩
def MBX_MBm_CFG_DB (i : Nat) : Fld := ⟨0x220020 + 0x200 * i, 9, 0x0⟩
def MBX_MBm_CFG_DBEN (i : Nat) : Fld := ⟨0x220029 + 0x200 * i, 1, 0x0⟩
def MBX_MBm_CFG_VEC (i : Nat) : Fld := ⟨0x22002A + 0x200 * i, 8, 0x0⟩
def MBX_MBm_CFG_MSIXEN (i : Nat) : Fld := ⟨0x220032 + 0x200 * i, 1, 0x0⟩
def row_MBX_MBm_CFG : RegRow := ⟨"MBX_MBm_CFG", 0x44000, [(0x40, 256)], 2,
  [⟨0, 1, .rw, fun _ => 0x0, .warm, []⟩, ⟨1, 12, .rw, fun _ => 0x0, .warm, [(0, 1), (64, 127)]⟩, ⟨13, 8, .rw, fun _ => 0x0, .warm, []⟩, ⟨21, 1, .rw, fun _ => 0x0, .warm, []⟩, ⟨22, 1, .rw, fun _ => 0x0, .warm, []⟩, ⟨32, 9, .rw, fun _ => 0x0, .warm, []⟩, ⟨41, 1, .rw, fun _ => 0x0, .warm, []⟩, ⟨42, 8, .rw, fun _ => 0x0, .warm, []⟩, ⟨50, 1, .rw, fun _ => 0x0, .warm, []⟩], .mbx .boxCfg⟩
def MBX_MBm_STAT_FULL (i : Nat) : Fld := ⟨0x220040 + 0x200 * i, 1, 0x0⟩
def MBX_MBm_STAT_REFCNT (i : Nat) : Fld := ⟨0x220050 + 0x200 * i, 16, 0x0⟩
def row_MBX_MBm_STAT : RegRow := ⟨"MBX_MBm_STAT", 0x44008, [(0x40, 256)], 1,
  [⟨0, 1, .ro, fun _ => 0x0, .fn, []⟩, ⟨16, 16, .ro, fun _ => 0x0, .fn, []⟩], .mbx .boxStat⟩
def MBX_MBm_SEQ_LASTSEQ (i : Nat) : Fld := ⟨0x220060 + 0x200 * i, 16, 0x0⟩
def row_MBX_MBm_SEQ : RegRow := ⟨"MBX_MBm_SEQ", 0x4400C, [(0x40, 256)], 1,
  [⟨0, 16, .ro, fun _ => 0x0, .fn, []⟩], .plain⟩
def MBX_MBm_Ww_WORD (i j : Nat) : Fld := ⟨0x220100 + 0x200 * i + 0x20 * j, 32, 0x0⟩
def row_MBX_MBm_Ww : RegRow := ⟨"MBX_MBm_Ww", 0x44020, [(0x40, 256), (0x4, 8)], 1,
  [⟨0, 32, .rw, fun _ => 0x0, .fn, []⟩], .mbx .word⟩
/-- The FN fields of unit group MBXU (column "Cleared by", R7). -/
def fnFields_MBXU : List Fld :=
  [MBX_STAT_REFUSED]
  ++ (List.range 16).map (fun i => MBX_DBPENDi_PEND i)
  ++ (List.range 512).map (fun i => MBX_DBn_CNT_RINGS i)
  ++ (List.range 64).map (fun i => MBX_LKn_LOCK i)
  ++ (List.range 64).map (fun i => MBX_LKn_PEEK_LOCK i)
  ++ (List.range 64).map (fun i => MBX_LKn_CNT_ACQ i)
  ++ (List.range 64).map (fun i => MBX_LKn_CNT_CONT i)
/-- The FN fields of unit group MB (column "Cleared by", R7). -/
def fnFields_MB (i : Nat) : List Fld :=
  [MBX_MBm_STAT_FULL i, MBX_MBm_STAT_REFCNT i, MBX_MBm_SEQ_LASTSEQ i]
  ++ (List.range 8).map (fun j => MBX_MBm_Ww_WORD i j)
/-- The registers of this block. -/
def rowsMbx : List RegRow :=
  [row_MBX_STAT, row_MBX_EPOCHu, row_MBX_DBRING, row_MBX_DBPENDi, row_MBX_DBn_CFG, row_MBX_DBn_CNT, row_MBX_LKn, row_MBX_LKn_PEEK, row_MBX_LKn_FORCE, row_MBX_LKn_CNT, row_MBX_MBm_CFG, row_MBX_MBm_STAT, row_MBX_MBm_SEQ, row_MBX_MBm_Ww]

end Sys2Proof.Machine
end

