-- ==== Sys2Proof/Machine/RegsMem.lean ====
section
/-! DEFINITION. The register fields of the memory system, background test unit and queue manager (spec/12, R353, R354): for each field of the spec's register table its home in the
register store (`<REGISTER>_<FIELD>`, a function of the instance numbers), for each register its row of the map (offset,
instances, fields with bits, access code, reset value and reset class, reserved values), and for each unit the fields its
function reset clears. -/

namespace Sys2Proof.Machine

def MEM_BANKb_OWNER (i : Nat) : Fld := ⟨0x300000 + 0x80 * i, 12, 0x0⟩
def MEM_BANKb_RDOPEN (i : Nat) : Fld := ⟨0x30000C + 0x80 * i, 1, 0x0⟩
def MEM_BANKb_LEND (i : Nat) : Fld := ⟨0x30000D + 0x80 * i, 1, 0x0⟩
def MEM_BANKb_PEND (i : Nat) : Fld := ⟨0x30000E + 0x80 * i, 1, 0x0⟩
def MEM_BANKb_BORROWED (i : Nat) : Fld := ⟨0x30000F + 0x80 * i, 1, 0x0⟩
def MEM_BANKb_REFUSED (i : Nat) : Fld := ⟨0x300010 + 0x80 * i, 1, 0x0⟩
def row_MEM_BANKb : RegRow := ⟨"MEM_BANKb", 0x60000, [(0x10, 64)], 1,
  [⟨0, 12, .rw, fun _ => 0x0, .warm, [(0, 1), (16, 23), (224, 224), (232, 232), (251, 251)]⟩, ⟨12, 1, .rw, fun _ => 0x0, .warm, []⟩, ⟨13, 1, .rw, fun _ => 0x0, .warm, []⟩, ⟨14, 1, .ro, fun _ => 0x0, .warm, []⟩, ⟨15, 1, .ro, fun _ => 0x0, .warm, []⟩, ⟨16, 1, .w1c, fun _ => 0x0, .warm, []⟩], .mem .bank⟩
def MEM_SCRUB_EN : Fld := ⟨0x302000, 1, 0x1⟩
def MEM_SCRUB_STEP : Fld := ⟨0x302008, 16, 0x1000⟩
def row_MEM_SCRUB : RegRow := ⟨"MEM_SCRUB", 0x60400, [], 1,
  [⟨0, 1, .rw, fun _ => 0x1, .warm, []⟩, ⟨8, 16, .rw, fun _ => 0x1000, .warm, [(16, 65535)]⟩], .plain⟩
def MEM_STARVE_LIMIT : Fld := ⟨0x302020, 16, 0x100⟩
def row_MEM_STARVE : RegRow := ⟨"MEM_STARVE", 0x60404, [], 1,
  [⟨0, 16, .rw, fun _ => 0x100, .warm, []⟩], .plain⟩
def MEM_UNCADDR_WORD : Fld := ⟨0x302040, 15, 0x0⟩
def MEM_UNCADDR_BANK : Fld := ⟨0x302050, 6, 0x0⟩
def MEM_UNCADDR_VALID : Fld := ⟨0x30205F, 1, 0x0⟩
def row_MEM_UNCADDR : RegRow := ⟨"MEM_UNCADDR", 0x60408, [], 1,
  [⟨0, 15, .ro, fun _ => 0x0, .warm, []⟩, ⟨16, 6, .ro, fun _ => 0x0, .warm, []⟩, ⟨31, 1, .w1c, fun _ => 0x0, .warm, []⟩], .plain⟩
def MEM_ECCCOR_CNT (i : Nat) : Fld := ⟨0x308000 + 0x100 * i, 64, 0x0⟩
def row_MEM_ECCCOR : RegRow := ⟨"MEM_ECCCOR", 0x61000, [(0x20, 64)], 2,
  [⟨0, 64, .ro, fun _ => 0x0, .warm, []⟩], .plain⟩
def MEM_ECCUNC_CNT (i : Nat) : Fld := ⟨0x308040 + 0x100 * i, 64, 0x0⟩
def row_MEM_ECCUNC : RegRow := ⟨"MEM_ECCUNC", 0x61008, [(0x20, 64)], 2,
  [⟨0, 64, .ro, fun _ => 0x0, .warm, []⟩], .plain⟩
def MEM_BCONF_CNT (i : Nat) : Fld := ⟨0x308080 + 0x100 * i, 64, 0x0⟩
def row_MEM_BCONF : RegRow := ⟨"MEM_BCONF", 0x61010, [(0x20, 64)], 2,
  [⟨0, 64, .ro, fun _ => 0x0, .warm, []⟩], .plain⟩
def MEM_STARVECNT_CNT (i : Nat) : Fld := ⟨0x3080C0 + 0x100 * i, 64, 0x0⟩
def row_MEM_STARVECNT : RegRow := ⟨"MEM_STARVECNT", 0x61018, [(0x20, 64)], 2,
  [⟨0, 64, .ro, fun _ => 0x0, .warm, []⟩], .plain⟩
def BTU_CFG_EN : Fld := ⟨0x340000, 1, 0x0⟩
def BTU_CFG_ALG : Fld := ⟨0x340001, 2, 0x0⟩
def BTU_CFG_IDLE : Fld := ⟨0x340008, 8, 0x40⟩
def row_BTU_CFG : RegRow := ⟨"BTU_CFG", 0x68000, [], 1,
  [⟨0, 1, .rw, fun _ => 0x0, .warm, []⟩, ⟨1, 2, .rw, fun _ => 0x0, .warm, [(0, 2)]⟩, ⟨8, 8, .rw, fun _ => 0x40, .warm, [(1, 255)]⟩], .plain⟩
def BTU_MASK_MASK : Fld := ⟨0x340040, 64, 0xFFFFFFFFFFFFFFFF⟩
def row_BTU_MASK : RegRow := ⟨"BTU_MASK", 0x68008, [], 2,
  [⟨0, 64, .rw, fun _ => 0xFFFFFFFFFFFFFFFF, .warm, []⟩], .plain⟩
def BTU_STAT_ACTIVE : Fld := ⟨0x340080, 1, 0x0⟩
def BTU_STAT_BANK : Fld := ⟨0x340082, 6, 0x0⟩
def BTU_STAT_ROW : Fld := ⟨0x340088, 9, 0x0⟩
def BTU_STAT_FAILED : Fld := ⟨0x340091, 1, 0x0⟩
def row_BTU_STAT : RegRow := ⟨"BTU_STAT", 0x68010, [], 1,
  [⟨0, 1, .ro, fun _ => 0x0, .fn, []⟩, ⟨2, 6, .ro, fun _ => 0x0, .fn, []⟩, ⟨8, 9, .ro, fun _ => 0x0, .fn, []⟩, ⟨17, 1, .w1c, fun _ => 0x0, .fn, []⟩], .plain⟩
def BTU_FAIL_WORD : Fld := ⟨0x3400A0, 6, 0x0⟩
def BTU_FAIL_ROW : Fld := ⟨0x3400A6, 9, 0x0⟩
def BTU_FAIL_BANK : Fld := ⟨0x3400B0, 6, 0x0⟩
def BTU_FAIL_VALID : Fld := ⟨0x3400BF, 1, 0x0⟩
def row_BTU_FAIL : RegRow := ⟨"BTU_FAIL", 0x68014, [], 1,
  [⟨0, 6, .ro, fun _ => 0x0, .fn, []⟩, ⟨6, 9, .ro, fun _ => 0x0, .fn, []⟩, ⟨16, 6, .ro, fun _ => 0x0, .fn, []⟩, ⟨31, 1, .ro, fun _ => 0x0, .fn, []⟩], .plain⟩
def BTU_FAILBITS_BITS : Fld := ⟨0x3400C0, 64, 0x0⟩
def row_BTU_FAILBITS : RegRow := ⟨"BTU_FAILBITS", 0x68018, [], 2,
  [⟨0, 64, .ro, fun _ => 0x0, .fn, []⟩], .plain⟩
def BTU_ROWS_CNT : Fld := ⟨0x340200, 64, 0x0⟩
def row_BTU_ROWS : RegRow := ⟨"BTU_ROWS", 0x68040, [], 2,
  [⟨0, 64, .ro, fun _ => 0x0, .fn, []⟩], .plain⟩
def BTU_ABORT_CNT : Fld := ⟨0x340240, 64, 0x0⟩
def row_BTU_ABORT : RegRow := ⟨"BTU_ABORT", 0x68048, [], 2,
  [⟨0, 64, .ro, fun _ => 0x0, .fn, []⟩], .plain⟩
def BTU_FAILCNT_CNT : Fld := ⟨0x340280, 64, 0x0⟩
def row_BTU_FAILCNT : RegRow := ⟨"BTU_FAILCNT", 0x68050, [], 2,
  [⟨0, 64, .ro, fun _ => 0x0, .fn, []⟩], .plain⟩
def BTU_PASS_CNT : Fld := ⟨0x3402C0, 64, 0x0⟩
def row_BTU_PASS : RegRow := ⟨"BTU_PASS", 0x68058, [], 2,
  [⟨0, 64, .ro, fun _ => 0x0, .fn, []⟩], .plain⟩
def QM_STAT_REFUSED : Fld := ⟨0x280000, 1, 0x0⟩
def row_QM_STAT : RegRow := ⟨"QM_STAT", 0x50000, [], 1,
  [⟨0, 1, .w1c, fun _ => 0x0, .fn, []⟩], .plain⟩
def QM_Qn_POP_ENTRY (i : Nat) : Fld := ⟨0x2A0000 + 0x80 * i, 64, 0x0⟩
def row_QM_Qn_POP : RegRow := ⟨"QM_Qn_POP", 0x54000, [(0x10, 1024)], 2,
  [⟨0, 64, .ro, fun _ => 0x0, .fn, []⟩], .mem .pop⟩
def QM_Qn_PUSH_ENTRY (i : Nat) : Fld := ⟨0x2A0040 + 0x80 * i, 64, 0x0⟩
def row_QM_Qn_PUSH : RegRow := ⟨"QM_Qn_PUSH", 0x54008, [(0x10, 1024)], 2,
  [⟨0, 64, .wo, fun _ => 0x0, .never, []⟩], .mem .push⟩
def QM_Qn_CFG_EN (i : Nat) : Fld := ⟨0x2C0000 + 0x100 * i, 1, 0x0⟩
def QM_Qn_CFG_ORG (i : Nat) : Fld := ⟨0x2C0001 + 0x100 * i, 1, 0x0⟩
def QM_Qn_CFG_LOG2 (i : Nat) : Fld := ⟨0x2C0002 + 0x100 * i, 5, 0x2⟩
def QM_Qn_CFG_BASE (i : Nat) : Fld := ⟨0x2C0007 + 0x100 * i, 16, 0x0⟩
def QM_Qn_CFG_BANK (i : Nat) : Fld := ⟨0x2C0017 + 0x100 * i, 6, 0x0⟩
def QM_Qn_CFG_PUSHDEP (i : Nat) : Fld := ⟨0x2C0020 + 0x100 * i, 8, 0x0⟩
def QM_Qn_CFG_POPDEP (i : Nat) : Fld := ⟨0x2C0028 + 0x100 * i, 8, 0x0⟩
def QM_Qn_CFG_PUSHHOST (i : Nat) : Fld := ⟨0x2C0030 + 0x100 * i, 1, 0x0⟩
def QM_Qn_CFG_POPHOST (i : Nat) : Fld := ⟨0x2C0031 + 0x100 * i, 1, 0x0⟩
def QM_Qn_CFG_DB (i : Nat) : Fld := ⟨0x2C0032 + 0x100 * i, 9, 0x0⟩
def QM_Qn_CFG_DBEN (i : Nat) : Fld := ⟨0x2C003B + 0x100 * i, 1, 0x0⟩
def row_QM_Qn_CFG : RegRow := ⟨"QM_Qn_CFG", 0x58000, [(0x20, 1024)], 2,
  [⟨0, 1, .rw, fun _ => 0x0, .warm, []⟩, ⟨1, 1, .rw, fun _ => 0x0, .warm, []⟩, ⟨2, 5, .rw, fun _ => 0x2, .warm, []⟩, ⟨7, 16, .rw, fun _ => 0x0, .warm, []⟩, ⟨23, 6, .rw, fun _ => 0x0, .warm, []⟩, ⟨32, 8, .rw, fun _ => 0x0, .warm, []⟩, ⟨40, 8, .rw, fun _ => 0x0, .warm, []⟩, ⟨48, 1, .rw, fun _ => 0x0, .warm, []⟩, ⟨49, 1, .rw, fun _ => 0x0, .warm, []⟩, ⟨50, 9, .rw, fun _ => 0x0, .warm, []⟩, ⟨59, 1, .rw, fun _ => 0x0, .warm, []⟩], .mem .queueCfg⟩
def QM_Qn_PTR_HEAD (i : Nat) : Fld := ⟨0x2C0040 + 0x100 * i, 22, 0x0⟩
def QM_Qn_PTR_TAIL (i : Nat) : Fld := ⟨0x2C0060 + 0x100 * i, 22, 0x0⟩
def row_QM_Qn_PTR : RegRow := ⟨"QM_Qn_PTR", 0x58008, [(0x20, 1024)], 2,
  [⟨0, 22, .ro, fun _ => 0x0, .fn, []⟩, ⟨32, 22, .ro, fun _ => 0x0, .fn, []⟩], .mem .ptr⟩
def QM_Qn_DEPTH_DEPTH (i : Nat) : Fld := ⟨0x2C0080 + 0x100 * i, 22, 0x0⟩
def QM_Qn_DEPTH_STATE (i : Nat) : Fld := ⟨0x2C0096 + 0x100 * i, 2, 0x0⟩
def row_QM_Qn_DEPTH : RegRow := ⟨"QM_Qn_DEPTH", 0x58010, [(0x20, 1024)], 1,
  [⟨0, 22, .ro, fun _ => 0x0, .fn, []⟩, ⟨22, 2, .ro, fun _ => 0x0, .fn, []⟩], .mem .depth⟩
def QM_Qn_REF_REFUSED (i : Nat) : Fld := ⟨0x2C00A0 + 0x100 * i, 16, 0x0⟩
def row_QM_Qn_REF : RegRow := ⟨"QM_Qn_REF", 0x58014, [(0x20, 1024)], 1,
  [⟨0, 16, .ro, fun _ => 0x0, .fn, []⟩], .plain⟩
def QM_Qn_HWM_HWM (i : Nat) : Fld := ⟨0x2C00C0 + 0x100 * i, 22, 0x0⟩
def row_QM_Qn_HWM : RegRow := ⟨"QM_Qn_HWM", 0x58018, [(0x20, 1024)], 1,
  [⟨0, 22, .rc, fun _ => 0x0, .fn, []⟩], .plain⟩
/-- The FN fields of unit group BTU (column "Cleared by", R7). -/
def fnFields_BTU : List Fld :=
  [BTU_STAT_ACTIVE, BTU_STAT_BANK, BTU_STAT_ROW, BTU_STAT_FAILED, BTU_FAIL_WORD, BTU_FAIL_ROW, BTU_FAIL_BANK, BTU_FAIL_VALID, BTU_FAILBITS_BITS, BTU_ROWS_CNT, BTU_ABORT_CNT, BTU_FAILCNT_CNT]
  ++ [BTU_PASS_CNT]
/-- The FN fields of unit group QM (column "Cleared by", R7). -/
def fnFields_QM : List Fld :=
  [QM_STAT_REFUSED]
/-- The FN fields of unit group QMQ (column "Cleared by", R7). -/
def fnFields_QMQ (i : Nat) : List Fld :=
  [QM_Qn_POP_ENTRY i, QM_Qn_PTR_HEAD i, QM_Qn_PTR_TAIL i, QM_Qn_DEPTH_DEPTH i, QM_Qn_DEPTH_STATE i, QM_Qn_REF_REFUSED i, QM_Qn_HWM_HWM i]
/-- The registers of this block. -/
def rowsMem : List RegRow :=
  [row_MEM_BANKb, row_MEM_SCRUB, row_MEM_STARVE, row_MEM_UNCADDR, row_MEM_ECCCOR, row_MEM_ECCUNC, row_MEM_BCONF, row_MEM_STARVECNT, row_BTU_CFG, row_BTU_MASK, row_BTU_STAT, row_BTU_FAIL, row_BTU_FAILBITS, row_BTU_ROWS, row_BTU_ABORT, row_BTU_FAILCNT, row_BTU_PASS, row_QM_STAT, row_QM_Qn_POP, row_QM_Qn_PUSH]
  ++ [row_QM_Qn_CFG, row_QM_Qn_PTR, row_QM_Qn_DEPTH, row_QM_Qn_REF, row_QM_Qn_HWM]

end Sys2Proof.Machine
end

