-- ==== Sys2Proof/Machine/RegsPin.lean ====
section
/-! DEFINITION. The register fields of the pin bank and sequencer groups (spec/09, R266): for each field of the spec's register table its home in the
register store (`<REGISTER>_<FIELD>`, a function of the instance numbers), for each register its row of the map (offset,
instances, fields with bits, access code, reset value and reset class, reserved values), and for each unit the fields its
function reset clears. -/

namespace Sys2Proof.Machine

def PIN_STAT_REFUSED : Fld := ⟨0x3000000, 1, 0x0⟩
def row_PIN_STAT : RegRow := ⟨"PIN_STAT", 0x600000, [], 1,
  [⟨0, 1, .w1c, fun _ => 0x0, .fn, []⟩], .plain⟩
def PIN_XSUPP_XSUPP : Fld := ⟨0x3000020, 32, 0x0⟩
def row_PIN_XSUPP : RegRow := ⟨"PIN_XSUPP", 0x600004, [], 1,
  [⟨0, 32, .ro, fun _ => 0x0, .fn, []⟩], .plain⟩
def PIN_FPk_PER (i : Nat) : Fld := ⟨0x3000080 + 0x20 * i, 16, 0x1⟩
def row_PIN_FPk : RegRow := ⟨"PIN_FPk", 0x600010, [(0x4, 4)], 1,
  [⟨0, 16, .rw, fun _ => 0x1, .warm, [(1, 64000)]⟩], .pin .filtClk⟩
def PIN_ESQ_ENTRY : Fld := ⟨0x3000200, 128, 0x0⟩
def row_PIN_ESQ : RegRow := ⟨"PIN_ESQ", 0x600040, [], 4,
  [⟨0, 128, .ro, fun _ => 0x0, .fn, []⟩], .pin .esq⟩
def PIN_ESDEPTH_DEPTH : Fld := ⟨0x3000280, 9, 0x0⟩
def row_PIN_ESDEPTH : RegRow := ⟨"PIN_ESDEPTH", 0x600050, [], 1,
  [⟨0, 9, .ro, fun _ => 0x0, .fn, []⟩], .pin .esDepth⟩
def PIN_ESLOST_LOST : Fld := ⟨0x30002A0, 32, 0x0⟩
def row_PIN_ESLOST : RegRow := ⟨"PIN_ESLOST", 0x600054, [], 1,
  [⟨0, 32, .ro, fun _ => 0x0, .fn, []⟩], .plain⟩
def PIN_IN_L_IN : Fld := ⟨0x3000300, 32, 0x0⟩
def row_PIN_IN_L : RegRow := ⟨"PIN_IN_L", 0x600060, [], 1,
  [⟨0, 32, .ro, fun _ => 0x0, .never, []⟩], .pin .inLow⟩
def PIN_IN_H_IN : Fld := ⟨0x3000320, 16, 0x0⟩
def row_PIN_IN_H : RegRow := ⟨"PIN_IN_H", 0x600064, [], 1,
  [⟨0, 16, .ro, fun _ => 0x0, .never, []⟩], .pin .inHigh⟩
def PIN_IOn_CFG_FUNC (i : Nat) : Fld := ⟨0x3008000 + 0x80 * i, 1, 0x0⟩
def PIN_IOn_CFG_SEL (i : Nat) : Fld := ⟨0x3008001 + 0x80 * i, 3, 0x0⟩
def PIN_IOn_CFG_MODE (i : Nat) : Fld := ⟨0x3008004 + 0x80 * i, 2, 0x0⟩
def PIN_IOn_CFG_PULL (i : Nat) : Fld := ⟨0x3008006 + 0x80 * i, 2, 0x0⟩
def PIN_IOn_CFG_OUT (i : Nat) : Fld := ⟨0x3008008 + 0x80 * i, 1, 0x0⟩
def PIN_IOn_CFG_OE (i : Nat) : Fld := ⟨0x3008009 + 0x80 * i, 1, 0x0⟩
def PIN_IOn_CFG_DRBIND (i : Nat) : Fld := ⟨0x300800A + 0x80 * i, 2, 0x0⟩
def PIN_IOn_CFG_FP (i : Nat) : Fld := ⟨0x300800C + 0x80 * i, 2, 0x0⟩
def PIN_IOn_CFG_N (i : Nat) : Fld := ⟨0x300800E + 0x80 * i, 8, 0x0⟩
def PIN_IOn_CFG_STRISE (i : Nat) : Fld := ⟨0x3008016 + 0x80 * i, 1, 0x0⟩
def PIN_IOn_CFG_STFALL (i : Nat) : Fld := ⟨0x3008017 + 0x80 * i, 1, 0x0⟩
def PIN_IOn_CFG_DOM (i : Nat) : Fld := ⟨0x3008018 + 0x80 * i, 3, 0x0⟩
def row_PIN_IOn_CFG : RegRow := ⟨"PIN_IOn_CFG", 0x601000, [(0x10, 48)], 1,
  [⟨0, 1, .rw, fun _ => 0x0, .warm, []⟩, ⟨1, 3, .rw, fun _ => 0x0, .warm, []⟩, ⟨4, 2, .rw, fun _ => 0x0, .warm, [(0, 2)]⟩, ⟨6, 2, .rw, fun _ => 0x0, .warm, [(0, 2)]⟩, ⟨8, 1, .rw, fun _ => 0x0, .warm, []⟩, ⟨9, 1, .rw, fun _ => 0x0, .warm, []⟩, ⟨10, 2, .rwl, fun _ => 0x0, .warm, [(0, 2)]⟩, ⟨12, 2, .rw, fun _ => 0x0, .warm, []⟩, ⟨14, 8, .rw, fun _ => 0x0, .warm, []⟩, ⟨22, 1, .rw, fun _ => 0x0, .warm, []⟩, ⟨23, 1, .rw, fun _ => 0x0, .warm, []⟩, ⟨24, 3, .rw, fun _ => 0x0, .warm, [(0, 4)]⟩], .pin .ioCfg⟩
def PIN_IOn_XDRV_XEN (i : Nat) : Fld := ⟨0x3008040 + 0x80 * i, 1, 0x0⟩
def PIN_IOn_XDRV_XLVL (i : Nat) : Fld := ⟨0x3008041 + 0x80 * i, 1, 0x0⟩
def PIN_IOn_XDRV_XLATCH (i : Nat) : Fld := ⟨0x3008042 + 0x80 * i, 1, 0x0⟩
def PIN_IOn_XDRV_XCLR (i : Nat) : Fld := ⟨0x3008043 + 0x80 * i, 1, 0x0⟩
def PIN_IOn_XDRV_HOLD (i : Nat) : Fld := ⟨0x3008044 + 0x80 * i, 24, 0x1⟩
def row_PIN_IOn_XDRV : RegRow := ⟨"PIN_IOn_XDRV", 0x601008, [(0x10, 48)], 1,
  [⟨0, 1, .rwl, fun _ => 0x0, .warm, []⟩, ⟨1, 1, .rwl, fun _ => 0x0, .warm, []⟩, ⟨2, 1, .rwl, fun _ => 0x0, .warm, []⟩, ⟨3, 1, .wo, fun _ => 0x0, .never, []⟩, ⟨4, 24, .rwl, fun _ => 0x1, .warm, [(1, 10000000)]⟩], .pin .ioXdrv⟩
def PIN_IOn_SAFE_SAFE (i : Nat) : Fld := ⟨0x3008060 + 0x80 * i, 2, 0x2⟩
def PIN_IOn_SAFE_REL (i : Nat) : Fld := ⟨0x3008062 + 0x80 * i, 1, 0x0⟩
def PIN_IOn_SAFE_FORCED (i : Nat) : Fld := ⟨0x3008068 + 0x80 * i, 1, 0x1⟩
def PIN_IOn_SAFE_CAUSE (i : Nat) : Fld := ⟨0x3008069 + 0x80 * i, 5, 0x1⟩
def PIN_IOn_SAFE_XACT (i : Nat) : Fld := ⟨0x300806E + 0x80 * i, 1, 0x0⟩
def PIN_IOn_SAFE_LEVEL (i : Nat) : Fld := ⟨0x300806F + 0x80 * i, 1, 0x0⟩
def row_PIN_IOn_SAFE : RegRow := ⟨"PIN_IOn_SAFE", 0x60100C, [(0x10, 48)], 1,
  [⟨0, 2, .rwl, fun _ => 0x2, .por, [(0, 2)]⟩, ⟨2, 1, .wo, fun _ => 0x0, .never, []⟩, ⟨8, 1, .ro, fun _ => 0x1, .warm, []⟩, ⟨9, 5, .ro, fun _ => 0x1, .warm, []⟩, ⟨14, 1, .ro, fun _ => 0x0, .fn, []⟩, ⟨15, 1, .ro, fun _ => 0x0, .never, []⟩], .pin .ioSafe⟩
def PIN_GRP_CLK_DIVINT (i : Nat) : Fld := ⟨0x3010000 + 0x8000 * i, 16, 0x4⟩
def PIN_GRP_CLK_DIVFRAC (i : Nat) : Fld := ⟨0x3010010 + 0x8000 * i, 8, 0x0⟩
def row_PIN_GRP_CLK : RegRow := ⟨"PIN_GRP_CLK", 0x602000, [(0x1000, 2)], 1,
  [⟨0, 16, .rw, fun _ => 0x4, .warm, [(4, 65535)]⟩, ⟨16, 8, .rw, fun _ => 0x0, .warm, []⟩], .pin .grpClk⟩
def PIN_GRP_START_MASK (i : Nat) : Fld := ⟨0x3010020 + 0x8000 * i, 4, 0x0⟩
def PIN_GRP_START_TIMED (i : Nat) : Fld := ⟨0x3010028 + 0x8000 * i, 1, 0x0⟩
def PIN_GRP_START_DIVSYNC (i : Nat) : Fld := ⟨0x3010029 + 0x8000 * i, 1, 0x0⟩
def row_PIN_GRP_START : RegRow := ⟨"PIN_GRP_START", 0x602004, [(0x1000, 2)], 1,
  [⟨0, 4, .wo, fun _ => 0x0, .never, []⟩, ⟨8, 1, .wo, fun _ => 0x0, .never, []⟩, ⟨9, 1, .wo, fun _ => 0x0, .never, []⟩], .pin .grpStart⟩
def PIN_GRP_HALT_MASK (i : Nat) : Fld := ⟨0x3010040 + 0x8000 * i, 4, 0x0⟩
def row_PIN_GRP_HALT : RegRow := ⟨"PIN_GRP_HALT", 0x602008, [(0x1000, 2)], 1,
  [⟨0, 4, .wo, fun _ => 0x0, .never, []⟩], .pin .grpHalt⟩
def PIN_GRP_TSTART_T (i : Nat) : Fld := ⟨0x3010080 + 0x8000 * i, 96, 0x0⟩
def row_PIN_GRP_TSTART : RegRow := ⟨"PIN_GRP_TSTART", 0x602010, [(0x1000, 2)], 3,
  [⟨0, 96, .rw, fun _ => 0x0, .warm, []⟩], .plain⟩
def PIN_GRP_TDOM_TDOM (i : Nat) : Fld := ⟨0x30100E0 + 0x8000 * i, 3, 0x0⟩
def row_PIN_GRP_TDOM : RegRow := ⟨"PIN_GRP_TDOM", 0x60201C, [(0x1000, 2)], 1,
  [⟨0, 3, .rw, fun _ => 0x0, .warm, [(0, 4)]⟩], .plain⟩
def PIN_GRP_STAT_RUN (i : Nat) : Fld := ⟨0x3010100 + 0x8000 * i, 4, 0x0⟩
def PIN_GRP_STAT_ARMED (i : Nat) : Fld := ⟨0x3010104 + 0x8000 * i, 1, 0x0⟩
def PIN_GRP_STAT_LATE (i : Nat) : Fld := ⟨0x3010105 + 0x8000 * i, 1, 0x0⟩
def PIN_GRP_STAT_REFUSED (i : Nat) : Fld := ⟨0x3010106 + 0x8000 * i, 1, 0x0⟩
def row_PIN_GRP_STAT : RegRow := ⟨"PIN_GRP_STAT", 0x602020, [(0x1000, 2)], 1,
  [⟨0, 4, .ro, fun _ => 0x0, .fn, []⟩, ⟨4, 1, .ro, fun _ => 0x0, .fn, []⟩, ⟨5, 1, .w1c, fun _ => 0x0, .fn, []⟩, ⟨6, 1, .w1c, fun _ => 0x0, .fn, []⟩], .pin .grpStat⟩
def PIN_GRP_FLAGSET_SF (i : Nat) : Fld := ⟨0x3010138 + 0x8000 * i, 8, 0x0⟩
def row_PIN_GRP_FLAGSET : RegRow := ⟨"PIN_GRP_FLAGSET", 0x602024, [(0x1000, 2)], 1,
  [⟨24, 8, .wo, fun _ => 0x0, .never, []⟩], .pin .flagSet⟩
def PIN_GRP_IMEMw_INSTR (i j : Nat) : Fld := ⟨0x3010800 + 0x8000 * i + 0x20 * j, 24, 0x0⟩
def row_PIN_GRP_IMEMw : RegRow := ⟨"PIN_GRP_IMEMw", 0x602100, [(0x1000, 2), (0x4, 64)], 1,
  [⟨0, 24, .rw, fun _ => 0x0, .warm, []⟩], .pin .imem⟩
def PIN_SEQ_CFG_SIDEMODE (i j : Nat) : Fld := ⟨0x3012000 + 0x8000 * i + 0x400 * j, 1, 0x0⟩
def PIN_SEQ_CFG_SIDEMASK (i j : Nat) : Fld := ⟨0x3012001 + 0x8000 * i + 0x400 * j, 5, 0x0⟩
def PIN_SEQ_CFG_SIDEBASE (i j : Nat) : Fld := ⟨0x3012006 + 0x8000 * i + 0x400 * j, 6, 0x0⟩
def PIN_SEQ_CFG_INBASE (i j : Nat) : Fld := ⟨0x301200C + 0x8000 * i + 0x400 * j, 6, 0x0⟩
def PIN_SEQ_CFG_OUTBASE (i j : Nat) : Fld := ⟨0x3012012 + 0x8000 * i + 0x400 * j, 6, 0x0⟩
def PIN_SEQ_CFG_SHIFTDIR (i j : Nat) : Fld := ⟨0x3012018 + 0x8000 * i + 0x400 * j, 1, 0x0⟩
def PIN_SEQ_CFG_FULLPOL (i j : Nat) : Fld := ⟨0x3012019 + 0x8000 * i + 0x400 * j, 1, 0x0⟩
def PIN_SEQ_CFG_FEED (i j : Nat) : Fld := ⟨0x301201A + 0x8000 * i + 0x400 * j, 1, 0x0⟩
def PIN_SEQ_CFG_DELIVER (i j : Nat) : Fld := ⟨0x301201B + 0x8000 * i + 0x400 * j, 1, 0x0⟩
def row_PIN_SEQ_CFG : RegRow := ⟨"PIN_SEQ_CFG", 0x602400, [(0x1000, 2), (0x80, 4)], 1,
  [⟨0, 1, .rw, fun _ => 0x0, .warm, []⟩, ⟨1, 5, .rw, fun _ => 0x0, .warm, []⟩, ⟨6, 6, .rw, fun _ => 0x0, .warm, []⟩, ⟨12, 6, .rw, fun _ => 0x0, .warm, []⟩, ⟨18, 6, .rw, fun _ => 0x0, .warm, []⟩, ⟨24, 1, .rw, fun _ => 0x0, .warm, []⟩, ⟨25, 1, .rw, fun _ => 0x0, .warm, []⟩, ⟨26, 1, .rw, fun _ => 0x0, .warm, []⟩, ⟨27, 1, .rw, fun _ => 0x0, .warm, []⟩], .pin .seqSide⟩
def PIN_SEQ_PROG_LO (i j : Nat) : Fld := ⟨0x3012020 + 0x8000 * i + 0x400 * j, 6, 0x0⟩
def PIN_SEQ_PROG_HI (i j : Nat) : Fld := ⟨0x3012028 + 0x8000 * i + 0x400 * j, 6, 0x3F⟩
def PIN_SEQ_PROG_WRAP (i j : Nat) : Fld := ⟨0x3012030 + 0x8000 * i + 0x400 * j, 6, 0x0⟩
def row_PIN_SEQ_PROG : RegRow := ⟨"PIN_SEQ_PROG", 0x602404, [(0x1000, 2), (0x80, 4)], 1,
  [⟨0, 6, .rw, fun _ => 0x0, .warm, []⟩, ⟨8, 6, .rw, fun _ => 0x3F, .warm, []⟩, ⟨16, 6, .rw, fun _ => 0x0, .warm, []⟩], .pin .seqCfg⟩
def PIN_SEQ_TIME_DOM (i j : Nat) : Fld := ⟨0x3012040 + 0x8000 * i + 0x400 * j, 3, 0x0⟩
def PIN_SEQ_TIME_GRID (i j : Nat) : Fld := ⟨0x3012043 + 0x8000 * i + 0x400 * j, 1, 0x0⟩
def row_PIN_SEQ_TIME : RegRow := ⟨"PIN_SEQ_TIME", 0x602408, [(0x1000, 2), (0x80, 4)], 1,
  [⟨0, 3, .rw, fun _ => 0x0, .warm, [(0, 4)]⟩, ⟨3, 1, .rw, fun _ => 0x0, .warm, []⟩], .pin .seqCfg⟩
def PIN_SEQ_TPER_PER (i j : Nat) : Fld := ⟨0x3012060 + 0x8000 * i + 0x400 * j, 48, 0x0⟩
def row_PIN_SEQ_TPER : RegRow := ⟨"PIN_SEQ_TPER", 0x60240C, [(0x1000, 2), (0x80, 4)], 2,
  [⟨0, 48, .rw, fun _ => 0x0, .warm, []⟩], .pin .seqCfg⟩
def PIN_SEQ_TPHASE_PHASE (i j : Nat) : Fld := ⟨0x30120A0 + 0x8000 * i + 0x400 * j, 48, 0x0⟩
def row_PIN_SEQ_TPHASE : RegRow := ⟨"PIN_SEQ_TPHASE", 0x602414, [(0x1000, 2), (0x80, 4)], 2,
  [⟨0, 48, .rw, fun _ => 0x0, .warm, [(0, 65535999999999)]⟩], .pin .seqCfg⟩
def PIN_SEQ_TCMP_TCMP (i j : Nat) : Fld := ⟨0x30120E0 + 0x8000 * i + 0x400 * j, 96, 0x0⟩
def row_PIN_SEQ_TCMP : RegRow := ⟨"PIN_SEQ_TCMP", 0x60241C, [(0x1000, 2), (0x80, 4)], 3,
  [⟨0, 96, .rw, fun _ => 0x0, .fn, []⟩], .pin .seqCfg⟩
def PIN_SEQ_CRLD_CRLD0 (i j : Nat) : Fld := ⟨0x3012140 + 0x8000 * i + 0x400 * j, 16, 0x0⟩
def PIN_SEQ_CRLD_CRLD1 (i j : Nat) : Fld := ⟨0x3012150 + 0x8000 * i + 0x400 * j, 16, 0x0⟩
def row_PIN_SEQ_CRLD : RegRow := ⟨"PIN_SEQ_CRLD", 0x602428, [(0x1000, 2), (0x80, 4)], 1,
  [⟨0, 16, .rw, fun _ => 0x0, .warm, []⟩, ⟨16, 16, .rw, fun _ => 0x0, .warm, []⟩], .pin .seqCfg⟩
def PIN_SEQ_CTRL_CLRSHIFT (i j : Nat) : Fld := ⟨0x3012160 + 0x8000 * i + 0x400 * j, 1, 0x0⟩
def PIN_SEQ_CTRL_KICK (i j : Nat) : Fld := ⟨0x3012161 + 0x8000 * i + 0x400 * j, 1, 0x0⟩
def row_PIN_SEQ_CTRL : RegRow := ⟨"PIN_SEQ_CTRL", 0x60242C, [(0x1000, 2), (0x80, 4)], 1,
  [⟨0, 1, .wo, fun _ => 0x0, .never, []⟩, ⟨1, 1, .wo, fun _ => 0x0, .never, []⟩], .pin .seqCtrl⟩
def PIN_SEQ_SIG_DB (i j : Nat) : Fld := ⟨0x3012180 + 0x8000 * i + 0x400 * j, 9, 0x0⟩
def PIN_SEQ_SIG_VEC (i j : Nat) : Fld := ⟨0x3012189 + 0x8000 * i + 0x400 * j, 8, 0x0⟩
def PIN_SEQ_SIG_MSIXEN (i j : Nat) : Fld := ⟨0x3012191 + 0x8000 * i + 0x400 * j, 1, 0x0⟩
def row_PIN_SEQ_SIG : RegRow := ⟨"PIN_SEQ_SIG", 0x602430, [(0x1000, 2), (0x80, 4)], 1,
  [⟨0, 9, .rw, fun _ => 0x0, .warm, []⟩, ⟨9, 8, .rw, fun _ => 0x0, .warm, []⟩, ⟨17, 1, .rw, fun _ => 0x0, .warm, []⟩], .pin .seqCfg⟩
def PIN_SEQ_STAT_STATE (i j : Nat) : Fld := ⟨0x30121A0 + 0x8000 * i + 0x400 * j, 2, 0x0⟩
def PIN_SEQ_STAT_PC (i j : Nat) : Fld := ⟨0x30121A2 + 0x8000 * i + 0x400 * j, 6, 0x0⟩
def PIN_SEQ_STAT_HCAUSE (i j : Nat) : Fld := ⟨0x30121A8 + 0x8000 * i + 0x400 * j, 8, 0x0⟩
def PIN_SEQ_STAT_TOUT (i j : Nat) : Fld := ⟨0x30121B0 + 0x8000 * i + 0x400 * j, 1, 0x0⟩
def PIN_SEQ_STAT_IRQ (i j : Nat) : Fld := ⟨0x30121B1 + 0x8000 * i + 0x400 * j, 1, 0x0⟩
def PIN_SEQ_STAT_TCNT (i j : Nat) : Fld := ⟨0x30121B2 + 0x8000 * i + 0x400 * j, 6, 0x0⟩
def PIN_SEQ_STAT_SREM (i j : Nat) : Fld := ⟨0x30121B8 + 0x8000 * i + 0x400 * j, 6, 0x0⟩
def PIN_SEQ_STAT_SPFV (i j : Nat) : Fld := ⟨0x30121BE + 0x8000 * i + 0x400 * j, 1, 0x0⟩
def PIN_SEQ_STAT_THDV (i j : Nat) : Fld := ⟨0x30121BF + 0x8000 * i + 0x400 * j, 1, 0x0⟩
def row_PIN_SEQ_STAT : RegRow := ⟨"PIN_SEQ_STAT", 0x602434, [(0x1000, 2), (0x80, 4)], 1,
  [⟨0, 2, .ro, fun _ => 0x0, .fn, []⟩, ⟨2, 6, .ro, fun _ => 0x0, .fn, []⟩, ⟨8, 8, .ro, fun _ => 0x0, .fn, []⟩, ⟨16, 1, .ro, fun _ => 0x0, .fn, []⟩, ⟨17, 1, .w1c, fun _ => 0x0, .fn, []⟩, ⟨18, 6, .ro, fun _ => 0x0, .fn, []⟩, ⟨24, 6, .ro, fun _ => 0x0, .fn, []⟩, ⟨30, 1, .ro, fun _ => 0x0, .fn, []⟩, ⟨31, 1, .ro, fun _ => 0x0, .fn, []⟩], .pin .seqStat⟩
def PIN_SEQ_CNTR_C0 (i j : Nat) : Fld := ⟨0x30121C0 + 0x8000 * i + 0x400 * j, 16, 0x0⟩
def PIN_SEQ_CNTR_C1 (i j : Nat) : Fld := ⟨0x30121D0 + 0x8000 * i + 0x400 * j, 16, 0x0⟩
def row_PIN_SEQ_CNTR : RegRow := ⟨"PIN_SEQ_CNTR", 0x602438, [(0x1000, 2), (0x80, 4)], 1,
  [⟨0, 16, .ro, fun _ => 0x0, .fn, []⟩, ⟨16, 16, .ro, fun _ => 0x0, .fn, []⟩], .plain⟩
def PIN_SEQ_PEND_PEND (i j : Nat) : Fld := ⟨0x30121E0 + 0x8000 * i + 0x400 * j, 32, 0x0⟩
def row_PIN_SEQ_PEND : RegRow := ⟨"PIN_SEQ_PEND", 0x60243C, [(0x1000, 2), (0x80, 4)], 1,
  [⟨0, 32, .w1c, fun _ => 0x0, .fn, []⟩], .plain⟩
def PIN_SEQ_TXF_DATA (i j : Nat) : Fld := ⟨0x3012200 + 0x8000 * i + 0x400 * j, 32, 0x0⟩
def row_PIN_SEQ_TXF : RegRow := ⟨"PIN_SEQ_TXF", 0x602440, [(0x1000, 2), (0x80, 4)], 1,
  [⟨0, 32, .wo, fun _ => 0x0, .never, []⟩], .pin .txf⟩
def PIN_SEQ_RXF_VALID (i j : Nat) : Fld := ⟨0x301227F + 0x8000 * i + 0x400 * j, 1, 0x0⟩
def PIN_SEQ_RXF_DATA (i j : Nat) : Fld := ⟨0x3012240 + 0x8000 * i + 0x400 * j, 32, 0x0⟩
def row_PIN_SEQ_RXF : RegRow := ⟨"PIN_SEQ_RXF", 0x602448, [(0x1000, 2), (0x80, 4)], 2,
  [⟨63, 1, .ro, fun _ => 0x0, .fn, []⟩, ⟨0, 32, .ro, fun _ => 0x0, .fn, []⟩], .pin .rxf⟩
def PIN_SEQ_FCNT_TXREF (i j : Nat) : Fld := ⟨0x3012280 + 0x8000 * i + 0x400 * j, 16, 0x0⟩
def PIN_SEQ_FCNT_RXOVF (i j : Nat) : Fld := ⟨0x3012290 + 0x8000 * i + 0x400 * j, 16, 0x0⟩
def row_PIN_SEQ_FCNT : RegRow := ⟨"PIN_SEQ_FCNT", 0x602450, [(0x1000, 2), (0x80, 4)], 1,
  [⟨0, 16, .ro, fun _ => 0x0, .fn, []⟩, ⟨16, 16, .ro, fun _ => 0x0, .fn, []⟩], .plain⟩
def PIN_SEQ_TSKIP_TSKIP (i j : Nat) : Fld := ⟨0x30122A0 + 0x8000 * i + 0x400 * j, 32, 0x0⟩
def row_PIN_SEQ_TSKIP : RegRow := ⟨"PIN_SEQ_TSKIP", 0x602454, [(0x1000, 2), (0x80, 4)], 1,
  [⟨0, 32, .ro, fun _ => 0x0, .fn, []⟩], .plain⟩
def PIN_SEQ_TKR_TKR (i j : Nat) : Fld := ⟨0x30122C0 + 0x8000 * i + 0x400 * j, 32, 0x0⟩
def row_PIN_SEQ_TKR : RegRow := ⟨"PIN_SEQ_TKR", 0x602458, [(0x1000, 2), (0x80, 4)], 1,
  [⟨0, 32, .ro, fun _ => 0x0, .fn, []⟩], .plain⟩
def PIN_SEQ_SDR_SDR (i j : Nat) : Fld := ⟨0x30122E0 + 0x8000 * i + 0x400 * j, 32, 0x0⟩
def row_PIN_SEQ_SDR : RegRow := ⟨"PIN_SEQ_SDR", 0x60245C, [(0x1000, 2), (0x80, 4)], 1,
  [⟨0, 32, .ro, fun _ => 0x0, .fn, []⟩], .plain⟩
def PIN_SEQ_FDEPTH_TXD (i j : Nat) : Fld := ⟨0x3012300 + 0x8000 * i + 0x400 * j, 4, 0x0⟩
def PIN_SEQ_FDEPTH_RXD (i j : Nat) : Fld := ⟨0x3012308 + 0x8000 * i + 0x400 * j, 4, 0x0⟩
def row_PIN_SEQ_FDEPTH : RegRow := ⟨"PIN_SEQ_FDEPTH", 0x602460, [(0x1000, 2), (0x80, 4)], 1,
  [⟨0, 4, .ro, fun _ => 0x0, .fn, []⟩, ⟨8, 4, .ro, fun _ => 0x0, .fn, []⟩], .pin .fDepth⟩
def PIN_SEQ_WLEN_SWLEN (i j : Nat) : Fld := ⟨0x3012320 + 0x8000 * i + 0x400 * j, 5, 0x0⟩
def PIN_SEQ_WLEN_TWLEN (i j : Nat) : Fld := ⟨0x3012328 + 0x8000 * i + 0x400 * j, 5, 0x0⟩
def row_PIN_SEQ_WLEN : RegRow := ⟨"PIN_SEQ_WLEN", 0x602464, [(0x1000, 2), (0x80, 4)], 1,
  [⟨0, 5, .rw, fun _ => 0x0, .warm, []⟩, ⟨8, 5, .rw, fun _ => 0x0, .warm, []⟩], .pin .seqCfg⟩
/-- The FN fields of unit group PIN (column "Cleared by", R7). -/
def fnFields_PIN : List Fld :=
  [PIN_STAT_REFUSED, PIN_XSUPP_XSUPP, PIN_ESQ_ENTRY, PIN_ESDEPTH_DEPTH, PIN_ESLOST_LOST]
/-- The FN fields of unit group PIO (column "Cleared by", R7). -/
def fnFields_PIO (i : Nat) : List Fld :=
  [PIN_IOn_SAFE_XACT i]
/-- The FN fields of unit group GRP (column "Cleared by", R7). -/
def fnFields_GRP (i : Nat) : List Fld :=
  [PIN_GRP_STAT_RUN i, PIN_GRP_STAT_ARMED i, PIN_GRP_STAT_LATE i, PIN_GRP_STAT_REFUSED i]
/-- The FN fields of unit group SEQ (column "Cleared by", R7). -/
def fnFields_SEQ (i j : Nat) : List Fld :=
  [PIN_SEQ_TCMP_TCMP i j, PIN_SEQ_STAT_STATE i j, PIN_SEQ_STAT_PC i j, PIN_SEQ_STAT_HCAUSE i j, PIN_SEQ_STAT_TOUT i j, PIN_SEQ_STAT_IRQ i j, PIN_SEQ_STAT_TCNT i j, PIN_SEQ_STAT_SREM i j, PIN_SEQ_STAT_SPFV i j, PIN_SEQ_STAT_THDV i j, PIN_SEQ_CNTR_C0 i j, PIN_SEQ_CNTR_C1 i j]
  ++ [PIN_SEQ_PEND_PEND i j, PIN_SEQ_RXF_VALID i j, PIN_SEQ_RXF_DATA i j, PIN_SEQ_FCNT_TXREF i j, PIN_SEQ_FCNT_RXOVF i j, PIN_SEQ_TSKIP_TSKIP i j, PIN_SEQ_TKR_TKR i j, PIN_SEQ_SDR_SDR i j, PIN_SEQ_FDEPTH_TXD i j, PIN_SEQ_FDEPTH_RXD i j]
/-- The registers of this block. -/
def rowsPin : List RegRow :=
  [row_PIN_STAT, row_PIN_XSUPP, row_PIN_FPk, row_PIN_ESQ, row_PIN_ESDEPTH, row_PIN_ESLOST, row_PIN_IN_L, row_PIN_IN_H, row_PIN_IOn_CFG, row_PIN_IOn_XDRV, row_PIN_IOn_SAFE, row_PIN_GRP_CLK, row_PIN_GRP_START, row_PIN_GRP_HALT, row_PIN_GRP_TSTART, row_PIN_GRP_TDOM, row_PIN_GRP_STAT, row_PIN_GRP_FLAGSET, row_PIN_GRP_IMEMw, row_PIN_SEQ_CFG]
  ++ [row_PIN_SEQ_PROG, row_PIN_SEQ_TIME, row_PIN_SEQ_TPER, row_PIN_SEQ_TPHASE, row_PIN_SEQ_TCMP, row_PIN_SEQ_CRLD, row_PIN_SEQ_CTRL, row_PIN_SEQ_SIG, row_PIN_SEQ_STAT, row_PIN_SEQ_CNTR, row_PIN_SEQ_PEND, row_PIN_SEQ_TXF, row_PIN_SEQ_RXF, row_PIN_SEQ_FCNT, row_PIN_SEQ_TSKIP, row_PIN_SEQ_TKR, row_PIN_SEQ_SDR, row_PIN_SEQ_FDEPTH, row_PIN_SEQ_WLEN]

end Sys2Proof.Machine
end

