-- ==== Sys2Proof/Machine/RegsPort.lean ====
section
/-! DEFINITION. The register fields of the Ethernet ports (spec/03, R84): for each field of the spec's register table its home in the
register store (`<REGISTER>_<FIELD>`, a function of the instance numbers), for each register its row of the map (offset,
instances, fields with bits, access code, reset value and reset class, reserved values), and for each unit the fields its
function reset clears. -/

namespace Sys2Proof.Machine

def PRT_CTRL_EN (i : Nat) : Fld := ⟨0x800000 + 0x40000 * i, 1, 0x0⟩
def PRT_CTRL_PWRDN (i : Nat) : Fld := ⟨0x800001 + 0x40000 * i, 1, 0x1⟩
def row_PRT_CTRL : RegRow := ⟨"PRT_CTRL", 0x100000, [(0x8000, 22)], 1,
  [⟨0, 1, .rw, fun _ => 0x0, .warm, []⟩, ⟨1, 1, .rw, fun _ => 0x1, .warm, []⟩], .prt .ctrl⟩
def PRT_CFG_MODE (i : Nat) : Fld := ⟨0x800020 + 0x40000 * i, 3, (if i < 4 then 0 else if i < 20 then 1 else 4)⟩
def PRT_CFG_ANEN (i : Nat) : Fld := ⟨0x800023 + 0x40000 * i, 1, 0x1⟩
def PRT_CFG_FCMODE (i : Nat) : Fld := ⟨0x800024 + 0x40000 * i, 2, 0x0⟩
def PRT_CFG_LOOP (i : Nat) : Fld := ⟨0x800026 + 0x40000 * i, 1, 0x0⟩
def PRT_CFG_MAXLEN (i : Nat) : Fld := ⟨0x800030 + 0x40000 * i, 14, 0x600⟩
def row_PRT_CFG : RegRow := ⟨"PRT_CFG", 0x100004, [(0x8000, 22)], 1,
  [⟨0, 3, .rw, fun i => (if i < 4 then 0 else if i < 20 then 1 else 4), .warm, []⟩, ⟨3, 1, .rw, fun _ => 0x1, .warm, []⟩, ⟨4, 2, .rw, fun _ => 0x0, .warm, [(0, 2)]⟩, ⟨6, 1, .rw, fun _ => 0x0, .warm, []⟩, ⟨16, 14, .rw, fun _ => 0x600, .warm, []⟩], .prt .cfg⟩
def PRT_LINK_LUDEB (i : Nat) : Fld := ⟨0x800040 + 0x40000 * i, 10, 0xA⟩
def PRT_LINK_LDDEB (i : Nat) : Fld := ⟨0x800050 + 0x40000 * i, 10, 0x0⟩
def row_PRT_LINK : RegRow := ⟨"PRT_LINK", 0x100008, [(0x8000, 22)], 1,
  [⟨0, 10, .rw, fun _ => 0xA, .warm, []⟩, ⟨16, 10, .rw, fun _ => 0x0, .warm, []⟩], .plain⟩
def PRT_STAT_LINK (i : Nat) : Fld := ⟨0x800060 + 0x40000 * i, 1, 0x0⟩
def PRT_STAT_SPEED (i : Nat) : Fld := ⟨0x800061 + 0x40000 * i, 2, 0x0⟩
def PRT_STAT_LFAULT (i : Nat) : Fld := ⟨0x800063 + 0x40000 * i, 1, 0x0⟩
def PRT_STAT_RFAULT (i : Nat) : Fld := ⟨0x800064 + 0x40000 * i, 1, 0x0⟩
def PRT_STAT_PAUSED (i : Nat) : Fld := ⟨0x800065 + 0x40000 * i, 1, 0x0⟩
def PRT_STAT_PWRDY (i : Nat) : Fld := ⟨0x800066 + 0x40000 * i, 1, 0x0⟩
def PRT_STAT_CFGREF (i : Nat) : Fld := ⟨0x800067 + 0x40000 * i, 1, 0x0⟩
def PRT_STAT_LINKCHG (i : Nat) : Fld := ⟨0x800068 + 0x40000 * i, 1, 0x0⟩
def PRT_STAT_VERSTAT (i : Nat) : Fld := ⟨0x800069 + 0x40000 * i, 3, 0x0⟩
def PRT_STAT_PLCAACT (i : Nat) : Fld := ⟨0x80006C + 0x40000 * i, 1, 0x0⟩
def PRT_STAT_PFCACT (i : Nat) : Fld := ⟨0x800070 + 0x40000 * i, 8, 0x0⟩
def row_PRT_STAT : RegRow := ⟨"PRT_STAT", 0x10000C, [(0x8000, 22)], 1,
  [⟨0, 1, .ro, fun _ => 0x0, .fn, []⟩, ⟨1, 2, .ro, fun _ => 0x0, .fn, []⟩, ⟨3, 1, .ro, fun _ => 0x0, .fn, []⟩, ⟨4, 1, .ro, fun _ => 0x0, .fn, []⟩, ⟨5, 1, .ro, fun _ => 0x0, .fn, []⟩, ⟨6, 1, .ro, fun _ => 0x0, .fn, []⟩, ⟨7, 1, .w1c, fun _ => 0x0, .fn, []⟩, ⟨8, 1, .w1c, fun _ => 0x0, .fn, []⟩, ⟨9, 3, .ro, fun _ => 0x0, .fn, []⟩, ⟨12, 1, .ro, fun _ => 0x0, .fn, []⟩, ⟨16, 8, .ro, fun _ => 0x0, .fn, []⟩], .plain⟩
def PRT_PIMM_TCMASK (i : Nat) : Fld := ⟨0x800080 + 0x40000 * i, 8, 0x80⟩
def PRT_PIMM_EXPRESS (i : Nat) : Fld := ⟨0x800088 + 0x40000 * i, 1, 0x1⟩
def PRT_PIMM_PTPEV (i : Nat) : Fld := ⟨0x800089 + 0x40000 * i, 1, 0x1⟩
def row_PRT_PIMM : RegRow := ⟨"PRT_PIMM", 0x100010, [(0x8000, 22)], 1,
  [⟨0, 8, .rw, fun _ => 0x80, .warm, []⟩, ⟨8, 1, .rw, fun _ => 0x1, .warm, []⟩, ⟨9, 1, .rw, fun _ => 0x1, .warm, []⟩], .plain⟩
def PRT_PAUSETX_QUANTA (i : Nat) : Fld := ⟨0x8000A0 + 0x40000 * i, 16, 0xFFFF⟩
def PRT_PAUSETX_REFRESH (i : Nat) : Fld := ⟨0x8000B0 + 0x40000 * i, 16, 0x8000⟩
def row_PRT_PAUSETX : RegRow := ⟨"PRT_PAUSETX", 0x100014, [(0x8000, 22)], 1,
  [⟨0, 16, .rw, fun _ => 0xFFFF, .warm, []⟩, ⟨16, 16, .rw, fun _ => 0x8000, .warm, [(1, 65535)]⟩], .plain⟩
def PRT_PREEMPT_PREEN (i : Nat) : Fld := ⟨0x8000C0 + 0x40000 * i, 1, 0x0⟩
def PRT_PREEMPT_VERDIS (i : Nat) : Fld := ⟨0x8000C1 + 0x40000 * i, 1, 0x0⟩
def PRT_PREEMPT_ADDFRAG (i : Nat) : Fld := ⟨0x8000C2 + 0x40000 * i, 2, 0x0⟩
def PRT_PREEMPT_VERTIME (i : Nat) : Fld := ⟨0x8000C4 + 0x40000 * i, 7, 0xA⟩
def row_PRT_PREEMPT : RegRow := ⟨"PRT_PREEMPT", 0x100018, [(0x8000, 22)], 1,
  [⟨0, 1, .rw, fun _ => 0x0, .warm, []⟩, ⟨1, 1, .rw, fun _ => 0x0, .warm, []⟩, ⟨2, 2, .rw, fun _ => 0x0, .warm, []⟩, ⟨4, 7, .rw, fun _ => 0xA, .warm, [(1, 127)]⟩], .prt .preempt⟩
def PRT_PLCA_NODEID (i : Nat) : Fld := ⟨0x8000E0 + 0x40000 * i, 8, 0xFF⟩
def PRT_PLCA_NODECNT (i : Nat) : Fld := ⟨0x8000E8 + 0x40000 * i, 8, 0x8⟩
def PRT_PLCA_TOTMR (i : Nat) : Fld := ⟨0x8000F0 + 0x40000 * i, 8, 0x20⟩
def PRT_PLCA_BURSTCNT (i : Nat) : Fld := ⟨0x8000F8 + 0x40000 * i, 8, 0x0⟩
def row_PRT_PLCA : RegRow := ⟨"PRT_PLCA", 0x10001C, [(0x8000, 22)], 1,
  [⟨0, 8, .rw, fun _ => 0xFF, .warm, []⟩, ⟨8, 8, .rw, fun _ => 0x8, .warm, [(1, 255)]⟩, ⟨16, 8, .rw, fun _ => 0x20, .warm, [(1, 255)]⟩, ⟨24, 8, .rw, fun _ => 0x0, .warm, []⟩], .prt .plca⟩
def PRT_HDX_BURSTTMR (i : Nat) : Fld := ⟨0x800100 + 0x40000 * i, 8, 0x80⟩
def PRT_HDX_ATTLIM (i : Nat) : Fld := ⟨0x800108 + 0x40000 * i, 5, 0x10⟩
def PRT_HDX_PHYADR (i : Nat) : Fld := ⟨0x800110 + 0x40000 * i, 5, 0x0⟩
def PRT_HDX_MDPOLL (i : Nat) : Fld := ⟨0x800118 + 0x40000 * i, 8, 0x1⟩
def row_PRT_HDX : RegRow := ⟨"PRT_HDX", 0x100020, [(0x8000, 22)], 1,
  [⟨0, 8, .rw, fun _ => 0x80, .warm, [(1, 255)]⟩, ⟨8, 5, .rw, fun _ => 0x10, .warm, [(1, 16)]⟩, ⟨16, 5, .rw, fun _ => 0x0, .warm, []⟩, ⟨24, 8, .rw, fun _ => 0x1, .warm, [(1, 255)]⟩], .prt .hdx⟩
def PRT_ANLP_LPABIL (i : Nat) : Fld := ⟨0x800120 + 0x40000 * i, 16, 0x0⟩
def row_PRT_ANLP : RegRow := ⟨"PRT_ANLP", 0x100024, [(0x8000, 22)], 1,
  [⟨0, 16, .ro, fun _ => 0x0, .fn, []⟩], .plain⟩
def PRT_DROP_DISABLED_CNT (i : Nat) : Fld := ⟨0x800800 + 0x40000 * i, 64, 0x0⟩
def row_PRT_DROP_DISABLED : RegRow := ⟨"PRT_DROP_DISABLED", 0x100100, [(0x8000, 22)], 2,
  [⟨0, 64, .ro, fun _ => 0x0, .fn, []⟩], .plain⟩
def PRT_DROP_CODE_CNT (i : Nat) : Fld := ⟨0x800840 + 0x40000 * i, 64, 0x0⟩
def row_PRT_DROP_CODE : RegRow := ⟨"PRT_DROP_CODE", 0x100108, [(0x8000, 22)], 2,
  [⟨0, 64, .ro, fun _ => 0x0, .fn, []⟩], .plain⟩
def PRT_DROP_TRUNC_CNT (i : Nat) : Fld := ⟨0x800880 + 0x40000 * i, 64, 0x0⟩
def row_PRT_DROP_TRUNC : RegRow := ⟨"PRT_DROP_TRUNC", 0x100110, [(0x8000, 22)], 2,
  [⟨0, 64, .ro, fun _ => 0x0, .fn, []⟩], .plain⟩
def PRT_DROP_RUNT_CNT (i : Nat) : Fld := ⟨0x8008C0 + 0x40000 * i, 64, 0x0⟩
def row_PRT_DROP_RUNT : RegRow := ⟨"PRT_DROP_RUNT", 0x100118, [(0x8000, 22)], 2,
  [⟨0, 64, .ro, fun _ => 0x0, .fn, []⟩], .plain⟩
def PRT_DROP_OVERSIZE_CNT (i : Nat) : Fld := ⟨0x800900 + 0x40000 * i, 64, 0x0⟩
def row_PRT_DROP_OVERSIZE : RegRow := ⟨"PRT_DROP_OVERSIZE", 0x100120, [(0x8000, 22)], 2,
  [⟨0, 64, .ro, fun _ => 0x0, .fn, []⟩], .plain⟩
def PRT_DROP_SMD_CNT (i : Nat) : Fld := ⟨0x800940 + 0x40000 * i, 64, 0x0⟩
def row_PRT_DROP_SMD : RegRow := ⟨"PRT_DROP_SMD", 0x100128, [(0x8000, 22)], 2,
  [⟨0, 64, .ro, fun _ => 0x0, .fn, []⟩], .plain⟩
def PRT_DROP_ASSEMBLY_CNT (i : Nat) : Fld := ⟨0x800980 + 0x40000 * i, 64, 0x0⟩
def row_PRT_DROP_ASSEMBLY : RegRow := ⟨"PRT_DROP_ASSEMBLY", 0x100130, [(0x8000, 22)], 2,
  [⟨0, 64, .ro, fun _ => 0x0, .fn, []⟩], .plain⟩
def PRT_DROP_FCS_CNT (i : Nat) : Fld := ⟨0x8009C0 + 0x40000 * i, 64, 0x0⟩
def row_PRT_DROP_FCS : RegRow := ⟨"PRT_DROP_FCS", 0x100138, [(0x8000, 22)], 2,
  [⟨0, 64, .ro, fun _ => 0x0, .fn, []⟩], .plain⟩
def PRT_DROP_MACCTL_CNT (i : Nat) : Fld := ⟨0x800A00 + 0x40000 * i, 64, 0x0⟩
def row_PRT_DROP_MACCTL : RegRow := ⟨"PRT_DROP_MACCTL", 0x100140, [(0x8000, 22)], 2,
  [⟨0, 64, .ro, fun _ => 0x0, .fn, []⟩], .plain⟩
def PRT_DROP_EXCOL_CNT (i : Nat) : Fld := ⟨0x800B00 + 0x40000 * i, 64, 0x0⟩
def row_PRT_DROP_EXCOL : RegRow := ⟨"PRT_DROP_EXCOL", 0x100160, [(0x8000, 22)], 2,
  [⟨0, 64, .ro, fun _ => 0x0, .fn, []⟩], .plain⟩
def PRT_DROP_LATECOL_CNT (i : Nat) : Fld := ⟨0x800B40 + 0x40000 * i, 64, 0x0⟩
def row_PRT_DROP_LATECOL : RegRow := ⟨"PRT_DROP_LATECOL", 0x100168, [(0x8000, 22)], 2,
  [⟨0, 64, .ro, fun _ => 0x0, .fn, []⟩], .plain⟩
def PRT_CUT_LINK_CNT (i : Nat) : Fld := ⟨0x800B80 + 0x40000 * i, 64, 0x0⟩
def row_PRT_CUT_LINK : RegRow := ⟨"PRT_CUT_LINK", 0x100170, [(0x8000, 22)], 2,
  [⟨0, 64, .ro, fun _ => 0x0, .fn, []⟩], .plain⟩
def PRT_CUT_RESET_CNT (i : Nat) : Fld := ⟨0x800BC0 + 0x40000 * i, 64, 0x0⟩
def row_PRT_CUT_RESET : RegRow := ⟨"PRT_CUT_RESET", 0x100178, [(0x8000, 22)], 2,
  [⟨0, 64, .ro, fun _ => 0x0, .fn, []⟩], .plain⟩
def PRT_RXOK_CNT (i : Nat) : Fld := ⟨0x800C00 + 0x40000 * i, 64, 0x0⟩
def row_PRT_RXOK : RegRow := ⟨"PRT_RXOK", 0x100180, [(0x8000, 22)], 2,
  [⟨0, 64, .ro, fun _ => 0x0, .fn, []⟩], .plain⟩
def PRT_RXOCT_CNT (i : Nat) : Fld := ⟨0x800C40 + 0x40000 * i, 64, 0x0⟩
def row_PRT_RXOCT : RegRow := ⟨"PRT_RXOCT", 0x100188, [(0x8000, 22)], 2,
  [⟨0, 64, .ro, fun _ => 0x0, .fn, []⟩], .plain⟩
def PRT_TXOK_CNT (i : Nat) : Fld := ⟨0x800C80 + 0x40000 * i, 64, 0x0⟩
def row_PRT_TXOK : RegRow := ⟨"PRT_TXOK", 0x100190, [(0x8000, 22)], 2,
  [⟨0, 64, .ro, fun _ => 0x0, .fn, []⟩], .plain⟩
def PRT_TXOCT_CNT (i : Nat) : Fld := ⟨0x800CC0 + 0x40000 * i, 64, 0x0⟩
def row_PRT_TXOCT : RegRow := ⟨"PRT_TXOCT", 0x100198, [(0x8000, 22)], 2,
  [⟨0, 64, .ro, fun _ => 0x0, .fn, []⟩], .plain⟩
def PRT_RXPAUSE_CNT (i : Nat) : Fld := ⟨0x800D00 + 0x40000 * i, 64, 0x0⟩
def row_PRT_RXPAUSE : RegRow := ⟨"PRT_RXPAUSE", 0x1001A0, [(0x8000, 22)], 2,
  [⟨0, 64, .ro, fun _ => 0x0, .fn, []⟩], .plain⟩
def PRT_RXPFC_CNT (i : Nat) : Fld := ⟨0x800D40 + 0x40000 * i, 64, 0x0⟩
def row_PRT_RXPFC : RegRow := ⟨"PRT_RXPFC", 0x1001A8, [(0x8000, 22)], 2,
  [⟨0, 64, .ro, fun _ => 0x0, .fn, []⟩], .plain⟩
def PRT_TXPAUSE_CNT (i : Nat) : Fld := ⟨0x800D80 + 0x40000 * i, 64, 0x0⟩
def row_PRT_TXPAUSE : RegRow := ⟨"PRT_TXPAUSE", 0x1001B0, [(0x8000, 22)], 2,
  [⟨0, 64, .ro, fun _ => 0x0, .fn, []⟩], .plain⟩
def PRT_TXPFC_CNT (i : Nat) : Fld := ⟨0x800DC0 + 0x40000 * i, 64, 0x0⟩
def row_PRT_TXPFC : RegRow := ⟨"PRT_TXPFC", 0x1001B8, [(0x8000, 22)], 2,
  [⟨0, 64, .ro, fun _ => 0x0, .fn, []⟩], .plain⟩
def PRT_PIMMOVR_CNT (i : Nat) : Fld := ⟨0x800E00 + 0x40000 * i, 64, 0x0⟩
def row_PRT_PIMMOVR : RegRow := ⟨"PRT_PIMMOVR", 0x1001C0, [(0x8000, 22)], 2,
  [⟨0, 64, .ro, fun _ => 0x0, .fn, []⟩], .plain⟩
def PRT_RXFCIGN_CNT (i : Nat) : Fld := ⟨0x800E40 + 0x40000 * i, 64, 0x0⟩
def row_PRT_RXFCIGN : RegRow := ⟨"PRT_RXFCIGN", 0x1001C8, [(0x8000, 22)], 2,
  [⟨0, 64, .ro, fun _ => 0x0, .fn, []⟩], .plain⟩
def PRT_FRAG_RX_CNT (i : Nat) : Fld := ⟨0x800E80 + 0x40000 * i, 64, 0x0⟩
def row_PRT_FRAG_RX : RegRow := ⟨"PRT_FRAG_RX", 0x1001D0, [(0x8000, 22)], 2,
  [⟨0, 64, .ro, fun _ => 0x0, .fn, []⟩], .plain⟩
def PRT_FRAG_TX_CNT (i : Nat) : Fld := ⟨0x800EC0 + 0x40000 * i, 64, 0x0⟩
def row_PRT_FRAG_TX : RegRow := ⟨"PRT_FRAG_TX", 0x1001D8, [(0x8000, 22)], 2,
  [⟨0, 64, .ro, fun _ => 0x0, .fn, []⟩], .plain⟩
def PRT_ASSOK_CNT (i : Nat) : Fld := ⟨0x800F00 + 0x40000 * i, 64, 0x0⟩
def row_PRT_ASSOK : RegRow := ⟨"PRT_ASSOK", 0x1001E0, [(0x8000, 22)], 2,
  [⟨0, 64, .ro, fun _ => 0x0, .fn, []⟩], .plain⟩
def PRT_COLL_CNT (i : Nat) : Fld := ⟨0x800F40 + 0x40000 * i, 64, 0x0⟩
def row_PRT_COLL : RegRow := ⟨"PRT_COLL", 0x1001E8, [(0x8000, 22)], 2,
  [⟨0, 64, .ro, fun _ => 0x0, .fn, []⟩], .plain⟩
/-- The FN fields of unit group PRT (column "Cleared by", R7). -/
def fnFields_PRT (i : Nat) : List Fld :=
  [PRT_STAT_LINK i, PRT_STAT_SPEED i, PRT_STAT_LFAULT i, PRT_STAT_RFAULT i, PRT_STAT_PAUSED i, PRT_STAT_PWRDY i, PRT_STAT_CFGREF i, PRT_STAT_LINKCHG i, PRT_STAT_VERSTAT i, PRT_STAT_PLCAACT i, PRT_STAT_PFCACT i, PRT_ANLP_LPABIL i]
  ++ [PRT_DROP_DISABLED_CNT i, PRT_DROP_CODE_CNT i, PRT_DROP_TRUNC_CNT i, PRT_DROP_RUNT_CNT i, PRT_DROP_OVERSIZE_CNT i, PRT_DROP_SMD_CNT i, PRT_DROP_ASSEMBLY_CNT i, PRT_DROP_FCS_CNT i, PRT_DROP_MACCTL_CNT i, PRT_DROP_EXCOL_CNT i, PRT_DROP_LATECOL_CNT i, PRT_CUT_LINK_CNT i]
  ++ [PRT_CUT_RESET_CNT i, PRT_RXOK_CNT i, PRT_RXOCT_CNT i, PRT_TXOK_CNT i, PRT_TXOCT_CNT i, PRT_RXPAUSE_CNT i, PRT_RXPFC_CNT i, PRT_TXPAUSE_CNT i, PRT_TXPFC_CNT i, PRT_PIMMOVR_CNT i, PRT_RXFCIGN_CNT i, PRT_FRAG_RX_CNT i]
  ++ [PRT_FRAG_TX_CNT i, PRT_ASSOK_CNT i, PRT_COLL_CNT i]
/-- The registers of this block. -/
def rowsPort : List RegRow :=
  [row_PRT_CTRL, row_PRT_CFG, row_PRT_LINK, row_PRT_STAT, row_PRT_PIMM, row_PRT_PAUSETX, row_PRT_PREEMPT, row_PRT_PLCA, row_PRT_HDX, row_PRT_ANLP, row_PRT_DROP_DISABLED, row_PRT_DROP_CODE, row_PRT_DROP_TRUNC, row_PRT_DROP_RUNT, row_PRT_DROP_OVERSIZE, row_PRT_DROP_SMD, row_PRT_DROP_ASSEMBLY, row_PRT_DROP_FCS, row_PRT_DROP_MACCTL, row_PRT_DROP_EXCOL]
  ++ [row_PRT_DROP_LATECOL, row_PRT_CUT_LINK, row_PRT_CUT_RESET, row_PRT_RXOK, row_PRT_RXOCT, row_PRT_TXOK, row_PRT_TXOCT, row_PRT_RXPAUSE, row_PRT_RXPFC, row_PRT_TXPAUSE, row_PRT_TXPFC, row_PRT_PIMMOVR, row_PRT_RXFCIGN, row_PRT_FRAG_RX, row_PRT_FRAG_TX, row_PRT_ASSOK, row_PRT_COLL]

end Sys2Proof.Machine
end

