-- ==== Sys2Proof/Machine/RegsSau.lean ====
section
/-! DEFINITION. The register fields of the Sample Alignment Unit (spec/08, R234): for each field of the spec's register table its home in the
register store (`<REGISTER>_<FIELD>`, a function of the instance numbers), for each register its row of the map (offset,
instances, fields with bits, access code, reset value and reset class, reserved values), and for each unit the fields its
function reset clears. -/

namespace Sys2Proof.Machine

def SAU_STAT_REFUSED : Fld := ⟨0x2800000, 1, 0x0⟩
def row_SAU_STAT : RegRow := ⟨"SAU_STAT", 0x500000, [], 1,
  [⟨0, 1, .w1c, fun _ => 0x0, .fn, []⟩], .plain⟩
def SAU_LOADIN_LOAD : Fld := ⟨0x2800020, 25, 0x0⟩
def row_SAU_LOADIN : RegRow := ⟨"SAU_LOADIN", 0x500004, [], 1,
  [⟨0, 25, .ro, fun _ => 0x0, .warm, []⟩], .plain⟩
def SAU_LOADOUT_LOAD : Fld := ⟨0x2800040, 25, 0x0⟩
def row_SAU_LOADOUT : RegRow := ⟨"SAU_LOADOUT", 0x500008, [], 1,
  [⟨0, 25, .ro, fun _ => 0x0, .warm, []⟩], .plain⟩
def SAU_Mm_CFG_EN (i : Nat) : Fld := ⟨0x2808000 + 0x800 * i, 1, 0x0⟩
def SAU_Mm_CFG_DOM (i : Nat) : Fld := ⟨0x2808001 + 0x800 * i, 3, 0x0⟩
def SAU_Mm_CFG_DMAEN (i : Nat) : Fld := ⟨0x2808004 + 0x800 * i, 1, 0x0⟩
def SAU_Mm_CFG_DMACH (i : Nat) : Fld := ⟨0x2808005 + 0x800 * i, 3, 0x0⟩
def row_SAU_Mm_CFG : RegRow := ⟨"SAU_Mm_CFG", 0x501000, [(0x100, 4)], 1,
  [⟨0, 1, .rw, fun _ => 0x0, .warm, []⟩, ⟨1, 3, .rwl, fun _ => 0x0, .warm, [(0, 3)]⟩, ⟨4, 1, .rwl, fun _ => 0x0, .warm, []⟩, ⟨5, 3, .rwl, fun _ => 0x0, .warm, []⟩], .sau .matrixCfg⟩
def SAU_Mm_RATE_RATE (i : Nat) : Fld := ⟨0x2808020 + 0x800 * i, 17, 0x12C0⟩
def row_SAU_Mm_RATE : RegRow := ⟨"SAU_Mm_RATE", 0x501004, [(0x100, 4)], 1,
  [⟨0, 17, .rwl, fun _ => 0x12C0, .warm, [(1000, 96000)]⟩], .sau .matrixReg⟩
def SAU_Mm_PHASE_PHASE (i : Nat) : Fld := ⟨0x2808040 + 0x800 * i, 48, 0x0⟩
def row_SAU_Mm_PHASE : RegRow := ⟨"SAU_Mm_PHASE", 0x501008, [(0x100, 4)], 2,
  [⟨0, 48, .rwl, fun _ => 0x0, .warm, []⟩], .sau .matrixReg⟩
def SAU_Mm_MEMB_MBASE (i : Nat) : Fld := ⟨0x2808080 + 0x800 * i, 11, 0x0⟩
def SAU_Mm_MEMB_MCOUNT (i : Nat) : Fld := ⟨0x2808090 + 0x800 * i, 12, 0x1⟩
def row_SAU_Mm_MEMB : RegRow := ⟨"SAU_Mm_MEMB", 0x501010, [(0x100, 4)], 1,
  [⟨0, 11, .rwl, fun _ => 0x0, .warm, []⟩, ⟨16, 12, .rwl, fun _ => 0x1, .warm, [(1, 2048)]⟩], .sau .matrixReg⟩
def SAU_Mm_DEADLINE_DEADLINE (i : Nat) : Fld := ⟨0x28080A0 + 0x800 * i, 20, 0xFA⟩
def row_SAU_Mm_DEADLINE : RegRow := ⟨"SAU_Mm_DEADLINE", 0x501014, [(0x100, 4)], 1,
  [⟨0, 20, .rwl, fun _ => 0xFA, .warm, [(1, 1000000)]⟩], .sau .matrixReg⟩
def SAU_Mm_RING_BANK (i : Nat) : Fld := ⟨0x28080C0 + 0x800 * i, 6, 0x0⟩
def SAU_Mm_RING_NBANKS (i : Nat) : Fld := ⟨0x28080C6 + 0x800 * i, 2, 0x0⟩
def SAU_Mm_RING_ROWS (i : Nat) : Fld := ⟨0x28080C8 + 0x800 * i, 16, 0x2⟩
def row_SAU_Mm_RING : RegRow := ⟨"SAU_Mm_RING", 0x501018, [(0x100, 4)], 1,
  [⟨0, 6, .rwl, fun _ => 0x0, .warm, []⟩, ⟨6, 2, .rwl, fun _ => 0x0, .warm, []⟩, ⟨8, 16, .rwl, fun _ => 0x2, .warm, [(2, 65535)]⟩], .sau .matrixReg⟩
def SAU_Mm_NOTIFY_N (i : Nat) : Fld := ⟨0x28080E0 + 0x800 * i, 9, 0x1⟩
def SAU_Mm_NOTIFY_DBEN (i : Nat) : Fld := ⟨0x28080E9 + 0x800 * i, 1, 0x0⟩
def SAU_Mm_NOTIFY_DB (i : Nat) : Fld := ⟨0x28080EA + 0x800 * i, 9, 0x0⟩
def SAU_Mm_NOTIFY_MSIXEN (i : Nat) : Fld := ⟨0x28080F3 + 0x800 * i, 1, 0x0⟩
def SAU_Mm_NOTIFY_VEC (i : Nat) : Fld := ⟨0x28080F4 + 0x800 * i, 8, 0x0⟩
def row_SAU_Mm_NOTIFY : RegRow := ⟨"SAU_Mm_NOTIFY", 0x50101C, [(0x100, 4)], 1,
  [⟨0, 9, .rw, fun _ => 0x1, .warm, [(1, 256)]⟩, ⟨9, 1, .rw, fun _ => 0x0, .warm, []⟩, ⟨10, 9, .rw, fun _ => 0x0, .warm, []⟩, ⟨19, 1, .rw, fun _ => 0x0, .warm, []⟩, ⟨20, 8, .rw, fun _ => 0x0, .warm, []⟩], .plain⟩
def SAU_Mm_HADDR_HADDR (i : Nat) : Fld := ⟨0x2808100 + 0x800 * i, 64, 0x0⟩
def row_SAU_Mm_HADDR : RegRow := ⟨"SAU_Mm_HADDR", 0x501020, [(0x100, 4)], 2,
  [⟨0, 64, .rwl, fun _ => 0x0, .warm, []⟩], .sau .hostAddr⟩
def SAU_Mm_TLIM_TLIM (i : Nat) : Fld := ⟨0x2808140 + 0x800 * i, 32, 0xF4240⟩
def row_SAU_Mm_TLIM : RegRow := ⟨"SAU_Mm_TLIM", 0x501028, [(0x100, 4)], 1,
  [⟨0, 32, .rw, fun _ => 0xF4240, .warm, []⟩], .sau .timeLimit⟩
def SAU_Mm_ROWSZ_ROWSZ (i : Nat) : Fld := ⟨0x2808160 + 0x800 * i, 18, 0x40⟩
def row_SAU_Mm_ROWSZ : RegRow := ⟨"SAU_Mm_ROWSZ", 0x50102C, [(0x100, 4)], 1,
  [⟨0, 18, .ro, fun _ => 0x40, .warm, []⟩], .sau .rowSize⟩
def SAU_Mm_WSEQ_WSEQ (i : Nat) : Fld := ⟨0x2808180 + 0x800 * i, 32, 0xFFFFFFFF⟩
def row_SAU_Mm_WSEQ : RegRow := ⟨"SAU_Mm_WSEQ", 0x501030, [(0x100, 4)], 1,
  [⟨0, 32, .ro, fun _ => 0xFFFFFFFF, .warm, []⟩], .sau .matrixReg⟩
def SAU_Mm_STAT_ACTIVE (i : Nat) : Fld := ⟨0x28081A0 + 0x800 * i, 1, 0x0⟩
def SAU_Mm_STAT_TIMEUNC (i : Nat) : Fld := ⟨0x28081A1 + 0x800 * i, 1, 0x0⟩
def SAU_Mm_STAT_OPEN (i : Nat) : Fld := ⟨0x28081A8 + 0x800 * i, 7, 0x0⟩
def row_SAU_Mm_STAT : RegRow := ⟨"SAU_Mm_STAT", 0x501034, [(0x100, 4)], 1,
  [⟨0, 1, .ro, fun _ => 0x0, .fn, []⟩, ⟨1, 1, .ro, fun _ => 0x0, .fn, []⟩, ⟨8, 7, .ro, fun _ => 0x0, .fn, []⟩], .sau .matrixReg⟩
def SAU_Mm_LATMAX_LATMAX (i : Nat) : Fld := ⟨0x28081C0 + 0x800 * i, 32, 0x0⟩
def row_SAU_Mm_LATMAX : RegRow := ⟨"SAU_Mm_LATMAX", 0x501038, [(0x100, 4)], 1,
  [⟨0, 32, .rc, fun _ => 0x0, .fn, []⟩], .sau .matrixReg⟩
def SAU_Mm_ROWCNT_CNT (i : Nat) : Fld := ⟨0x2808200 + 0x800 * i, 64, 0x0⟩
def row_SAU_Mm_ROWCNT : RegRow := ⟨"SAU_Mm_ROWCNT", 0x501040, [(0x100, 4)], 2,
  [⟨0, 64, .ro, fun _ => 0x0, .fn, []⟩], .sau .matrixReg⟩
def SAU_Mm_DEADLINECNT_CNT (i : Nat) : Fld := ⟨0x2808240 + 0x800 * i, 64, 0x0⟩
def row_SAU_Mm_DEADLINECNT : RegRow := ⟨"SAU_Mm_DEADLINECNT", 0x501048, [(0x100, 4)], 2,
  [⟨0, 64, .ro, fun _ => 0x0, .fn, []⟩], .sau .matrixReg⟩
def SAU_Mm_INCOMPLETE_CNT (i : Nat) : Fld := ⟨0x2808280 + 0x800 * i, 64, 0x0⟩
def row_SAU_Mm_INCOMPLETE : RegRow := ⟨"SAU_Mm_INCOMPLETE", 0x501050, [(0x100, 4)], 2,
  [⟨0, 64, .ro, fun _ => 0x0, .fn, []⟩], .sau .matrixReg⟩
def SAU_Mm_ABSENT_CNT (i : Nat) : Fld := ⟨0x28082C0 + 0x800 * i, 64, 0x0⟩
def row_SAU_Mm_ABSENT : RegRow := ⟨"SAU_Mm_ABSENT", 0x501058, [(0x100, 4)], 2,
  [⟨0, 64, .ro, fun _ => 0x0, .fn, []⟩], .sau .matrixReg⟩
def SAU_Mm_DMASKIP_CNT (i : Nat) : Fld := ⟨0x2808300 + 0x800 * i, 64, 0x0⟩
def row_SAU_Mm_DMASKIP : RegRow := ⟨"SAU_Mm_DMASKIP", 0x501060, [(0x100, 4)], 2,
  [⟨0, 64, .ro, fun _ => 0x0, .fn, []⟩], .sau .matrixReg⟩
def SAU_S_CFG_EN (i : Nat) : Fld := ⟨0x2880000 + 0x400 * i, 1, 0x0⟩
def SAU_S_CFG_MODE (i : Nat) : Fld := ⟨0x2880001 + 0x400 * i, 2, 0x0⟩
def SAU_S_CFG_NCH (i : Nat) : Fld := ⟨0x2880003 + 0x400 * i, 4, 0x7⟩
def SAU_S_CFG_SIMPOL (i : Nat) : Fld := ⟨0x2880007 + 0x400 * i, 2, 0x0⟩
def SAU_S_CFG_SYNCMIN (i : Nat) : Fld := ⟨0x2880009 + 0x400 * i, 2, 0x0⟩
def SAU_S_CFG_CREVEN (i : Nat) : Fld := ⟨0x288000B + 0x400 * i, 1, 0x0⟩
def SAU_S_CFG_UNSYNCDROP (i : Nat) : Fld := ⟨0x288000C + 0x400 * i, 1, 0x0⟩
def SAU_S_CFG_REF (i : Nat) : Fld := ⟨0x288000D + 0x400 * i, 8, 0x0⟩
def SAU_S_CFG_GAPMAX (i : Nat) : Fld := ⟨0x2880015 + 0x400 * i, 6, 0x10⟩
def row_SAU_S_CFG : RegRow := ⟨"SAU_S_CFG", 0x510000, [(0x80, 256)], 1,
  [⟨0, 1, .rw, fun _ => 0x0, .warm, []⟩, ⟨1, 2, .rwl, fun _ => 0x0, .warm, [(0, 2)]⟩, ⟨3, 4, .rwl, fun _ => 0x7, .warm, []⟩, ⟨7, 2, .rwl, fun _ => 0x0, .warm, [(0, 2)]⟩, ⟨9, 2, .rwl, fun _ => 0x0, .warm, [(0, 2)]⟩, ⟨11, 1, .rwl, fun _ => 0x0, .warm, []⟩, ⟨12, 1, .rwl, fun _ => 0x0, .warm, []⟩, ⟨13, 8, .rwl, fun _ => 0x0, .warm, []⟩, ⟨21, 6, .rwl, fun _ => 0x10, .warm, [(1, 63)]⟩], .sau .streamCfg⟩
def SAU_S_DMAC_L_DMAC (i : Nat) : Fld := ⟨0x2880020 + 0x400 * i, 32, 0x0⟩
def row_SAU_S_DMAC_L : RegRow := ⟨"SAU_S_DMAC_L", 0x510004, [(0x80, 256)], 1,
  [⟨0, 32, .rwl, fun _ => 0x0, .warm, []⟩], .sau .streamReg⟩
def SAU_S_DMAC_H_DMAC (i : Nat) : Fld := ⟨0x2880040 + 0x400 * i, 16, 0x0⟩
def row_SAU_S_DMAC_H : RegRow := ⟨"SAU_S_DMAC_H", 0x510008, [(0x80, 256)], 1,
  [⟨0, 16, .rwl, fun _ => 0x0, .warm, []⟩], .sau .streamReg⟩
def SAU_S_APPID_APPID (i : Nat) : Fld := ⟨0x2880060 + 0x400 * i, 16, 0x0⟩
def row_SAU_S_APPID : RegRow := ⟨"SAU_S_APPID", 0x51000C, [(0x80, 256)], 1,
  [⟨0, 16, .rwl, fun _ => 0x0, .warm, []⟩], .sau .streamReg⟩
def SAU_S_SVCRC_SVCRC (i : Nat) : Fld := ⟨0x2880080 + 0x400 * i, 32, 0x0⟩
def row_SAU_S_SVCRC : RegRow := ⟨"SAU_S_SVCRC", 0x510010, [(0x80, 256)], 1,
  [⟨0, 32, .rwl, fun _ => 0x0, .warm, []⟩], .sau .streamReg⟩
def SAU_S_CONFREV_CONFREV (i : Nat) : Fld := ⟨0x28800A0 + 0x400 * i, 32, 0x0⟩
def row_SAU_S_CONFREV : RegRow := ⟨"SAU_S_CONFREV", 0x510014, [(0x80, 256)], 1,
  [⟨0, 32, .rwl, fun _ => 0x0, .warm, []⟩], .sau .streamReg⟩
def SAU_S_RATE_RATE (i : Nat) : Fld := ⟨0x28800C0 + 0x400 * i, 17, 0x12C0⟩
def row_SAU_S_RATE : RegRow := ⟨"SAU_S_RATE", 0x510018, [(0x80, 256)], 1,
  [⟨0, 17, .rwl, fun _ => 0x12C0, .warm, [(1000, 96000)]⟩], .sau .streamRate⟩
def SAU_S_WRAP_WRAP (i : Nat) : Fld := ⟨0x28800E0 + 0x400 * i, 17, 0x12C0⟩
def row_SAU_S_WRAP : RegRow := ⟨"SAU_S_WRAP", 0x51001C, [(0x80, 256)], 1,
  [⟨0, 17, .rwl, fun _ => 0x12C0, .warm, [(128, 65536)]⟩], .sau .streamRate⟩
def SAU_S_OFFSET_OFFSET (i : Nat) : Fld := ⟨0x2880100 + 0x400 * i, 48, 0x0⟩
def row_SAU_S_OFFSET : RegRow := ⟨"SAU_S_OFFSET", 0x510020, [(0x80, 256)], 2,
  [⟨0, 48, .rwl, fun _ => 0x0, .warm, []⟩], .sau .streamReg⟩
def SAU_S_LATENCY_LATENCY (i : Nat) : Fld := ⟨0x2880140 + 0x400 * i, 48, 0x0⟩
def row_SAU_S_LATENCY : RegRow := ⟨"SAU_S_LATENCY", 0x510028, [(0x80, 256)], 2,
  [⟨0, 48, .rwl, fun _ => 0x0, .warm, []⟩], .sau .streamReg⟩
def SAU_S_TMO_TMO (i : Nat) : Fld := ⟨0x2880180 + 0x400 * i, 10, 0xA⟩
def row_SAU_S_TMO : RegRow := ⟨"SAU_S_TMO", 0x510030, [(0x80, 256)], 1,
  [⟨0, 10, .rwl, fun _ => 0xA, .warm, [(1, 1000)]⟩], .sau .streamReg⟩
def SAU_S_STAT_STATE (i : Nat) : Fld := ⟨0x28801A0 + 0x400 * i, 3, 0x0⟩
def SAU_S_STAT_RESTARTED (i : Nat) : Fld := ⟨0x28801A3 + 0x400 * i, 1, 0x0⟩
def SAU_S_STAT_NEWEST (i : Nat) : Fld := ⟨0x28801B0 + 0x400 * i, 16, 0x0⟩
def row_SAU_S_STAT : RegRow := ⟨"SAU_S_STAT", 0x510034, [(0x80, 256)], 1,
  [⟨0, 3, .ro, fun _ => 0x0, .fn, []⟩, ⟨3, 1, .w1c, fun _ => 0x0, .fn, []⟩, ⟨16, 16, .ro, fun _ => 0x0, .fn, []⟩], .sau .streamReg⟩
def SAU_S_ACCEPT_CNT (i : Nat) : Fld := ⟨0x2880200 + 0x400 * i, 32, 0x0⟩
def row_SAU_S_ACCEPT : RegRow := ⟨"SAU_S_ACCEPT", 0x510040, [(0x80, 256)], 1,
  [⟨0, 32, .ro, fun _ => 0x0, .fn, []⟩], .sau .streamReg⟩
def SAU_S_MISSING_CNT (i : Nat) : Fld := ⟨0x2880220 + 0x400 * i, 32, 0x0⟩
def row_SAU_S_MISSING : RegRow := ⟨"SAU_S_MISSING", 0x510044, [(0x80, 256)], 1,
  [⟨0, 32, .ro, fun _ => 0x0, .fn, []⟩], .sau .streamReg⟩
def SAU_S_DUP_CNT (i : Nat) : Fld := ⟨0x2880240 + 0x400 * i, 32, 0x0⟩
def row_SAU_S_DUP : RegRow := ⟨"SAU_S_DUP", 0x510048, [(0x80, 256)], 1,
  [⟨0, 32, .ro, fun _ => 0x0, .fn, []⟩], .sau .streamReg⟩
def SAU_S_OOO_CNT (i : Nat) : Fld := ⟨0x2880260 + 0x400 * i, 32, 0x0⟩
def row_SAU_S_OOO : RegRow := ⟨"SAU_S_OOO", 0x51004C, [(0x80, 256)], 1,
  [⟨0, 32, .ro, fun _ => 0x0, .fn, []⟩], .sau .streamReg⟩
def SAU_S_LATE_CNT (i : Nat) : Fld := ⟨0x2880280 + 0x400 * i, 32, 0x0⟩
def row_SAU_S_LATE : RegRow := ⟨"SAU_S_LATE", 0x510050, [(0x80, 256)], 1,
  [⟨0, 32, .ro, fun _ => 0x0, .fn, []⟩], .sau .streamReg⟩
def SAU_S_FORMAT_CNT (i : Nat) : Fld := ⟨0x28802A0 + 0x400 * i, 32, 0x0⟩
def row_SAU_S_FORMAT : RegRow := ⟨"SAU_S_FORMAT", 0x510054, [(0x80, 256)], 1,
  [⟨0, 32, .ro, fun _ => 0x0, .fn, []⟩], .sau .streamReg⟩
def SAU_S_CONFREVCNT_CNT (i : Nat) : Fld := ⟨0x28802C0 + 0x400 * i, 32, 0x0⟩
def row_SAU_S_CONFREVCNT : RegRow := ⟨"SAU_S_CONFREVCNT", 0x510058, [(0x80, 256)], 1,
  [⟨0, 32, .ro, fun _ => 0x0, .fn, []⟩], .sau .streamReg⟩
def SAU_S_SIM_CNT (i : Nat) : Fld := ⟨0x28802E0 + 0x400 * i, 32, 0x0⟩
def row_SAU_S_SIM : RegRow := ⟨"SAU_S_SIM", 0x51005C, [(0x80, 256)], 1,
  [⟨0, 32, .ro, fun _ => 0x0, .fn, []⟩], .sau .streamReg⟩
def SAU_S_UNSYNC_CNT (i : Nat) : Fld := ⟨0x2880300 + 0x400 * i, 32, 0x0⟩
def row_SAU_S_UNSYNC : RegRow := ⟨"SAU_S_UNSYNC", 0x510060, [(0x80, 256)], 1,
  [⟨0, 32, .ro, fun _ => 0x0, .fn, []⟩], .sau .streamReg⟩
def SAU_S_RESTART_CNT (i : Nat) : Fld := ⟨0x2880320 + 0x400 * i, 32, 0x0⟩
def row_SAU_S_RESTART : RegRow := ⟨"SAU_S_RESTART", 0x510064, [(0x80, 256)], 1,
  [⟨0, 32, .ro, fun _ => 0x0, .fn, []⟩], .sau .streamReg⟩
def SAU_S_NOREF_CNT (i : Nat) : Fld := ⟨0x2880340 + 0x400 * i, 32, 0x0⟩
def row_SAU_S_NOREF : RegRow := ⟨"SAU_S_NOREF", 0x510068, [(0x80, 256)], 1,
  [⟨0, 32, .ro, fun _ => 0x0, .fn, []⟩], .sau .streamReg⟩
def SAU_E_CFG_STREAM (i : Nat) : Fld := ⟨0x2900000 + 0x80 * i, 8, 0x0⟩
def SAU_E_CFG_CH (i : Nat) : Fld := ⟨0x2900008 + 0x80 * i, 4, 0x0⟩
def SAU_E_CFG_INTERP (i : Nat) : Fld := ⟨0x290000C + 0x80 * i, 2, 0x0⟩
def SAU_E_CFG_POLICY (i : Nat) : Fld := ⟨0x290000E + 0x80 * i, 2, 0x2⟩
def SAU_E_CFG_K (i : Nat) : Fld := ⟨0x2900010 + 0x80 * i, 8, 0x1⟩
def SAU_E_CFG_FMT (i : Nat) : Fld := ⟨0x2900018 + 0x80 * i, 1, 0x0⟩
def SAU_E_CFG_QPOL (i : Nat) : Fld := ⟨0x2900019 + 0x80 * i, 2, 0x0⟩
def row_SAU_E_CFG : RegRow := ⟨"SAU_E_CFG", 0x520000, [(0x10, 2048)], 1,
  [⟨0, 8, .rwl, fun _ => 0x0, .warm, []⟩, ⟨8, 4, .rwl, fun _ => 0x0, .warm, []⟩, ⟨12, 2, .rwl, fun _ => 0x0, .warm, [(0, 2)]⟩, ⟨14, 2, .rwl, fun _ => 0x2, .warm, [(0, 2)]⟩, ⟨16, 8, .rwl, fun _ => 0x1, .warm, [(1, 255)]⟩, ⟨24, 1, .rwl, fun _ => 0x0, .warm, []⟩, ⟨25, 2, .rwl, fun _ => 0x0, .warm, [(0, 2)]⟩], .sau .member⟩
def SAU_E_SCALE_SCALE (i : Nat) : Fld := ⟨0x2900020 + 0x80 * i, 32, 0x3F800000⟩
def row_SAU_E_SCALE : RegRow := ⟨"SAU_E_SCALE", 0x520004, [(0x10, 2048)], 1,
  [⟨0, 32, .rwl, fun _ => 0x3F800000, .warm, [(0, 2139095039), (2147483648, 4286578687)]⟩], .sau .member⟩
/-- The FN fields of unit group SAU (column "Cleared by", R7). -/
def fnFields_SAU : List Fld :=
  [SAU_STAT_REFUSED]
/-- The FN fields of unit group SAUM (column "Cleared by", R7). -/
def fnFields_SAUM (i : Nat) : List Fld :=
  [SAU_Mm_STAT_ACTIVE i, SAU_Mm_STAT_TIMEUNC i, SAU_Mm_STAT_OPEN i, SAU_Mm_LATMAX_LATMAX i, SAU_Mm_ROWCNT_CNT i, SAU_Mm_DEADLINECNT_CNT i, SAU_Mm_INCOMPLETE_CNT i, SAU_Mm_ABSENT_CNT i, SAU_Mm_DMASKIP_CNT i]
/-- The FN fields of unit group SAUS (column "Cleared by", R7). -/
def fnFields_SAUS (i : Nat) : List Fld :=
  [SAU_S_STAT_STATE i, SAU_S_STAT_RESTARTED i, SAU_S_STAT_NEWEST i, SAU_S_ACCEPT_CNT i, SAU_S_MISSING_CNT i, SAU_S_DUP_CNT i, SAU_S_OOO_CNT i, SAU_S_LATE_CNT i, SAU_S_FORMAT_CNT i, SAU_S_CONFREVCNT_CNT i, SAU_S_SIM_CNT i, SAU_S_UNSYNC_CNT i]
  ++ [SAU_S_RESTART_CNT i, SAU_S_NOREF_CNT i]
/-- The registers of this block. -/
def rowsSau : List RegRow :=
  [row_SAU_STAT, row_SAU_LOADIN, row_SAU_LOADOUT, row_SAU_Mm_CFG, row_SAU_Mm_RATE, row_SAU_Mm_PHASE, row_SAU_Mm_MEMB, row_SAU_Mm_DEADLINE, row_SAU_Mm_RING, row_SAU_Mm_NOTIFY, row_SAU_Mm_HADDR, row_SAU_Mm_TLIM, row_SAU_Mm_ROWSZ, row_SAU_Mm_WSEQ, row_SAU_Mm_STAT, row_SAU_Mm_LATMAX, row_SAU_Mm_ROWCNT, row_SAU_Mm_DEADLINECNT, row_SAU_Mm_INCOMPLETE, row_SAU_Mm_ABSENT]
  ++ [row_SAU_Mm_DMASKIP, row_SAU_S_CFG, row_SAU_S_DMAC_L, row_SAU_S_DMAC_H, row_SAU_S_APPID, row_SAU_S_SVCRC, row_SAU_S_CONFREV, row_SAU_S_RATE, row_SAU_S_WRAP, row_SAU_S_OFFSET, row_SAU_S_LATENCY, row_SAU_S_TMO, row_SAU_S_STAT, row_SAU_S_ACCEPT, row_SAU_S_MISSING, row_SAU_S_DUP, row_SAU_S_OOO, row_SAU_S_LATE, row_SAU_S_FORMAT, row_SAU_S_CONFREVCNT]
  ++ [row_SAU_S_SIM, row_SAU_S_UNSYNC, row_SAU_S_RESTART, row_SAU_S_NOREF, row_SAU_E_CFG, row_SAU_E_SCALE]

end Sys2Proof.Machine
end

