-- ==== Sys2Proof/Machine/RegsSched.lean ====
section
/-! DEFINITION. The register fields of the egress schedulers and mordants (spec/05, R146): for each field of the spec's register table its home in the
register store (`<REGISTER>_<FIELD>`, a function of the instance numbers), for each register its row of the map (offset,
instances, fields with bits, access code, reset value and reset class, reserved values), and for each unit the fields its
function reset clears. -/

namespace Sys2Proof.Machine

def SCH_CTRL_GATEEN (i : Nat) : Fld := ⟨0x1800000 + 0x40000 * i, 1, 0x0⟩
def SCH_CTRL_LTEN (i : Nat) : Fld := ⟨0x1800001 + 0x40000 * i, 1, 0x0⟩
def SCH_CTRL_CHANGE (i : Nat) : Fld := ⟨0x1800002 + 0x40000 * i, 1, 0x0⟩
def SCH_CTRL_CANCEL (i : Nat) : Fld := ⟨0x1800003 + 0x40000 * i, 1, 0x0⟩
def row_SCH_CTRL : RegRow := ⟨"SCH_CTRL", 0x300000, [(0x8000, 22)], 1,
  [⟨0, 1, .rw, fun _ => 0x0, .warm, []⟩, ⟨1, 1, .rw, fun _ => 0x0, .warm, []⟩, ⟨2, 1, .wo, fun _ => 0x0, .never, []⟩, ⟨3, 1, .wo, fun _ => 0x0, .never, []⟩], .sch .ctrl⟩
def SCH_CFG_DOM (i : Nat) : Fld := ⟨0x1800020 + 0x40000 * i, 3, 0x0⟩
def SCH_CFG_SECALIGN (i : Nat) : Fld := ⟨0x1800023 + 0x40000 * i, 1, 0x0⟩
def row_SCH_CFG : RegRow := ⟨"SCH_CFG", 0x300004, [(0x8000, 22)], 1,
  [⟨0, 3, .rw, fun _ => 0x0, .warm, [(0, 4)]⟩, ⟨3, 1, .rw, fun _ => 0x0, .warm, []⟩], .sch .muting⟩
def SCH_STAT_PENDING (i : Nat) : Fld := ⟨0x1800040 + 0x40000 * i, 1, 0x0⟩
def SCH_STAT_SWAPPED (i : Nat) : Fld := ⟨0x1800041 + 0x40000 * i, 1, 0x0⟩
def SCH_STAT_REFUSED (i : Nat) : Fld := ⟨0x1800042 + 0x40000 * i, 1, 0x0⟩
def SCH_STAT_LISTERR (i : Nat) : Fld := ⟨0x1800043 + 0x40000 * i, 1, 0x0⟩
def SCH_STAT_HOLD (i : Nat) : Fld := ⟨0x1800044 + 0x40000 * i, 1, 0x0⟩
def SCH_STAT_MUTED (i : Nat) : Fld := ⟨0x1800048 + 0x40000 * i, 8, 0x0⟩
def row_SCH_STAT : RegRow := ⟨"SCH_STAT", 0x300008, [(0x8000, 22)], 1,
  [⟨0, 1, .ro, fun _ => 0x0, .fn, []⟩, ⟨1, 1, .w1c, fun _ => 0x0, .fn, []⟩, ⟨2, 1, .w1c, fun _ => 0x0, .fn, []⟩, ⟨3, 1, .w1c, fun _ => 0x0, .fn, []⟩, ⟨4, 1, .ro, fun _ => 0x0, .fn, []⟩, ⟨8, 8, .ro, fun _ => 0x0, .fn, []⟩], .plain⟩
def SCH_GUARD_GUARD (i : Nat) : Fld := ⟨0x1800060 + 0x40000 * i, 16, 0x64⟩
def row_SCH_GUARD : RegRow := ⟨"SCH_GUARD", 0x30000C, [(0x8000, 22)], 1,
  [⟨0, 16, .rw, fun _ => 0x64, .warm, []⟩], .plain⟩
def SCH_MARGIN_MARGIN (i : Nat) : Fld := ⟨0x1800080 + 0x40000 * i, 32, 0xF4240⟩
def row_SCH_MARGIN : RegRow := ⟨"SCH_MARGIN", 0x300010, [(0x8000, 22)], 1,
  [⟨0, 32, .rw, fun _ => 0xF4240, .warm, []⟩], .sch .muting⟩
def SCH_TCCFG_SCHED (i : Nat) : Fld := ⟨0x18000A0 + 0x40000 * i, 8, 0x0⟩
def SCH_TCCFG_PREEMPT (i : Nat) : Fld := ⟨0x18000A8 + 0x40000 * i, 8, 0x0⟩
def SCH_TCCFG_MUTEDROP (i : Nat) : Fld := ⟨0x18000B0 + 0x40000 * i, 8, 0x0⟩
def row_SCH_TCCFG : RegRow := ⟨"SCH_TCCFG", 0x300014, [(0x8000, 22)], 1,
  [⟨0, 8, .rw, fun _ => 0x0, .warm, []⟩, ⟨8, 8, .rw, fun _ => 0x0, .warm, []⟩, ⟨16, 8, .rw, fun _ => 0x0, .warm, []⟩], .sch .muting⟩
def SCH_LATE_LATETOL (i : Nat) : Fld := ⟨0x18000C0 + 0x40000 * i, 24, 0x3E8⟩
def row_SCH_LATE : RegRow := ⟨"SCH_LATE", 0x300018, [(0x8000, 22)], 1,
  [⟨0, 24, .rw, fun _ => 0x3E8, .warm, []⟩], .plain⟩
def SCH_HORIZON_HORIZON (i : Nat) : Fld := ⟨0x18000E0 + 0x40000 * i, 8, 0x1⟩
def row_SCH_HORIZON : RegRow := ⟨"SCH_HORIZON", 0x30001C, [(0x8000, 22)], 1,
  [⟨0, 8, .rw, fun _ => 0x1, .warm, [(1, 16)]⟩], .plain⟩
def SCH_PADV_HOLDADV (i : Nat) : Fld := ⟨0x1800100 + 0x40000 * i, 16, 0x0⟩
def SCH_PADV_RELADV (i : Nat) : Fld := ⟨0x1800110 + 0x40000 * i, 16, 0x0⟩
def row_SCH_PADV : RegRow := ⟨"SCH_PADV", 0x300020, [(0x8000, 22)], 1,
  [⟨0, 16, .rw, fun _ => 0x0, .warm, []⟩, ⟨16, 16, .rw, fun _ => 0x0, .warm, []⟩], .plain⟩
def SCH_ADMLEN_LEN (i : Nat) : Fld := ⟨0x1800120 + 0x40000 * i, 11, 0x1⟩
def row_SCH_ADMLEN : RegRow := ⟨"SCH_ADMLEN", 0x300024, [(0x8000, 22)], 1,
  [⟨0, 11, .rw, fun _ => 0x1, .warm, [(1, 1024)]⟩], .sch .adm⟩
def SCH_ADMCYCLE_FRAC (i : Nat) : Fld := ⟨0x1800140 + 0x40000 * i, 16, 0x0⟩
def SCH_ADMCYCLE_NS (i : Nat) : Fld := ⟨0x1800150 + 0x40000 * i, 32, 0xF4240⟩
def row_SCH_ADMCYCLE : RegRow := ⟨"SCH_ADMCYCLE", 0x300028, [(0x8000, 22)], 2,
  [⟨0, 16, .rw, fun _ => 0x0, .warm, []⟩, ⟨16, 32, .rw, fun _ => 0xF4240, .warm, [(1000, 1000000000)]⟩], .sch .adm⟩
def SCH_ADMBASE_BASE (i : Nat) : Fld := ⟨0x1800180 + 0x40000 * i, 96, 0x0⟩
def row_SCH_ADMBASE : RegRow := ⟨"SCH_ADMBASE", 0x300030, [(0x8000, 22)], 3,
  [⟨0, 96, .rw, fun _ => 0x0, .warm, []⟩], .sch .adm⟩
def SCH_CTEXT_CTEXT (i : Nat) : Fld := ⟨0x18001E0 + 0x40000 * i, 32, 0x0⟩
def row_SCH_CTEXT : RegRow := ⟨"SCH_CTEXT", 0x30003C, [(0x8000, 22)], 1,
  [⟨0, 32, .rw, fun _ => 0x0, .warm, []⟩], .sch .adm⟩
def SCH_ADMINIT_IGATES (i : Nat) : Fld := ⟨0x1800200 + 0x40000 * i, 8, 0xFF⟩
def row_SCH_ADMINIT : RegRow := ⟨"SCH_ADMINIT", 0x300040, [(0x8000, 22)], 1,
  [⟨0, 8, .rw, fun _ => 0xFF, .warm, []⟩], .sch .adm⟩
def SCH_OPERLEN_LEN (i : Nat) : Fld := ⟨0x1800240 + 0x40000 * i, 11, 0x0⟩
def row_SCH_OPERLEN : RegRow := ⟨"SCH_OPERLEN", 0x300048, [(0x8000, 22)], 1,
  [⟨0, 11, .ro, fun _ => 0x0, .fn, []⟩], .plain⟩
def SCH_OPERCYCLE_CYCLE (i : Nat) : Fld := ⟨0x1800280 + 0x40000 * i, 48, 0x0⟩
def row_SCH_OPERCYCLE : RegRow := ⟨"SCH_OPERCYCLE", 0x300050, [(0x8000, 22)], 2,
  [⟨0, 48, .ro, fun _ => 0x0, .fn, []⟩], .plain⟩
def SCH_OPERBASE_BASE (i : Nat) : Fld := ⟨0x18002C0 + 0x40000 * i, 96, 0x0⟩
def row_SCH_OPERBASE : RegRow := ⟨"SCH_OPERBASE", 0x300058, [(0x8000, 22)], 3,
  [⟨0, 96, .ro, fun _ => 0x0, .fn, []⟩], .plain⟩
def SCH_CHGTIME_T (i : Nat) : Fld := ⟨0x1800320 + 0x40000 * i, 96, 0x0⟩
def row_SCH_CHGTIME : RegRow := ⟨"SCH_CHGTIME", 0x300064, [(0x8000, 22)], 3,
  [⟨0, 96, .ro, fun _ => 0x0, .fn, []⟩], .plain⟩
def SCH_POS_ENTRY (i : Nat) : Fld := ⟨0x1800380 + 0x40000 * i, 10, 0x0⟩
def SCH_POS_GATES (i : Nat) : Fld := ⟨0x1800390 + 0x40000 * i, 8, 0xFF⟩
def row_SCH_POS : RegRow := ⟨"SCH_POS", 0x300070, [(0x8000, 22)], 1,
  [⟨0, 10, .ro, fun _ => 0x0, .fn, []⟩, ⟨16, 8, .ro, fun _ => 0xFF, .fn, []⟩], .sch .pos⟩
def SCH_QDEPTHc_DEPTH (i j : Nat) : Fld := ⟨0x1800400 + 0x40000 * i + 0x20 * j, 9, 0x0⟩
def row_SCH_QDEPTHc : RegRow := ⟨"SCH_QDEPTHc", 0x300080, [(0x8000, 22), (0x4, 8)], 1,
  [⟨0, 9, .ro, fun _ => 0x0, .fn, []⟩], .sch .qDepth⟩
def SCH_LATE_SENT_CNT (i : Nat) : Fld := ⟨0x1800800 + 0x40000 * i, 64, 0x0⟩
def row_SCH_LATE_SENT : RegRow := ⟨"SCH_LATE_SENT", 0x300100, [(0x8000, 22)], 2,
  [⟨0, 64, .ro, fun _ => 0x0, .fn, []⟩], .plain⟩
def SCH_LATE_DROP_CNT (i : Nat) : Fld := ⟨0x1800840 + 0x40000 * i, 64, 0x0⟩
def row_SCH_LATE_DROP : RegRow := ⟨"SCH_LATE_DROP", 0x300108, [(0x8000, 22)], 2,
  [⟨0, 64, .ro, fun _ => 0x0, .fn, []⟩], .plain⟩
def SCH_MUTE_DROP_CNT (i : Nat) : Fld := ⟨0x1800880 + 0x40000 * i, 64, 0x0⟩
def row_SCH_MUTE_DROP : RegRow := ⟨"SCH_MUTE_DROP", 0x300110, [(0x8000, 22)], 2,
  [⟨0, 64, .ro, fun _ => 0x0, .fn, []⟩], .plain⟩
def SCH_TOOLONG_CNT (i : Nat) : Fld := ⟨0x18008C0 + 0x40000 * i, 64, 0x0⟩
def row_SCH_TOOLONG : RegRow := ⟨"SCH_TOOLONG", 0x300118, [(0x8000, 22)], 2,
  [⟨0, 64, .ro, fun _ => 0x0, .fn, []⟩], .plain⟩
def SCH_FUTURE_CNT (i : Nat) : Fld := ⟨0x1800900 + 0x40000 * i, 64, 0x0⟩
def row_SCH_FUTURE : RegRow := ⟨"SCH_FUTURE", 0x300120, [(0x8000, 22)], 2,
  [⟨0, 64, .ro, fun _ => 0x0, .fn, []⟩], .plain⟩
def SCH_NEVERFIT_CNT (i : Nat) : Fld := ⟨0x1800940 + 0x40000 * i, 64, 0x0⟩
def row_SCH_NEVERFIT : RegRow := ⟨"SCH_NEVERFIT", 0x300128, [(0x8000, 22)], 2,
  [⟨0, 64, .ro, fun _ => 0x0, .fn, []⟩], .plain⟩
def SCH_NOKEY_CNT (i : Nat) : Fld := ⟨0x1800980 + 0x40000 * i, 64, 0x0⟩
def row_SCH_NOKEY : RegRow := ⟨"SCH_NOKEY", 0x300130, [(0x8000, 22)], 2,
  [⟨0, 64, .ro, fun _ => 0x0, .fn, []⟩], .plain⟩
def SCH_MUTECNT_CNT (i : Nat) : Fld := ⟨0x18009C0 + 0x40000 * i, 64, 0x0⟩
def row_SCH_MUTECNT : RegRow := ⟨"SCH_MUTECNT", 0x300138, [(0x8000, 22)], 2,
  [⟨0, 64, .ro, fun _ => 0x0, .fn, []⟩], .plain⟩
def SCH_HOLDCNT_CNT (i : Nat) : Fld := ⟨0x1800A00 + 0x40000 * i, 64, 0x0⟩
def row_SCH_HOLDCNT : RegRow := ⟨"SCH_HOLDCNT", 0x300140, [(0x8000, 22)], 2,
  [⟨0, 64, .ro, fun _ => 0x0, .fn, []⟩], .plain⟩
def SCH_QREF_CNT (i : Nat) : Fld := ⟨0x1800A40 + 0x40000 * i, 64, 0x0⟩
def row_SCH_QREF : RegRow := ⟨"SCH_QREF", 0x300148, [(0x8000, 22)], 2,
  [⟨0, 64, .ro, fun _ => 0x0, .fn, []⟩], .plain⟩
def SCH_SWAPCNT_CNT (i : Nat) : Fld := ⟨0x1800A80 + 0x40000 * i, 64, 0x0⟩
def row_SCH_SWAPCNT : RegRow := ⟨"SCH_SWAPCNT", 0x300150, [(0x8000, 22)], 2,
  [⟨0, 64, .ro, fun _ => 0x0, .fn, []⟩], .plain⟩
def SCH_MORDx_DDEN (i : Nat) : Fld := ⟨0x1E00000 + 0x20 * i, 1, 0x0⟩
def SCH_MORDx_DDPIN (i : Nat) : Fld := ⟨0x1E00001 + 0x20 * i, 4, 0x0⟩
def SCH_MORDx_SFEN (i : Nat) : Fld := ⟨0x1E00005 + 0x20 * i, 1, 0x0⟩
def SCH_MORDx_SFGRP (i : Nat) : Fld := ⟨0x1E00006 + 0x20 * i, 1, 0x0⟩
def SCH_MORDx_SFNUM (i : Nat) : Fld := ⟨0x1E00007 + 0x20 * i, 3, 0x0⟩
def row_SCH_MORDx : RegRow := ⟨"SCH_MORDx", 0x3C0000, [(0x4, 64)], 1,
  [⟨0, 1, .rwl, fun _ => 0x0, .warm, []⟩, ⟨1, 4, .rwl, fun _ => 0x0, .warm, []⟩, ⟨5, 1, .rwl, fun _ => 0x0, .warm, []⟩, ⟨6, 1, .rwl, fun _ => 0x0, .warm, []⟩, ⟨7, 3, .rwl, fun _ => 0x0, .warm, []⟩], .sch .mordant⟩
def SCH_GSTAT_REFUSED : Fld := ⟨0x1E00800, 1, 0x0⟩
def row_SCH_GSTAT : RegRow := ⟨"SCH_GSTAT", 0x3C0100, [], 1,
  [⟨0, 1, .w1c, fun _ => 0x0, .warm, []⟩], .plain⟩
def SCH_ADMLISTe_ENTRY (i j : Nat) : Fld := ⟨0x1820000 + 0x40000 * i + 0x40 * j, 64, 0x0⟩
def row_SCH_ADMLISTe : RegRow := ⟨"SCH_ADMLISTe", 0x304000, [(0x8000, 22), (0x8, 1024)], 2,
  [⟨0, 64, .rw, fun _ => 0x0, .warm, []⟩], .sch .admList⟩
def SCH_OPERLISTe_ENTRY (i j : Nat) : Fld := ⟨0x1830000 + 0x40000 * i + 0x40 * j, 64, 0x0⟩
def row_SCH_OPERLISTe : RegRow := ⟨"SCH_OPERLISTe", 0x306000, [(0x8000, 22), (0x8, 1024)], 2,
  [⟨0, 64, .ro, fun _ => 0x0, .fn, []⟩], .plain⟩
/-- The FN fields of unit group SCH (column "Cleared by", R7). -/
def fnFields_SCH (i : Nat) : List Fld :=
  [SCH_STAT_PENDING i, SCH_STAT_SWAPPED i, SCH_STAT_REFUSED i, SCH_STAT_LISTERR i, SCH_STAT_HOLD i, SCH_STAT_MUTED i, SCH_OPERLEN_LEN i, SCH_OPERCYCLE_CYCLE i, SCH_OPERBASE_BASE i, SCH_CHGTIME_T i, SCH_POS_ENTRY i, SCH_POS_GATES i]
  ++ [SCH_LATE_SENT_CNT i, SCH_LATE_DROP_CNT i, SCH_MUTE_DROP_CNT i, SCH_TOOLONG_CNT i, SCH_FUTURE_CNT i, SCH_NEVERFIT_CNT i, SCH_NOKEY_CNT i, SCH_MUTECNT_CNT i, SCH_HOLDCNT_CNT i, SCH_QREF_CNT i, SCH_SWAPCNT_CNT i]
  ++ (List.range 8).map (fun j => SCH_QDEPTHc_DEPTH i j)
  ++ (List.range 1024).map (fun j => SCH_OPERLISTe_ENTRY i j)
/-- The registers of this block. -/
def rowsSched : List RegRow :=
  [row_SCH_CTRL, row_SCH_CFG, row_SCH_STAT, row_SCH_GUARD, row_SCH_MARGIN, row_SCH_TCCFG, row_SCH_LATE, row_SCH_HORIZON, row_SCH_PADV, row_SCH_ADMLEN, row_SCH_ADMCYCLE, row_SCH_ADMBASE, row_SCH_CTEXT, row_SCH_ADMINIT, row_SCH_OPERLEN, row_SCH_OPERCYCLE, row_SCH_OPERBASE, row_SCH_CHGTIME, row_SCH_POS, row_SCH_QDEPTHc]
  ++ [row_SCH_LATE_SENT, row_SCH_LATE_DROP, row_SCH_MUTE_DROP, row_SCH_TOOLONG, row_SCH_FUTURE, row_SCH_NEVERFIT, row_SCH_NOKEY, row_SCH_MUTECNT, row_SCH_HOLDCNT, row_SCH_QREF, row_SCH_SWAPCNT, row_SCH_MORDx, row_SCH_GSTAT, row_SCH_ADMLISTe, row_SCH_OPERLISTe]

end Sys2Proof.Machine
end

