-- ==== Sys2Proof/Machine/RegsSup.lean ====
section
/-! DEFINITION. The register fields of the supervisor and always-on island (spec/16, R456): for each field of the spec's register table its home in the
register store (`<REGISTER>_<FIELD>`, a function of the instance numbers), for each register its row of the map (offset,
instances, fields with bits, access code, reset value and reset class, reserved values), and for each unit the fields its
function reset clears. -/

namespace Sys2Proof.Machine

def SUP_STAT_RANGE : Fld := ⟨0x80000, 1, 0x0⟩
def SUP_STAT_UNTESTED : Fld := ⟨0x80001, 1, 0x0⟩
def SUP_STAT_FAULT : Fld := ⟨0x80002, 1, 0x0⟩
def SUP_STAT_WINHIB : Fld := ⟨0x80003, 1, 0x0⟩
def SUP_STAT_TWARN : Fld := ⟨0x80004, 1, 0x0⟩
def SUP_STAT_GATEACC : Fld := ⟨0x80005, 1, 0x0⟩
def SUP_STAT_REFUSED : Fld := ⟨0x80006, 1, 0x0⟩
def SUP_STAT_LOCK : Fld := ⟨0x80007, 1, 0x0⟩
def row_SUP_STAT : RegRow := ⟨"SUP_STAT", 0x10000, [], 1,
  [⟨0, 1, .w1c, fun _ => 0x0, .warm, []⟩, ⟨1, 1, .ro, fun _ => 0x0, .warm, []⟩, ⟨2, 1, .ro, fun _ => 0x0, .warm, []⟩, ⟨3, 1, .ro, fun _ => 0x0, .warm, []⟩, ⟨4, 1, .ro, fun _ => 0x0, .warm, []⟩, ⟨5, 1, .w1c, fun _ => 0x0, .warm, []⟩, ⟨6, 1, .w1c, fun _ => 0x0, .warm, []⟩, ⟨7, 1, .ro, fun _ => 0x0, .warm, []⟩], .plain⟩
def SUP_LOCK_LOCK : Fld := ⟨0x80020, 1, 0x0⟩
def row_SUP_LOCK : RegRow := ⟨"SUP_LOCK", 0x10004, [], 1,
  [⟨0, 1, .rwl, fun _ => 0x0, .warm, []⟩], .sup .lock⟩
def SUP_FNRST_UID : Fld := ⟨0x80080, 12, 0x0⟩
def SUP_FNRST_KEY : Fld := ⟨0x80098, 8, 0x0⟩
def row_SUP_FNRST : RegRow := ⟨"SUP_FNRST", 0x10010, [], 1,
  [⟨0, 12, .rwk, fun _ => 0x0, .warm, []⟩, ⟨24, 8, .wo, fun _ => 0x0, .never, []⟩], .sup .fnRst⟩
def SUP_FNLAST_TARGET : Fld := ⟨0x800A0, 12, 0x0⟩
def SUP_FNLAST_REQ : Fld := ⟨0x800AC, 12, 0x0⟩
def SUP_FNLAST_BUSY : Fld := ⟨0x800BF, 1, 0x0⟩
def row_SUP_FNLAST : RegRow := ⟨"SUP_FNLAST", 0x10014, [], 1,
  [⟨0, 12, .ro, fun _ => 0x0, .warm, []⟩, ⟨12, 12, .ro, fun _ => 0x0, .warm, []⟩, ⟨31, 1, .ro, fun _ => 0x0, .warm, []⟩], .plain⟩
def SUP_RST_WARM : Fld := ⟨0x800C0, 1, 0x0⟩
def row_SUP_RST : RegRow := ⟨"SUP_RST", 0x10018, [], 1,
  [⟨0, 1, .wo, fun _ => 0x0, .never, []⟩], .sup .rst⟩
def SUP_FAULT_CAUSE : Fld := ⟨0x80100, 5, 0x0⟩
def SUP_FAULT_SET : Fld := ⟨0x80108, 1, 0x0⟩
def SUP_FAULT_CLR : Fld := ⟨0x80109, 1, 0x0⟩
def SUP_FAULT_RINGKEEP : Fld := ⟨0x80110, 1, 0x1⟩
def row_SUP_FAULT : RegRow := ⟨"SUP_FAULT", 0x10020, [], 1,
  [⟨0, 5, .w1c, fun _ => 0x0, .warm, []⟩, ⟨8, 1, .wo, fun _ => 0x0, .never, []⟩, ⟨9, 1, .wo, fun _ => 0x0, .never, []⟩, ⟨16, 1, .rw, fun _ => 0x1, .warm, []⟩], .sup .fault⟩
def SUP_WDCFG_EN : Fld := ⟨0x80180, 1, 0x0⟩
def SUP_WDCFG_ACTION : Fld := ⟨0x80181, 2, 0x0⟩
def SUP_WDCFG_TIMEOUT : Fld := ⟨0x80183, 16, 0x800⟩
def SUP_WDCFG_EARLY : Fld := ⟨0x80193, 8, 0x0⟩
def row_SUP_WDCFG : RegRow := ⟨"SUP_WDCFG", 0x10030, [], 1,
  [⟨0, 1, .rwl, fun _ => 0x0, .warm, []⟩, ⟨1, 2, .rwl, fun _ => 0x0, .warm, [(0, 2)]⟩, ⟨3, 16, .rwl, fun _ => 0x800, .warm, [(1, 65535)]⟩, ⟨19, 8, .rwl, fun _ => 0x0, .warm, []⟩], .sup .wdCfg⟩
def SUP_WDGRACE_GRACE : Fld := ⟨0x801A0, 8, 0x64⟩
def row_SUP_WDGRACE : RegRow := ⟨"SUP_WDGRACE", 0x10034, [], 1,
  [⟨0, 8, .rwl, fun _ => 0x64, .warm, [(1, 255)]⟩], .plain⟩
def SUP_WDKICK_KICK : Fld := ⟨0x801C0, 32, 0x0⟩
def row_SUP_WDKICK : RegRow := ⟨"SUP_WDKICK", 0x10038, [], 1,
  [⟨0, 32, .wo, fun _ => 0x0, .never, []⟩], .sup .wdKick⟩
def SUP_WDSTAT_REMAIN : Fld := ⟨0x801E0, 16, 0x0⟩
def SUP_WDSTAT_EARLYV : Fld := ⟨0x801F0, 1, 0x0⟩
def row_SUP_WDSTAT : RegRow := ⟨"SUP_WDSTAT", 0x1003C, [], 1,
  [⟨0, 16, .ro, fun _ => 0x0, .warm, []⟩, ⟨16, 1, .w1c, fun _ => 0x0, .warm, []⟩], .sup .wdStat⟩
def SUP_TEMP_TJ : Fld := ⟨0x80200, 12, 0x0⟩
def row_SUP_TEMP : RegRow := ⟨"SUP_TEMP", 0x10040, [], 1,
  [⟨0, 12, .ro, fun _ => 0x0, .warm, []⟩], .plain⟩
def SUP_TLIM_TWARN : Fld := ⟨0x80220, 12, 0x1B8⟩
def SUP_TLIM_TCRIT : Fld := ⟨0x80230, 12, 0x1F4⟩
def row_SUP_TLIM : RegRow := ⟨"SUP_TLIM", 0x10044, [], 1,
  [⟨0, 12, .rw, fun _ => 0x1B8, .warm, []⟩, ⟨16, 12, .rw, fun _ => 0x1F4, .warm, []⟩], .sup .tLim⟩
def SUP_TMAX_TMAX : Fld := ⟨0x80240, 12, 0x0⟩
def row_SUP_TMAX : RegRow := ⟨"SUP_TMAX", 0x10048, [], 1,
  [⟨0, 12, .rc, fun _ => 0x0, .warm, []⟩], .sup .tMax⟩
def SUP_CGATE_GATE : Fld := ⟨0x80280, 6, 0x0⟩
def row_SUP_CGATE : RegRow := ⟨"SUP_CGATE", 0x10050, [], 1,
  [⟨0, 6, .rw, fun _ => 0x0, .warm, []⟩], .sup .cGate⟩
def SUP_PWR_STBY : Fld := ⟨0x80300, 1, 0x0⟩
def row_SUP_PWR : RegRow := ⟨"SUP_PWR", 0x10060, [], 1,
  [⟨0, 1, .wo, fun _ => 0x0, .never, []⟩], .sup .pwr⟩
def SUP_PWRSTAT_STATE : Fld := ⟨0x80320, 2, 0x2⟩
def SUP_PWRSTAT_DEPOTS : Fld := ⟨0x80328, 8, 0x0⟩
def row_SUP_PWRSTAT : RegRow := ⟨"SUP_PWRSTAT", 0x10064, [], 1,
  [⟨0, 2, .ro, fun _ => 0x2, .warm, []⟩, ⟨8, 8, .ro, fun _ => 0x0, .warm, []⟩], .sup .pwrStat⟩
def AON_RSTCAUSE_CAUSE : Fld := ⟨0xC0000, 10, 0x1⟩
def row_AON_RSTCAUSE : RegRow := ⟨"AON_RSTCAUSE", 0x18000, [], 1,
  [⟨0, 10, .w1c, fun _ => 0x1, .por, []⟩], .plain⟩
def AON_RTC_SUB : Fld := ⟨0xC0040, 15, 0x0⟩
def AON_RTC_SEC : Fld := ⟨0xC004F, 48, 0x0⟩
def row_AON_RTC : RegRow := ⟨"AON_RTC", 0x18008, [], 2,
  [⟨0, 15, .rw, fun _ => 0x0, .por, []⟩, ⟨15, 48, .rw, fun _ => 0x0, .por, []⟩], .plain⟩
def AON_RTCALM_SEC : Fld := ⟨0xC0080, 48, 0x0⟩
def AON_RTCALM_EN : Fld := ⟨0xC00B0, 1, 0x0⟩
def row_AON_RTCALM : RegRow := ⟨"AON_RTCALM", 0x18010, [], 2,
  [⟨0, 48, .rw, fun _ => 0x0, .por, []⟩, ⟨48, 1, .rw, fun _ => 0x0, .por, []⟩], .plain⟩
def AON_WAKE_WAKENEN : Fld := ⟨0xC00C1, 1, 0x0⟩
def AON_WAKE_RTCW : Fld := ⟨0xC00C8, 1, 0x0⟩
def AON_WAKE_WAKENW : Fld := ⟨0xC00C9, 1, 0x0⟩
def row_AON_WAKE : RegRow := ⟨"AON_WAKE", 0x18018, [], 1,
  [⟨1, 1, .rw, fun _ => 0x0, .por, []⟩, ⟨8, 1, .w1c, fun _ => 0x0, .por, []⟩, ⟨9, 1, .w1c, fun _ => 0x0, .por, []⟩], .plain⟩
def AON_SUPPLY_PFAIL : Fld := ⟨0xC0100, 1, 0x0⟩
def AON_SUPPLY_IOLOW : Fld := ⟨0xC0101, 1, 0x0⟩
def AON_SUPPLY_VDDOK : Fld := ⟨0xC0102, 1, 0x0⟩
def AON_SUPPLY_BOSEEN : Fld := ⟨0xC0108, 1, 0x0⟩
def AON_SUPPLY_PFSEEN : Fld := ⟨0xC0109, 1, 0x0⟩
def row_AON_SUPPLY : RegRow := ⟨"AON_SUPPLY", 0x18020, [], 1,
  [⟨0, 1, .ro, fun _ => 0x0, .never, []⟩, ⟨1, 1, .ro, fun _ => 0x0, .never, []⟩, ⟨2, 1, .ro, fun _ => 0x0, .never, []⟩, ⟨8, 1, .w1c, fun _ => 0x0, .por, []⟩, ⟨9, 1, .w1c, fun _ => 0x0, .por, []⟩], .plain⟩
def AON_SCRATCHi_DATA (i : Nat) : Fld := ⟨0xC0180 + 0x20 * i, 32, 0x0⟩
def row_AON_SCRATCHi : RegRow := ⟨"AON_SCRATCHi", 0x18030, [(0x4, 4)], 1,
  [⟨0, 32, .rw, fun _ => 0x0, .por, []⟩], .plain⟩
/-- The registers of this block. -/
def rowsSup : List RegRow :=
  [row_SUP_STAT, row_SUP_LOCK, row_SUP_FNRST, row_SUP_FNLAST, row_SUP_RST, row_SUP_FAULT, row_SUP_WDCFG, row_SUP_WDGRACE, row_SUP_WDKICK, row_SUP_WDSTAT, row_SUP_TEMP, row_SUP_TLIM, row_SUP_TMAX, row_SUP_CGATE, row_SUP_PWR, row_SUP_PWRSTAT, row_AON_RSTCAUSE, row_AON_RTC, row_AON_RTCALM, row_AON_WAKE]
  ++ [row_AON_SUPPLY, row_AON_SCRATCHi]

end Sys2Proof.Machine
end

