-- ==== Sys2Proof/Machine/RegsTime.lean ====
section
/-! DEFINITION. The register fields of the timebase (spec/02, R58): for each field of the spec's register table its home in the
register store (`<REGISTER>_<FIELD>`, a function of the instance numbers), for each register its row of the map (offset,
instances, fields with bits, access code, reset value and reset class, reserved values), and for each unit the fields its
function reset clears. -/

namespace Sys2Proof.Machine

def TB_STAT_SYNC : Fld := ⟨0x400000, 4, 0x0⟩
def TB_STAT_HOLD : Fld := ⟨0x400004, 4, 0x0⟩
def TB_STAT_TDCOK : Fld := ⟨0x400008, 1, 0x1⟩
def row_TB_STAT : RegRow := ⟨"TB_STAT", 0x80000, [], 1,
  [⟨0, 4, .ro, fun _ => 0x0, .warm, []⟩, ⟨4, 4, .ro, fun _ => 0x0, .warm, []⟩, ⟨8, 1, .ro, fun _ => 0x1, .warm, []⟩], .tb .stat⟩
def TB_SNAPn_CTRL_CAPTURE (i : Nat) : Fld := ⟨0x400800 + 0x200 * i, 1, 0x0⟩
def TB_SNAPn_CTRL_VALID (i : Nat) : Fld := ⟨0x400801 + 0x200 * i, 1, 0x0⟩
def row_TB_SNAPn_CTRL : RegRow := ⟨"TB_SNAPn_CTRL", 0x80100, [(0x40, 4)], 1,
  [⟨0, 1, .wo, fun _ => 0x0, .never, []⟩, ⟨1, 1, .ro, fun _ => 0x0, .warm, []⟩], .tb .snapCtrl⟩
def TB_SNAPn_LT_LT (i : Nat) : Fld := ⟨0x400820 + 0x200 * i, 96, 0x0⟩
def row_TB_SNAPn_LT : RegRow := ⟨"TB_SNAPn_LT", 0x80104, [(0x40, 4)], 3,
  [⟨0, 96, .ro, fun _ => 0x0, .warm, []⟩], .plain⟩
def TB_SNAPn_TDk_TD (i j : Nat) : Fld := ⟨0x400880 + 0x200 * i + 0x60 * j, 96, 0x0⟩
def row_TB_SNAPn_TDk : RegRow := ⟨"TB_SNAPn_TDk", 0x80110, [(0x40, 4), (0xC, 4)], 3,
  [⟨0, 96, .ro, fun _ => 0x0, .warm, []⟩], .plain⟩
def TB_TDn_CFG_PSRC (i : Nat) : Fld := ⟨0x408000 + 0x800 * i, 3, 0x0⟩
def TB_TDn_CFG_FSRC (i : Nat) : Fld := ⟨0x408003 + 0x800 * i, 1, 0x0⟩
def TB_TDn_CFG_SERVO (i : Nat) : Fld := ⟨0x408004 + 0x800 * i, 1, 0x0⟩
def TB_TDn_CFG_STEPEN (i : Nat) : Fld := ⟨0x408005 + 0x800 * i, 1, 0x1⟩
def row_TB_TDn_CFG : RegRow := ⟨"TB_TDn_CFG", 0x81000, [(0x100, 4)], 1,
  [⟨0, 3, .rw, fun _ => 0x0, .warm, [(0, 3)]⟩, ⟨3, 1, .rw, fun _ => 0x0, .warm, []⟩, ⟨4, 1, .rw, fun _ => 0x0, .warm, []⟩, ⟨5, 1, .rw, fun _ => 0x1, .warm, []⟩], .tb .tdCfg⟩
def TB_TDn_STAT_STATE (i : Nat) : Fld := ⟨0x408020 + 0x800 * i, 2, 0x0⟩
def TB_TDn_STAT_SYNC (i : Nat) : Fld := ⟨0x408022 + 0x800 * i, 1, 0x0⟩
def TB_TDn_STAT_REFUSED (i : Nat) : Fld := ⟨0x408023 + 0x800 * i, 1, 0x0⟩
def TB_TDn_STAT_STEPPED (i : Nat) : Fld := ⟨0x408024 + 0x800 * i, 1, 0x0⟩
def TB_TDn_STAT_SLEWLIM (i : Nat) : Fld := ⟨0x408025 + 0x800 * i, 1, 0x0⟩
def TB_TDn_STAT_FREQBAD (i : Nat) : Fld := ⟨0x408026 + 0x800 * i, 1, 0x0⟩
def TB_TDn_STAT_CONS (i : Nat) : Fld := ⟨0x408028 + 0x800 * i, 4, 0x0⟩
def TB_TDn_STAT_LOSS (i : Nat) : Fld := ⟨0x40802C + 0x800 * i, 4, 0x0⟩
def row_TB_TDn_STAT : RegRow := ⟨"TB_TDn_STAT", 0x81004, [(0x100, 4)], 1,
  [⟨0, 2, .ro, fun _ => 0x0, .fn, []⟩, ⟨2, 1, .ro, fun _ => 0x0, .fn, []⟩, ⟨3, 1, .w1c, fun _ => 0x0, .fn, []⟩, ⟨4, 1, .w1c, fun _ => 0x0, .fn, []⟩, ⟨5, 1, .w1c, fun _ => 0x0, .fn, []⟩, ⟨6, 1, .w1c, fun _ => 0x0, .fn, []⟩, ⟨8, 4, .ro, fun _ => 0x0, .fn, []⟩, ⟨12, 4, .ro, fun _ => 0x0, .fn, []⟩], .tb .tdStat⟩
def TB_TDn_INCR_NOM_FRAC (i : Nat) : Fld := ⟨0x408040 + 0x800 * i, 32, 0x0⟩
def TB_TDn_INCR_NOM_INT (i : Nat) : Fld := ⟨0x408060 + 0x800 * i, 4, 0x4⟩
def row_TB_TDn_INCR_NOM : RegRow := ⟨"TB_TDn_INCR_NOM", 0x81008, [(0x100, 4)], 2,
  [⟨0, 32, .rw, fun _ => 0x0, .warm, []⟩, ⟨32, 4, .rw, fun _ => 0x4, .warm, [(3, 4)]⟩], .tb .incrNom⟩
def TB_TDn_INCR_EFF_EFF (i : Nat) : Fld := ⟨0x408080 + 0x800 * i, 36, 0x400000000⟩
def row_TB_TDn_INCR_EFF : RegRow := ⟨"TB_TDn_INCR_EFF", 0x81010, [(0x100, 4)], 2,
  [⟨0, 36, .ro, fun _ => 0x400000000, .fn, []⟩], .plain⟩
def TB_TDn_SET_TIME (i : Nat) : Fld := ⟨0x4080C0 + 0x800 * i, 96, 0x0⟩
def row_TB_TDn_SET : RegRow := ⟨"TB_TDn_SET", 0x81018, [(0x100, 4)], 3,
  [⟨0, 96, .wo, fun _ => 0x0, .never, []⟩], .tb .tdSet⟩
def TB_TDn_STEP_STEP (i : Nat) : Fld := ⟨0x408140 + 0x800 * i, 64, 0x0⟩
def row_TB_TDn_STEP : RegRow := ⟨"TB_TDn_STEP", 0x81028, [(0x100, 4)], 2,
  [⟨0, 64, .wo, fun _ => 0x0, .never, []⟩], .tb .tdStep⟩
def TB_TDn_OFFS_OFFS (i : Nat) : Fld := ⟨0x408180 + 0x800 * i, 64, 0x0⟩
def row_TB_TDn_OFFS : RegRow := ⟨"TB_TDn_OFFS", 0x81030, [(0x100, 4)], 2,
  [⟨0, 64, .wo, fun _ => 0x0, .never, []⟩], .tb .tdOffs⟩
def TB_TDn_LASTOFF_LAST (i : Nat) : Fld := ⟨0x4081C0 + 0x800 * i, 64, 0x0⟩
def row_TB_TDn_LASTOFF : RegRow := ⟨"TB_TDn_LASTOFF", 0x81038, [(0x100, 4)], 2,
  [⟨0, 64, .ro, fun _ => 0x0, .fn, []⟩], .plain⟩
def TB_TDn_EST_EST (i : Nat) : Fld := ⟨0x408200 + 0x800 * i, 32, 0xFFFFFFFF⟩
def row_TB_TDn_EST : RegRow := ⟨"TB_TDn_EST", 0x81040, [(0x100, 4)], 1,
  [⟨0, 32, .ro, fun _ => 0xFFFFFFFF, .fn, []⟩], .plain⟩
def TB_TDn_GAIN_KP_ACQ (i : Nat) : Fld := ⟨0x408220 + 0x800 * i, 8, 0x0⟩
def TB_TDn_GAIN_KI_ACQ (i : Nat) : Fld := ⟨0x408228 + 0x800 * i, 8, 0x1⟩
def TB_TDn_GAIN_KP_TRK (i : Nat) : Fld := ⟨0x408230 + 0x800 * i, 8, 0x2⟩
def TB_TDn_GAIN_KI_TRK (i : Nat) : Fld := ⟨0x408238 + 0x800 * i, 8, 0x6⟩
def row_TB_TDn_GAIN : RegRow := ⟨"TB_TDn_GAIN", 0x81044, [(0x100, 4)], 1,
  [⟨0, 8, .rw, fun _ => 0x0, .warm, [(0, 31)]⟩, ⟨8, 8, .rw, fun _ => 0x1, .warm, [(0, 31)]⟩, ⟨16, 8, .rw, fun _ => 0x2, .warm, [(0, 31)]⟩, ⟨24, 8, .rw, fun _ => 0x6, .warm, [(0, 31)]⟩], .plain⟩
def TB_TDn_SLEW_SLEW_MAX (i : Nat) : Fld := ⟨0x408240 + 0x800 * i, 16, 0x61A8⟩
def row_TB_TDn_SLEW : RegRow := ⟨"TB_TDn_SLEW", 0x81048, [(0x100, 4)], 1,
  [⟨0, 16, .rw, fun _ => 0x61A8, .warm, []⟩], .plain⟩
def TB_TDn_THR_STEP_THR (i : Nat) : Fld := ⟨0x408260 + 0x800 * i, 16, 0x3E8⟩
def TB_TDn_THR_CONS_WIN (i : Nat) : Fld := ⟨0x408270 + 0x800 * i, 16, 0xC8⟩
def row_TB_TDn_THR : RegRow := ⟨"TB_TDn_THR", 0x8104C, [(0x100, 4)], 1,
  [⟨0, 16, .rw, fun _ => 0x3E8, .warm, []⟩, ⟨16, 16, .rw, fun _ => 0xC8, .warm, []⟩], .plain⟩
def TB_TDn_LOSS_LOSS_THR (i : Nat) : Fld := ⟨0x408280 + 0x800 * i, 16, 0x3E8⟩
def TB_TDn_LOSS_LOSS_CNT (i : Nat) : Fld := ⟨0x408290 + 0x800 * i, 4, 0x4⟩
def row_TB_TDn_LOSS : RegRow := ⟨"TB_TDn_LOSS", 0x81050, [(0x100, 4)], 1,
  [⟨0, 16, .rw, fun _ => 0x3E8, .warm, []⟩, ⟨16, 4, .rw, fun _ => 0x4, .warm, [(1, 15)]⟩], .plain⟩
def TB_TDn_HOLD_HOLD_RATE (i : Nat) : Fld := ⟨0x4082A0 + 0x800 * i, 20, 0x186A0⟩
def TB_TDn_HOLD_TIMEOUT (i : Nat) : Fld := ⟨0x4082B4 + 0x800 * i, 12, 0x12C⟩
def row_TB_TDn_HOLD : RegRow := ⟨"TB_TDn_HOLD", 0x81054, [(0x100, 4)], 1,
  [⟨0, 20, .rw, fun _ => 0x186A0, .warm, []⟩, ⟨20, 12, .rw, fun _ => 0x12C, .warm, [(1, 4095)]⟩], .plain⟩
def TB_TDn_EFLOOR_EFLOOR (i : Nat) : Fld := ⟨0x4082C0 + 0x800 * i, 32, 0x0⟩
def row_TB_TDn_EFLOOR : RegRow := ⟨"TB_TDn_EFLOOR", 0x81058, [(0x100, 4)], 1,
  [⟨0, 32, .rw, fun _ => 0x0, .warm, []⟩], .plain⟩
def TB_TDn_CNT_STEPS (i : Nat) : Fld := ⟨0x4082E0 + 0x800 * i, 16, 0x0⟩
def TB_TDn_CNT_LOCKLOSS (i : Nat) : Fld := ⟨0x4082F0 + 0x800 * i, 16, 0x0⟩
def row_TB_TDn_CNT : RegRow := ⟨"TB_TDn_CNT", 0x8105C, [(0x100, 4)], 1,
  [⟨0, 16, .ro, fun _ => 0x0, .fn, []⟩, ⟨16, 16, .ro, fun _ => 0x0, .fn, []⟩], .plain⟩
def TB_Pp_CFG_RXDOM (i : Nat) : Fld := ⟨0x480000 + 0x800 * i, 3, 0x0⟩
def TB_Pp_CFG_TXDOM (i : Nat) : Fld := ⟨0x480003 + 0x800 * i, 3, 0x0⟩
def TB_Pp_CFG_DRSEL (i : Nat) : Fld := ⟨0x480006 + 0x800 * i, 2, 0x1⟩
def TB_Pp_CFG_OSEN (i : Nat) : Fld := ⟨0x480008 + 0x800 * i, 1, 0x0⟩
def TB_Pp_CFG_RRSCALE (i : Nat) : Fld := ⟨0x480009 + 0x800 * i, 1, 0x0⟩
def TB_Pp_CFG_TCEN (i : Nat) : Fld := ⟨0x48000A + 0x800 * i, 1, 0x0⟩
def row_TB_Pp_CFG : RegRow := ⟨"TB_Pp_CFG", 0x90000, [(0x100, 22)], 1,
  [⟨0, 3, .rw, fun _ => 0x0, .warm, [(0, 4)]⟩, ⟨3, 3, .rw, fun _ => 0x0, .warm, [(0, 4)]⟩, ⟨6, 2, .rw, fun _ => 0x1, .warm, [(0, 2)]⟩, ⟨8, 1, .rw, fun _ => 0x0, .warm, []⟩, ⟨9, 1, .rw, fun _ => 0x0, .warm, []⟩, ⟨10, 1, .rw, fun _ => 0x0, .warm, []⟩], .tb .portCfg⟩
def TB_Pp_RXLAT_RXLAT (i : Nat) : Fld := ⟨0x480020 + 0x800 * i, 32, (Config.otpRxLat i % 4294967296)⟩
def row_TB_Pp_RXLAT : RegRow := ⟨"TB_Pp_RXLAT", 0x90004, [(0x100, 22)], 1,
  [⟨0, 32, .rw, fun i => (Config.otpRxLat i % 4294967296), .warm, []⟩], .plain⟩
def TB_Pp_TXLAT_TXLAT (i : Nat) : Fld := ⟨0x480040 + 0x800 * i, 32, (Config.otpTxLat i % 4294967296)⟩
def row_TB_Pp_TXLAT : RegRow := ⟨"TB_Pp_TXLAT", 0x90008, [(0x100, 22)], 1,
  [⟨0, 32, .rw, fun i => (Config.otpTxLat i % 4294967296), .warm, []⟩], .plain⟩
def TB_Pp_ASYM_ASYM (i : Nat) : Fld := ⟨0x480060 + 0x800 * i, 32, 0x0⟩
def row_TB_Pp_ASYM : RegRow := ⟨"TB_Pp_ASYM", 0x9000C, [(0x100, 22)], 1,
  [⟨0, 32, .rw, fun _ => 0x0, .warm, []⟩], .plain⟩
def TB_Pp_CAL_CALOK (i : Nat) : Fld := ⟨0x480080 + 0x800 * i, 1, 0x0⟩
def TB_Pp_CAL_CALFAIL (i : Nat) : Fld := ⟨0x480081 + 0x800 * i, 1, 0x0⟩
def TB_Pp_CAL_RXTAPS (i : Nat) : Fld := ⟨0x480088 + 0x800 * i, 8, 0x0⟩
def TB_Pp_CAL_TXTAPS (i : Nat) : Fld := ⟨0x480090 + 0x800 * i, 8, 0x0⟩
def row_TB_Pp_CAL : RegRow := ⟨"TB_Pp_CAL", 0x90010, [(0x100, 22)], 1,
  [⟨0, 1, .ro, fun _ => 0x0, .fn, []⟩, ⟨1, 1, .w1c, fun _ => 0x0, .fn, []⟩, ⟨8, 8, .ro, fun _ => 0x0, .fn, []⟩, ⟨16, 8, .ro, fun _ => 0x0, .fn, []⟩], .plain⟩
def TB_Pp_DRQ_RECORD (i : Nat) : Fld := ⟨0x480100 + 0x800 * i, 128, 0x0⟩
def row_TB_Pp_DRQ : RegRow := ⟨"TB_Pp_DRQ", 0x90020, [(0x100, 22)], 4,
  [⟨0, 128, .ro, fun _ => 0x0, .fn, []⟩], .tb .drq⟩
def TB_Pp_DRDEPTH_DEPTH (i : Nat) : Fld := ⟨0x480180 + 0x800 * i, 7, 0x0⟩
def row_TB_Pp_DRDEPTH : RegRow := ⟨"TB_Pp_DRDEPTH", 0x90030, [(0x100, 22)], 1,
  [⟨0, 7, .ro, fun _ => 0x0, .fn, []⟩], .tb .drDepth⟩
def TB_Pp_DRLOST_DRLOST (i : Nat) : Fld := ⟨0x4801A0 + 0x800 * i, 32, 0x0⟩
def row_TB_Pp_DRLOST : RegRow := ⟨"TB_Pp_DRLOST", 0x90034, [(0x100, 22)], 1,
  [⟨0, 32, .ro, fun _ => 0x0, .fn, []⟩], .plain⟩
def TB_Pp_OSFAIL_OSFAIL (i : Nat) : Fld := ⟨0x4801C0 + 0x800 * i, 32, 0x0⟩
def row_TB_Pp_OSFAIL : RegRow := ⟨"TB_Pp_OSFAIL", 0x90038, [(0x100, 22)], 1,
  [⟨0, 32, .ro, fun _ => 0x0, .fn, []⟩], .plain⟩
def TB_PPSIN_CFG_EN : Fld := ⟨0x500000, 1, 0x0⟩
def TB_PPSIN_CFG_POL : Fld := ⟨0x500001, 1, 0x0⟩
def TB_PPSIN_CFG_DOM : Fld := ⟨0x500002, 2, 0x0⟩
def TB_PPSIN_CFG_MINW : Fld := ⟨0x500008, 8, 0x6⟩
def row_TB_PPSIN_CFG : RegRow := ⟨"TB_PPSIN_CFG", 0xA0000, [], 1,
  [⟨0, 1, .rw, fun _ => 0x0, .warm, []⟩, ⟨1, 1, .rw, fun _ => 0x0, .warm, []⟩, ⟨2, 2, .rw, fun _ => 0x0, .warm, []⟩, ⟨8, 8, .rw, fun _ => 0x6, .warm, []⟩], .tb .ppsIn⟩
def TB_PPSIN_DELAY_DELAY : Fld := ⟨0x500020, 32, 0x0⟩
def row_TB_PPSIN_DELAY : RegRow := ⟨"TB_PPSIN_DELAY", 0xA0004, [], 1,
  [⟨0, 32, .rw, fun _ => 0x0, .warm, []⟩], .plain⟩
def TB_PPSIN_WIDE_WIDE : Fld := ⟨0x500040, 24, 0x3D090⟩
def row_TB_PPSIN_WIDE : RegRow := ⟨"TB_PPSIN_WIDE", 0xA0008, [], 1,
  [⟨0, 24, .rw, fun _ => 0x3D090, .warm, []⟩], .plain⟩
def TB_PPSIN_STAMP_STAMP : Fld := ⟨0x500080, 64, 0x0⟩
def row_TB_PPSIN_STAMP : RegRow := ⟨"TB_PPSIN_STAMP", 0xA0010, [], 2,
  [⟨0, 64, .ro, fun _ => 0x0, .warm, []⟩], .plain⟩
def TB_PPSIN_CNT_IMPLAUS : Fld := ⟨0x5000C0, 16, 0x0⟩
def TB_PPSIN_CNT_MISSING : Fld := ⟨0x5000D0, 16, 0x0⟩
def row_TB_PPSIN_CNT : RegRow := ⟨"TB_PPSIN_CNT", 0xA0018, [], 1,
  [⟨0, 16, .ro, fun _ => 0x0, .warm, []⟩, ⟨16, 16, .ro, fun _ => 0x0, .warm, []⟩], .plain⟩
def TB_FREQIN_CFG_EN : Fld := ⟨0x500100, 1, 0x0⟩
def TB_FREQIN_CFG_WIN : Fld := ⟨0x500110, 16, 0xFA⟩
def row_TB_FREQIN_CFG : RegRow := ⟨"TB_FREQIN_CFG", 0xA0020, [], 1,
  [⟨0, 1, .rw, fun _ => 0x0, .warm, []⟩, ⟨16, 16, .rw, fun _ => 0xFA, .warm, []⟩], .tb .freqIn⟩
def TB_FREQIN_MEAS_MEAS : Fld := ⟨0x500120, 32, 0x0⟩
def row_TB_FREQIN_MEAS : RegRow := ⟨"TB_FREQIN_MEAS", 0xA0024, [], 1,
  [⟨0, 32, .ro, fun _ => 0x0, .warm, []⟩], .plain⟩
def TB_FREQIN_STAT_PRESENT : Fld := ⟨0x500140, 1, 0x0⟩
def TB_FREQIN_STAT_BAD : Fld := ⟨0x500141, 1, 0x0⟩
def row_TB_FREQIN_STAT : RegRow := ⟨"TB_FREQIN_STAT", 0xA0028, [], 1,
  [⟨0, 1, .ro, fun _ => 0x0, .warm, []⟩, ⟨1, 1, .w1c, fun _ => 0x0, .warm, []⟩], .plain⟩
def TB_PPSOk_CFG_EN (i : Nat) : Fld := ⟨0x508000 + 0x200 * i, 1, 0x0⟩
def TB_PPSOk_CFG_DOM (i : Nat) : Fld := ⟨0x508001 + 0x200 * i, 3, 0x0⟩
def TB_PPSOk_CFG_POL (i : Nat) : Fld := ⟨0x508004 + 0x200 * i, 1, 0x0⟩
def TB_PPSOk_CFG_GATE (i : Nat) : Fld := ⟨0x508005 + 0x200 * i, 2, 0x1⟩
def row_TB_PPSOk_CFG : RegRow := ⟨"TB_PPSOk_CFG", 0xA1000, [(0x40, 4)], 1,
  [⟨0, 1, .rw, fun _ => 0x0, .warm, []⟩, ⟨1, 3, .rw, fun _ => 0x0, .warm, [(0, 4)]⟩, ⟨4, 1, .rw, fun _ => 0x0, .warm, []⟩, ⟨5, 2, .rw, fun _ => 0x1, .warm, [(0, 2)]⟩], .tb .ppsoCfg⟩
def TB_PPSOk_PERIOD_PERIOD (i : Nat) : Fld := ⟨0x508020 + 0x200 * i, 32, 0x3B9ACA00⟩
def row_TB_PPSOk_PERIOD : RegRow := ⟨"TB_PPSOk_PERIOD", 0xA1004, [(0x40, 4)], 1,
  [⟨0, 32, .rw, fun _ => 0x3B9ACA00, .warm, []⟩], .tb .ppsoPeriod⟩
def TB_PPSOk_WIDTH_WIDTH (i : Nat) : Fld := ⟨0x508040 + 0x200 * i, 32, 0x5F5E100⟩
def row_TB_PPSOk_WIDTH : RegRow := ⟨"TB_PPSOk_WIDTH", 0xA1008, [(0x40, 4)], 1,
  [⟨0, 32, .rw, fun _ => 0x5F5E100, .warm, []⟩], .tb .ppsoWidth⟩
def TB_PPSOk_PHASE_PHASE (i : Nat) : Fld := ⟨0x508060 + 0x200 * i, 48, 0x0⟩
def row_TB_PPSOk_PHASE : RegRow := ⟨"TB_PPSOk_PHASE", 0xA100C, [(0x40, 4)], 2,
  [⟨0, 48, .rw, fun _ => 0x0, .warm, [(0, 65535999999999)]⟩], .plain⟩
def TB_PPSOk_COMP_COMP (i : Nat) : Fld := ⟨0x5080A0 + 0x200 * i, 32, 0x0⟩
def row_TB_PPSOk_COMP : RegRow := ⟨"TB_PPSOk_COMP", 0xA1014, [(0x40, 4)], 1,
  [⟨0, 32, .rw, fun _ => 0x0, .warm, []⟩], .plain⟩
def TB_PPSOk_LIMIT_LIMIT (i : Nat) : Fld := ⟨0x5080C0 + 0x200 * i, 32, 0xF4240⟩
def row_TB_PPSOk_LIMIT : RegRow := ⟨"TB_PPSOk_LIMIT", 0xA1018, [(0x40, 4)], 1,
  [⟨0, 32, .rw, fun _ => 0xF4240, .warm, []⟩], .plain⟩
def TB_PPSOk_STAT_ACTIVE (i : Nat) : Fld := ⟨0x5080E0 + 0x200 * i, 1, 0x0⟩
def TB_PPSOk_STAT_SUPPRESSED (i : Nat) : Fld := ⟨0x5080E1 + 0x200 * i, 1, 0x0⟩
def TB_PPSOk_STAT_SKIPPED (i : Nat) : Fld := ⟨0x5080E2 + 0x200 * i, 1, 0x0⟩
def row_TB_PPSOk_STAT : RegRow := ⟨"TB_PPSOk_STAT", 0xA101C, [(0x40, 4)], 1,
  [⟨0, 1, .ro, fun _ => 0x0, .warm, []⟩, ⟨1, 1, .ro, fun _ => 0x0, .warm, []⟩, ⟨2, 1, .w1c, fun _ => 0x0, .warm, []⟩], .tb .ppsoStat⟩
/-- The FN fields of unit group TD (column "Cleared by", R7). -/
def fnFields_TD (i : Nat) : List Fld :=
  [TB_TDn_STAT_STATE i, TB_TDn_STAT_SYNC i, TB_TDn_STAT_REFUSED i, TB_TDn_STAT_STEPPED i, TB_TDn_STAT_SLEWLIM i, TB_TDn_STAT_FREQBAD i, TB_TDn_STAT_CONS i, TB_TDn_STAT_LOSS i, TB_TDn_INCR_EFF_EFF i, TB_TDn_LASTOFF_LAST i, TB_TDn_EST_EST i, TB_TDn_CNT_STEPS i]
  ++ [TB_TDn_CNT_LOCKLOSS i]
/-- The FN fields of unit group TBP (column "Cleared by", R7). -/
def fnFields_TBP (i : Nat) : List Fld :=
  [TB_Pp_CAL_CALOK i, TB_Pp_CAL_CALFAIL i, TB_Pp_CAL_RXTAPS i, TB_Pp_CAL_TXTAPS i, TB_Pp_DRQ_RECORD i, TB_Pp_DRDEPTH_DEPTH i, TB_Pp_DRLOST_DRLOST i, TB_Pp_OSFAIL_OSFAIL i]
/-- The registers of this block. -/
def rowsTime : List RegRow :=
  [row_TB_STAT, row_TB_SNAPn_CTRL, row_TB_SNAPn_LT, row_TB_SNAPn_TDk, row_TB_TDn_CFG, row_TB_TDn_STAT, row_TB_TDn_INCR_NOM, row_TB_TDn_INCR_EFF, row_TB_TDn_SET, row_TB_TDn_STEP, row_TB_TDn_OFFS, row_TB_TDn_LASTOFF, row_TB_TDn_EST, row_TB_TDn_GAIN, row_TB_TDn_SLEW, row_TB_TDn_THR, row_TB_TDn_LOSS, row_TB_TDn_HOLD, row_TB_TDn_EFLOOR, row_TB_TDn_CNT]
  ++ [row_TB_Pp_CFG, row_TB_Pp_RXLAT, row_TB_Pp_TXLAT, row_TB_Pp_ASYM, row_TB_Pp_CAL, row_TB_Pp_DRQ, row_TB_Pp_DRDEPTH, row_TB_Pp_DRLOST, row_TB_Pp_OSFAIL, row_TB_PPSIN_CFG, row_TB_PPSIN_DELAY, row_TB_PPSIN_WIDE, row_TB_PPSIN_STAMP, row_TB_PPSIN_CNT, row_TB_FREQIN_CFG, row_TB_FREQIN_MEAS, row_TB_FREQIN_STAT, row_TB_PPSOk_CFG, row_TB_PPSOk_PERIOD, row_TB_PPSOk_WIDTH]
  ++ [row_TB_PPSOk_PHASE, row_TB_PPSOk_COMP, row_TB_PPSOk_LIMIT, row_TB_PPSOk_STAT]

end Sys2Proof.Machine
end

