-- ==== Sys2Proof/Machine/RegsTrain.lean ====
section
/-! DEFINITION. The register fields of the train controller (spec/07, R204): for each field of the spec's register table its home in the
register store (`<REGISTER>_<FIELD>`, a function of the instance numbers), for each register its row of the map (offset,
instances, fields with bits, access code, reset value and reset class, reserved values), and for each unit the fields its
function reset clears. -/

namespace Sys2Proof.Machine

def TRN_CFG_EN (i : Nat) : Fld := ⟨0x2000000 + 0x20000 * i, 1, 0x0⟩
def TRN_CFG_PRIO (i : Nat) : Fld := ⟨0x2000001 + 0x20000 * i, 4, 0x0⟩
def TRN_CFG_STA (i : Nat) : Fld := ⟨0x2000005 + 0x20000 * i, 12, 0x0⟩
def TRN_CFG_RINGID (i : Nat) : Fld := ⟨0x2000011 + 0x20000 * i, 4, 0x0⟩
def TRN_CFG_TDOM (i : Nat) : Fld := ⟨0x2000015 + 0x20000 * i, 3, 0x0⟩
def TRN_CFG_MBANK (i : Nat) : Fld := ⟨0x2000018 + 0x20000 * i, 6, 0x0⟩
def TRN_CFG_TOPO (i : Nat) : Fld := ⟨0x200001E + 0x20000 * i, 1, 0x0⟩
def TRN_CFG_AUTOSURV (i : Nat) : Fld := ⟨0x200001F + 0x20000 * i, 1, 0x1⟩
def row_TRN_CFG : RegRow := ⟨"TRN_CFG", 0x400000, [(0x4000, 2)], 1,
  [⟨0, 1, .rw, fun _ => 0x0, .warm, []⟩, ⟨1, 4, .rwl, fun _ => 0x0, .warm, []⟩, ⟨5, 12, .rwl, fun _ => 0x0, .warm, []⟩, ⟨17, 4, .rwl, fun _ => 0x0, .warm, []⟩, ⟨21, 3, .rwl, fun _ => 0x0, .warm, [(0, 3)]⟩, ⟨24, 6, .rwl, fun _ => 0x0, .warm, []⟩, ⟨30, 1, .rwl, fun _ => 0x0, .warm, []⟩, ⟨31, 1, .rwl, fun _ => 0x1, .warm, []⟩], .trn .cfg⟩
def TRN_ETYPE_ETYPE (i : Nat) : Fld := ⟨0x2000020 + 0x20000 * i, 16, 0x88B5⟩
def row_TRN_ETYPE : RegRow := ⟨"TRN_ETYPE", 0x400004, [(0x4000, 2)], 1,
  [⟨0, 16, .rwl, fun _ => 0x88B5, .warm, []⟩], .plain⟩
def TRN_DMAC_L_DMAC (i : Nat) : Fld := ⟨0x2000040 + 0x20000 * i, 32, 0x50000000⟩
def row_TRN_DMAC_L : RegRow := ⟨"TRN_DMAC_L", 0x400008, [(0x4000, 2)], 1,
  [⟨0, 32, .rwl, fun _ => 0x50000000, .warm, []⟩], .plain⟩
def TRN_DMAC_H_DMAC (i : Nat) : Fld := ⟨0x2000060 + 0x20000 * i, 16, 0x352⟩
def row_TRN_DMAC_H : RegRow := ⟨"TRN_DMAC_H", 0x40000C, [(0x4000, 2)], 1,
  [⟨0, 16, .rwl, fun _ => 0x352, .warm, []⟩], .plain⟩
def TRN_EUI_EUI (i : Nat) : Fld := ⟨0x2000080 + 0x20000 * i, 64, (Config.otpEui % 18446744073709551616)⟩
def row_TRN_EUI : RegRow := ⟨"TRN_EUI", 0x400010, [(0x4000, 2)], 2,
  [⟨0, 64, .rwl, fun _ => (Config.otpEui % 18446744073709551616), .warm, []⟩], .plain⟩
def TRN_MAXRT_MAXRT (i : Nat) : Fld := ⟨0x20000C0 + 0x20000 * i, 24, 0x30D4⟩
def row_TRN_MAXRT : RegRow := ⟨"TRN_MAXRT", 0x400018, [(0x4000, 2)], 1,
  [⟨0, 24, .rwl, fun _ => 0x30D4, .warm, [(1, 16777215)]⟩], .plain⟩
def TRN_WDOG_LATEWIN (i : Nat) : Fld := ⟨0x20000E0 + 0x20000 * i, 16, 0x3E8⟩
def TRN_WDOG_K (i : Nat) : Fld := ⟨0x20000F0 + 0x20000 * i, 4, 0x3⟩
def row_TRN_WDOG : RegRow := ⟨"TRN_WDOG", 0x40001C, [(0x4000, 2)], 1,
  [⟨0, 16, .rwl, fun _ => 0x3E8, .warm, []⟩, ⟨16, 4, .rwl, fun _ => 0x3, .warm, [(1, 15)]⟩], .plain⟩
def TRN_BASE_BASE (i : Nat) : Fld := ⟨0x2000100 + 0x20000 * i, 96, 0x0⟩
def row_TRN_BASE : RegRow := ⟨"TRN_BASE", 0x400020, [(0x4000, 2)], 3,
  [⟨0, 96, .rwl, fun _ => 0x0, .warm, []⟩], .plain⟩
def TRN_MCFG_IMODE (i : Nat) : Fld := ⟨0x2000160 + 0x20000 * i, 3, 0x0⟩
def TRN_MCFG_MAXN (i : Nat) : Fld := ⟨0x2000163 + 0x20000 * i, 12, 0xFFF⟩
def row_TRN_MCFG : RegRow := ⟨"TRN_MCFG", 0x40002C, [(0x4000, 2)], 1,
  [⟨0, 3, .rwl, fun _ => 0x0, .warm, []⟩, ⟨3, 12, .rwl, fun _ => 0xFFF, .warm, []⟩], .plain⟩
def TRN_MCTRL_SURVEY (i : Nat) : Fld := ⟨0x2000180 + 0x20000 * i, 1, 0x0⟩
def TRN_MCTRL_SWGO (i : Nat) : Fld := ⟨0x2000181 + 0x20000 * i, 1, 0x0⟩
def row_TRN_MCTRL : RegRow := ⟨"TRN_MCTRL", 0x400030, [(0x4000, 2)], 1,
  [⟨0, 1, .wo, fun _ => 0x0, .never, []⟩, ⟨1, 1, .wo, fun _ => 0x0, .never, []⟩], .trn .mctrl⟩
def TRN_SWITCH_NMODE (i : Nat) : Fld := ⟨0x20001A0 + 0x20000 * i, 3, 0x0⟩
def row_TRN_SWITCH : RegRow := ⟨"TRN_SWITCH", 0x400034, [(0x4000, 2)], 1,
  [⟨0, 3, .rw, fun _ => 0x0, .warm, []⟩], .plain⟩
def TRN_SWCYC_N (i : Nat) : Fld := ⟨0x20001C0 + 0x20000 * i, 32, 0x0⟩
def row_TRN_SWCYC : RegRow := ⟨"TRN_SWCYC", 0x400038, [(0x4000, 2)], 1,
  [⟨0, 32, .rw, fun _ => 0x0, .warm, []⟩], .plain⟩
def TRN_SILENCE_SILENCE (i : Nat) : Fld := ⟨0x20001E0 + 0x20000 * i, 16, 0x2EE0⟩
def row_TRN_SILENCE : RegRow := ⟨"TRN_SILENCE", 0x40003C, [(0x4000, 2)], 1,
  [⟨0, 16, .rwl, fun _ => 0x2EE0, .warm, [(1, 65535)]⟩], .plain⟩
def TRN_STAT_ROLE (i : Nat) : Fld := ⟨0x2000200 + 0x20000 * i, 2, 0x0⟩
def TRN_STAT_LATE (i : Nat) : Fld := ⟨0x2000202 + 0x20000 * i, 1, 0x0⟩
def TRN_STAT_DERAIL (i : Nat) : Fld := ⟨0x2000203 + 0x20000 * i, 1, 0x0⟩
def TRN_STAT_BREAK (i : Nat) : Fld := ⟨0x2000204 + 0x20000 * i, 1, 0x0⟩
def TRN_STAT_LOOP (i : Nat) : Fld := ⟨0x2000205 + 0x20000 * i, 1, 0x0⟩
def TRN_STAT_CMODE (i : Nat) : Fld := ⟨0x2000206 + 0x20000 * i, 3, 0x0⟩
def TRN_STAT_AMODE (i : Nat) : Fld := ⟨0x2000209 + 0x20000 * i, 3, 0x0⟩
def TRN_STAT_ARMED (i : Nat) : Fld := ⟨0x200020C + 0x20000 * i, 1, 0x0⟩
def TRN_STAT_SWCANCEL (i : Nat) : Fld := ⟨0x200020D + 0x20000 * i, 1, 0x0⟩
def TRN_STAT_MISMATCH (i : Nat) : Fld := ⟨0x200020E + 0x20000 * i, 1, 0x0⟩
def TRN_STAT_REFUSED (i : Nat) : Fld := ⟨0x200020F + 0x20000 * i, 1, 0x0⟩
def TRN_STAT_POS (i : Nat) : Fld := ⟨0x2000210 + 0x20000 * i, 12, 0x0⟩
def TRN_STAT_POSV (i : Nat) : Fld := ⟨0x200021C + 0x20000 * i, 1, 0x0⟩
def TRN_STAT_DLYFV (i : Nat) : Fld := ⟨0x200021D + 0x20000 * i, 1, 0x0⟩
def TRN_STAT_DLYRV (i : Nat) : Fld := ⟨0x200021E + 0x20000 * i, 1, 0x0⟩
def TRN_STAT_SURVPEND (i : Nat) : Fld := ⟨0x200021F + 0x20000 * i, 1, 0x0⟩
def row_TRN_STAT : RegRow := ⟨"TRN_STAT", 0x400040, [(0x4000, 2)], 1,
  [⟨0, 2, .ro, fun _ => 0x0, .fn, []⟩, ⟨2, 1, .ro, fun _ => 0x0, .fn, []⟩, ⟨3, 1, .ro, fun _ => 0x0, .fn, []⟩, ⟨4, 1, .ro, fun _ => 0x0, .fn, []⟩, ⟨5, 1, .ro, fun _ => 0x0, .fn, []⟩, ⟨6, 3, .ro, fun _ => 0x0, .fn, []⟩, ⟨9, 3, .ro, fun _ => 0x0, .fn, []⟩, ⟨12, 1, .ro, fun _ => 0x0, .fn, []⟩, ⟨13, 1, .w1c, fun _ => 0x0, .fn, []⟩, ⟨14, 1, .w1c, fun _ => 0x0, .fn, []⟩, ⟨15, 1, .w1c, fun _ => 0x0, .fn, []⟩, ⟨16, 12, .ro, fun _ => 0x0, .fn, []⟩, ⟨28, 1, .ro, fun _ => 0x0, .fn, []⟩, ⟨29, 1, .ro, fun _ => 0x0, .fn, []⟩, ⟨30, 1, .ro, fun _ => 0x0, .fn, []⟩, ⟨31, 1, .ro, fun _ => 0x0, .fn, []⟩], .trn .stat⟩
def TRN_CYCLE_CYCLE (i : Nat) : Fld := ⟨0x2000220 + 0x20000 * i, 32, 0x0⟩
def row_TRN_CYCLE : RegRow := ⟨"TRN_CYCLE", 0x400044, [(0x4000, 2)], 1,
  [⟨0, 32, .ro, fun _ => 0x0, .fn, []⟩], .plain⟩
def TRN_CYCSTART_S (i : Nat) : Fld := ⟨0x2000240 + 0x20000 * i, 96, 0x0⟩
def row_TRN_CYCSTART : RegRow := ⟨"TRN_CYCSTART", 0x400048, [(0x4000, 2)], 3,
  [⟨0, 96, .ro, fun _ => 0x0, .fn, []⟩], .plain⟩
def TRN_DLYF_DLYF (i : Nat) : Fld := ⟨0x20002C0 + 0x20000 * i, 64, 0x0⟩
def row_TRN_DLYF : RegRow := ⟨"TRN_DLYF", 0x400058, [(0x4000, 2)], 2,
  [⟨0, 64, .ro, fun _ => 0x0, .fn, []⟩], .plain⟩
def TRN_DLYR_DLYR (i : Nat) : Fld := ⟨0x2000300 + 0x20000 * i, 64, 0x0⟩
def row_TRN_DLYR : RegRow := ⟨"TRN_DLYR", 0x400060, [(0x4000, 2)], 2,
  [⟨0, 64, .ro, fun _ => 0x0, .fn, []⟩], .plain⟩
def TRN_NODES_NODES (i : Nat) : Fld := ⟨0x2000340 + 0x20000 * i, 12, 0x0⟩
def row_TRN_NODES : RegRow := ⟨"TRN_NODES", 0x400068, [(0x4000, 2)], 1,
  [⟨0, 12, .ro, fun _ => 0x0, .fn, []⟩], .plain⟩
def TRN_MISS_MISS (i : Nat) : Fld := ⟨0x2000360 + 0x20000 * i, 4, 0x0⟩
def row_TRN_MISS : RegRow := ⟨"TRN_MISS", 0x40006C, [(0x4000, 2)], 1,
  [⟨0, 4, .ro, fun _ => 0x0, .fn, []⟩], .plain⟩
def TRN_RET_PRESENCE (i : Nat) : Fld := ⟨0x2000380 + 0x20000 * i, 16, 0x0⟩
def TRN_RET_CONSENT (i : Nat) : Fld := ⟨0x2000390 + 0x20000 * i, 16, 0x0⟩
def row_TRN_RET : RegRow := ⟨"TRN_RET", 0x400070, [(0x4000, 2)], 1,
  [⟨0, 16, .ro, fun _ => 0x0, .fn, []⟩, ⟨16, 16, .ro, fun _ => 0x0, .fn, []⟩], .plain⟩
def TRN_BREAKPOS_J (i : Nat) : Fld := ⟨0x20003A0 + 0x20000 * i, 12, 0x0⟩
def row_TRN_BREAKPOS : RegRow := ⟨"TRN_BREAKPOS", 0x400074, [(0x4000, 2)], 1,
  [⟨0, 12, .ro, fun _ => 0x0, .fn, []⟩], .plain⟩
def TRN_MCMD_MODE (i : Nat) : Fld := ⟨0x2000400 + 0x20000 * i, 3, 0x0⟩
def TRN_MCMD_OP (i : Nat) : Fld := ⟨0x2000403 + 0x20000 * i, 2, 0x0⟩
def TRN_MCMD_INVALID (i : Nat) : Fld := ⟨0x200041E + 0x20000 * i, 1, 0x0⟩
def TRN_MCMD_BUSY (i : Nat) : Fld := ⟨0x200041F + 0x20000 * i, 1, 0x0⟩
def row_TRN_MCMD : RegRow := ⟨"TRN_MCMD", 0x400080, [(0x4000, 2)], 1,
  [⟨0, 3, .rw, fun _ => 0x0, .warm, []⟩, ⟨3, 2, .rw, fun _ => 0x0, .warm, [(0, 2)]⟩, ⟨30, 1, .w1c, fun _ => 0x0, .fn, []⟩, ⟨31, 1, .ro, fun _ => 0x0, .fn, []⟩], .trn .mcmd⟩
def TRN_MVALID_VALID (i : Nat) : Fld := ⟨0x2000420 + 0x20000 * i, 8, 0x0⟩
def row_TRN_MVALID : RegRow := ⟨"TRN_MVALID", 0x400084, [(0x4000, 2)], 1,
  [⟨0, 8, .ro, fun _ => 0x0, .fn, []⟩], .plain⟩
def TRN_CMDFIFO_CYC (i : Nat) : Fld := ⟨0x2000480 + 0x20000 * i, 24, 0x0⟩
def TRN_CMDFIFO_VALID (i : Nat) : Fld := ⟨0x200049F + 0x20000 * i, 1, 0x0⟩
def TRN_CMDFIFO_ARG (i : Nat) : Fld := ⟨0x20004A0 + 0x20000 * i, 64, 0x0⟩
def row_TRN_CMDFIFO : RegRow := ⟨"TRN_CMDFIFO", 0x400090, [(0x4000, 2)], 3,
  [⟨0, 24, .ro, fun _ => 0x0, .fn, []⟩, ⟨31, 1, .ro, fun _ => 0x0, .fn, []⟩, ⟨32, 64, .ro, fun _ => 0x0, .fn, []⟩], .trn .cmdFifo⟩
def TRN_CMDDB_DB (i : Nat) : Fld := ⟨0x20004E0 + 0x20000 * i, 9, 0x0⟩
def TRN_CMDDB_DBEN (i : Nat) : Fld := ⟨0x20004E9 + 0x20000 * i, 1, 0x0⟩
def row_TRN_CMDDB : RegRow := ⟨"TRN_CMDDB", 0x40009C, [(0x4000, 2)], 1,
  [⟨0, 9, .rw, fun _ => 0x0, .warm, []⟩, ⟨9, 1, .rw, fun _ => 0x0, .warm, []⟩], .plain⟩
def TRN_CNT_UNKNOWN_CNT (i : Nat) : Fld := ⟨0x2000800 + 0x20000 * i, 64, 0x0⟩
def row_TRN_CNT_UNKNOWN : RegRow := ⟨"TRN_CNT_UNKNOWN", 0x400100, [(0x4000, 2)], 2,
  [⟨0, 64, .ro, fun _ => 0x0, .fn, []⟩], .plain⟩
def TRN_CNT_FOREIGN_CNT (i : Nat) : Fld := ⟨0x2000840 + 0x20000 * i, 64, 0x0⟩
def row_TRN_CNT_FOREIGN : RegRow := ⟨"TRN_CNT_FOREIGN", 0x400108, [(0x4000, 2)], 2,
  [⟨0, 64, .ro, fun _ => 0x0, .fn, []⟩], .plain⟩
def TRN_CNT_BADLEN_CNT (i : Nat) : Fld := ⟨0x2000880 + 0x20000 * i, 64, 0x0⟩
def row_TRN_CNT_BADLEN : RegRow := ⟨"TRN_CNT_BADLEN", 0x400110, [(0x4000, 2)], 2,
  [⟨0, 64, .ro, fun _ => 0x0, .fn, []⟩], .plain⟩
def TRN_CNT_CUTFRM_CNT (i : Nat) : Fld := ⟨0x20008C0 + 0x20000 * i, 64, 0x0⟩
def row_TRN_CNT_CUTFRM : RegRow := ⟨"TRN_CNT_CUTFRM", 0x400118, [(0x4000, 2)], 2,
  [⟨0, 64, .ro, fun _ => 0x0, .fn, []⟩], .plain⟩
def TRN_CNT_DAMAGED_CNT (i : Nat) : Fld := ⟨0x2000900 + 0x20000 * i, 64, 0x0⟩
def row_TRN_CNT_DAMAGED : RegRow := ⟨"TRN_CNT_DAMAGED", 0x400120, [(0x4000, 2)], 2,
  [⟨0, 64, .ro, fun _ => 0x0, .fn, []⟩], .plain⟩
def TRN_CNT_NOTABLE_CNT (i : Nat) : Fld := ⟨0x2000940 + 0x20000 * i, 64, 0x0⟩
def row_TRN_CNT_NOTABLE : RegRow := ⟨"TRN_CNT_NOTABLE", 0x400128, [(0x4000, 2)], 2,
  [⟨0, 64, .ro, fun _ => 0x0, .fn, []⟩], .plain⟩
def TRN_CNT_STALE_CNT (i : Nat) : Fld := ⟨0x2000980 + 0x20000 * i, 64, 0x0⟩
def row_TRN_CNT_STALE : RegRow := ⟨"TRN_CNT_STALE", 0x400130, [(0x4000, 2)], 2,
  [⟨0, 64, .ro, fun _ => 0x0, .fn, []⟩], .plain⟩
def TRN_CNT_SURVEYMISS_CNT (i : Nat) : Fld := ⟨0x20009C0 + 0x20000 * i, 64, 0x0⟩
def row_TRN_CNT_SURVEYMISS : RegRow := ⟨"TRN_CNT_SURVEYMISS", 0x400138, [(0x4000, 2)], 2,
  [⟨0, 64, .ro, fun _ => 0x0, .fn, []⟩], .plain⟩
def TRN_CNT_LATE_CNT (i : Nat) : Fld := ⟨0x2000A00 + 0x20000 * i, 64, 0x0⟩
def row_TRN_CNT_LATE : RegRow := ⟨"TRN_CNT_LATE", 0x400140, [(0x4000, 2)], 2,
  [⟨0, 64, .ro, fun _ => 0x0, .fn, []⟩], .plain⟩
def TRN_CNT_DERAIL_CNT (i : Nat) : Fld := ⟨0x2000A40 + 0x20000 * i, 64, 0x0⟩
def row_TRN_CNT_DERAIL : RegRow := ⟨"TRN_CNT_DERAIL", 0x400148, [(0x4000, 2)], 2,
  [⟨0, 64, .ro, fun _ => 0x0, .fn, []⟩], .plain⟩
def TRN_CNT_RETMISS_CNT (i : Nat) : Fld := ⟨0x2000A80 + 0x20000 * i, 64, 0x0⟩
def row_TRN_CNT_RETMISS : RegRow := ⟨"TRN_CNT_RETMISS", 0x400150, [(0x4000, 2)], 2,
  [⟨0, 64, .ro, fun _ => 0x0, .fn, []⟩], .plain⟩
def TRN_CNT_PRESSHORT_CNT (i : Nat) : Fld := ⟨0x2000AC0 + 0x20000 * i, 64, 0x0⟩
def row_TRN_CNT_PRESSHORT : RegRow := ⟨"TRN_CNT_PRESSHORT", 0x400158, [(0x4000, 2)], 2,
  [⟨0, 64, .ro, fun _ => 0x0, .fn, []⟩], .plain⟩
def TRN_CNT_SWCANCEL_CNT (i : Nat) : Fld := ⟨0x2000B00 + 0x20000 * i, 64, 0x0⟩
def row_TRN_CNT_SWCANCEL : RegRow := ⟨"TRN_CNT_SWCANCEL", 0x400160, [(0x4000, 2)], 2,
  [⟨0, 64, .ro, fun _ => 0x0, .fn, []⟩], .plain⟩
def TRN_CNT_BREAKS_CNT (i : Nat) : Fld := ⟨0x2000B40 + 0x20000 * i, 64, 0x0⟩
def row_TRN_CNT_BREAKS : RegRow := ⟨"TRN_CNT_BREAKS", 0x400168, [(0x4000, 2)], 2,
  [⟨0, 64, .ro, fun _ => 0x0, .fn, []⟩], .plain⟩
def TRN_CNT_CMDLOST_CNT (i : Nat) : Fld := ⟨0x2000B80 + 0x20000 * i, 64, 0x0⟩
def row_TRN_CNT_CMDLOST : RegRow := ⟨"TRN_CNT_CMDLOST", 0x400170, [(0x4000, 2)], 2,
  [⟨0, 64, .ro, fun _ => 0x0, .fn, []⟩], .plain⟩
def TRN_SCT_CT (i : Nat) : Fld := ⟨0x2008000 + 0x20000 * i, 24, 0x0⟩
def row_TRN_SCT : RegRow := ⟨"TRN_SCT", 0x401000, [(0x4000, 2)], 1,
  [⟨0, 24, .rw, fun _ => 0x0, .warm, []⟩], .plain⟩
def TRN_SNC_NCOACH (i : Nat) : Fld := ⟨0x2008020 + 0x20000 * i, 4, 0x0⟩
def row_TRN_SNC : RegRow := ⟨"TRN_SNC", 0x401004, [(0x4000, 2)], 1,
  [⟨0, 4, .rw, fun _ => 0x0, .warm, []⟩], .plain⟩
def TRN_SMARKj_OFF (i j : Nat) : Fld := ⟨0x2008080 + 0x20000 * i + 0x40 * j, 25, 0x0⟩
def TRN_SMARKj_EN (i j : Nat) : Fld := ⟨0x2008099 + 0x20000 * i + 0x40 * j, 1, 0x0⟩
def TRN_SMARKj_DBEN (i j : Nat) : Fld := ⟨0x200809A + 0x20000 * i + 0x40 * j, 1, 0x0⟩
def TRN_SMARKj_DB (i j : Nat) : Fld := ⟨0x200809B + 0x20000 * i + 0x40 * j, 9, 0x0⟩
def TRN_SMARKj_GRPMASK (i j : Nat) : Fld := ⟨0x20080A4 + 0x20000 * i + 0x40 * j, 2, 0x0⟩
def TRN_SMARKj_MSIXEN (i j : Nat) : Fld := ⟨0x20080A6 + 0x20000 * i + 0x40 * j, 1, 0x0⟩
def TRN_SMARKj_VEC (i j : Nat) : Fld := ⟨0x20080A7 + 0x20000 * i + 0x40 * j, 8, 0x0⟩
def row_TRN_SMARKj : RegRow := ⟨"TRN_SMARKj", 0x401010, [(0x4000, 2), (0x8, 8)], 2,
  [⟨0, 25, .rw, fun _ => 0x0, .warm, []⟩, ⟨25, 1, .rw, fun _ => 0x0, .warm, []⟩, ⟨26, 1, .rw, fun _ => 0x0, .warm, []⟩, ⟨27, 9, .rw, fun _ => 0x0, .warm, []⟩, ⟨36, 2, .rw, fun _ => 0x0, .warm, []⟩, ⟨38, 1, .rw, fun _ => 0x0, .warm, []⟩, ⟨39, 8, .rw, fun _ => 0x0, .warm, []⟩], .plain⟩
def TRN_SSEATs_SEAT (i j : Nat) : Fld := ⟨0x2008800 + 0x20000 * i + 0x40 * j, 64, 0x0⟩
def row_TRN_SSEATs : RegRow := ⟨"TRN_SSEATs", 0x401100, [(0x4000, 2), (0x8, 32)], 2,
  [⟨0, 64, .rw, fun _ => 0x0, .warm, []⟩], .plain⟩
def TRN_SMERGEe_COACH (i j : Nat) : Fld := ⟨0x2009000 + 0x20000 * i + 0x40 * j, 4, 0x0⟩
def TRN_SMERGEe_OFFSET (i j : Nat) : Fld := ⟨0x2009004 + 0x20000 * i + 0x40 * j, 11, 0x0⟩
def TRN_SMERGEe_LENGTH (i j : Nat) : Fld := ⟨0x200900F + 0x20000 * i + 0x40 * j, 11, 0x0⟩
def TRN_SMERGEe_STA (i j : Nat) : Fld := ⟨0x200901A + 0x20000 * i + 0x40 * j, 12, 0x0⟩
def TRN_SMERGEe_EN (i j : Nat) : Fld := ⟨0x2009026 + 0x20000 * i + 0x40 * j, 1, 0x0⟩
def row_TRN_SMERGEe : RegRow := ⟨"TRN_SMERGEe", 0x401200, [(0x4000, 2), (0x8, 256)], 2,
  [⟨0, 4, .rw, fun _ => 0x0, .warm, []⟩, ⟨4, 11, .rw, fun _ => 0x0, .warm, []⟩, ⟨15, 11, .rw, fun _ => 0x0, .warm, []⟩, ⟨26, 12, .rw, fun _ => 0x0, .warm, []⟩, ⟨38, 1, .rw, fun _ => 0x0, .warm, []⟩], .plain⟩
/-- The FN fields of unit group TRN (column "Cleared by", R7). -/
def fnFields_TRN (i : Nat) : List Fld :=
  [TRN_STAT_ROLE i, TRN_STAT_LATE i, TRN_STAT_DERAIL i, TRN_STAT_BREAK i, TRN_STAT_LOOP i, TRN_STAT_CMODE i, TRN_STAT_AMODE i, TRN_STAT_ARMED i, TRN_STAT_SWCANCEL i, TRN_STAT_MISMATCH i, TRN_STAT_REFUSED i, TRN_STAT_POS i]
  ++ [TRN_STAT_POSV i, TRN_STAT_DLYFV i, TRN_STAT_DLYRV i, TRN_STAT_SURVPEND i, TRN_CYCLE_CYCLE i, TRN_CYCSTART_S i, TRN_DLYF_DLYF i, TRN_DLYR_DLYR i, TRN_NODES_NODES i, TRN_MISS_MISS i, TRN_RET_PRESENCE i, TRN_RET_CONSENT i]
  ++ [TRN_BREAKPOS_J i, TRN_MCMD_INVALID i, TRN_MCMD_BUSY i, TRN_MVALID_VALID i, TRN_CMDFIFO_CYC i, TRN_CMDFIFO_VALID i, TRN_CMDFIFO_ARG i, TRN_CNT_UNKNOWN_CNT i, TRN_CNT_FOREIGN_CNT i, TRN_CNT_BADLEN_CNT i, TRN_CNT_CUTFRM_CNT i, TRN_CNT_DAMAGED_CNT i]
  ++ [TRN_CNT_NOTABLE_CNT i, TRN_CNT_STALE_CNT i, TRN_CNT_SURVEYMISS_CNT i, TRN_CNT_LATE_CNT i, TRN_CNT_DERAIL_CNT i, TRN_CNT_RETMISS_CNT i, TRN_CNT_PRESSHORT_CNT i, TRN_CNT_SWCANCEL_CNT i, TRN_CNT_BREAKS_CNT i, TRN_CNT_CMDLOST_CNT i]
/-- The registers of this block. -/
def rowsTrain : List RegRow :=
  [row_TRN_CFG, row_TRN_ETYPE, row_TRN_DMAC_L, row_TRN_DMAC_H, row_TRN_EUI, row_TRN_MAXRT, row_TRN_WDOG, row_TRN_BASE, row_TRN_MCFG, row_TRN_MCTRL, row_TRN_SWITCH, row_TRN_SWCYC, row_TRN_SILENCE, row_TRN_STAT, row_TRN_CYCLE, row_TRN_CYCSTART, row_TRN_DLYF, row_TRN_DLYR, row_TRN_NODES, row_TRN_MISS]
  ++ [row_TRN_RET, row_TRN_BREAKPOS, row_TRN_MCMD, row_TRN_MVALID, row_TRN_CMDFIFO, row_TRN_CMDDB, row_TRN_CNT_UNKNOWN, row_TRN_CNT_FOREIGN, row_TRN_CNT_BADLEN, row_TRN_CNT_CUTFRM, row_TRN_CNT_DAMAGED, row_TRN_CNT_NOTABLE, row_TRN_CNT_STALE, row_TRN_CNT_SURVEYMISS, row_TRN_CNT_LATE, row_TRN_CNT_DERAIL, row_TRN_CNT_RETMISS, row_TRN_CNT_PRESSHORT, row_TRN_CNT_SWCANCEL, row_TRN_CNT_BREAKS]
  ++ [row_TRN_CNT_CMDLOST, row_TRN_SCT, row_TRN_SNC, row_TRN_SMARKj, row_TRN_SSEATs, row_TRN_SMERGEe]

end Sys2Proof.Machine
end

