-- ==== Sys2Proof/Machine/RegMap.lean ====
section
/-! DEFINITION. The register map of BAR0 (R10, R523) as one list of rows, and the fields that a WARM reset keeps (R7: those
that only POR clears, or that no reset clears). -/

namespace Sys2Proof.Machine

/-- Rows by the block that holds a BAR0 offset. -/
def rowsAt (off : Nat) : List RegRow :=
  if off < 0x100 then rowsDev
  else if off < 0x10000 then rowsHost
  else if off < 0x20000 then rowsSup
  else if off < 0x30000 then rowsLoader
  else if off < 0x40000 then rowsEvent
  else if off < 0x50000 then rowsMbx
  else if off < 0x70000 then rowsMem
  else if off < 0x100000 then rowsTime
  else if off < 0x200000 then rowsPort
  else if off < 0x300000 then rowsFabric
  else if off < 0x400000 then rowsSched
  else if off < 0x500000 then rowsTrain
  else if off < 0x600000 then rowsSau
  else if off < 0x700000 then rowsPin
  else if off < 0x800000 then rowsCan
  else if off < 0x1000000 then rowsDepot
  else []

/-- The fields whose "Cleared by" column reads POR. -/
def porFields : List Fld :=
  [LDR_CLKSTAT_X32OK, LDR_CLKSTAT_RCFALL, LDR_CLKFAIL_FAILS, LDR_BOOTSEL_SEL, AON_RSTCAUSE_CAUSE, AON_RTC_SUB, AON_RTC_SEC, AON_RTCALM_SEC, AON_RTCALM_EN, AON_WAKE_WAKENEN, AON_WAKE_RTCW, AON_WAKE_WAKENW]
  ++ [AON_SUPPLY_BOSEEN, AON_SUPPLY_PFSEEN, EVR_STAT_FBCNT]
  ++ (List.range 48).map (fun i => PIN_IOn_SAFE_SAFE i)
  ++ (List.range 4).map (fun i => AON_SCRATCHi_DATA i)
  ++ (List.range 16).map (fun i => EVR_FBe_ENTRY i)

/-- The fields whose "Cleared by" column reads —. -/
def neverFields : List Fld :=
  [PIN_IN_L_IN, PIN_IN_H_IN, LDR_STAT_SECURE, LDR_DEVVER_STEPPING, LDR_DEVVER_ROMVER, AON_SUPPLY_PFAIL, AON_SUPPLY_IOLOW, AON_SUPPLY_VDDOK, EVR_STAT_LOGFAIL, EVR_STAT_DIRTY, EVR_CTRL_CLEAR, EVR_CTRL_RETEST]
  ++ [EVR_WIDX_WIDX, EVR_OLDEST_OLDEST, EVR_COUNT_COUNT, EVR_OPSEC_OPSEC, EVR_PWRCYC_PWRCYC, EVR_BADCNT_BAD, EVR_FIFO_DEPTH, DEV_ID_PART, DEV_ID_FAMILY, DEV_REV_STEPPING, DEV_REV_ROMVER, DEV_REV_OTPVER]
  ++ [DEV_REV_GRADE, DEV_SERIAL_EUI, DEV_CAPPTR_PTR, DEV_PCIID_VENDOR, DEV_PCIID_DEVICE, DEV_IDCODE_IDCODE]
  ++ (List.range 48).map (fun i => PIN_IOn_SAFE_LEVEL i)
  ++ (List.range 32).map (fun i => EVR_BADMAPi_BAD i)

end Sys2Proof.Machine
end

