-- ==== Sys2Proof/Machine/Tab.lean ====
section
/-! DEFINITION. Tables by number (`Tab`), bit fields of numbers, and byte order: the plain helpers every operation uses. -/

namespace Sys2Proof.Machine

/-- The entry of a table under a number. -/
def tget {α : Type} (t : Tab α) (k : Nat) : Option α :=
  match t with
  | [] => none
  | (a, v) :: r => if a = k then some v else tget r k

/-- The entry under a number, or the default. -/
def tgetD {α : Type} (t : Tab α) (k : Nat) (dflt : α) : α := (tget t k).getD dflt

/-- Put an entry, keeping the numbers in rising order. -/
def tput {α : Type} (t : Tab α) (k : Nat) (v : α) : Tab α :=
  match t with
  | [] => [(k, v)]
  | (a, u) :: r => if a = k then (k, v) :: r else if k < a then (k, v) :: (a, u) :: r else (a, u) :: tput r k v

/-- Remove the entry under a number. -/
def tdel {α : Type} (t : Tab α) (k : Nat) : Tab α := t.filter (fun e => !(e.1 == k))

/-- Bits `[lo + w - 1 : lo]` of a number. -/
def bits (v lo w : Nat) : Nat := v / 2 ^ lo % 2 ^ w

/-- Bit `i` of a number. -/
def bit (v i : Nat) : Bool := bits v i 1 == 1

/-- A truth value as a bit. -/
def b01 (b : Bool) : Nat := if b then 1 else 0

/-- `v` with bits `[lo + w - 1 : lo]` replaced by the low bits of `x`. -/
def setBits (v lo w x : Nat) : Nat := v % 2 ^ lo + (x % 2 ^ w) * 2 ^ lo + v / 2 ^ (lo + w) * 2 ^ (lo + w)

/-- A big-endian byte sequence as a number (R2: fields on the wire). -/
def beNat (l : List Byte) : Nat := l.foldl (fun n b => n * 256 + b.toNat) 0

/-- A little-endian byte sequence as a number (R2: registers and memories). -/
def leNat : List Byte → Nat
  | [] => 0
  | b :: r => b.toNat + 256 * leNat r

/-- A number as `n` little-endian bytes. -/
def toLe (n v : Nat) : List Byte :=
  match n with
  | 0 => []
  | k + 1 => BitVec.ofNat 8 v :: toLe k (v / 256)

/-- A number as `n` big-endian bytes. -/
def toBe (n v : Nat) : List Byte := (toLe n v).reverse

/-- `n` bytes of a sequence from offset `o`, as a big-endian number; bytes past the end read 0. -/
def fieldAt (l : List Byte) (o n : Nat) : Nat :=
  beNat ((List.range n).map (fun i => l.getD (o + i) 0))

/-- Replace the bytes of a sequence from offset `o`. -/
def spliceAt (l : List Byte) (o : Nat) (x : List Byte) : List Byte :=
  l.take o ++ x ++ l.drop (o + x.length)

/-- A counter of `w` bits that saturates. -/
def satAdd (w v n : Nat) : Nat := min (v + n) (2 ^ w - 1)

/-- The numbers `lo … hi - 1` for which a test holds. -/
def numsWhere (n : Nat) (p : Nat → Bool) : List Nat := (List.range n).filter p

end Sys2Proof.Machine
end

