-- ==== Sys2Proof/Machine/State.lean ====
section
/-! DEFINITION. The state of the GHG-6424 as plain data: the register store, which is the home of every register field that the
register map lists, one record for each subsystem with the state that no register holds, and the queue of waiting commands. -/

namespace Sys2Proof.Machine

/-- What left the device in the course of a run (the model's own record; notes/assumptions/2). -/
inductive Emit where
  /-- A register or memory read answered to a master. -/
  | read (uid v : Nat)
  /-- An MSI-X message (R480). -/
  | msix (addr data : Nat)
  /-- Bytes written to host memory by a DMA channel (R485). -/
  | hostWrite (addr : Nat) (bytes : List Byte)
  /-- A frame that left an Ethernet port, destination address to FCS; `cut` when it ended with a stomped FCS, and `err` when an error
  code follows that (R79). -/
  | frame (port : Nat) (bytes : List Byte) (cut err : Bool)
  /-- An mPacket of a frame on the preemptable MAC (R75): SMD-S`num` where `count` is 0, else an SMD-C with fragment count
  `count` − 1 modulo 4; `final` where it ends the frame, with `cut` and `err` as of a whole frame. -/
  | mpacket (port num count : Nat) (bytes : List Byte) (final cut err : Bool)
  /-- A jam of P20 or P21 (R67, R68). -/
  | jam (port : Nat)
  /-- Remote Fault of 10GBASE-R or Far-End Fault Indication of 100BASE-FX (R65). -/
  | lineFault (port : Nat)
  /-- The ability word that a 1000BASE-X port advertises (R66). -/
  | advert (port word : Nat)
  /-- PLCA signalling of P20 or P21 (R69): a BEACON, or a COMMIT. -/
  | beacon (port : Nat)
  | commit (port : Nat)
  /-- An edge of output PPSOk at its ball, at an instant of LT (R52). -/
  | ppso (k lt : Nat) (active : Bool)
  /-- A verify or respond mPacket (R76). -/
  | verify (port : Nat)
  | respond (port : Nat)
  /-- A CAN frame put on the bus (R384). -/
  | canFrame (port : Nat) (f : CanFrame)
  | canAck (port : Nat)
  | canFlag (port : Nat) (active : Bool)
  /-- The answer of the SPI management port: the status, the data words, and the CRC-8 over both (R490). -/
  | spi (status : Nat) (words : List Nat) (crc : Nat)
  /-- Bits shifted out of TDO (R516). -/
  | tdo (v : Nat)
deriving DecidableEq, Repr

/-- A value kept in the control region of the MRAM as three copies (R460, R465). -/
structure Trip where
  a : Nat := 0
  b : Nat := 0
  c : Nat := 0
deriving DecidableEq, Repr

/-- A step waiting for the next tick boundary (R36): by an amount, or to a time; units of 2^-32 ns. -/
inductive Step where
  | adv (delta : Int)
  | goTo (time : Nat)
deriving DecidableEq, Repr

/-- A relation between LT and a domain that was in force up to an instant of LT (R40): the domain's time at that instant, in units of
2^-32 ns, as the relation gave it, and the effective increment. -/
structure Rel where
  upTo : Nat
  time : Nat
  eff : Nat
deriving DecidableEq, Repr

/-- A stamp (R39, R40): the LT of the capture tick, the capture corrected for latency in LT, and whether its TDC was calibrated. -/
structure Stamp where
  tick : Int := 0
  lt : Int := 0
  cal : Bool := false
deriving DecidableEq, Repr

/-- A time domain (R26) and its servo (R31): the time in units of 2^-32 ns, the frequency correction f in ppb, the integral
sum I in ns, the interval T of the last update in ns, the LT of the last update, the offsets that have arrived and are not yet
processed (LT of arrival, offset in 2^-16 ns), and the steps waiting for the tick boundary, each with whether software asked for it;
and the relations that were in force before the present one, newest first. -/
structure Domain where
  time : Nat := 0
  f : Rat := 0
  integ : Rat := 0
  lastT : Rat := 0
  lastUpd : Option Nat := none
  offsets : List (Nat × Int) := []
  steps : List (Step × Bool) := []
  past : List Rel := []
deriving DecidableEq, Repr

/-- A port's departure-record queue (R45–R48): the 128-bit records, oldest first, and the records refused since the last one
stored. -/
structure DepQ where
  recs : List Nat := []
  lost : Nat := 0
deriving DecidableEq, Repr

/-- The timebase: LT in units of 2^-16 ns (R25), the domains, the snapshots taken and not yet valid, the departure queues, the
TDCs calibrated since their port powered up (2p, or 2p + 1 for transmit: R38), the stamp of PPS_IN's last accepted edge in its domain's 2^-16 ns and the edges accepted
since enable (R49, R50), the run of good FREQ_IN windows and whether a bad one ended it (R51), and the
latest pulse of each PPSO output: the LT of its two edges (R52). -/
structure Tb where
  lt : Nat := 0
  doms : Tab Domain := []
  snapDue : List Nat := []
  deps : Tab DepQ := []
  tdcs : List Nat := []
  ppsLast : Option Int := none
  ppsCount : Nat := 0
  freqGood : Nat := 0
  freqBad : Bool := false
  pulses : Tab (Nat × Nat) := []
deriving DecidableEq, Repr

/-- Where a frame to transmit comes from: a depot's descriptor (its completion slot, and whether a completion word is asked for), a
DMA channel's descriptor (the host address of its completion word, and whether it asks for an interrupt), or the fabric (the number
under which the packet buffer holds it, R96), or the second copy that the redundancy unit makes of a local frame (R103), for which nothing
is completed; or a DMA channel's descriptor that was outstanding at an FLR, for which no completion word is written (R435); or the port
itself, for a PAUSE or PFC (R74). -/
inductive Origin where
  | depot (n cidx : Nat) (cw : Bool)
  | dma (c addr : Nat) (irq : Bool)
  | fabric (held : Nat)
  | copy
  | orphan
  | own
deriving DecidableEq, Repr

/-- A descriptor as the egress scheduler holds it (R121): the frame's bytes before the FCS, the fields, and whether its launch time
has been reached (R135). `rxLt` is a forwarded frame's ingress stamp in LT, for its residence (R43). -/
structure Desc where
  bytes : List Byte
  tc : Nat
  ltv : Bool := false
  launch : Nat := 0
  latepol : Nat := 0
  ksv : Bool := false
  kslot : Nat := 0
  osreq : Bool := false
  drreq : Bool := false
  tag : Nat := 0
  origin : Origin
  rxLt : Int := 0
  due : Bool := false
deriving DecidableEq, Repr

/-- A frame in transmission: its descriptor, the bytes on the wire to the FCS, the reason it will complete with, the LT at which its
present fragment started, the bytes sent in earlier fragments, whether it waits for its back-off, the stamp of its departure record, where
one was posted, its transmit stamp, whether a one-step insertion failed, whether it ends with a stomped FCS (R100, R174), on the preemptable
MAC its SMD-S number and the mPackets sent (R75), and whether it is a coach that the ring's controller originated (R152). -/
structure Tx where
  desc : Desc
  wire : List Byte
  reason : Nat
  start : Nat
  before : Nat := 0
  waits : Bool := false
  recorded : Option Nat := none
  stamp : Stamp := {}
  insFail : Bool := false
  bad : Bool := false
  mp : Option (Nat × Nat) := none
  coach : Bool := false
deriving DecidableEq, Repr

/-- A frame in assembly on the preemptable MAC (R77): its SMD-S number, the next fragment count, the bytes so far, and the stamp count
and LT of its first fragment. -/
structure Assembly where
  num : Nat
  next : Nat
  bytes : List Byte
  sub : Nat
  lt : Nat
  codeErr : Bool
deriving DecidableEq, Repr

/-- An Ethernet port and its egress scheduler, beside their registers: whether the up condition holds, the cause of a down condition,
whether the lane is to power off after the frame in transmission, the honoured PAUSE and PFC frames that have not taken effect,
verify attempts, the frame in assembly, the collisions of the frame, the back-off generator and the slots drawn, the frames in
transmission and preempted, the classes (bit 8: the port) for which flow control is asserted; the class queues, the descriptors
handed over and not yet judged, and the updates each muted class has counted. And the instants of LT that rules compare with: since when
the up or the down condition holds (R65), the latest verify mPacket (R76), the latest MDIO poll (R64), when each pause timer ends (class,
or 8: R71), when each class's flow control frame was last formed (R74), when the back-off ends (R67), when the port last ended a frame
(R98), when the medium of P20 or P21 was last busy (R135). And the PAUSE and PFC frames that wait to leave (classes, quanta), the next
SMD-S number, the transmit opportunity of PLCA (node ID, since when, frames sent in it: R69), the LT of the latest gate event with
the gates before it (R126), the domain time of CHANGE (R127), the LT of the port's latest function reset (R174), and the coaches that the
ring's controller sends behind the one in transmission, each with the LT of its start of frame (R152). -/
structure Port where
  up : Bool := false
  down : Option Nat := none
  offDue : Bool := false
  pauseDue : List Nat := []
  pfcDue : List (Nat × List Nat) := []
  verifies : Nat := 0
  asm : Option Assembly := none
  colls : Nat := 0
  lfsr : Nat := 0
  backoff : Nat := 0
  tx : Option Tx := none
  pre : Option Tx := none
  flow : Nat := 0
  queues : Tab (List Desc) := []
  hand : List Desc := []
  mutes : Tab Nat := []
  since : Nat := 0
  verAt : Nat := 0
  pollAt : Nat := 0
  pauseEnd : Tab Nat := []
  xoffAt : Tab Nat := []
  backAt : Nat := 0
  lastEnd : Nat := 0
  busyTo : Nat := 0
  own : List (Nat × Nat) := []
  smd : Nat := 0
  plcaAt : Nat × Nat × Nat := (0, 0, 0)
  gateWas : Option (Nat × Nat) := none
  chgAt : Nat := 0
  rstAt : Nat := 0
  coaches : List (Nat × List Byte) := []
deriving DecidableEq, Repr

/-- A VLAN table entry (R93). -/
structure Vlan where
  members : Nat
  untag : Nat
  fid : Nat
deriving DecidableEq, Repr

/-- A static forwarding entry (R93). -/
structure StaticFdb where
  mac : Nat
  fid : Nat
  ports : Nat
  tc : Nat
  tcen : Bool
deriving DecidableEq, Repr

/-- A learned forwarding entry (R94), with the LT at which it was last refreshed. -/
structure LearnedFdb where
  mac : Nat
  fid : Nat
  port : Nat
  seen : Nat
deriving DecidableEq, Repr

/-- A duplicate window (R104). -/
structure DupWin where
  base : Nat
  win : Nat
deriving DecidableEq, Repr

/-- A node table entry (R104): the source, the LT at which it was last seen, and the windows for local delivery and the interlink (0)
and for the two ring-forwarding directions (1 to port B, 2 to port A). -/
structure RedNode where
  mac : Nat
  last : Nat
  wins : Tab DupWin
deriving DecidableEq, Repr

/-- A frame that the packet buffer holds (R96): its ingress port, class, cells and the copies that have not left. -/
structure Held where
  port : Nat
  tc : Nat
  cells : Nat
  refs : Nat
deriving DecidableEq, Repr

/-- The fabric beside its registers: the VLAN table by VID, the static and learned forwarding tables by index, the node tables
(2,048i + n) and the proxy tables (512i + n; a MAC), the keys of the key slots, LASTST of each express rule instance (64p + x), and
the frames in the packet buffer; the keys that slots held before (slot, the LT of the rewriting, key; newest first: R109), and the LT of the latest
function resets of authentication and of the express rules, which a frame in reception must not outlive (R117). -/
structure Fab where
  vlans : Tab Vlan := []
  statics : Tab StaticFdb := []
  learned : Tab LearnedFdb := []
  nodes : Tab RedNode := []
  proxies : Tab Nat := []
  keys : Tab Nat := []
  lastSt : Tab Nat := []
  held : Tab Held := []
  nextHeld : Nat := 0
  oldKeys : List (Nat × Nat × Nat) := []
  authRst : Nat := 0
  xrRst : Nat := 0
deriving DecidableEq, Repr

/-- A mode table of a ring (R161, R186): cycle time in units of 8 ns, coaches less one, the eight marks, the 32 seat entries and the
256 merge entries as their registers hold them. -/
structure ModeTab where
  ct : Nat := 0
  nc : Nat := 0
  marks : List Nat := []
  seats : List Nat := []
  merges : List Nat := []
deriving DecidableEq, Repr

/-- The cycle that a ring's controller runs (R182, R186): its number, its start in units of 2^-16 ns, its mode, the table whose marks
and cycle time are in force, the marks that have fired, and the length of the cycle before it in units of 2^-16 ns. -/
structure TrnCycle where
  c : Nat
  s : Nat
  mode : Nat
  tab : ModeTab
  fired : List Nat := []
  before : Nat := 0
deriving DecidableEq, Repr

/-- What a node holds of a survey (R168–R170): SSEQ, the MEASURE cycle, the position it took, A, the stamps of the forward and the
reverse coach in LT, their DEP in the train domain, and the turnaround on a line. -/
structure TrnSurvey where
  sseq : Nat
  cycle : Nat
  cand : Option Nat := none
  asym : Int := 0
  tF : Option Int := none
  tR : Option Int := none
  depF : Int := 0
  depR : Int := 0
  turn : Option Int := none
deriving DecidableEq, Repr

/-- A RESULT coach whose delays are not computed yet (R170). -/
structure TrnResult where
  sseq : Nat
  topo : Nat
  time : Nat
  atot : Int
deriving DecidableEq, Repr

/-- A claim (R178): the claim count, the LT at which the window began, the coaches sent and returned in it, and those still out: OSEQ and
the LT at which each left. -/
structure TrnClaim where
  count : Nat := 0
  start : Nat := 0
  sent : Nat := 0
  back : Nat := 0
  wait : List (Nat × Nat) := []
deriving DecidableEq, Repr

/-- A master's measurement (R169–R171): SSEQ, the departures and the round trips in LT, ATOT, NODES, and the roster by position. -/
structure TrnMeasure where
  sseq : Nat
  depF : Int
  depR : Int
  tF : Option Int := none
  tR : Option Int := none
  atot : Int := 0
  nodes : Nat := 0
  roster : Tab Nat := []
deriving DecidableEq, Repr

/-- A mode switch that a master runs (R187): cycle N, mode, and whether it has decided to go ahead. -/
structure TrnSwitch where
  n : Nat
  m : Nat
  go : Bool := false
deriving DecidableEq, Repr

/-- A train that a master has sent and that is not wholly back (R194): its cycle and S_c, whether it carries seats, whether coach 0 is
still waited for, forward and reverse, the mode it was sent in, and the tallies (PRESENCE, CONSENT) of a good return of it, forward and reverse. -/
structure TrnTrain where
  c : Nat
  s : Nat
  seats : Bool
  fwOut : Bool := true
  rvOut : Bool := false
  mode : Nat := 0
  fw : Option (Nat × Nat) := none
  rv : Option (Nat × Nat) := none
deriving DecidableEq, Repr

/-- What a master holds (R181–R187, R194–R197): the next cycle and its start, whether its OUT copies are taken; a switch; a survey
asked for, its MEASURE cycle, and the measurement; the trains out, oldest first; the cycle of the last returning train of seats, its mode, its good
payloads by coach, forward and reverse, the coaches of which one carried DMG = 1, and those whose IN seats were served; and whether the ring is whole again. -/
structure TrnMaster where
  next : Option (Nat × Nat) := none
  taken : Bool := false
  switch : Option TrnSwitch := none
  survReq : Bool := false
  plan : Option Nat := none
  meas : Option TrnMeasure := none
  trains : List TrnTrain := []
  retCyc : Option Nat := none
  retMode : Nat := 0
  fwd : Tab (List Byte) := []
  rev : Tab (List Byte) := []
  dmgs : List Nat := []
  done : List Nat := []
  whole : Bool := false
deriving DecidableEq, Repr

/-- A ring's train controller beside its registers: the committed mode tables; the cycle; an armed switch (N, mode); the cycles whose
coach 0 is expected (number, start, start of the next one); the coaches served (originator, CYCLE, and which: R160); the IN seats (32m + s)
that have flipped since mark 0, and those with data since reset or table load (R165);
whether a coach of the train in passing was damaged, by direction; whether coaches pass untouched until a coach 0 (R174); whether the last
train came in reverse; whether a survey since the derailment gave position and
delays; the start coaches forwarded (OEUI, OSEQ, forward); the last OSEQ and the claim; the survey, the RESULT to compute, and the
cycle of the survey announced; the latest cycles that belonged to a survey (R184); the command FIFO (CYC, ARG); the last SSEQ chosen; a
master's state; and its roster by position. Also the LT since which no good coach of kind train or survey has come (R176), the LT of the
latest function reset (R174), the marks that cycles have left behind unfired (R189), the tables before the latest commit of each mode with
the time of that commit (R202), and the pins that the derailment forced (R193). -/
structure Ring where
  modes : Tab ModeTab := []
  cur : Option TrnCycle := none
  arm : Option (Nat × Nat) := none
  due : List (Nat × Nat × Nat) := []
  served : List (Nat × Nat × Nat) := []
  flipped : List Nat := []
  filled : List Nat := []
  dmgF : Bool := false
  dmgR : Bool := false
  untilC0 : Bool := false
  lastRev : Bool := false
  rejoin : Bool := false
  starts : List (Nat × Nat × Bool) := []
  oseq : Nat := 0
  claim : TrnClaim := {}
  surv : Option TrnSurvey := none
  result : Option TrnResult := none
  survCyc : Option Nat := none
  surveyed : List Nat := []
  fifo : List (Nat × Nat) := []
  sseq : Nat := 0
  master : Option TrnMaster := none
  roster : Tab Nat := []
  heard : Nat := 0
  rstAt : Nat := 0
  owed : Tab TrnCycle := []
  older : Tab (Nat × ModeTab) := []
  forced : List Nat := []
deriving DecidableEq, Repr

/-- A sample that a stream's history holds (R207, R209): each channel's value and quality word, its instant by time domain, the LT
of its arrival (R223), and whether it failed SYNCMIN, came out of order, or was placed by a stale relation. -/
structure Sample where
  vals : List (Nat × Nat)
  inst : Tab Int
  arrive : Nat
  unsync : Bool
  ooo : Bool
  stale : Bool
deriving DecidableEq, Repr

/-- A sampled-value stream (R207, R209): its slots by smpCnt (a present sample, or `none` for a slot known missing), NEXT, the newest
sample stored in order, and the newest sample placed since the stream was enabled, each as its smpCnt and its instants; and the LT at
which it last accepted a sample (R208). -/
structure Stream where
  slots : Tab (Option Sample) := []
  next : Nat := 0
  anchor : Option (Nat × Tab Int) := none
  newest : Option (Nat × Tab Int) := none
  heard : Nat := 0
deriving DecidableEq, Repr

/-- A frame that waits in the unit's consumer queue (R90): its stream, its bytes, its receive stamp expressed in TD0–TD3, and the LT
of its last bit. -/
structure SvFrame where
  stream : Nat
  bytes : List Byte
  stamps : List Int
  arrive : Nat
deriving DecidableEq, Repr

/-- A settled cell of a row (R216): an absent value, or the value word, the quality word, the flags and the arrival of its last
contributing sample. -/
inductive Cell where
  | absent
  | value (v q flags arrive : Nat)
deriving DecidableEq, Repr

/-- Why an open row is to complete (R222). -/
inductive Close where
  | settled | deadline | incomplete | stepped
deriving DecidableEq, Repr

/-- An open row (R222): its grid index and instant, SEQ, whether the time was uncertain, its cells as they settle, and why it is to
complete. -/
structure MRow where
  k : Nat
  g : Int
  seq : Nat
  unc : Bool
  cells : List (Option Cell)
  close : Option Close := none
deriving DecidableEq, Repr

/-- A matrix (R212–R226): its open rows, oldest first; the instant after which the next row opens; the next SEQ; what HOLD keeps of
each member (value, quality word, rows filled with it); the rows completed since it was enabled; and their instants. -/
structure Matrix where
  rows : List MRow := []
  after : Int := 0
  seq : Nat := 0
  holds : Tab (Nat × Nat × Nat) := []
  count : Nat := 0
  done : List Int := []
deriving DecidableEq, Repr

/-- The Sample Alignment Unit: its streams, its matrices, and the frames that wait in its consumer queue. -/
structure Sau where
  streams : Tab Stream := []
  mats : Tab Matrix := []
  inq : List SvFrame := []
deriving DecidableEq, Repr

/-- A pin (R236–R246): the filtered level, the LT of its last change, and whether the board has shown a level since power-on; the owner's
latch (level, output enable); the LT at which the hold timer expires while it runs, and whether XCLR was written before; whether the latch
holds SAFE, its owner not having written it since the force (R245); the LT of the last release that was accepted; and the LT of the last force of a cause
other than a reset of the device or the loss of VDD (R264). -/
structure Pin where
  filt : Bool := false
  since : Option Nat := none
  shown : Bool := false
  lvl : Bool := false
  oe : Bool := false
  hold : Option Nat := none
  clrDue : Bool := false
  safeHeld : Bool := true
  freed : Option Nat := none
  hit : Option Nat := none
deriving DecidableEq, Repr

/-- What a sequencer holds beside its registers (R251, R253, R254, R258): the stages SPF and THD, the FIFOs from and to the
engines, the kick latch, the pins that rose and that fell since the WAIT in progress began, and whether TKR keeps a word that
waits for THD. -/
structure Seq where
  spf : Option Nat := none
  thd : Option Nat := none
  txf : List Nat := []
  rxf : List Nat := []
  kick : Bool := false
  edges : Option (Nat × Nat) := none
  kept : Bool := false
deriving DecidableEq, Repr

/-- A sequencer group (R248, R254, R260): its clock (the phase accumulator, the length of the group cycle in progress and the 1 ns periods
left of it at the latest tick, whether a new division waits for the next group edge); the sequencers (bit s) and their stages (bits 4 + s,
8 + s) that have acted in this cycle; the flags that software raised, which wait for the next group edge; the flags that others raised in
this cycle, and those of them (bit 32s + i) that sequencer s had pending already; and an armed start with its mask and DIVSYNC. -/
structure Grp where
  acc : Nat := 0
  len : Nat := 4
  left : Nat := 4
  newDiv : Bool := false
  ran : Nat := 0
  soft : Nat := 0
  fresh : Nat := 0
  again : Nat := 0
  armed : Option (Nat × Bool) := none
deriving DecidableEq, Repr

/-- The pin bank: pins, sequencers (number 4g + s), groups, the LT from which each filter clock counts (R240), and the edge-stamp FIFO with
the entries lost since the last one stored, the LT of that store, and the entries stored at it (R242). -/
structure PinBank where
  pins : Tab Pin := []
  seqs : Tab Seq := []
  grps : Tab Grp := []
  stamps : List Nat := []
  lost : Nat := 0
  storedAt : Nat := 0
  stored : Nat := 0
  fps : Tab Nat := []
deriving DecidableEq, Repr

/-- The flags of FL (R299). -/
structure Flags where
  z : Bool := false
  n : Bool := false
  c : Bool := false
  v : Bool := false
  dz : Bool := false
  ioe : Bool := false
  dzt : Bool := false
deriving DecidableEq, Repr

/-- An engine (R267, R299, R319): W0–W15 by number, PC, FL, the trap registers, the stacks by entry and their depths, the staging of
its egress queues (8j + w), the high words it latched through its I/O ports (by port), the data address of its last access fault,
the last I/O port and direction, the three local memories and the words of theirs that carry an ECC error (1 single-bit, 2
uncorrectable), whether a STEP is to execute one word, whether it is parked for a depot-wide swap and was in WFE then, and the LT of its latest swap
request (R288). -/
structure Eng where
  w : Tab Word := []
  pc : Word := 0
  fl : Flags := {}
  tpc : Word := 0
  tiw : Word := 0
  tcause : Nat := 0
  dsd : Nat := 0
  rsd : Nat := 0
  ds : Tab Word := []
  rs : Tab Word := []
  stage : Tab Nat := []
  latch : Tab Nat := []
  addr : Word := 0
  ioPort : Nat := 0
  ioOut : Bool := false
  dm : List Host.Cell := []
  im : List Host.Cell := []
  sh : List Host.Cell := []
  dmEcc : Tab Nat := []
  imEcc : Tab Nat := []
  shEcc : Tab Nat := []
  stepping : Bool := false
  parked : Bool := false
  asleep : Bool := false
  swapAt : Nat := 0
deriving DecidableEq, Repr

/-- A depot's receive ring and ingress queue (R269–R271): the oldest occupied slot, the number of occupied slots, the receive
descriptors not yet popped, and whether a refusal was recorded since the last delivery. -/
structure RxRing where
  old : Nat := 0
  occ : Nat := 0
  descs : List Nat := []
  refused : Bool := false
deriving DecidableEq, Repr

/-- A depot: its receive rings, its two egress queues (a descriptor is its six words, R272), the queue whose turn is next (R273),
the descriptor being copied with its frame, the mask of a pending depot-wide swap and the LT of its request (R287, R288), and the timer
compares whose VALUE was already past when committed (R275). -/
structure Depot where
  rx : Tab RxRing := []
  tx : Tab (List (List Nat)) := []
  turn : Nat := 0
  copying : Option (List Nat × List Byte) := none
  swap : Option Nat := none
  swapAt : Nat := 0
  late : List Nat := []
deriving DecidableEq, Repr

/-- A hardware queue (R340–R350): the entries in queue RAM, oldest first (of a deep queue: the head half of its window), the
number of entries that stand in its spill banks, the tail half; an entry lost to an uncorrectable error is `none`. `hd` is the
head pointer, `fault` the FAULT state, and `refused` that a refusal has been recorded since the last accepted push. -/
structure Queue where
  win : List (Option Nat) := []
  spilled : Nat := 0
  tail : List (Option Nat) := []
  hd : Nat := 0
  fault : Bool := false
  refused : Bool := false
deriving DecidableEq, Repr

/-- The shared memory and the queue manager: the bytes that are not 0, by byte offset in the window of R326, in rising order;
the words that carry an ECC error (1 single-bit, 2 uncorrectable), by word; the new owner of each bank whose handover drains
(R330); the scrubber's next word by bank (R335); the bank that the test unit holds, and the next row of each bank (R337); the
queues. -/
structure Mem where
  cells : List Host.Cell := []
  ecc : Tab Nat := []
  pend : Tab Nat := []
  scrub : Tab Nat := []
  borrow : Option Nat := none
  rows : Tab Nat := []
  queues : Tab Queue := []
deriving DecidableEq, Repr

/-- A posted message with the header the hardware stamped (R357). -/
structure Msg where
  suid : Nat
  sepoch : Nat
  repoch : Nat
  seq : Nat
  time : Nat
  data : List Nat
deriving DecidableEq, Repr

/-- A mailbox: the message it holds, each sender's staging of DATA0–DATA2 (by UID), each reader's latched message (by UID,
eight words), and whether a refusal has been recorded since the last accepted post (R359). -/
structure Mailbox where
  msg : Option Msg := none
  staging : Tab (List Nat) := []
  latch : Tab (List Nat) := []
  refused : Bool := false
deriving DecidableEq, Repr

/-- A lock register (R367): its holder, and the sticky BROKEN bit. -/
structure Lock where
  holder : Option Nat := none
  broken : Bool := false
deriving DecidableEq, Repr

/-- The mailbox unit. -/
structure Mbx where
  boxes : Tab Mailbox := []
  locks : Tab Lock := []
deriving DecidableEq, Repr

/-- A CAN controller (spec/14): whether it takes part in the bus, the buffer whose frame is in arbitration or transmission and
whether an abort of it has been registered, the error counters, whether bus-off recovery runs, whether it waits for 11 recessive
bits, the candidate, the passes done and the LT of taking the candidate of a rate detection, and whether the bus is idle, with the
buffer chosen then for the next attempt (R383). -/
structure Can where
  on : Bool := false
  cur : Option Nat := none
  abort : Bool := false
  txErr : Nat := 0
  rxErr : Nat := 0
  recovering : Bool := false
  waiting : Bool := false
  cand : Nat := 0
  round : Nat := 0
  taken : Nat := 0
  idle : Bool := false
  next : Option Nat := none
deriving DecidableEq, Repr

/-- A message-protocol declaration that the loader has accepted (R410, R417): KIND, INDEX, PROTID, MAJOR, MINOR, and its depot. -/
structure Decl where
  kind : Nat
  index : Nat
  prot : Nat
  major : Nat
  minor : Nat
  depot : Nat
deriving DecidableEq, Repr

/-- A NOR command that the loader has started and that has not ended (R423): OP, slot, address, the bytes to program, and of a READ or a
CHECK the bytes read and the failed reads (R402). -/
structure NorCmd where
  op : Nat
  slot : Nat
  addr : Nat
  len : Nat
  data : List Byte
  got : Nat
  fails : Nat
deriving DecidableEq, Repr

/-- The image loader (spec/15): the NOR's bytes, each kept inverted, so that an erased NOR lists nothing; the NOR command that runs or is
held; the slots tried in this start; the bytes of the slot read, and the offset and index of the next record; the failed reads of each
slot's header and in the slot that loads; whether a failed slot waits for its rollback; the REGWRITE entry that waits for a POLL or a
DELAY, and the LT since when; the commit list (offset, value, mask); the PINSAFE entries held; the declarations; the depots that have gone
dark; the engines loaded; and the depots that an ENGIMAGE turned ON (R409). -/
structure Ldr where
  nor : List Host.Cell := []
  cmd : Option NorCmd := none
  tried : Nat := 0
  got : Nat := 0
  off : Nat := 0
  idx : Nat := 0
  probed : Tab Nat := []
  fails : Nat := 0
  rollback : Bool := false
  wait : Option Nat := none
  waitAt : Nat := 0
  commit : List (Nat × Nat × Nat) := []
  safes : List Nat := []
  decls : List Decl := []
  dark : Nat := 0
  loaded : List Nat := []
  imaged : Nat := 0
deriving DecidableEq, Repr

/-- The device's power phase (R450, R451): powered; entering Standby, with a wake source that came meanwhile (R454); in Standby. -/
inductive Phase where
  | on
  | entering (wake : Option WakeSrc)
  | standby
deriving DecidableEq, Repr

/-- The supervisor and the always-on island beside their registers (spec/16): whether POR is asserted, whether start-up has begun since
the last reset, the WARM causes present (as AON_RSTCAUSE numbers them) and those of this start, the power phase, whether REFCLK has passed
its coarse check and not failed since, whether a coarse failure is still to be reported (R397), write inhibit (R444), the watchdog's count
(the LT it runs from, the LT of the last kick, whether it has expired) and grace time with the LT it began (R446, R447), whether the
supervisor has restarted since it failed (R439), whether VDD is late in this POR (R509), whether VDDIO_A and VDDIO_B are there (R522), whether PERST_N is low (R476),
whether TMAX stands for a sample taken since its last read (R456), and the part of 1/32,768 s that the RTC has
counted, in units of 4 ns × 2^-15. -/
structure Sup where
  por : Bool := false
  begun : Bool := false
  causes : Nat := 0
  start : Nat := 1
  phase : Phase := .on
  refGood : Bool := false
  coarseDue : Bool := false
  inhibit : Bool := false
  wdFrom : Nat := 0
  wdKick : Option Nat := none
  wdOut : Bool := false
  grace : Bool := false
  graceAt : Nat := 0
  supBack : Bool := true
  vddLate : Bool := false
  ioA : Bool := true
  ioB : Bool := true
  perst : Bool := false
  tMaxOf : Bool := false
  rtc : Nat := 0
deriving DecidableEq, Repr

/-- An event record (R457); REPEAT and the fields of words 0–6. The CRC of word 7 is computed where the word is read. -/
structure EvRec where
  typ : Nat
  src : Nat
  test : Bool
  loss : Bool
  fb : Bool
  opsec : Nat
  pwrcyc : Nat
  time : Nat
  detail : Nat
  rep : Nat
deriving DecidableEq, Repr

/-- The event recorder: its ingress FIFO and fallback buffer (oldest first), an entry that is to be written before the buffer's (R472,
R473), the last record stored and its slot, whether a tail exists (R462), a pending word-7 rewrite (R463), whether it is of the whole
record (R466) and whether it is held with the buffer (R468), the LOSS mark due (R461), the MRAM log by slot and what the slots that a
failed write left hold (R464), the control region, the power-cycle count in use, commands that wait for write inhibit to end (R444,
R470), the per-master staging of EVR_INJDATA, and OPSEC as the always-on island counts it (R460). -/
structure Evr where
  fifo : List EvRec := []
  fb : List EvRec := []
  first : Option EvRec := none
  last : Option (Nat × EvRec) := none
  tailOk : Bool := false
  dirty : Bool := false
  whole : Bool := false
  held : Bool := false
  lossDue : Bool := false
  log : Tab EvRec := []
  spoilt : Tab Nat := []
  logFail : Bool := false
  opsec : Trip := {}
  pwrcyc : Trip := {}
  cycle : Nat := 0
  widx : Trip := {}
  oldest : Trip := {}
  count : Trip := {}
  badMap : Trip := {}
  island : Nat := 0
  clearDue : Bool := false
  retestDue : Bool := false
  injdata : Tab Nat := []
deriving DecidableEq, Repr

/-- An entry of the MSI-X table in BAR2 (R480). -/
structure Vector where
  addr : Nat := 0
  data : Nat := 0
  masked : Bool := true
deriving DecidableEq, Repr

/-- A DMA descriptor fetched from host memory (R484): the host address it was read from, its ring's VEC source (0 command, 1 receive),
words 0 and 1, HADDR and the fourth field (SOFF or LAUNCH). -/
structure HDesc where
  at_ : Nat
  rxRing : Bool
  w0 : Nat
  w1 : Nat
  haddr : Nat
  arg : Nat
deriving DecidableEq, Repr

/-- A row transfer that the Sample Alignment Unit handed to a channel (R226): its matrix, sequence number, source and
target, and whether its end notifies. -/
structure RowXfer where
  matrix : Nat
  seq : Nat
  src : Nat
  len : Nat
  haddr : Nat
  note : Bool
deriving DecidableEq, Repr

/-- What a channel has moved and not yet completed (R485): a descriptor with the state, reason and count its completion word will show,
or a row transfer with its outcome. -/
inductive Work where
  | desc (h : HDesc) (state reason count : Nat)
  | row (r : RowXfer) (good : Bool)
deriving DecidableEq, Repr

/-- A DMA channel (R482–R488): the descriptors fetched and not started, by ring; a delivered frame and the buffer it goes to; the row
transfers queued; and the work moved and not yet completed. -/
structure Chan where
  cmd : List HDesc := []
  rx : List HDesc := []
  deliver : List (HDesc × List Byte × Nat) := []
  rows : List RowXfer := []
  busy : Option Work := none
deriving DecidableEq, Repr

/-- The host interface: the MSI-X table, and the LT of each vector's last message (R480); of the PCIe configuration space the function
mask, Bus Master Enable and the power state (R478), the base addresses, the payload and read request sizes as the device control
register codes them, and the masks and severity of AER (R476, notes/assumptions/51); and the DMA channels. -/
structure Hif where
  vectors : Tab Vector := []
  posted : Tab Nat := []
  fnMask : Bool := false
  busMaster : Bool := false
  d3 : Bool := false
  bar0 : Nat := 0
  bar2 : Nat := 0
  mps : Nat := 0
  mrrs : Nat := 2
  aerMask : Nat := 0
  aerSev : Nat := 0x462030
  aerCorMask : Nat := 0x2000
  chans : Tab Chan := []
deriving DecidableEq, Repr

/-- The JTAG port (R516–R518): the instruction selected (as the instruction register holds it), the boundary-scan cells of the
scanned balls (notes/assumptions/56) as last updated (a level driven, or hi-Z), and DBGACC's read data, DONE and ERR. -/
structure Jtag where
  ir : Nat := 2
  scan : Tab (Option Bool) := []
  data : Nat := 0
  done : Bool := true
  err : Bool := false
deriving DecidableEq, Repr

/-- The device: the register store (a field's value by its absolute bit address, where it differs from its reset value), what
each master staged of a wide register and what it latched by reading a low word (R535; by UID and word offset), the state of each
subsystem that no register holds, whether a write or request has been refused since that was last asked (R408), what has left the
device, and how many free values have been taken. -/
structure Dev where
  regs : Tab Nat := []
  staged : List ((Nat × Nat) × Nat) := []
  latched : List ((Nat × Nat) × Nat) := []
  tb : Tb := {}
  pin : PinBank := {}
  mem : Mem := {}
  engs : Tab Eng := []
  deps : Tab Depot := []
  can : Tab Can := []
  ports : Tab Port := []
  fab : Fab := {}
  rings : Tab Ring := []
  sau : Sau := {}
  mbx : Mbx := {}
  evr : Evr := {}
  hif : Hif := {}
  ldr : Ldr := {}
  sup : Sup := {}
  jtag : Jtag := {}
  refused : Bool := false
  out : List Emit := []
  free : Nat := 0
deriving DecidableEq, Repr

/-- The machine: the device, and the commands that wait, first in, first out. -/
structure State where
  dev : Dev := {}
  pending : List Instr := []
deriving DecidableEq, Repr

/-- Why the machine stops: no rule of the spec stops the block, so this has no reason. -/
inductive Fault where
deriving DecidableEq, Repr

/-- Why a command has no meaning. -/
inductive Refusal where
  /-- A command that the model has not reached (raised by the arms of `exec`; safe: nothing is claimed of it). -/
  | notModelled (mnemonic : String)
  /-- An operand that names no unit of the device, so that no such command exists (raised by every meaning that takes a unit
  number; safe: the command is not one that anybody can send). -/
  | illFormed
deriving DecidableEq, Repr

/-- The machine right after reset. -/
def State.reset : State := {}

end Sys2Proof.Machine
end

