-- ==== Sys2Proof/WellFormed.lean ====
section
/-! DEFINITION. Which commands exist: every operand names a unit, an offset or a value that the device has. -/

namespace Sys2Proof.Machine

/-- Whether a master exists. -/
def Master.ok : Master → Bool
  | .dma c => c < 8
  | .engine n => n < 64
  | _ => true

/-- Whether a master is an engine. -/
def Master.isEngine : Master → Bool
  | .engine _ => true
  | _ => false

/-- The data bytes a length code stands for. -/
def canLen (fdf rtr : Bool) (dlc : Nat) : Nat :=
  if rtr then 0
  else if !fdf then min dlc 8
  else [0, 1, 2, 3, 4, 5, 6, 7, 8, 12, 16, 20, 24, 32, 48, 64].getD dlc 64

/-- Whether a frame's parts fit each other. -/
def CanFrame.ok (f : CanFrame) : Bool :=
  decide (f.dlc < 16) && decide (f.id < 2 ^ 29) && f.data.length == canLen f.fdf f.rtr f.dlc
    && !(f.rtr && f.fdf) && !(f.brs && !f.fdf) && (f.ide || f.id % 2 ^ 18 == 0)

/-- Whether an offset names a word of BAR0 (R10). -/
def offOk (off : Nat) : Bool := off % 4 == 0 && decide (off < 0x4000000)

/-- Whether an offset lies in the shared-memory window (R477, R523). -/
def inShared (off : Nat) : Bool := decide (0x1000000 ≤ off) && decide (off < 0x2000000)

/-- The number of cells of the boundary scan (R505, R516): the balls on VDDIO_A (98), on VDDIO_B (19), and on VAON without the reference clock
and the crystal (4). -/
abbrev scanCells : Nat := 121

/-- The command code of a request, and its field [4:0]. -/
def spiCmd (l : List (BitVec 8)) : Nat := (l.headD 0).toNat / 32
def spiField (l : List (BitVec 8)) : Nat := (l.headD 0).toNat % 32

/-- The length of a request with its CRC byte, by its command; a reserved command has no length of its own. -/
def spiLen (l : List (BitVec 8)) : Nat := if spiCmd l = 2 then 9 + 4 * spiField l else 5

/-- Whether bytes are a complete request of a command (R490). -/
def spiWhole (cmd : Nat) (l : List (BitVec 8)) : Bool := spiCmd l == cmd && l.length == spiLen l

/-- Whether bytes can be those of a request that does not come to its CRC byte (R491). -/
def spiBroken (l : List (BitVec 8)) : Bool :=
  decide (1 ≤ l.length) && (!(spiCmd l == 1 || spiCmd l == 2 || spiCmd l == 4) || decide (l.length < spiLen l))

/-- Whether a value is the UID of a unit (R11, R529). -/
def unitUid (u : Nat) : Bool :=
  decide (u ≤ 0x002) || (decide (0x008 ≤ u) && decide (u ≤ 0x017)) || (decide (0x040 ≤ u) && decide (u ≤ 0x097))
    || (decide (0x0A0 ≤ u) && decide (u ≤ 0x0A3)) || (decide (0x0B0 ≤ u) && decide (u ≤ 0x0C5)) || (decide (0x0D0 ≤ u) && decide (u ≤ 0x0D3))
    || u == 0x0D8 || u == 0x0E0 || u == 0x0E8 || (decide (0x0F0 ≤ u) && decide (u ≤ 0x0F2)) || (decide (0x0F8 ≤ u) && decide (u ≤ 0x0FD))
    || (decide (0x100 ≤ u) && decide (u ≤ 0x4FF)) || (decide (0x600 ≤ u) && decide (u ≤ 0x6FF))

/-- Whether the device posts an event type (R530); the software records are those of `EVR_INJECT` (R471). -/
def eventType (t : Nat) : Bool :=
  let last := [0x09, 0x0B, 0x06, 0x07, 0x08, 0x05, 0x05, 0x07, 0x09, 0x06, 0x0A, 0x16, 0x09, 0x07, 0x09, 0x07]
  decide (0 < t / 256) && decide (t / 256 ≤ 16) && decide (t % 256 ≤ last.getD (t / 256 - 1) 0)
    && t != 0x0503 && t != 0x0904 && t != 0x1003

/-- Whether a place of an upset exists. -/
def EccPlace.ok : EccPlace → Bool
  | .bank w => decide (w < 64 * 32768)
  | .dm e w => decide (e < 64) && decide (w < 8192)
  | .im e w => decide (e < 64) && decide (w < 8192)
  | .sh e w => decide (e < 64) && decide (w < 8192)
  | .entry q _ => decide (q < 1024)

/-- Whether a target of a swap exists. -/
def SwapTarget.ok : SwapTarget → Bool
  | .engine e => e < 64
  | .depot n => n < 8

/-- Whether what the host does outside BAR0 exists (R476, R480). -/
def HostCfg.ok : HostCfg → Bool
  | .entry v addr data _ => decide (v < 256) && decide (addr < 2 ^ 64) && decide (data < 2 ^ 32)
  | .bar2Read off => off % 4 == 0 && decide (off < 0x4000)
  | .bar2Write off v => off % 4 == 0 && decide (off < 0x4000) && decide (v < 2 ^ 32)
  | .bases bar0 bar2 => decide (bar0 < 2 ^ 64) && decide (bar2 < 2 ^ 64)
  | .sizes mps mrrs => decide (mps < 2) && decide (mrrs < 3)
  | .aer mask sev cor => decide (mask < 2 ^ 32) && decide (sev < 2 ^ 32) && decide (cor < 2 ^ 32)
  | _ => true

/-- Whether an access to `n` bytes is one (R326). -/
def BankAccess.ok (w : BankAccess) (n : Nat) : Bool := w.write.all (fun l => l.length == n) && w.upsets.all (fun u => u.1.ok)

/-- Whether both words of an entry are written at once (R340). -/
def PushWord.isWide : PushWord → Bool
  | .low _ => false
  | .wide _ _ => true

end Sys2Proof.Machine

namespace Sys2Proof

open Sys2Proof.Machine

/-- Whether a command is well-formed. -/
def wellFormed (i : Instr) : Bool :=
  match i with
  | .registerWrite m off _ whole => m.ok && offOk off && (whole || (m == .pcie && !inShared off))
  | .wideRegisterStage m off _ => m.ok && offOk off
  | .latchingRead m off => m.ok && offOk off
  | .readClear m off => m.ok && offOk off
  | .frameReceived p f => decide (p < 22) && decide (f.sub < 64)
  | .mpacketReceived p f => decide (p < 20) && decide (f.sub < 64)
  | .verifyMpacketReceived p => decide (p < 20)
  | .respondMpacketReceived p => decide (p < 20)
  | .verifyTimer p => decide (p < 20)
  | .capture m n _ => m.ok && decide (n < 4)
  | .snapshotValid n => decide (n < 4)
  | .domainSet m n _ => m.ok && decide (n < 4)
  | .domainStepWrite m n _ => m.ok && decide (n < 4)
  | .incrNomWrite m n _ => m.ok && decide (n < 4)
  | .offsetSubmit m n _ => m.ok && decide (n < 4)
  | .servoDisable m n _ => m.ok && decide (n < 4)
  | .domainStep n => decide (n < 4)
  | .servoUpdate n => decide (n < 4)
  | .servoHoldTimeout n => decide (n < 4)
  | .estRecompute => true
  | .tdcCalibration p _ _ => decide (p < 22)
  | .ppsEdge _ _ _ => true
  | .ppsMissed => true
  | .freqWindowEnd _ _ => true
  | .ppsoPulseStart k => decide (k < 4)
  | .ppsoPulseEnd k => decide (k < 4)
  | .departureRecordRead m p => m.ok && decide (p < 22)
  | .linkUpCondition p _ => decide (p < 22)
  | .linkDownCondition p line => decide (p < 22) && decide (1 ≤ line.cause) && decide (line.cause ≤ 5)
  | .linkUp p => decide (p < 22)
  | .linkDown p => decide (p < 22)
  | .mdioPoll p _ => decide (20 ≤ p) && decide (p < 22)
  | .collision p => decide (20 ≤ p) && decide (p < 22)
  | .backoffExpiry p sub => decide (20 ≤ p) && decide (p < 22) && decide (sub < 64)
  | .lateCollision p _ => decide (20 ≤ p) && decide (p < 22)
  | .plcaInactive p => decide (20 ≤ p) && decide (p < 22)
  | .pauseTakesEffect p => decide (p < 20)
  | .pfcTakesEffect p => decide (p < 20)
  | .pauseTimerExpiry p t => decide (p < 20) && decide (t ≤ 8)
  | .pauseRefresh p => decide (p < 20)
  | .portPowerDown m p _ => m.ok && decide (p < 22)
  | .lanePowerUp m p _ => m.ok && decide (p < 22)
  | .laneReady p _ _ _ => decide (p < 22)
  | .portReset p => decide (p < 22)
  | .tableRead m _ => m.ok
  | .tableWrite m _ => m.ok
  | .tableInvalidate m _ => m.ok
  | .tableFlush m _ => m.ok
  | .tableCommandDone => true
  | .fdbAgeing k => decide (k < 16384)
  | .keyCommit m k _ => m.ok && decide (k < 256)
  | .fabricReset => true
  | .redundancyReset => true
  | .authenticationReset => true
  | .expressRuleReset => true
  | .descriptorHandover p => decide (p < 22)
  | .transmitStart p sub => decide (p < 22) && decide (sub < 64)
  | .transmitEnd p => decide (p < 22)
  | .gateEvent p => decide (p < 22)
  | .change m p _ => m.ok && decide (p < 22)
  | .cancel m p _ => m.ok && decide (p < 22)
  | .configSwap p => decide (p < 22)
  | .macHold p => decide (p < 22)
  | .macRelease p => decide (p < 22)
  | .launchTimeReached p c _ => decide (p < 22) && decide (c < 8)
  | .lateToleranceExpiry p c _ => decide (p < 22) && decide (c < 8)
  | .schedulerReset p => decide (p < 22)
  | .coachReceived p f => decide (p < 4) && decide (f.sub < 64)
  | .surveyDelayCompute r => decide (r < 2)
  | .trainDeparture r sub => decide (r < 2) && decide (sub < 64)
  | .masterOutTake r => decide (r < 2)
  | .cycleMark r j => decide (r < 2) && decide (j < 8)
  | .mirrorCommitWrite m r a _ => m.ok && (decide (r < 2) && decide (a < 0x800) && a % 8 == 4)
  | .ringEnable m r _ => m.ok && decide (r < 2)
  | .silenceTimeout r => decide (r < 2)
  | .startCoachSend r sub => decide (r < 2) && decide (sub < 64)
  | .startCoachTimeout r => decide (r < 2)
  | .claimWindowEnd r => decide (r < 2)
  | .survey m r _ => m.ok && decide (r < 2)
  | .surveyAbandon r => decide (r < 2)
  | .swgo m r _ => m.ok && decide (r < 2)
  | .modeCommit m r _ => m.ok && decide (r < 2)
  | .modeCommitApply r => decide (r < 2)
  | .modeInvalidate m r _ => m.ok && decide (r < 2)
  | .modeReadBack m r _ => m.ok && decide (r < 2)
  | .lateDeadline r => decide (r < 2)
  | .returnTimeout r => decide (r < 2)
  | .commandFifoRead m r => m.ok && decide (r < 2)
  | .trainReset => true
  | .sampleFrame _ => true
  | .streamTimeout k => decide (k < 256)
  | .streamEnable m k _ => m.ok && decide (k < 256)
  | .streamDisable m k _ => m.ok && decide (k < 256)
  | .matrixEnable m k _ => m.ok && decide (k < 4)
  | .matrixDisable m k _ => m.ok && decide (k < 4)
  | .rowOpen k => decide (k < 4)
  | .rowDeadline k => decide (k < 4)
  | .rowComplete k => decide (k < 4)
  | .sauReset => true
  | .filteredEdge n _ _ sub => decide (n < 48) && decide (sub < 64)
  | .edgeStampRead m => m.ok
  | .rel m n _ => m.ok && decide (n < 48)
  | .expressHoldExpiry n => decide (n < 48)
  | .xclr m n _ => m.ok && decide (n < 48)
  | .groupClockWrite m g _ => m.ok && decide (g < 2)
  | .send q => decide (q < 8)
  | .take q => decide (q < 8)
  | .load q => decide (q < 8)
  | .store q => decide (q < 8)
  | .branch q => decide (q < 8)
  | .wait q => decide (q < 8)
  | .count q => decide (q < 8)
  | .drive q => decide (q < 8)
  | .signal q => decide (q < 8)
  | .nop q _ => decide (q < 8)
  | .spfFeed q => decide (q < 8)
  | .thdDeliver q => decide (q < 8)
  | .groupStart m g _ => m.ok && decide (g < 2)
  | .timedStartFire g => decide (g < 2)
  | .groupHalt m g _ => m.ok && decide (g < 2)
  | .instructionWrite m g w _ => m.ok && (decide (g < 2) && decide (w < 64))
  | .flagSetWrite m g _ => m.ok && decide (g < 2)
  | .kick m q _ => m.ok && decide (q < 8)
  | .clrshift m q _ => m.ok && decide (q < 8)
  | .txFifoWrite m q _ => m.ok && decide (q < 8)
  | .rxFifoRead m q => m.ok && decide (q < 8)
  | .groupReset g => decide (g < 2)
  | .pinBankReset => true
  | .depotPowerOn m n _ => m.ok && decide (n < 8)
  | .depotWakeDone n => decide (n < 8)
  | .depotPowerOff m n _ => m.ok && decide (n < 8)
  | .depotOffDone n => decide (n < 8)
  | .rxRelease e k _ => decide (e < 64) && decide (k < 2)
  | .ingressPop e k => decide (e < 64) && decide (k < 2)
  | .egressStage e j w _ => decide (e < 64) && decide (j < 2) && decide (w < 5)
  | .egressPush e j _ => decide (e < 64) && decide (j < 2)
  | .frameInterfaceFetch n => decide (n < 8)
  | .copyComplete n => decide (n < 8)
  | .timerCompareFire n k => decide (n < 8) && decide (k < 4)
  | .interruptEntry e => decide (e < 64)
  | .wfeWake e => decide (e < 64)
  | .swapRequest m e _ => m.ok && decide (e < 64)
  | .swapCancel m e _ => m.ok && decide (e < 64)
  | .swapTimeout t => t.ok
  | .depotSwapGo m n _ => m.ok && decide (n < 8)
  | .depotSwapCancel m n _ => m.ok && decide (n < 8)
  | .run m e _ => m.ok && decide (e < 64)
  | .halt m e _ => m.ok && decide (e < 64)
  | .step m e _ => m.ok && decide (e < 64)
  | .engineReset e => decide (e < 64)
  | .depotReset n => decide (n < 8)
  | .instructionPair e => decide (e < 64)
  | .add e => decide (e < 64)
  | .addc e => decide (e < 64)
  | .sub e => decide (e < 64)
  | .subb e => decide (e < 64)
  | .and e => decide (e < 64)
  | .or e => decide (e < 64)
  | .xor e => decide (e < 64)
  | .andn e => decide (e < 64)
  | .shl e => decide (e < 64)
  | .shr e => decide (e < 64)
  | .sar e => decide (e < 64)
  | .rol e => decide (e < 64)
  | .ror e => decide (e < 64)
  | .adds e => decide (e < 64)
  | .subs e => decide (e < 64)
  | .addus e => decide (e < 64)
  | .subus e => decide (e < 64)
  | .mulu e => decide (e < 64)
  | .muls e => decide (e < 64)
  | .divu e => decide (e < 64)
  | .divs e => decide (e < 64)
  | .cmp e => decide (e < 64)
  | .tst e => decide (e < 64)
  | .addi e => decide (e < 64)
  | .andi e => decide (e < 64)
  | .ori e => decide (e < 64)
  | .xori e => decide (e < 64)
  | .shi e => decide (e < 64)
  | .cmpi e => decide (e < 64)
  | .movl e => decide (e < 64)
  | .movh e => decide (e < 64)
  | .bfx e => decide (e < 64)
  | .bfi e => decide (e < 64)
  | .crc32 e => decide (e < 64)
  | .crc32c e => decide (e < 64)
  | .crc16 e => decide (e < 64)
  | .ocadd e => decide (e < 64)
  | .bswap e => decide (e < 64)
  | .bswap16 e => decide (e < 64)
  | .clz e => decide (e < 64)
  | .berlen e => decide (e < 64)
  | .mov e => decide (e < 64)
  | .not e => decide (e < 64)
  | .neg e => decide (e < 64)
  | .ldb e => decide (e < 64)
  | .ldbs e => decide (e < 64)
  | .ldh e => decide (e < 64)
  | .ldhs e => decide (e < 64)
  | .ldw e => decide (e < 64)
  | .ldd e => decide (e < 64)
  | .stb e => decide (e < 64)
  | .sth e => decide (e < 64)
  | .stw e => decide (e < 64)
  | .std e => decide (e < 64)
  | .ldi e => decide (e < 64)
  | .ioIn e => decide (e < 64)
  | .ioOut e => decide (e < 64)
  | .br e => decide (e < 64)
  | .call e => decide (e < 64)
  | .jr e => decide (e < 64)
  | .ret e => decide (e < 64)
  | .reti e => decide (e < 64)
  | .rft e => decide (e < 64)
  | .wfe e => decide (e < 64)
  | .safe e => decide (e < 64)
  | .trap e => decide (e < 64)
  | .brk e => decide (e < 64)
  | .gets e => decide (e < 64)
  | .puts e => decide (e < 64)
  | .push e => decide (e < 64)
  | .pop e => decide (e < 64)
  | .peek e => decide (e < 64)
  | .drop e => decide (e < 64)
  | .sharedMemoryAccess m a n w => m.ok && !m.isEngine && decide (1 ≤ n) && decide (a + n ≤ 2 ^ 24) && w.ok n
  | .bankConfigWrite m b _ => m.ok && decide (b < 64)
  | .bankHandover m b _ => m.ok && decide (b < 64)
  | .handoverEffect b => decide (b < 64)
  | .scrubStep => true
  | .borrowBegin => true
  | .borrowEnd diff => diff.all (fun x => decide (x.1 < 64) && decide (x.2 < 2 ^ 64))
  | .borrowAbort b => decide (b < 64)
  | .queuePush m q v => m.ok && decide (q < 1024) && (!v.isWide || m == .pcie)
  | .queueStage m q _ => m.ok && decide (q < 1024)
  | .queuePop m r => m.ok && decide (r.q < 1024) && (!r.wide || m == .pcie)
  | .queueRefill q => decide (q < 1024)
  | .queueReset q => decide (q < 1024)
  | .queueManagerReset => true
  | .mailboxStage m n w _ => m.ok && decide (n < 256) && decide (4 ≤ w) && decide (w < 7)
  | .mailboxPost m n _ => m.ok && decide (n < 256)
  | .mailboxHeaderRead m n => m.ok && decide (n < 256)
  | .mailboxTake m n => m.ok && decide (n < 256)
  | .mailboxReset n => decide (n < 256)
  | .mailboxUnitReset => true
  | .doorbellRing m n => m.ok && decide (n < 512)
  | .lockAcquire m n => m.ok && decide (n < 64)
  | .lockPeek m n => m.ok && decide (n < 64)
  | .lockRelease m n _ => m.ok && decide (n < 64)
  | .lockForce m n _ => m.ok && decide (n < 64)
  | .txRequest m p _ => m.ok && decide (p < 2)
  | .txAbort m p _ => m.ok && decide (p < 2)
  | .attemptStart p => decide (p < 2)
  | .arbitrationLost p => decide (p < 2)
  | .canFrameSent p _ _ => decide (p < 2)
  | .canFrameReceived p f _ => decide (p < 2) && f.ok
  | .canError p e => decide (p < 2) && decide (0 < e.lec) && decide (e.lec < 7)
  | .protocolException p => decide (p < 2)
  | .borec m p _ => m.ok && decide (p < 2)
  | .busOffRecovered p => decide (p < 2)
  | .abr m p _ => m.ok && decide (p < 2)
  | .dwellExpiry p => decide (p < 2)
  | .canPortReset p => decide (p < 2)
  | .por => true
  | .porEnd => true
  | .vddBrownOut => true
  | .rstN => true
  | .supRst m => m.ok
  | .refclkLoss => true
  | .testen => true
  | .warmEnd => true
  | .coarseClockCheck _ => true
  | .pllLock => true
  | .fineClockCheck count => decide (count < 2 ^ 20)
  | .xtal32Check _ => true
  | .norProbe density _ _ => density.all (fun n => decide (n < 256))
  | .norBurst _ _ => true
  | .norBurstTimeout => true
  | .regwrite => true
  | .poll _ => true
  | .delay => true
  | .memload => true
  | .engimage => true
  | .table => true
  | .pinsafe => true
  | .keyref => true
  | .rollback => true
  | .signatureCheck => true
  | .commit => true
  | .norRead m _ => m.ok
  | .norProgram m _ => m.ok
  | .norErase4k m _ => m.ok
  | .norErase64k m _ => m.ok
  | .norCheck m _ => m.ok
  | .norCommandDone _ => true
  | .loaderReset => true
  | .writeInhibitStart _ => true
  | .writeInhibitEnd => true
  | .functionResetRequest m uid => m.ok && decide (uid < 4096)
  | .domainReset n => decide (n < 4)
  | .timestampUnitReset => true
  | .supervisorReset => true
  | .btuReset => true
  | .faultSet m _ => m.ok
  | .faultClear m _ => m.ok
  | .pllLockLoss => true
  | .pllRelock => true
  | .watchdogKick m _ => m.ok
  | .watchdogExpiry => true
  | .graceExpiry => true
  | .temperatureSample tj => decide (-2048 ≤ tj) && decide (tj < 2048)
  | .standby m => m.ok
  | .standbyCoreReset => true
  | .wake _ => true
  | .clockGateWrite m _ => m.ok
  | .supLock m => m.ok
  | .eventPost typ src _ => eventType typ && unitUid src
  | .recordWrite _ => true
  | .word7Rewrite _ => true
  | .fallbackBufferWrite => true
  | .opsecIncrement => true
  | .clear m => m.ok
  | .retest m => m.ok
  | .inject m _ => m.ok
  | .injectDataStage m _ => m.ok
  | .recorderReset => true
  | .pcieLinkChange _ rate width => decide (rate < 3) && (width == 1 || width == 2 || width == 4)
  | .flr _ => true
  | .msixPost v => decide (v < 256)
  | .msixUnmask c => c.ok
  | .ringTailWrite m c _ _ => m.ok && decide (c < 8)
  | .descriptorFetch c _ answer => decide (c < 8) && answer.all (fun l => l.length == 32)
  | .dmaRead c _ => decide (c < 8)
  | .dmaWrite c _ => decide (c < 8)
  | .dmaTx c _ => decide (c < 8)
  | .rxbuf c _ => decide (c < 8)
  | .rowTransfer c _ => decide (c < 8)
  | .channelReset c => decide (c < 8)
  | .spiRead l => spiWhole 1 l
  | .spiWrite l => spiWhole 2 l
  | .spiReset l => spiWhole 4 l
  | .spiFrameDiscard l => spiBroken l
  | .extest cells => cells.length == scanCells
  | .samplePreload cells => cells.length == scanCells
  | .idcode => true
  | .clamp => true
  | .highz => true
  | .bypass code => decide (code < 32) && !([0, 1, 2, 3, 4, 0x1C].contains code)
  | .dbgacc _ => true
  | .plcaActive p => decide (20 ≤ p) && decide (p < 22)
  | .canRecessiveWaitEnd p => decide (p < 2)
  | .supervisorEngineError => true
  | .undefinedInstruction e => decide (e < 64)
  | .instructionFetchFault e => decide (e < 64)
  | .reservedRecord => true
  | .dmaTransferComplete c => decide (c < 8)

end Sys2Proof
end

