-- ==== Sys2Proof/Machine/Ops.lean ====
section
/-! DEFINITION. The operations every subsystem shares: register fields, the time formats (R3–R5), the event recorder's ingress
(R461, R462), MSI-X vectors (R480), engine interrupt lines (R281), doorbells (R366), epochs and broken locks (R362, R370), and the
reset report (R434). -/

namespace Sys2Proof.Machine

/-- A meaning's answer: the device after its effect, the queue untouched; a command whose operands name no unit is refused. -/
def State.act (s : State) (ok : Bool) (f : Dev → Dev) : Host.Outcome State Fault Refusal :=
  if ok then .next { s with dev := f s.dev } else .refused .illFormed

/-- The value a register field holds. -/
def Dev.rd (d : Dev) (f : Fld) : Nat := (tget d.regs f.key).getD f.reset

/-- Whether a one-bit field is 1. -/
def Dev.on (d : Dev) (f : Fld) : Bool := d.rd f == 1

/-- Set a register field; a field at its reset value is not listed, so that equal registers are equal data. -/
def Dev.wr (d : Dev) (f : Fld) (v : Nat) : Dev :=
  { d with regs := if v % 2 ^ f.width = f.reset then tdel d.regs f.key else tput d.regs f.key (v % 2 ^ f.width) }

/-- Set a one-bit field to a truth value. -/
def Dev.put (d : Dev) (f : Fld) (b : Bool) : Dev := d.wr f (b01 b)

/-- Add to a counter that saturates at its width. -/
def Dev.incBy (d : Dev) (f : Fld) (n : Nat) : Dev := d.wr f (satAdd f.width (d.rd f) n)

/-- Count one in a counter that saturates. -/
def Dev.inc (d : Dev) (f : Fld) : Dev := d.incBy f 1

/-- Set a field to its reset value. -/
def Dev.clr (d : Dev) (f : Fld) : Dev := { d with regs := tdel d.regs f.key }

/-- Set fields to their reset values (R7). -/
def Dev.clrs (d : Dev) (fs : List Fld) : Dev := fs.foldl Dev.clr d

/-- The signed reading of a field. -/
def Dev.rdS (d : Dev) (f : Fld) : Int := toSigned f.width (d.rd f)

/-- Do something to the device when a condition holds. -/
def Dev.when (d : Dev) (c : Bool) (f : Dev → Dev) : Dev := if c then f d else d

/-- Take a free value (notes/assumptions/3). -/
def Dev.takeFree (d : Dev) : Nat × Dev := (Config.freeValue d.free, { d with free := d.free + 1 })

/-- Whether the pads of VDDIO_A and of VDDIO_B work: with their supply and with VAON; else they float (R509, R522). -/
def Dev.padsA (d : Dev) : Bool := !d.sup.por && d.sup.ioA
def Dev.padsB (d : Dev) : Bool := !d.sup.por && d.sup.ioB

/-- Whether EXTEST, CLAMP or HIGHZ has taken the scanned balls from every other source (R518). -/
def Dev.taken (d : Dev) : Bool := d.jtag.ir == 0 || d.jtag.ir == 3 || d.jtag.ir == 4

/-- Whether something would leave the device by balls that do not carry it now (R518, R522). -/
def Dev.mute (d : Dev) : Emit → Bool
  | .canFrame _ _ | .canAck _ | .canFlag _ _ => !d.padsA || d.taken
  | .frame p _ _ _ | .mpacket p _ _ _ _ _ _ | .jam p | .beacon p | .commit p => decide (20 ≤ p) && (!d.padsA || d.taken)
  | .ppso _ _ _ | .spi _ _ _ => !d.padsB || d.taken
  | .tdo _ => !d.padsB
  | _ => false

/-- Record what left the device. -/
def Dev.emit (d : Dev) (e : Emit) : Dev := { d with out := if d.mute e then d.out else d.out ++ [e] }

/-- Fold an operation over the numbers below `n`. -/
def forNums (n : Nat) (f : Nat → Dev → Dev) (d : Dev) : Dev := (List.range n).foldl (fun d i => f i d) d

/-! ### Unit identifiers (R529) -/

/-- A master's unit identifier. -/
def Master.uid : Master → Nat
  | .supervisor => 0x000
  | .pcie => 0x001
  | .spi => 0x002
  | .dma c => 0x008 + c
  | .engine n => 0x040 + n
  | .loader => 0x0F9

/-! ### Times -/

/-- One second in units of 2^-16 ns. -/
abbrev sec16 : Nat := 1000000000 * 2 ^ 16
/-- One second in units of 2^-32 ns. -/
abbrev sec32 : Nat := 1000000000 * 2 ^ 32
/-- One 4 ns tick of LT (R25), in units of 2^-16 ns. -/
abbrev tick16 : Nat := 4 * 2 ^ 16

/-- A time in units of 2^-16 ns as a TS96 value (R3); the seconds wrap at 48 bits. -/
def ts96 (t : Nat) : Nat := t / sec16 % 2 ^ 48 * 2 ^ 48 + t % sec16

/-- The time a TS96 value holds, in units of 2^-16 ns. -/
def ofTs96 (v : Nat) : Nat := v / 2 ^ 48 * sec16 + v % 2 ^ 48

/-- The compact stamp of a time (R5). -/
def compact (t : Nat) : Nat := ts96 t % 2 ^ 64

/-- Whether the nanoseconds of a TS96 value are below 10^9 (R4). -/
def ts96ok (v : Nat) : Bool := bits v 16 32 < 1000000000

/-- A time domain's state. -/
def Dev.dom (d : Dev) (n : Nat) : Domain := tgetD d.tb.doms n {}

/-- Replace a time domain's state. -/
def Dev.setDom (d : Dev) (n : Nat) (x : Domain) : Dev := { d with tb := { d.tb with doms := tput d.tb.doms n x } }

/-- Whether a domain's servo is in TRACK or HOLDOVER, which is when it is synchronised (R30, R34). -/
def Dev.synced (d : Dev) (n : Nat) : Bool := 2 ≤ d.rd (TB_TDn_STAT_STATE n)

/-- The time of a domain index (R40) in units of 2^-16 ns. -/
def Dev.domTime (d : Dev) (dom : Nat) : Nat := if dom = 4 then d.tb.lt else (d.dom dom).time / 2 ^ 16

/-- The time of a domain index in units of 2^-32 ns. -/
def Dev.domTime32 (d : Dev) (dom : Nat) : Nat := if dom = 4 then d.tb.lt * 2 ^ 16 else (d.dom dom).time

/-- The relation between LT and a domain that was in force in a tick (R40): an instant of LT, the domain's time at it, and the effective
increment. It is the present one, unless the relation has changed since. -/
def Dev.relAt (d : Dev) (dom : Nat) (tick : Int) : Rel :=
  (((d.dom dom).past.takeWhile (fun r => decide (tick < Int.ofNat r.upTo))).getLast?).getD
    ⟨d.tb.lt, (d.dom dom).time, d.rd (TB_TDn_INCR_EFF_EFF dom)⟩

/-- An instant of LT (units of 2^-16 ns) as a domain's time by the relation in force in a tick: exact, then rounded to the nearest
2^-16 ns, ties upward (R40). -/
def Dev.ltToDomAt (d : Dev) (dom : Nat) (tick t : Int) : Int :=
  if dom = 4 then t
  else
    let r := d.relAt dom tick
    let num := Int.ofNat r.time * Int.ofNat tick16 + (t - Int.ofNat r.upTo) * Int.ofNat r.eff
    let den := Int.ofNat (tick16 * 2 ^ 16)
    (2 * num + den) / (2 * den)

/-- An instant of LT as a domain's time by the relation now in force. -/
def Dev.ltToDom (d : Dev) (dom : Nat) (t : Int) : Int := d.ltToDomAt dom (Int.ofNat d.tb.lt) t

/-- The relation of a domain to LT changes: the present one was in force up to now. -/
def Dev.keepRel (d : Dev) (n : Nat) : Dev :=
  let x := d.dom n
  d.setDom n { x with past := ⟨d.tb.lt, x.time, d.rd (TB_TDn_INCR_EFF_EFF n)⟩ :: x.past }

/-! ### The event recorder's ingress -/

/-- The value in use of a triplicated value: the majority of its copies, and their median when all three differ (R460). -/
def Trip.val (t : Trip) : Nat :=
  if t.a = t.b ∨ t.a = t.c then t.a else if t.b = t.c then t.b else max (min t.a t.b) (min (max t.a t.b) t.c)

/-- All three copies at one value. -/
def Trip.of (v : Nat) : Trip := ⟨v, v, v⟩

/-- Whether write inhibit is in force (R444, R468). -/
def Dev.inhibit (d : Dev) : Bool := d.on EVR_STAT_INHIB

/-- Discard records: they count in EVR_LOST, and the next record accepted carries LOSS (R461). -/
def Dev.evrDiscard (d : Dev) (n : Nat) : Dev :=
  if n = 0 then d else (fun (d : Dev) => { d with evr := { d.evr with lossDue := true } }) (d.incBy EVR_LOST_CNT n)

/-- Whether a record matches a post (R462). -/
def EvRec.same (r : EvRec) (typ src detail : Nat) : Bool :=
  r.typ == typ && r.src == src && r.detail == detail && r.rep < 0xFFFF

/-- A list with its last entry changed. -/
def mapLast {α : Type} (f : α → α) : List α → List α
  | [] => []
  | [a] => [f a]
  | a :: b :: r => a :: mapLast f (b :: r)

/-- Fold a post into the tail, where the tail matches it: the newest FIFO entry, else the newest entry of the fallback buffer,
else the last record stored, whose word 7 is then to be rewritten (R462, R463, R468). -/
def Evr.fold (e : Evr) (typ src detail : Nat) : Option Evr :=
  if e.tailOk && !e.lossDue then
    match e.fifo.getLast?, e.first, e.fb.getLast?, e.last with
    | some r, _, _, _ => if r.same typ src detail then
        some { e with fifo := mapLast (fun r => { r with rep := r.rep + 1 }) e.fifo } else none
    | none, some r, _, _ => if r.same typ src detail then some { e with first := some { r with rep := r.rep + 1 } } else none
    | none, none, some r, _ => if r.same typ src detail then
        some { e with fb := mapLast (fun r => { r with rep := r.rep + 1 }) e.fb } else none
    | none, none, none, some (i, r) => if r.same typ src detail then
        some { e with last := some (i, { r with rep := r.rep + 1 }), dirty := true } else none
    | none, none, none, none => none
  else none

/-- The event types by which the device reports that it refused a write or a request (R83, R118, R145, R203, R233, R265, R294, R352,
R372, R393, R426, R455, R474, R494, R55). -/
abbrev refusalTypes : List Nat :=
  [0x0107, 0x0209, 0x0305, 0x0405, 0x0505, 0x0601, 0x0605, 0x0701, 0x0702, 0x0704, 0x0705, 0x0806, 0x0909, 0x0A04, 0x0B06, 0x0C15,
    0x0D07, 0x0E02, 0x0E04, 0x0F07, 0x1007]

/-- A record made now (R458, R460): stamped with OPSEC, PWRCYC and, while TD0 is synchronised, TD0's time, and with LOSS where it is due. -/
def Dev.newRec (d : Dev) (typ src detail : Nat) (test : Bool) : EvRec := {
  typ := typ, src := src, test := test, loss := d.evr.lossDue, fb := false, opsec := d.evr.island, pwrcyc := d.evr.cycle
  time := if d.synced 0 then ts96 (d.domTime 0) else 0, detail := detail % 2 ^ 32, rep := 0 }

/-- A LOSS mark that is due has been given to a record: EVR_STAT.LOSS (R461). -/
def Dev.lossGiven (d : Dev) : Dev :=
  (fun (d : Dev) => { d with evr := { d.evr with lossDue := false } }) (d.when d.evr.lossDue (fun d => d.put EVR_STAT_LOSS true))

/-- A post to the event recorder (R461, R462): folded into the tail, discarded when the FIFO's 256 entries
are taken (or, under write inhibit or with the log failed, the fallback buffer's 16: R467, R468), or
accepted as a new entry stamped with OPSEC, PWRCYC and, while TD0 is synchronised, TD0's time (R458). -/
def Dev.postEvent (d : Dev) (typ src detail : Nat) (test : Bool := false) : Dev :=
  let d := if refusalTypes.contains typ then { d with refused := true } else d
  match d.evr.fold typ src (detail % 2 ^ 32) with
  | some e => { d with evr := e }.inc EVR_ACCEPT_CNT
  | none =>
    if 256 ≤ d.evr.fifo.length ∨ ((d.inhibit || d.evr.logFail) ∧ 16 ≤ d.evr.fb.length) then d.evrDiscard 1
    else
      let r := d.newRec typ src detail test
      let d := d.lossGiven
      let d := { d with evr := { d.evr with fifo := d.evr.fifo ++ [r], tailOk := true } }
      (d.wr EVR_FIFO_HWM (max (d.rd EVR_FIFO_HWM) d.evr.fifo.length)).inc EVR_ACCEPT_CNT

/-- The reset report of a unit: type 0xss00 of its subsystem (R434, R459). -/
def Dev.resetReport (d : Dev) (subsystem uid detail : Nat) : Dev := d.postEvent (subsystem * 256) uid detail

/-- An ignored write (R533): event 0x0107 with its kind and the register's offset; kinds 0–2 set SUP_STAT.REFUSED, kind 3
SUP_STAT.RANGE. -/
def Dev.ignoredWrite (d : Dev) (kind off : Nat) : Dev :=
  (d.put (if kind = 3 then SUP_STAT_RANGE else SUP_STAT_REFUSED) true).postEvent 0x0107 0x000 (kind * 2 ^ 28 + off % 2 ^ 26)

/-! ### MSI-X vectors -/

/-- Whether the host can be reached by a DMA transfer or a message: link up, Bus Master Enable, not D3hot (R478). -/
def Dev.hostReachable (d : Dev) : Bool := d.on HIF_STAT_LINK && d.hif.busMaster && !d.hif.d3

/-- The vector's entry of the MSI-X table. -/
def Dev.vector (d : Dev) (v : Nat) : Vector := tgetD d.hif.vectors v {}

/-- Whether a vector's pending bit is set (the PBA and HIF_PENDi are one home, R481). -/
def Dev.vecPending (d : Dev) (v : Nat) : Bool := bit (d.rd (HIF_PENDi_PEND (v / 32))) (v % 32)

/-- Set or clear a vector's pending bit. -/
def Dev.setVecPending (d : Dev) (v : Nat) (b : Bool) : Dev :=
  d.wr (HIF_PENDi_PEND (v / 32)) (setBits (d.rd (HIF_PENDi_PEND (v / 32))) (v % 32) 1 (b01 b))

/-- Whether a message of this vector can be sent now (R480). -/
def Dev.vecOpen (d : Dev) (v : Nat) : Bool := d.hostReachable && !d.hif.fnMask && !(d.vector v).masked

/-- Send a vector's message. -/
def Dev.sendVec (d : Dev) (v : Nat) : Dev :=
  (d.emit (.msix (d.vector v).addr (d.vector v).data)).inc HIF_MSIXSENT_CNT

/-- A source posts a vector (R480): merged into a pending bit or into a message of the same cycle, sent, or held pending. -/
def Dev.postVec (d : Dev) (v : Nat) : Dev :=
  if d.vecPending v then d.inc HIF_MSIXMERGE_CNT
  else if d.vecOpen v then
    if tget d.hif.posted v = some d.tb.lt then d.inc HIF_MSIXMERGE_CNT
    else (fun (d : Dev) => { d with hif := { d.hif with posted := tput d.hif.posted v d.tb.lt } }) (d.sendVec v)
  else d.setVecPending v true

/-- Send the pending messages of every vector that can be sent now, after a mask or the reachability of the host changed. -/
def Dev.flushVecs (d : Dev) : Dev :=
  forNums 256 (fun v d => if d.vecPending v && d.vecOpen v then (d.setVecPending v false).sendVec v else d) d

/-! ### Engine interrupt lines and doorbells -/

/-- Latch the pending bit of every engine line among the given engines that selects a source of kinds 1–2 (R281). -/
def Dev.latchLines (d : Dev) (engines : List Nat) (kind index : Nat) : Dev :=
  engines.foldl (fun d n => (List.range 8).foldl (fun d l =>
    if d.rd (ENG_IRQSELL_KIND n l) = kind ∧ d.rd (ENG_IRQSELL_INDEX n l) = index then
      d.wr (ENG_IRQ_PEND n) (setBits (d.rd (ENG_IRQ_PEND n)) l 1 1)
    else d) d) d

/-- A doorbell rings (R366). -/
def Dev.ring (d : Dev) (n : Nat) : Dev :=
  let d := d.latchLines (List.range 64) 1 n
  let d := d.wr (MBX_DBPENDi_PEND (n / 32)) (setBits (d.rd (MBX_DBPENDi_PEND (n / 32))) (n % 32) 1 1)
  let d := d.inc (MBX_DBn_CNT_RINGS n)
  d.when (d.on (MBX_DBn_CFG_MSIXEN n)) (fun d => d.postVec (d.rd (MBX_DBn_CFG_VEC n)))

/-! ### Locks and epochs -/

/-- A lock's state. -/
def Dev.lock (d : Dev) (n : Nat) : Lock := tgetD d.mbx.locks n {}

/-- Replace a lock's state. -/
def Dev.setLock (d : Dev) (n : Nat) (l : Lock) : Dev := { d with mbx := { d.mbx with locks := tput d.mbx.locks n l } }

/-- A broken release of a held lock (R370): free, BROKEN set, event 0x0703 with the former holder. -/
def Dev.breakLock (d : Dev) (n : Nat) (force : Bool) : Dev :=
  match (d.lock n).holder with
  | none => d
  | some h => (d.setLock n ⟨none, true⟩).postEvent 0x0703 0x0FC (h * 2 ^ 16 + b01 force * 2 ^ 8 + n)

/-- The reset epoch of a UID increments, and every lock it holds is released broken (R362, R370). -/
def Dev.bumpEpoch (d : Dev) (uid : Nat) : Dev :=
  let d := d.wr (MBX_EPOCHu_EPOCH uid) (d.rd (MBX_EPOCHu_EPOCH uid) + 1)
  forNums 64 (fun n d => if (d.lock n).holder = some uid then d.breakLock n false else d) d

/-- The reset epoch of a UID; UIDs above 0x07F have none and read 0 (R373). -/
def Dev.epoch (d : Dev) (uid : Nat) : Nat := if uid < 0x80 then d.rd (MBX_EPOCHu_EPOCH uid) else 0

end Sys2Proof.Machine
end

