-- ==== Sys2Proof/Machine/Mailbox.lean ====
section
/-! DEFINITION. The mailbox unit (spec/13): mailboxes (R355–R364), doorbell writes (R365) and lock registers (R367–R370), as
accesses by a master that answer a value, a refusal or an engine's trap. -/

namespace Sys2Proof.Machine

/-- What an access through an engine I/O port or a register window answers: done with a value, refused, a bus error of a master
that is no engine, or the trap cause that an engine takes. -/
inductive IoRes where
  | done (v : Nat)
  | refused
  | bus
  | trap (cause : Nat)
deriving DecidableEq, Repr

/-- The value an access answers: every bit 1 at a bus error (R477); a refused or trapped one answers 0. -/
def IoRes.val : IoRes → Nat
  | .done v => v
  | .bus => 0xFFFFFFFF
  | _ => 0

/-- Whether a master is a host port. -/
def Master.isHost : Master → Bool
  | .pcie => true
  | .spi => true
  | _ => false

/-- The BAR0 offset of a mailbox's data word (R373). -/
def mbWordOff (m w : Nat) : Nat := 0x44000 + m * 0x40 + 0x20 + w * 4

/-- A mailbox's state. -/
def Dev.box (d : Dev) (m : Nat) : Mailbox := tgetD d.mbx.boxes m {}

/-- Replace a mailbox's state. -/
def Dev.setBox (d : Dev) (m : Nat) (b : Mailbox) : Dev := { d with mbx := { d.mbx with boxes := tput d.mbx.boxes m b } }

/-- Whether a master may post to a mailbox (R355). -/
def Dev.mbSender (d : Dev) (m : Nat) : Master → Bool
  | .engine n => bit (d.rd (MBX_MBm_CFG_SENDDEP m)) (n / 8)
  | .pcie => d.on (MBX_MBm_CFG_SENDHOST m)
  | .spi => d.on (MBX_MBm_CFG_SENDHOST m)
  | .supervisor => d.on (MBX_MBm_CFG_SENDSUP m)
  | _ => false

/-- Whether a master is a mailbox's receiver (R355): a receiver of 0x001 reads through either host port. -/
def Dev.mbReceiver (d : Dev) (m : Nat) (w : Master) : Bool :=
  d.rd (MBX_MBm_CFG_RCV m) == (if w.isHost then 0x001 else w.uid)

/-- A refused access of a host or of the supervisor: MBX_STAT.REFUSED and event 0x0702 (R356). An engine's refusal shows in its
FL.IOE alone. -/
def Dev.mbRefuse (d : Dev) (w : Master) (off : Nat) : Dev × IoRes :=
  (if w.isEngine then d else (d.put MBX_STAT_REFUSED true).postEvent 0x0702 0x0FC off, .refused)

/-- The eight words of a message (R356, R357). -/
def Msg.words (g : Msg) : List Nat :=
  [2 ^ 31 + g.repoch % 256 * 2 ^ 20 + g.sepoch % 256 * 2 ^ 12 + g.suid % 2 ^ 12, g.seq % 2 ^ 16,
    g.time % 2 ^ 32, g.time / 2 ^ 32 % 2 ^ 32] ++ g.data

/-- A sender's data word is staged, w = 4–6 (R356). -/
def Dev.mbStaged (d : Dev) (uid m w v : Nat) : Dev :=
  let b := d.box m
  let st := tgetD b.staging uid [0, 0, 0]
  d.setBox m { b with staging := tput b.staging uid (st.set (w - 4) (v % 2 ^ 32)) }

/-- Stage a data word, w = 4–6 (R356). -/
def Dev.mbStage (d : Dev) (who : Master) (m w v : Nat) : Dev × IoRes :=
  if d.mbSender m who then (d.mbStaged who.uid m w v, .done 0)
  else if who.isEngine then (d, .trap 0x07)
  else d.mbRefuse who (mbWordOff m w)

/-- A message is posted (R358): the header, the words staged and the last one; the doorbell and the vector that the mailbox asks for. -/
def Dev.mbPosted (d : Dev) (who : Master) (m v : Nat) : Dev :=
  let b := d.box m
  let seq := (d.rd (MBX_MBm_SEQ_LASTSEQ m) + 1) % 2 ^ 16
  let g : Msg := {
    suid := who.uid, sepoch := d.epoch who.uid, repoch := d.epoch (d.rd (MBX_MBm_CFG_RCV m)), seq := seq
    time := compact d.tb.lt, data := tgetD b.staging who.uid [0, 0, 0] ++ [v % 2 ^ 32] }
  let d := d.setBox m { b with msg := some g, staging := tdel b.staging who.uid, refused := false }
  let d := d.wr (MBX_MBm_SEQ_LASTSEQ m) seq
  let d := d.when (d.on (MBX_MBm_CFG_DBEN m)) (fun d => d.ring (d.rd (MBX_MBm_CFG_DB m)))
  d.when (d.on (MBX_MBm_CFG_MSIXEN m) && d.rd (MBX_MBm_CFG_RCV m) == 1) (fun d => d.postVec (d.rd (MBX_MBm_CFG_VEC m)))

/-- A write of w = 7 posts the message (R358), or the post is refused (R359). -/
def Dev.mbPost (d : Dev) (who : Master) (m v : Nat) : Dev × IoRes :=
  let b := d.box m
  if !d.mbSender m who then
    if who.isEngine then (d, .trap 0x07) else d.mbRefuse who (mbWordOff m 7)
  else if d.on (MBX_MBm_CFG_EN m) && b.msg.isNone then (d.mbPosted who m v, .done 0)
  else
    let d := d.inc (MBX_MBm_STAT_REFCNT m)
    let d := d.when (!b.refused) (fun d => d.postEvent 0x0701 (0x600 + m) (who.uid * 2 ^ 16 + m))
    (d.setBox m { b with refused := true }).mbRefuse who (mbWordOff m 7)

/-- A write of mailbox word w (R356). -/
def Dev.mbWrite (d : Dev) (who : Master) (m w v : Nat) : Dev × IoRes :=
  if w < 4 then d.mbRefuse who (mbWordOff m w)
  else if w < 7 then d.mbStage who m w v
  else d.mbPost who m v

/-- The eight words a read of the mailbox latches: the message, or zeros (R357). -/
def Mailbox.words (b : Mailbox) : List Nat :=
  match b.msg with
  | some g => g.words
  | none => List.replicate 8 0

/-- The receiver's read of w = 0 latches the whole message in the reader's own view (R356, R360). -/
def Dev.mbLatch (d : Dev) (who : Master) (m : Nat) : Dev :=
  let b := d.box m
  d.setBox m { b with latch := tput b.latch who.uid b.words }

/-- The receiver's read of w = 7 takes the message if the latched SEQ is still the mailbox's message (R360). -/
def Dev.mbTake (d : Dev) (who : Master) (m : Nat) : Dev × Nat :=
  let b := d.box m
  let l := tgetD b.latch who.uid b.words
  let same := match b.msg with
    | some g => bit (l.getD 0 0) 31 && l.getD 1 0 == g.seq % 2 ^ 16
    | none => false
  (d.setBox m { b with msg := if same then none else b.msg, latch := tdel b.latch who.uid }, l.getD 7 0)

/-- A read of mailbox word w (R356, R360). -/
def Dev.mbRead (d : Dev) (who : Master) (m w : Nat) : Dev × IoRes :=
  if d.mbReceiver m who then
    if w = 0 then let d := d.mbLatch who m; (d, .done ((tgetD (d.box m).latch who.uid []).getD 0 0))
    else if w < 7 then (d, .done ((tgetD (d.box m).latch who.uid []).getD w 0))
    else let r := d.mbTake who m; (r.1, .done r.2)
  else if who.isEngine then (d, .trap 0x07)
  else (d.put MBX_STAT_REFUSED true, .done 0)

/-- What a sender has staged in the mailboxes is gone (R289). -/
def Dev.unstage (d : Dev) (uid : Nat) : Dev :=
  { d with mbx := { d.mbx with boxes := d.mbx.boxes.map (fun b => (b.1, { b.2 with staging := tdel b.2.staging uid })) } }

/-- Clear a mailbox: message, header, staging of every master, FN fields; latched copies stay whole (R363, R371). -/
def Dev.mbClear (d : Dev) (m : Nat) : Dev :=
  (d.setBox m { latch := (d.box m).latch }).clrs (fnFields_MB m)

/-- A function reset of a mailbox, with its report (R363). -/
def Dev.mbReset (d : Dev) (m : Nat) : Dev :=
  let detail := match (d.box m).msg with
    | some g => 2 ^ 31 + g.seq % 2 ^ 16
    | none => 0
  (d.mbClear m).resetReport 0x07 (0x600 + m) detail

/-- A function reset of the mailbox unit (R363, R431): every mailbox's, each with its report (R434), every doorbell's pending bit and
count, every held lock released broken. -/
def Dev.mbUnitReset (d : Dev) : Dev :=
  let d := forNums 256 (fun m d => d.mbReset m) d
  let d := d.clrs fnFields_MBXU
  let d := forNums 64 (fun n d =>
    if (d.lock n).holder.isSome then d.breakLock n false else d.setLock n {}) d
  d.resetReport 0x07 0x0FC 0

/-! ### Locks -/

/-- The value a lock register reads (R367), with the STATUS of this read. -/
def lockValue (status : Nat) (broken : Bool) (owner : Nat) : Nat := status * 2 ^ 30 + b01 broken * 2 ^ 29 + owner

/-- An acquire read (R368). -/
def Dev.lockAcquire (d : Dev) (who : Master) (n : Nat) : Dev × Nat :=
  let l := d.lock n
  match l.holder with
  | none => ((d.setLock n ⟨some who.uid, false⟩).inc (MBX_LKn_CNT_ACQ n), lockValue 1 l.broken who.uid)
  | some h =>
    if h = who.uid then (d, lockValue 3 l.broken h)
    else (d.inc (MBX_LKn_CNT_CONT n), lockValue 2 l.broken h)

/-- A read that does not acquire (R368). -/
def Dev.lockPeek (d : Dev) (n : Nat) : Nat :=
  match (d.lock n).holder with
  | none => lockValue 0 (d.lock n).broken 0
  | some h => lockValue 2 (d.lock n).broken h

/-- A release (R369): by the holder it frees the lock; any other is refused with event 0x0704. -/
def Dev.lockRelease (d : Dev) (who : Master) (n : Nat) : Dev × IoRes :=
  if (d.lock n).holder = some who.uid then (d.setLock n ⟨none, (d.lock n).broken⟩, .done 0)
  else
    let d := d.postEvent 0x0704 0x0FC (who.uid * 2 ^ 16 + n)
    (if who.isEngine then d else d.put MBX_STAT_REFUSED true, .refused)

/-- A write of FORCE (R370, R371, R373): with a 1 the supervisor breaks a held lock, and marks a free one BROKEN without an event; any other
writer is refused, whatever it writes. -/
def Dev.lockForce (d : Dev) (who : Master) (n : Nat) : Dev :=
  if who = .supervisor then
    if (d.lock n).holder.isSome then d.breakLock n true else d.setLock n ⟨none, true⟩
  else (d.put MBX_STAT_REFUSED true).postEvent 0x0702 0x0FC (0x42008 + n * 0x10)

/-- Whether a write of MBX_MBm_CFG would change RCV or the permitted senders while EN = 1 or a message is held (R364). -/
def Dev.mbCfgLocked (d : Dev) (m v : Nat) : Bool :=
  (d.on (MBX_MBm_CFG_EN m) || (d.box m).msg.isSome) &&
    (bits v 1 12 != d.rd (MBX_MBm_CFG_RCV m) || bits v 13 8 != d.rd (MBX_MBm_CFG_SENDDEP m)
      || bits v 21 1 != d.rd (MBX_MBm_CFG_SENDHOST m) || bits v 22 1 != d.rd (MBX_MBm_CFG_SENDSUP m))

end Sys2Proof.Machine
end

