-- ==== Sys2Proof/Machine/Memory.lean ====
section
/-! DEFINITION. The shared memory (R326–R339, R351): bytes in canonical form, the access rules and ECC, handover, scrubbing, and
the background test unit. Accesses as they are made stand in Machine/Access.lean. -/

namespace Sys2Proof.Machine

/-! ### Bytes -/

/-- The byte at an address; an unlisted one reads 0 (POR and WARM clear the memories, R432). -/
def cellGet (m : List Host.Cell) (a : Nat) : Byte :=
  match m with
  | [] => 0
  | (b, v) :: r => if b = a then v else cellGet r a

/-- Write a byte; a byte of 0 is not listed. -/
def cellPut (m : List Host.Cell) (a : Nat) (v : Byte) : List Host.Cell :=
  match m with
  | [] => if v = 0 then [] else [(a, v)]
  | (b, u) :: r =>
    if b = a then (if v = 0 then r else (a, v) :: r)
    else if a < b then (if v = 0 then (b, u) :: r else (a, v) :: (b, u) :: r)
    else (b, u) :: cellPut r a v

/-- The canonical form: addresses strictly rising from a bound, and no byte of 0. -/
def Memory.wfFrom (lo : Nat) : List Host.Cell → Bool
  | [] => true
  | (a, v) :: r => decide (lo ≤ a) && !(v == 0) && Memory.wfFrom (a + 1) r

/-- The canonical form of a memory. -/
def Memory.wf (m : List Host.Cell) : Bool := Memory.wfFrom 0 m

/-- `n` bytes from an address. -/
def cellsGet (m : List Host.Cell) (a n : Nat) : List Byte := (List.range n).map (fun i => cellGet m (a + i))

/-- Write bytes from an address. -/
def cellsPut (m : List Host.Cell) (a : Nat) : List Byte → List Host.Cell
  | [] => m
  | v :: r => cellsPut (cellPut m a v) (a + 1) r

/-- Remove the bytes of `[a, b)`. -/
def cellsDrop (m : List Host.Cell) (a b : Nat) : List Host.Cell := m.filter (fun c => !(decide (a ≤ c.1) && decide (c.1 < b)))

/-! ### Owners -/

/-- The owner for which a master acts (R327); the image loader acts for the supervisor. -/
def Master.actor : Master → Nat
  | .supervisor => 0x000
  | .loader => 0x000
  | .engine n => 0x010 + n / 8
  | _ => 0x001

/-- Whether an owner may lend its banks and open them for reading (R329, R336): the supervisor, the host or a depot. -/
def ownerLends (o : Nat) : Bool := o == 0x000 || o == 0x001 || (decide (0x010 ≤ o) && decide (o ≤ 0x017))

/-- Whether a bank lies in the ring of an enabled Sample Alignment Unit matrix (R225, R329). -/
def Dev.ringBank (d : Dev) (b : Nat) : Bool :=
  (List.range 4).any (fun m => d.on (SAU_Mm_CFG_EN m) && decide (d.rd (SAU_Mm_RING_BANK m) ≤ b)
    && decide (b ≤ d.rd (SAU_Mm_RING_BANK m) + d.rd (SAU_Mm_RING_NBANKS m)))

/-- Whether a bank is read-open (R329); never one of the train controller (0x0E0) or of the queue manager (0x0FB). -/
def Dev.readOpen (d : Dev) (b : Nat) : Bool :=
  let o := d.rd (MEM_BANKb_OWNER b)
  (d.on (MEM_BANKb_RDOPEN b) && ownerLends o) || (d.ringBank b && o != 0x0E0 && o != 0x0FB)

/-- Whether an access to a bank is allowed (R328). -/
def Dev.memAllowed (d : Dev) (actor b : Nat) (write : Bool) : Bool :=
  d.rd (MEM_BANKb_OWNER b) == actor || (!write && d.readOpen b)

/-- A queue's state. -/
def Dev.queue (d : Dev) (q : Nat) : Queue := tgetD d.mem.queues q {}

/-- Replace a queue's state. -/
def Dev.setQueue (d : Dev) (q : Nat) (x : Queue) : Dev := { d with mem := { d.mem with queues := tput d.mem.queues q x } }

/-- The number of banks a deep queue spills into (R342). -/
def Dev.queueBanks (d : Dev) (q : Nat) : Nat := 2 ^ (d.rd (QM_Qn_CFG_LOG2 q) - 15)

/-- The deep queues that spill into a bank taken from the queue manager enter FAULT (R343). -/
def Dev.spillTaken (d : Dev) (b : Nat) : Dev :=
  forNums 1024 (fun q d =>
    let x := d.queue q
    if d.on (QM_Qn_CFG_ORG q) && !x.fault
        && (d.on (QM_Qn_CFG_EN q) || decide (0 < x.win.length + x.spilled + x.tail.length))
        && decide (d.rd (QM_Qn_CFG_BANK q) ≤ b) && decide (b < d.rd (QM_Qn_CFG_BANK q) + d.queueBanks q) then
      (d.setQueue q { x with fault := true }).postEvent 0x0604 (0x100 + q) b
    else d) d

/-- A handover takes effect (R330): the new owner, PEND, LEND and RDOPEN cleared, event 0x0504. -/
def Dev.handoverNow (d : Dev) (b : Nat) : Dev :=
  match tget d.mem.pend b with
  | none => d
  | some o =>
    let old := d.rd (MEM_BANKb_OWNER b)
    let d := { d with mem := { d.mem with pend := tdel d.mem.pend b } }
    let d := d.wr (MEM_BANKb_OWNER b) o
    let d := d.clrs [MEM_BANKb_PEND b, MEM_BANKb_LEND b, MEM_BANKb_RDOPEN b]
    let d := d.postEvent 0x0504 0x0FD (o * 2 ^ 16 + b)
    d.when (old == 0x0FB) (fun d => d.spillTaken b)

/-! ### The background test unit -/

/-- The bank is returned (R337, R338); its contents stand as the save buffer restored them. -/
def Dev.borrowReturn (d : Dev) (b : Nat) : Dev :=
  ({ d with mem := { d.mem with borrow := none } }.clr (MEM_BANKb_BORROWED b)).clr BTU_STAT_ACTIVE

/-- A borrow of the bank is aborted (R338): the row restored, the bank returned, BTU_ABORT counted. -/
def Dev.borrowAbort (d : Dev) (b : Nat) : Dev :=
  if d.mem.borrow = some b then (d.borrowReturn b).inc BTU_ABORT_CNT else d

/-! ### Accesses -/

/-- What a requester of the shared memory gets: the bytes, a bus error (R328), or an uncorrectable ECC error (R334). -/
inductive MemRes where
  | ok (data : List Byte)
  | bus
  | ecc
deriving DecidableEq, Repr

/-- Whether an access succeeded. -/
def MemRes.good : MemRes → Bool
  | .ok _ => true
  | _ => false

/-- The bytes an access answers. -/
def MemRes.data : MemRes → List Byte
  | .ok l => l
  | _ => []

/-- An access is presented to a bank: it waits for a handover that drains and so takes effect by `eff` (R330), is judged (R328), and where
allowed aborts a borrow of the bank (R338). -/
def Dev.presentBy (d : Dev) (eff : Dev → Nat → Dev) (actor uid b : Nat) (write : Bool) : Dev × Bool :=
  let d := eff d b
  if d.memAllowed actor b write then (d.borrowAbort b, true)
  else (d.postEvent 0x0501 0x0FD (uid * 2 ^ 16 + b), false)

/-- Present an access to each bank of a list in turn, until one is refused. -/
def Dev.presentAllBy (d : Dev) (eff : Dev → Nat → Dev) (actor uid : Nat) (write : Bool) : List Nat → Dev × Bool
  | [] => (d, true)
  | b :: r =>
    let p := d.presentBy eff actor uid b write
    if p.2 then p.1.presentAllBy eff actor uid write r else (p.1, false)

/-- A word is read through its check bits (R334): corrected, or an uncorrectable error recorded. -/
def Dev.eccRead (d : Dev) (w : Nat) : Dev × Bool :=
  let b := w / 32768
  match tgetD d.mem.ecc w 0 with
  | 0 => (d, true)
  | 1 => ({ d with mem := { d.mem with ecc := tdel d.mem.ecc w } }.inc (MEM_ECCCOR_CNT b), true)
  | _ =>
    let d := d.inc (MEM_ECCUNC_CNT b)
    let d := ((d.wr MEM_UNCADDR_WORD w).wr MEM_UNCADDR_BANK b).put MEM_UNCADDR_VALID true
    (d.postEvent 0x0502 0x0FD (b * 2 ^ 16 + w % 32768), false)

/-- Read words through their check bits, until one fails. -/
def Dev.eccReads (d : Dev) : List Nat → Dev × Bool
  | [] => (d, true)
  | w :: r => let p := d.eccRead w; if p.2 then p.1.eccReads r else (p.1, false)

/-- The numbers `[a / k, …]` of the units of `k` bytes that `n` bytes from `a` touch. -/
def unitsOf (k a n : Nat) : List Nat := if n = 0 then [] else (List.range ((a + n - 1) / k - a / k + 1)).map (· + a / k)

/-- Write the bytes that fall into each word of a list: a whole word replaces the word and its check bits, a part of one reads the
word first and is not performed when that read fails (R334). -/
def Dev.writeWords (d : Dev) (a : Nat) (l : List Byte) : List Nat → Dev × Bool
  | [] => (d, true)
  | w :: r =>
    let lo := max a (8 * w)
    let hi := min (a + l.length) (8 * w + 8)
    let piece := (l.drop (lo - a)).take (hi - lo)
    let q := if hi - lo = 8 then ({ d with mem := { d.mem with ecc := tdel d.mem.ecc w } }, true) else d.eccRead w
    if q.2 then ({ q.1 with mem := { q.1.mem with cells := cellsPut q.1.mem.cells lo piece } }).writeWords a l r
    else (q.1, false)

/-- A write of bytes to the shared memory by a requester (R328, R334); `eff` is what a handover that takes effect under it does. -/
def Dev.memWriteBy (d : Dev) (eff : Dev → Nat → Dev) (actor uid a : Nat) (l : List Byte) : Dev × MemRes :=
  let p := d.presentAllBy eff actor uid true (unitsOf 0x40000 a l.length)
  if p.2 then
    let q := p.1.writeWords a l (unitsOf 8 a l.length)
    (q.1, if q.2 then .ok [] else .ecc)
  else (p.1, .bus)

/-- What a bus error shows to the host (R477): HIF_STAT.BUSERR, HIF_ERRADDR and event 0x0301. -/
def Dev.hostBusError (d : Dev) (w : Master) (off : Nat) : Dev :=
  ((d.put HIF_STAT_BUSERR true).wr HIF_ERRADDR_OFFSET off).postEvent 0x0301 w.uid (off % 2 ^ 26)

/-! ### Bank configuration -/

/-- Whether a writer may write a bank's register (R330): it acts for the owner, or is the supervisor. -/
def Dev.bankWriter (d : Dev) (w : Master) (b : Nat) : Bool := w.actor == 0x000 || w.actor == d.rd (MEM_BANKb_OWNER b)

/-- A handover of a bank to a new owner begins (R330): pending, and a borrow of the bank ends. -/
def Dev.bankPend (d : Dev) (b owner : Nat) : Dev :=
  ({ d with mem := { d.mem with pend := tput d.mem.pend b owner } }.put (MEM_BANKb_PEND b) true).borrowAbort b

/-- An accepted or refused write of `MEM_BANKb` (R330, R336); reserved OWNER values were rejected before (R9). -/
def Dev.bankWrite (d : Dev) (w : Master) (b v : Nat) : Dev :=
  let owner := bits v 0 12
  let same := owner == d.rd (MEM_BANKb_OWNER b)
  if !d.bankWriter w b || (same && bit v 13 && !ownerLends owner) then
    (d.put (MEM_BANKb_REFUSED b) true).postEvent 0x0505 0x0FD (0x60000 + 0x10 * b)
  else
    let d := d.when (bit v 16) (fun d => d.clr (MEM_BANKb_REFUSED b))
    if same then
      let d := (d.put (MEM_BANKb_RDOPEN b) (bit v 12)).put (MEM_BANKb_LEND b) (bit v 13)
      d.when (!bit v 13) (fun d => d.borrowAbort b)
    else d.bankPend b owner

/-! ### Scrubbing and background test -/

/-- The scrubber reads one word of a bank and goes on to its next word (R335). -/
def Dev.scrubBank (d : Dev) (b : Nat) : Dev :=
  let w := tgetD d.mem.scrub b 0
  let d := (d.eccRead (b * 32768 + w)).1
  { d with mem := { d.mem with scrub := tput d.mem.scrub b ((w + 1) % 32768) } }

/-- The scrubber reads one word of every bank that is not borrowed (R335). -/
def Dev.scrubStep (d : Dev) : Dev :=
  if d.on MEM_SCRUB_EN then forNums 64 (fun b d => if d.mem.borrow = some b then d else d.scrubBank b) d else d

/-- The bank the test unit would borrow now (R337): the first lent bank of BTU_MASK from the bank in test on, ascending, with
wrap. -/
def Dev.borrowBank (d : Dev) : Option Nat :=
  ((List.range 64).map (fun i => (d.rd BTU_STAT_BANK + i) % 64)).find? (fun b =>
    bit (d.rd BTU_MASK_MASK) b && d.on (MEM_BANKb_LEND b) && !d.on (MEM_BANKb_PEND b))

/-- A borrow begins (R337): the bank is held and its row saved, each word as read with its check bits (R351). -/
def Dev.borrowBegin (d : Dev) : Dev :=
  match d.on BTU_CFG_EN, d.mem.borrow, d.borrowBank with
  | true, none, some b =>
    let row := tgetD d.mem.rows b 0
    let d := { d with mem := { d.mem with borrow := some b } }.put (MEM_BANKb_BORROWED b) true
    let d := ((d.put BTU_STAT_ACTIVE true).wr BTU_STAT_BANK b).wr BTU_STAT_ROW row
    forNums 64 (fun i d => (d.eccRead (b * 32768 + row * 64 + i)).1) d
  | _, _, _ => d

/-- The row's pattern and its restore end and the bank is returned (R337, R339); `diff` is the word that differed and the
differing bits, where one did. -/
def Dev.borrowEnd (d : Dev) (diff : Option (Nat × Nat)) : Dev :=
  match d.mem.borrow with
  | none => d
  | some b =>
    let row := tgetD d.mem.rows b 0
    let d := match diff with
      | none => d
      | some (word, x) =>
        let d := (((d.wr BTU_FAIL_WORD word).wr BTU_FAIL_ROW row).wr BTU_FAIL_BANK b).put BTU_FAIL_VALID true
        let d := ((d.wr BTU_FAILBITS_BITS x).put BTU_STAT_FAILED true).inc BTU_FAILCNT_CNT
        d.postEvent 0x0507 0x0FA (b * 2 ^ 16 + row * 2 ^ 6 + word % 64)
    let d := (d.borrowReturn b).inc BTU_ROWS_CNT
    let next := (row + 1) % 512
    let d := { d with mem := { d.mem with rows := tput d.mem.rows b next } }.wr BTU_STAT_ROW next
    d.when (next == 0) (fun d =>
      let d := (d.inc BTU_PASS_CNT).postEvent 0x0508 0x0FA b
      d.wr BTU_STAT_BANK ((b + 1) % 64))

/-- A function reset of the background test unit (R351): a borrowed row restored and its bank returned, the FN fields cleared. -/
def Dev.btuReset (d : Dev) : Dev :=
  let held := d.mem.borrow
  let d := match held with
    | some b => d.borrowReturn b
    | none => d
  let d := { d with mem := { d.mem with rows := [] } }.clrs fnFields_BTU
  (d.when held.isSome (fun d => d.inc BTU_ABORT_CNT)).resetReport 0x05 0x0FA 0

end Sys2Proof.Machine
end

