-- ==== Sys2Proof/Machine/Crc.lean ====
section
/-! DEFINITION. The cyclic codes the spec names: CRC-16/CCITT (R320, R457), the reflected CRC-32 of Ethernet and CRC-32C (R320),
and the CRC-8 of the SPI port (R490), each as one step over a byte. -/

namespace Sys2Proof.Machine

/-- One bit of a code that is not reflected, of width `w`. -/
def crcBitMsb (w poly s : Nat) : Nat :=
  if bit s (w - 1) then (s * 2 % 2 ^ w) ^^^ poly else s * 2 % 2 ^ w

/-- One bit of a reflected code. -/
def crcBitLsb (poly s : Nat) : Nat := if s % 2 = 1 then (s / 2) ^^^ poly else s / 2

/-- An operation done `n` times. -/
def iter {α : Type} (n : Nat) (f : α → α) (a : α) : α :=
  match n with
  | 0 => a
  | k + 1 => iter k f (f a)

/-- A code that is not reflected takes a byte. -/
def crcByteMsb (w poly s b : Nat) : Nat := iter 8 (crcBitMsb w poly) (s ^^^ b * 2 ^ (w - 8))

/-- A reflected code takes a byte. -/
def crcByteLsb (poly s b : Nat) : Nat := iter 8 (crcBitLsb poly) (s ^^^ b)

/-- CRC-16/CCITT over bytes, from a state. -/
def crc16 (s : Nat) (l : List Byte) : Nat := l.foldl (fun s b => crcByteMsb 16 0x1021 s b.toNat) s

/-- CRC-8 with polynomial 0x07 over bytes, from a state. -/
def crc8 (s : Nat) (l : List Byte) : Nat := l.foldl (fun s b => crcByteMsb 8 0x07 s b.toNat) s

/-- The state of the Ethernet CRC-32 over bytes. -/
def crc32 (s : Nat) (l : List Byte) : Nat := l.foldl (fun s b => crcByteLsb 0xEDB88320 s b.toNat) s

/-- The state of CRC-32C over bytes. -/
def crc32c (s : Nat) (l : List Byte) : Nat := l.foldl (fun s b => crcByteLsb 0x82F63B78 s b.toNat) s

/-- The frame check sequence of a frame's bytes, in the order it is sent. -/
def fcsOf (l : List Byte) : List Byte := toLe 4 ((crc32 0xFFFFFFFF l) ^^^ 0xFFFFFFFF)

end Sys2Proof.Machine
end

