-- ==== Sys2Proof/Machine/Frames.lean ====
section
/-! DEFINITION. Reading and rewriting Ethernet frames (bytes from the destination address): tags, EtherType, PTP event messages and
their one-step fields (R42–R44), the redundancy tags of IEC 62439-3 (R103, R104), and the goosePdu (R111, R112). -/

namespace Sys2Proof.Machine

/-- Whether a VLAN tag stands at an offset. -/
def tagAt (l : List Byte) (o : Nat) : Bool := fieldAt l o 2 == 0x8100 || fieldAt l o 2 == 0x88A8

/-- The offset of the EtherType after up to two VLAN tags. -/
def etherOff (l : List Byte) : Nat := if tagAt l 12 then (if tagAt l 16 then 20 else 16) else 12

/-- The EtherType after up to two VLAN tags. -/
def etherType (l : List Byte) : Nat := fieldAt l (etherOff l) 2

/-- Destination and source addresses. -/
def dstMac (l : List Byte) : Nat := fieldAt l 0 6
def srcMac (l : List Byte) : Nat := fieldAt l 6 6

/-- Whether an address is a group address. -/
def isGroup (m : Nat) : Bool := bit m 40

/-! ### Redundancy tags -/

/-- Whether an HSR tag follows the VLAN tags. -/
def hasHsr (l : List Byte) : Bool := etherType l == 0x892F

/-- The offset of the EtherType after VLAN and HSR tags (R88). -/
def innerOff (l : List Byte) : Nat := if hasHsr l then etherOff l + 6 else etherOff l

/-- The EtherType after VLAN and HSR tags. -/
def innerType (l : List Byte) : Nat := fieldAt l (innerOff l) 2

/-- The redundancy control trailer of a frame without its FCS: sequence number and LAN identifier; a size field that does not match
the length means none (R104). -/
def rctOf (l : List Byte) : Option (Nat × Nat) :=
  let n := l.length
  if 20 ≤ n ∧ fieldAt l (n - 2) 2 = 0x88FB ∧ fieldAt l (n - 4) 2 % 4096 = n - (etherOff l + 2) then
    some (fieldAt l (n - 6) 2, fieldAt l (n - 4) 2 / 4096)
  else none

/-- A frame with a redundancy control trailer. -/
def addRct (l : List Byte) (seq lan : Nat) : List Byte :=
  l ++ toBe 2 seq ++ toBe 2 (lan * 4096 + (l.length + 6 - (etherOff l + 2)) % 4096) ++ toBe 2 0x88FB

/-- A frame with an HSR tag before its EtherType. -/
def addHsr (l : List Byte) (seq path : Nat) : List Byte :=
  let o := etherOff l
  l.take o ++ toBe 2 0x892F ++ toBe 2 (path * 4096 + (l.length - o + 4) % 4096) ++ toBe 2 seq ++ l.drop o

/-- A frame without its HSR tag. -/
def dropHsr (l : List Byte) : List Byte := let o := etherOff l; l.take o ++ l.drop (o + 6)

/-- A frame without its first VLAN tag. -/
def dropVlan (l : List Byte) : List Byte := if tagAt l 12 then l.take 12 ++ l.drop 16 else l

/-- A frame with a VLAN tag after its addresses. -/
def addVlan (l : List Byte) (pcp vid : Nat) : List Byte := l.take 12 ++ toBe 2 0x8100 ++ toBe 2 (pcp * 8192 + vid % 4096) ++ l.drop 12

/-- A frame padded so that it is 64 bytes long with its FCS. -/
def padMin (l : List Byte) : List Byte := l ++ List.replicate (60 - l.length) 0

/-! ### PTP event messages (R42) -/

/-- How a PTP message is carried. -/
inductive PtpForm where
  | ether | udp4 | udp6
deriving DecidableEq, Repr

/-- A PTP message in a frame: its form and the offset of its first byte, in one of the forms of R42. UDP is to follow the IPv6 header
directly, and an IPv4 fragment is looked at as a whole packet is (DESIGN CHOICE both, notes/assumptions/67). -/
def ptpAt (l : List Byte) : Option (PtpForm × Nat) :=
  let o := etherOff l + 2
  match etherType l with
  | 0x88F7 => some (.ether, o)
  | 0x0800 =>
    let ihl := 4 * (fieldAt l o 1 % 16)
    if fieldAt l o 1 / 16 = 4 ∧ fieldAt l (o + 9) 1 = 17 ∧ fieldAt l (o + ihl + 2) 2 = 319 then some (.udp4, o + ihl + 8) else none
  | 0x86DD => if fieldAt l (o + 6) 1 = 17 ∧ fieldAt l (o + 42) 2 = 319 then some (.udp6, o + 48) else none
  | _ => none

/-- A PTP event message (messageType 0x0–0x3). -/
def ptpEvent (l : List Byte) : Option (PtpForm × Nat) :=
  match ptpAt l with
  | some (f, o) => if fieldAt l o 1 % 16 ≤ 3 then some (f, o) else none
  | none => none

/-- A departure record's KIND and domain number (R46). Of PTP over UDP it knows port 319 alone, as R42 does: a general message to port 320
reads 0xFF and domain 0 (DESIGN CHOICE, notes/assumptions/67). -/
def ptpKind (l : List Byte) : Nat × Nat :=
  match ptpAt l with
  | some (_, o) => (fieldAt l o 1 % 16, fieldAt l (o + 4) 1)
  | none => (0xFF, 0)

/-- Add to a correctionField; a sum that overflows 64 signed bits, on either side, saturates to the one value that R43 names. -/
def addCorrection (old : Nat) (x : Int) : Nat :=
  let s := toSigned 64 old + x
  if -0x8000000000000000 ≤ s ∧ s ≤ 0x7FFFFFFFFFFFFFFF then ofSigned 64 s else 0x7FFFFFFFFFFFFFFF

/-- The ones' complement sum of the 16-bit words of bytes. -/
def onesSum16 (l : List Byte) : Nat :=
  let s := ((List.range ((l.length + 1) / 2)).map (fun i => fieldAt l (2 * i) 2)).foldl (· + ·) 0
  let fold (t : Nat) : Nat := t % 65536 + t / 65536
  fold (fold (fold s))

/-- Whether a UDP/IPv6 message has the two-octet trailer (R44); `o` is the message's offset. -/
def hasTrailer (l : List Byte) (o : Nat) : Bool := fieldAt l (o - 4) 2 == 8 + fieldAt l (o + 2) 2 + 2

/-- Rewrite a PTP message's fields and repair the checksums (R44); `none` where a UDP/IPv6 message has no trailer. -/
def ptpRewrite (l : List Byte) (form : PtpForm) (o : Nat) (f : List Byte → List Byte) : Option (List Byte) :=
  let n := f l
  match form with
  | .ether => some n
  | .udp4 => some (spliceAt n (o - 2) [0, 0])
  | .udp6 =>
    if hasTrailer l o then
      let len := fieldAt l (o + 2) 2
      let t := o + len
      let body (x : List Byte) : List Byte := (x.drop o).take len
      let old := onesSum16 (body l)
      let new := onesSum16 (body n)
      let sum := fieldAt l t 2 + old + (65535 - new)
      let fold (x : Nat) : Nat := x % 65536 + x / 65536
      some (spliceAt n t (toBe 2 (fold (fold sum))))
    else none

/-- Write a Sync's originTimestamp and add the fraction to its correctionField (R43); `t` in units of 2^-16 ns. -/
def writeSync (o t secUnits : Nat) (l : List Byte) : List Byte :=
  let l := spliceAt l (o + 34) (toBe 6 (t / secUnits) ++ toBe 4 (t % secUnits / 65536))
  spliceAt l (o + 8) (toBe 8 (addCorrection (fieldAt l (o + 8) 8) (Int.ofNat (t % 65536))))

/-- Add to a message's correctionField. -/
def writeCorrection (o : Nat) (x : Int) (l : List Byte) : List Byte :=
  spliceAt l (o + 8) (toBe 8 (addCorrection (fieldAt l (o + 8) 8) x))

/-! ### GOOSE (R111, R112) -/

/-- A BER element: tag, content, and what follows it; `none` where tag, length or content run past the end, or the length form is
not a definite one of up to four octets. -/
def berNext (l : List Byte) : Option (Nat × List Byte × List Byte) :=
  match l with
  | t :: n :: r =>
    if t.toNat % 32 = 31 then none
    else if n.toNat < 0x80 then
      if n.toNat ≤ r.length then some (t.toNat, r.take n.toNat, r.drop n.toNat) else none
    else
      let k := n.toNat - 0x80
      let len := beNat (r.take k)
      if 1 ≤ k ∧ k ≤ 4 ∧ k ≤ r.length ∧ len ≤ (r.drop k).length then
        some (t.toNat, (r.drop k).take len, (r.drop k).drop len)
      else none
  | _ => none

/-- The elements of a constructed BER content, at most `fuel` of them, and whether the walk was whole. -/
def berList (fuel : Nat) (l : List Byte) : List (Nat × List Byte) × Bool :=
  match fuel with
  | 0 => ([], true)
  | k + 1 =>
    if l.isEmpty then ([], true)
    else match berNext l with
      | none => ([], false)
      | some (t, c, r) => let p := berList k r; ((t, c) :: p.1, p.2)

/-- The header of a BER element, read without its content: the tag, the length and what follows. -/
def berHead (l : List Byte) : Option (Nat × Nat × List Byte) :=
  match l with
  | t :: n :: r =>
    if t.toNat % 32 = 31 then none
    else if n.toNat < 0x80 then some (t.toNat, n.toNat, r)
    else
      let k := n.toNat - 0x80
      if 1 ≤ k ∧ k ≤ 4 ∧ k ≤ r.length then some (t.toNat, beNat (r.take k), r.drop k) else none
  | _ => none

/-- The first element with a tag among at most `fuel` elements, as they stream past: its length, and as much of its content as there
is. -/
def berFind (fuel : Nat) (tag : Nat) (l : List Byte) : Option (Nat × List Byte) :=
  match fuel with
  | 0 => none
  | k + 1 =>
    match berHead l with
    | none => none
    | some (t, n, r) => if t = tag then some (n, r.take n) else berFind k tag (r.drop n)

/-- What the walk of a goosePdu takes (R112): gocbRef, stNum, simulation, confRev, and the top-level elements of allData, each where the
walk reached it; and whether the PDU is malformed. -/
structure Goose where
  gocbRef : Option (List Byte)
  stNum : Option Nat
  sim : Option Bool
  confRev : Option Nat
  elems : List (Nat × List Byte)
  malformed : Bool
deriving DecidableEq, Repr

/-- The content of a field of the PDU. -/
def berField (fs : List (Nat × List Byte)) (t : Nat) : Option (List Byte) := (fs.find? (fun e => e.1 == t)).map (·.2)

/-- The tags of the fields that R112 requires, in the order of IEC 61850-8-1: gocbRef, stNum, simulation, confRev, numDatSetEntries,
allData. -/
abbrev gooseTags : List Nat := [0x80, 0x85, 0x87, 0x88, 0x8A, 0xAB]

/-- Walk the fields of a goosePdu, where those that R112 requires are still to come in an order: the ones reached, and whether the PDU is
malformed. The walk ends at the malformation, and with element 64 of allData. -/
def gooseFields : Nat → List Byte → List Nat → List (Nat × List Byte) × Bool
  | 0, _, want => ([], !want.isEmpty)
  | k + 1, l, want =>
    if l.isEmpty then ([], !want.isEmpty)
    else
      match berNext l with
      | none => ([], true)
      | some (t, c, r) =>
        if !gooseTags.contains t then gooseFields k r want
        else if want.head? != some t then ([], true)
        else if t = 0xAB ∧ (!(berList 64 c).2 ∨ (berList 64 c).1.length = 64) then ([(t, c)], !(berList 64 c).2)
        else let p := gooseFields k r want.tail; ((t, c) :: p.1, p.2)

/-- Walk the goosePdu of a frame whose EtherType stands at `o` (R112). -/
def gooseWalk (l : List Byte) (o : Nat) : Goose :=
  match berHead (l.drop (o + 10)) with
  | none => ⟨none, none, none, none, [], true⟩
  | some (t, n, r) =>
    if t ≠ 0x61 then ⟨none, none, none, none, [], true⟩
    else
      let fs := gooseFields n (r.take n) gooseTags
      { gocbRef := berField fs.1 0x80, stNum := (berField fs.1 0x85).map (fun b => beNat b % 2 ^ 32)
        sim := (berField fs.1 0x87).map (fun b => beNat b != 0), confRev := (berField fs.1 0x88).map (fun b => beNat b % 2 ^ 32)
        elems := match berField fs.1 0xAB with
          | some a => (berList 64 a).1
          | none => []
        malformed := fs.2 || decide (r.length < n) }

/-- An element's 32-bit value; `none` for an integer longer than four octets (R112). -/
def gooseValue (t : Nat) (c : List Byte) : Option Nat :=
  let top4 (b : List Byte) : Nat := fieldAt b 0 4
  match t with
  | 0x83 => some (if c.all (· == 0) then 0 else 1)
  | 0x84 => some (top4 (c.drop 1))
  | 0x85 => if c.length ≤ 4 then some (ofSigned 32 (toSigned (8 * max c.length 1) (beNat c))) else none
  | 0x86 => if c.length ≤ 4 then some (beNat c) else none
  | _ => some (top4 c)

/-- The number of a CRC-32 with the conventions of the FCS (R111, R205). -/
def crcNum (l : List Byte) : Nat := (crc32 0xFFFFFFFF l) ^^^ 0xFFFFFFFF

end Sys2Proof.Machine
end

