-- ==== Sys2Proof/Machine/Pins.lean ====
section
/-! DEFINITION. The pin bank without its sequencers' instructions (spec/09): ownership, latches and the ball (R236, R237), filtered
edges and their stamps (R240–R242), safe states (R243–R245), the express drive (R246, R247), the group clock (R248), starts and halts
(R260, R261) and the group and bank resets (R263). -/

namespace Sys2Proof.Machine

/-! ### The parts of the pin bank -/

/-- A pin's state. -/
def Dev.pn (d : Dev) (n : Nat) : Pin := tgetD d.pin.pins n {}
/-- Replace a pin's state. -/
def Dev.setPn (d : Dev) (n : Nat) (x : Pin) : Dev := { d with pin := { d.pin with pins := tput d.pin.pins n x } }
/-- A sequencer's state. -/
def Dev.seq (d : Dev) (q : Nat) : Seq := tgetD d.pin.seqs q {}
/-- Replace a sequencer's state. -/
def Dev.setSeq (d : Dev) (q : Nat) (x : Seq) : Dev := { d with pin := { d.pin with seqs := tput d.pin.seqs q x } }
/-- A group's state. -/
def Dev.grp (d : Dev) (g : Nat) : Grp := tgetD d.pin.grps g {}
/-- Replace a group's state. -/
def Dev.setGrp (d : Dev) (g : Nat) (x : Grp) : Dev := { d with pin := { d.pin with grps := tput d.pin.grps g x } }

/-- A sequencer's STATE (R249): 0 halted, 1 running, 2 stalled. -/
def Dev.seqState (d : Dev) (q : Nat) : Nat := d.rd (PIN_SEQ_STAT_STATE (q / 4) (q % 4))

/-! ### Latches and the ball -/

/-- Whether sequencer q owns a pin (R236). -/
def Dev.seqOwns (d : Dev) (q n : Nat) : Bool :=
  decide (n < 48) && d.on (PIN_IOn_CFG_FUNC n) && d.rd (PIN_IOn_CFG_SEL n) == q

/-- The owner sets a pin's latch. -/
def Dev.latch (d : Dev) (n : Nat) (lvl oe : Bool) : Dev := d.setPn n { d.pn n with lvl := lvl, oe := oe, safeHeld := false }

/-- What drives the ball (R237): nothing where its pads have no supply (R509, R522); else JTAG where EXTEST, CLAMP or HIGHZ is in force (R518), else a forced safe state, else the express
level, else the owner's latch through MODE; none is hi-Z. -/
def Dev.ball (d : Dev) (n : Nat) : Option Bool :=
  let thruMode (lvl oe : Bool) : Option Bool :=
    if oe then
      match d.rd (PIN_IOn_CFG_MODE n) with
      | 1 => some lvl
      | 2 => if lvl then none else some false
      | _ => none
    else none
  if !d.padsA then none
  else if d.jtag.ir = 0 ∨ d.jtag.ir = 3 then tgetD d.jtag.scan n none
  else if d.jtag.ir = 4 then none
  else if d.on (PIN_IOn_SAFE_FORCED n) then
    match d.rd (PIN_IOn_SAFE_SAFE n) with
    | 0 => some false
    | 1 => some true
    | _ => none
  else if d.on (PIN_IOn_SAFE_XACT n) then thruMode (d.on (PIN_IOn_XDRV_XLVL n)) true
  else thruMode (d.pn n).lvl (d.pn n).oe

/-- The level read back at the ball: what drives it, else what the board last showed, else the pull, else no defined level (R235, R240;
notes/assumptions/12). -/
def Dev.ballLevel (d : Dev) (n : Nat) : Bool :=
  (d.ball n).getD (if (d.pn n).shown then (d.pn n).filt
    else match (if d.padsA then d.rd (PIN_IOn_CFG_PULL n) else 0) with
      | 1 => true
      | 2 => false
      | _ => Config.ballFloat d.tb.lt n)

/-! ### Halting a sequencer, forcing pins -/

/-- A sequencer halts with a cause, and event 0x0E01 is recorded: with cause 0 for a HALT write (R259). -/
def Dev.seqHalt (d : Dev) (q cause : Nat) : Dev :=
  let g := q / 4
  let s := q % 4
  let d := (d.wr (PIN_SEQ_STAT_STATE g s) 0).wr (PIN_SEQ_STAT_HCAUSE g s) cause
  let d := d.setSeq q { d.seq q with edges := none }
  d.postEvent 0x0E01 (0x0F0 + g) (d.rd (PIN_SEQ_STAT_PC g s) * 2 ^ 16 + q * 2 ^ 8 + cause)

/-- The owner's latch is set to SAFE (R244). -/
def Dev.latchSafe (d : Dev) (n : Nat) : Dev :=
  let safe := d.rd (PIN_IOn_SAFE_SAFE n)
  let d := d.setPn n { d.pn n with lvl := safe == 1, oe := safe != 2, safeHeld := true }
  (d.put (PIN_IOn_CFG_OUT n) (safe == 1)).put (PIN_IOn_CFG_OE n) (safe != 2)

/-- SAFE of a pin has been written: under a force the latch holds SAFE, unless its owner has written it since (R245). -/
def Dev.safeFollow (d : Dev) (n : Nat) : Dev :=
  if d.on (PIN_IOn_SAFE_FORCED n) && (d.pn n).safeHeld then d.latchSafe n else d

/-- A running sequencer that owns a pin halts as the pin is forced (R244). -/
def Dev.haltOwner (d : Dev) (n : Nat) : Dev :=
  let q := d.rd (PIN_IOn_CFG_SEL n)
  d.when (d.on (PIN_IOn_CFG_FUNC n) && d.seqState q != 0) (fun d => d.seqHalt q 0x07)

/-- A release is refused (R245). -/
def Dev.relRefuse (d : Dev) (n : Nat) : Dev := (d.put PIN_STAT_REFUSED true).postEvent 0x0E04 0x0F2 n

/-- Whether a release of a pin was accepted in this tick: a cause that arises in it refuses the release (R264). -/
def Dev.freedNow (d : Dev) (n : Nat) : Bool := (d.pn n).freed == some d.tb.lt

/-- One pin goes to its safe state under cause bit `c` (R244). -/
def Dev.forceOne (d : Dev) (c n : Nat) : Dev :=
  let d := d.when (d.freedNow n) (fun d => (d.setPn n { d.pn n with freed := none }).relRefuse n)
  let d := d.put (PIN_IOn_SAFE_FORCED n) true
  let d := d.wr (PIN_IOn_SAFE_CAUSE n) (setBits (d.rd (PIN_IOn_SAFE_CAUSE n)) c 1 1)
  let d := d.setPn n { d.pn n with hold := none, clrDue := false, hit := if c = 0 then (d.pn n).hit else some d.tb.lt }
  let d := (d.latchSafe n).put (PIN_IOn_SAFE_XACT n) false
  d.haltOwner n

/-- A force of some pins under cause bit `c` (R244): event 0x0E03 once, with the pins newly forced, except for a reset or VDD
loss (bit 0). -/
def Dev.forcePins (d : Dev) (c : Nat) (ns : List Nat) : Dev :=
  let new := (ns.filter (fun n => !d.on (PIN_IOn_SAFE_FORCED n) && !d.freedNow n)).length
  let d := ns.foldl (fun d n => d.forceOne c n) d
  d.when (c != 0) (fun d => d.postEvent 0x0E03 0x0F2 (new % 256 * 2 ^ 8 + (c + 1)))

/-- A cause of force ends for some pins: its bit clears, the pins stay forced (R245). -/
def Dev.endForce (d : Dev) (c : Nat) (ns : List Nat) : Dev :=
  ns.foldl (fun d n => d.wr (PIN_IOn_SAFE_CAUSE n) (setBits (d.rd (PIN_IOn_SAFE_CAUSE n)) c 1 0)) d

/-- Every pin. -/
abbrev allPins : List Nat := List.range 48

/-- The pins that DRBIND binds to a ring (R244). -/
def Dev.boundPins (d : Dev) (ring : Nat) : List Nat := allPins.filter (fun n => d.rd (PIN_IOn_CFG_DRBIND n) == ring + 1)

/-- A refused write of the pin bank: REFUSED and event 0x0E02. -/
def Dev.pinRefuse (d : Dev) (off : Nat) : Dev := (d.put PIN_STAT_REFUSED true).postEvent 0x0E02 0x0F2 off

/-- Whether a cause arose for a pin in this tick: a release in it is refused, though the cause be a function reset that has ended since
(R264). -/
def Dev.hitNow (d : Dev) (n : Nat) : Bool := (d.pn n).hit == some d.tb.lt

/-- REL (R245): accepted when every cause has ended, and none arose in this tick (R264). -/
def Dev.pinRelease (d : Dev) (n : Nat) : Dev :=
  if d.rd (PIN_IOn_SAFE_CAUSE n) = 0 ∧ d.hitNow n = false then
    (d.setPn n { d.pn n with freed := if d.on (PIN_IOn_SAFE_FORCED n) then some d.tb.lt else (d.pn n).freed }).put (PIN_IOn_SAFE_FORCED n) false
  else d.relRefuse n

/-! ### The express drive -/

/-- A firing reaches a pin through a mordant and loads the hold timer with HOLD µs (R246), or has no effect (R247). -/
def Dev.expressFire (d : Dev) (n : Nat) : Dev :=
  let forced := d.on (PIN_IOn_SAFE_FORCED n)
  if forced || !d.on (PIN_IOn_XDRV_XEN n) then
    (d.inc PIN_XSUPP_XSUPP).postEvent 0x0E06 0x0F2 (b01 forced * 2 ^ 8 + n)
  else (d.put (PIN_IOn_SAFE_XACT n) true).setPn n
    { d.pn n with hold := some (d.tb.lt + d.rd (PIN_IOn_XDRV_HOLD n) * 1000 * 65536) }

/-- The hold timer expires once its time has come (R246). -/
def Dev.holdExpiry (d : Dev) (n : Nat) : Dev :=
  match (d.pn n).hold with
  | none => d
  | some t =>
    if t ≤ d.tb.lt then
      let stop := !d.on (PIN_IOn_XDRV_XLATCH n) || (d.pn n).clrDue
      let d := d.setPn n { d.pn n with hold := none, clrDue := (d.pn n).clrDue && !stop }
      d.when stop (fun d => d.put (PIN_IOn_SAFE_XACT n) false)
    else d

/-- XCLR (R246): at once if the timer has expired, or at its expiry. -/
def Dev.xclr (d : Dev) (n : Nat) : Dev :=
  if d.on (PIN_IOn_SAFE_XACT n) then
    if (d.pn n).hold.isSome then d.setPn n { d.pn n with clrDue := true } else d.put (PIN_IOn_SAFE_XACT n) false
  else d

/-! ### Filtered edges and their stamps -/

/-- GAP and LOST of an entry of the edge-stamp FIFO, and an entry's pin (R242). -/
def gapBits (e : Nat) : Nat := bits e 30 1 * 2 ^ 30 + bits e 16 8 * 2 ^ 16
def stampPin (e : Nat) : Nat := bits e 0 6

/-- An entry that carries no GAP and LOST yet, with `n` entries lost before it (R242, R48). -/
def lostBefore (e n : Nat) : Nat := if n = 0 then e else e + 2 ^ 30 + min n 255 * 2 ^ 16

/-- Add an edge's entry among those stored in the same tick, in pin-number order. It is the next one stored after `lost` refusals and carries
them in GAP and LOST; where it becomes the tick's first, it takes over those that the first carried, which were lost before the tick (R242). -/
def stampInsert (es : List Nat) (e lost : Nat) : List Nat :=
  match es with
  | [] => [lostBefore e lost]
  | h :: r =>
    if stampPin e < stampPin h then lostBefore e (lost + bits h 16 8) :: (h - gapBits h) :: r
    else es.takeWhile (fun x => decide (stampPin x ≤ stampPin e)) ++
      lostBefore e lost :: es.dropWhile (fun x => decide (stampPin x ≤ stampPin e))

/-- The entry of an edge of pin `n` (R241, R242) without GAP and LOST: `t` is the LT instant of the raw transition, in units of 2^-16 ns,
which is expressed in the pin's domain by the relation of the tick it lies in (R40). -/
def Dev.stampEntry (d : Dev) (n : Nat) (rise : Bool) (t : Nat) : Nat :=
  let fine := decide (44 ≤ n)
  let tick := t / tick16 * tick16
  let dom := d.rd (PIN_IOn_CFG_DOM n)
  2 ^ 31 + b01 rise * 2 ^ 29 + b01 fine * 2 ^ 28 + dom % 8 * 2 ^ 24 + n
    + compact (d.ltToDomAt dom (Int.ofNat tick) (Int.ofNat (if fine then t / 4096 * 4096 else tick))).toNat * 2 ^ 64

/-- Store an edge stamp, or refuse the last of the tick's when the FIFO is full (R242): what is refused so is lost after those that stay. -/
def Dev.stampEdge (d : Dev) (n : Nat) (rise : Bool) (t : Nat) : Dev :=
  let x := d.pin
  let now := if x.storedAt = d.tb.lt then min x.stored x.stamps.length else 0
  let older := x.stamps.take (x.stamps.length - now)
  let tick := x.stamps.drop (x.stamps.length - now)
  if x.stamps.length < 256 then
    let all := stampInsert tick (d.stampEntry n rise t) x.lost
    { d with pin := { x with stamps := older ++ all, lost := 0, storedAt := d.tb.lt, stored := all.length } }
  else
    let kept := older ++ (stampInsert tick (d.stampEntry n rise t) 0).take now
    let d := { d with pin := { x with stamps := kept, lost := x.lost + 1 } }.inc PIN_ESLOST_LOST
    d.when (x.lost == 0) (fun d => d.postEvent 0x0E05 0x0F2 0)

/-- Tell the waiting sequencers of an edge of a pin. -/
def Dev.noteEdge (d : Dev) (n : Nat) (rise : Bool) : Dev :=
  forNums 8 (fun q d =>
    match (d.seq q).edges with
    | some (r, f) =>
      d.setSeq q { d.seq q with edges := some (if rise then (setBits r n 1 1, f) else (r, setBits f n 1 1)) }
    | none => d) d

/-- Whether a pin's filter can accept a level now whose last raw transition was at `t` (R240): the synchroniser lags the ball by 8 ns from the
tick in which the transition falls, and with N above 0 this tick is a sample of the pin's filter clock, whose last N samples lie after the filtered level last changed and after
the clock restarted. -/
def Dev.filterReady (d : Dev) (n t : Nat) : Bool :=
  let count := d.rd (PIN_IOn_CFG_N n)
  let k := d.rd (PIN_IOn_CFG_FP n)
  let per := d.rd (PIN_FPk_PER k) * tick16
  let base := tgetD d.pin.fps k 0
  let after := match (d.pn n).since with
    | none => true
    | some s => decide (s + (count - 1) * per < d.tb.lt)
  decide (t / tick16 * tick16 + 2 * tick16 ≤ d.tb.lt)
    && (count == 0 || ((d.tb.lt - base) % per == 0 && decide (base + (count - 1) * per ≤ d.tb.lt) && after))

/-- A pin's filtered level changes (R240, R241). -/
def Dev.filteredEdge (d : Dev) (n : Nat) (level : Bool) (t : Nat) : Dev :=
  if (d.pn n).filt == level || !d.filterReady n t then d
  else
    let d := d.setPn n { d.pn n with filt := level, since := some d.tb.lt, shown := true }
    let d := d.noteEdge n level
    d.when (if level then d.on (PIN_IOn_CFG_STRISE n) else d.on (PIN_IOn_CFG_STFALL n)) (fun d => d.stampEdge n level t)

/-! ### Flags, the group clock, starts and halts -/

/-- Set flags in all four sequencers of a group. -/
def Dev.pendFlags (d : Dev) (g mask : Nat) : Dev :=
  forNums 4 (fun s d => d.wr (PIN_SEQ_PEND_PEND g s) (Nat.lor (d.rd (PIN_SEQ_PEND_PEND g s)) mask)) d

/-- A firing or a cycle mark raises flag `i` in all four sequencers of a group (R254): it is pending at once, and a consumption in the same
group cycle does not end it. -/
def Dev.raiseFlag (d : Dev) (g i : Nat) : Dev :=
  let x := d.grp g
  let had := (numsWhere 4 (fun s => bit (d.rd (PIN_SEQ_PEND_PEND g s)) i)).foldl (fun n s => n + 2 ^ (32 * s + i)) 0
  let x := if bit x.fresh i then x else { x with fresh := x.fresh + 2 ^ i, again := Nat.lor x.again had }
  (d.setGrp g x).pendFlags g (2 ^ i)

/-- SIGNAL or a write of PIN_GRP_FLAGSET raises flag `i`, which takes effect on the next group edge (R254). -/
def Dev.softFlag (d : Dev) (g i : Nat) : Dev := d.setGrp g { d.grp g with soft := setBits (d.grp g).soft i 1 1 }

/-- A group edge: a new group cycle begins, and the flags that software raised take effect (R248, R254). -/
def Dev.grpEdge (d : Dev) (g : Nat) : Dev :=
  let x := d.grp g
  let d := d.setGrp g { x with ran := 0, soft := 0, fresh := 0, again := 0 }
  d.when (x.soft != 0) (fun d => d.pendFlags g x.soft)

/-- Four 1 ns periods pass for a group's divider: a cycle that ends begins the next, with the accumulator cleared where a new
division takes effect (R248). -/
def Dev.grpTick (d : Dev) (g : Nat) : Dev :=
  let x := d.grp g
  if 4 < x.left then d.setGrp g { x with left := x.left - 4 }
  else
    let x := if x.newDiv then { x with acc := 0, newDiv := false } else x
    let sum := x.acc + d.rd (PIN_GRP_CLK_DIVFRAC g)
    let len := d.rd (PIN_GRP_CLK_DIVINT g) + sum / 256
    (d.setGrp g { x with acc := sum % 256, len := len, left := x.left + len - 4 }).grpEdge g

/-- Whether a sequencer (`k` = s) or one of its stages has not acted in this group cycle, and the mark that it has. -/
def Dev.grpFree (d : Dev) (g k : Nat) : Bool := !bit (d.grp g).ran k
def Dev.grpMark (d : Dev) (g k : Nat) : Dev := d.setGrp g { d.grp g with ran := setBits (d.grp g).ran k 1 1 }

/-- The effective increment of a domain index: time per tick, in units of 2^-32 ns (R26). -/
def Dev.effOf (d : Dev) (dom : Nat) : Nat := if dom = 4 then tick16 * 2 ^ 16 else d.rd (TB_TDn_INCR_EFF_EFF dom)

/-- The time of a domain index at the next group edge, in units of 2^-32 ns (R255). -/
def Dev.nextEdgeTime (d : Dev) (g dom : Nat) : Nat := d.domTime32 dom + (d.grp g).left * d.effOf dom / 4

/-- Whether the time of a domain index at the group edge that began this cycle is at or past a time in units of 2^-16 ns (R255). -/
def Dev.edgePast (d : Dev) (g dom t : Nat) : Bool :=
  decide (t * 2 ^ 18 + ((d.grp g).len - (d.grp g).left) * d.effOf dom ≤ 4 * d.domTime32 dom)

/-- The selected sequencers start at LO (R260): on the group edge that began this cycle, or on the next one. DIVSYNC restarts the divider, so
that its cycles begin in phase with the start: at that edge, of which `len - left` periods have passed, or now, where the start is an edge
of its own. -/
def Dev.grpStart (d : Dev) (g mask : Nat) (divsync onEdge : Bool) : Dev :=
  let d := forNums 4 (fun s d => d.when (bit mask s && d.seqState (4 * g + s) == 0) (fun d =>
    (d.wr (PIN_SEQ_STAT_STATE g s) 1).wr (PIN_SEQ_STAT_PC g s) (d.rd (PIN_SEQ_PROG_LO g s)))) d
  if divsync then
    let n := d.rd (PIN_GRP_CLK_DIVINT g)
    let gone := if onEdge then (d.grp g).len - (d.grp g).left else 0
    (d.setGrp g { d.grp g with acc := d.rd (PIN_GRP_CLK_DIVFRAC g), len := n, left := max 1 (n - gone), newDiv := false }).grpEdge g
  else
    d.setGrp g { d.grp g with ran := (numsWhere 4 (bit mask)).foldl (fun r s => setBits r s 1 (b01 !onEdge)) (d.grp g).ran }

/-- A late timed start: at once, LATE, event 0x0E07 (R260). -/
def Dev.lateStart (d : Dev) (g mask : Nat) (divsync : Bool) : Dev :=
  ((d.grpStart g mask divsync false).put (PIN_GRP_STAT_LATE g) true).postEvent 0x0E07 (0x0F0 + g) g

/-- A write of PIN_GRP_START (R260). -/
def Dev.grpStartWrite (d : Dev) (g v : Nat) : Dev :=
  let mask := bits v 0 4
  if (List.range 4).any (fun s => bit mask s && d.seqState (4 * g + s) != 0) then
    (d.put (PIN_GRP_STAT_REFUSED g) true).postEvent 0x0E02 0x0F2 (0x602004 + g * 0x1000)
  else if bit v 8 then
    if ofTs96 (d.rd (PIN_GRP_TSTART_T g)) < d.domTime (d.rd (PIN_GRP_TDOM_TDOM g)) then d.lateStart g mask (bit v 9)
    else d.setGrp g { d.grp g with armed := some (mask, bit v 9) }
  else d.grpStart g mask (bit v 9) false

/-- An armed start takes place on the first group edge at or past TSTART, which began this cycle (R260). -/
def Dev.timedStart (d : Dev) (g : Nat) : Dev :=
  match (d.grp g).armed with
  | some (mask, ds) =>
    if d.edgePast g (d.rd (PIN_GRP_TDOM_TDOM g)) (ofTs96 (d.rd (PIN_GRP_TSTART_T g))) then
      (d.setGrp g { d.grp g with armed := none }).grpStart g mask ds true
    else d
  | none => d

/-- A forward step of a domain passes the instant of an armed start: the start is late (R54, R260). -/
def Dev.stepStarts (d : Dev) (dom old new : Nat) : Dev :=
  forNums 2 (fun g d =>
    match (d.grp g).armed with
    | some (mask, ds) =>
      let t := ofTs96 (d.rd (PIN_GRP_TSTART_T g)) * 2 ^ 16
      if d.rd (PIN_GRP_TDOM_TDOM g) = dom ∧ old < t ∧ t < new then
        (d.setGrp g { d.grp g with armed := none }).lateStart g mask ds
      else d
    | none => d) d

/-- A write of PIN_GRP_HALT (R261). -/
def Dev.grpHalt (d : Dev) (g mask : Nat) : Dev :=
  forNums 4 (fun s d => d.when (bit mask s && d.seqState (4 * g + s) != 0) (fun d => d.seqHalt (4 * g + s) 0)) d

/-- Whether a sequencer of the group is not halted. -/
def Dev.grpBusy (d : Dev) (g : Nat) : Bool := (List.range 4).any (fun s => d.seqState (4 * g + s) != 0)

/-- A write of PIN_GRP_CLK (R248): refused while a sequencer runs; it takes effect on the next group edge. -/
def Dev.grpClock (d : Dev) (g v : Nat) : Dev :=
  if d.grpBusy g then (d.put (PIN_GRP_STAT_REFUSED g) true).postEvent 0x0E02 0x0F2 (0x602000 + g * 0x1000)
  else
    let d := (d.wr (PIN_GRP_CLK_DIVINT g) (bits v 0 16)).wr (PIN_GRP_CLK_DIVFRAC g) (bits v 16 8)
    d.setGrp g { d.grp g with newDiv := true }

/-- A write of a group instruction word (R262). -/
def Dev.imemWrite (d : Dev) (g w v : Nat) : Dev :=
  let user (s : Nat) : Bool := d.seqState (4 * g + s) != 0
    && decide (d.rd (PIN_SEQ_PROG_LO g s) ≤ w) && decide (w ≤ d.rd (PIN_SEQ_PROG_HI g s))
  if (List.range 4).any user then d.pinRefuse (0x602100 + g * 0x1000 + w * 4)
  else d.wr (PIN_GRP_IMEMw_INSTR g w) v

/-- A write of PIN_GRP_FLAGSET (R254). -/
def Dev.flagSet (d : Dev) (g v : Nat) : Dev := forNums 8 (fun i d => d.when (bit v (24 + i)) (fun d => d.softFlag g (24 + i))) d

/-- CLRSHIFT (R260). -/
def Dev.clrShift (d : Dev) (q : Nat) : Dev :=
  let g := q / 4
  let s := q % 4
  let d := ((d.wr (PIN_SEQ_SDR_SDR g s) 0).wr (PIN_SEQ_TKR_TKR g s) 0).wr (PIN_SEQ_STAT_SREM g s) 0
  (d.wr (PIN_SEQ_STAT_TCNT g s) 0).setSeq q { d.seq q with spf := none, thd := none, kept := false }

/-- KICK (R254). -/
def Dev.kick (d : Dev) (q : Nat) : Dev := d.setSeq q { d.seq q with kick := true }

/-- A write to the FIFO from the engines (R253); false when it is refused. -/
def Dev.txfWrite (d : Dev) (q v : Nat) : Dev × Bool :=
  if 8 ≤ (d.seq q).txf.length then (d.inc (PIN_SEQ_FCNT_TXREF (q / 4) (q % 4)), false)
  else (d.setSeq q { d.seq q with txf := (d.seq q).txf ++ [v % 2 ^ 32] }, true)

/-- A read of the FIFO to the engines (R253): the word with VALID in bit 63, or 0. -/
def Dev.rxfRead (d : Dev) (q : Nat) : Dev × Nat :=
  match (d.seq q).rxf with
  | [] => (d, 0)
  | v :: r => (d.setSeq q { d.seq q with rxf := r }, 2 ^ 63 + v)

/-- What a group reset does to a group's sequencers and flags, without the forced pins (R263). -/
def Dev.grpClear (d : Dev) (g : Nat) : Dev :=
  let d := d.clrs (fnFields_GRP g)
  let d := forNums 4 (fun s d => (d.clrs (fnFields_SEQ g s)).setSeq (4 * g + s) {}) d
  d.setGrp g { d.grp g with armed := none, soft := 0, fresh := 0, again := 0 }

/-- The pins a group's sequencers own. -/
def Dev.grpPins (d : Dev) (g : Nat) : List Nat :=
  allPins.filter (fun n => d.on (PIN_IOn_CFG_FUNC n) && d.rd (PIN_IOn_CFG_SEL n) / 4 == g)

/-- A function reset of a group (R263). -/
def Dev.grpReset (d : Dev) (g : Nat) : Dev :=
  let ns := d.grpPins g
  ((((ns.foldl Dev.haltOwner d).grpClear g).forcePins 2 ns).endForce 2 ns).resetReport 0x0E (0x0F0 + g) 0

/-- A function reset of the pin bank (R263): both groups, every pin forced by the bank's cause alone. -/
def Dev.bankReset (d : Dev) : Dev :=
  let d := ((allPins.foldl Dev.haltOwner d).grpClear 0).grpClear 1
  let d := { d with pin := { d.pin with stamps := [], lost := 0 } }
  let d := d.clrs (fnFields_PIN ++ (allPins.map fnFields_PIO).flatten)
  let d := (d.forcePins 1 allPins).endForce 1 allPins
  ((d.resetReport 0x0E 0x0F0 0).resetReport 0x0E 0x0F1 0).resetReport 0x0E 0x0F2 0

end Sys2Proof.Machine
end

