-- ==== Sys2Proof/Machine/Time.lean ====
section
/-! DEFINITION. The timebase (spec/02): LT and the domains' ticks, the servo (R31–R36, R536), snapshots (R28), stamps (R40),
departure records (R45–R48), PPS_IN, FREQ_IN and the PPSO outputs (R49–R53). -/

namespace Sys2Proof.Machine

/-- A power of two with a signed exponent. -/
def pow2 (z : Int) : Rat := if 0 ≤ z then (2 ^ z.toNat : Nat) else 1 / ((2 ^ (-z).toNat : Nat) : Rat)

/-- The absolute value of an integer, as a number. -/
def absNat (z : Int) : Nat := z.natAbs

/-- A signed number saturated to 32 bits, in two's complement (the detail words of R55). -/
def sat32 (z : Int) : Nat := ofSigned 32 (max (-2147483648) (min 2147483647 z))

/-- The range of a domain's time in units of 2^-32 ns: 48 bits of seconds (R3). -/
abbrev timeEnd : Nat := 2 ^ 48 * sec32

/-! ### Rates -/

/-- The nominal increment of a domain, in units of 2^-32 ns. -/
def Dev.incrNom (d : Dev) (n : Nat) : Nat := d.rd (TB_TDn_INCR_NOM_INT n) * 2 ^ 32 + d.rd (TB_TDn_INCR_NOM_FRAC n)

/-- A rational rounded to an integer; ties as the implementation rounds them (Config.effTieUp). -/
def roundEff (x : Rat) : Int :=
  if Config.effTieUp then (x + 1 / 2).floor else -((-x + 1 / 2).floor)

/-- Set the effective increment: the nominal one scaled by 1 + f × 10^-9 and rounded to 2^-32 ns (R26). -/
def Dev.setEff (d : Dev) (n : Nat) : Dev :=
  let eff := (roundEff ((d.incrNom n : Rat) * (1 + (d.dom n).f / 1000000000))).toNat
  (d.when (eff != d.rd (TB_TDn_INCR_EFF_EFF n)) (fun d => d.keepRel n)).wr (TB_TDn_INCR_EFF_EFF n) eff

/-- LT at a time. -/
def Dev.setLt (d : Dev) (t : Nat) : Dev := { d with tb := { d.tb with lt := t } }

/-- One 4 ns tick of LT and every domain (R25, R26, R28). -/
def Dev.advance (d : Dev) : Dev :=
  let d := d.setLt ((d.tb.lt + tick16) % (2 ^ 48 * sec16))
  forNums 4 (fun n d =>
    d.setDom n { d.dom n with time := ((d.dom n).time + d.rd (TB_TDn_INCR_EFF_EFF n)) % timeEnd }) d

/-! ### PPSO instants -/

/-- COMP of an output, by which its edges are early, in units of 2^-32 ns. -/
def Dev.ppsoComp (d : Dev) (k : Nat) : Int := d.rdS (TB_PPSOk_COMP_COMP k) * 2 ^ 16

/-- PHASE of an output without the bits that are ignored, in units of 2^-32 ns. -/
def Dev.ppsoPhase (d : Dev) (k : Nat) : Int := Int.ofNat (d.rd (TB_PPSOk_PHASE_PHASE k) / 2 ^ 12 * 2 ^ 12 * 2 ^ 16)

/-- The last instant of output k's schedule, taken COMP early (R52), at or before `hi` of its domain; units of 2^-32 ns. -/
def Dev.ppsoLast (d : Dev) (k : Nat) (hi : Int) : Int :=
  let phase := d.ppsoPhase k
  let period : Int := Int.ofNat (d.rd (TB_PPSOk_PERIOD_PERIOD k) * 2 ^ 32)
  let b := hi + d.ppsoComp k
  let sec := b / Int.ofNat sec32
  let off := b - sec * Int.ofNat sec32
  let last := if phase ≤ off then sec * Int.ofNat sec32 + phase + (off - phase) / period * period
    else
      let top := (Int.ofNat sec32 - 1 - phase) / period
      (sec - 1) * Int.ofNat sec32 + phase + top * period
  last - d.ppsoComp k

/-- Whether some instant of output k's schedule lies in `(lo, hi]` of its domain. -/
def Dev.ppsoWithin (d : Dev) (k : Nat) (lo hi : Int) : Bool :=
  decide (lo < d.ppsoLast k hi) && decide (d.ppsoPhase k < Int.ofNat sec32)

/-- Whether output k is gated off (R53), or held off by a device fault (R440). -/
def Dev.ppsoGated (d : Dev) (k : Nat) : Bool :=
  let dom := d.rd (TB_PPSOk_CFG_DOM k)
  if d.on SUP_STAT_FAULT then true
  else if dom = 4 then false
  else match d.rd (TB_PPSOk_CFG_GATE k) with
    | 1 => !d.synced dom
    | 2 => d.rd (TB_PPSOk_LIMIT_LIMIT k) < (if d.synced dom then d.rd (TB_TDn_EST_EST dom) else 0xFFFFFFFF)
    | _ => false

/-! ### Steps (R36) -/

/-- One step takes effect: the time changes, STEPPED, STEPS, event 0x0B01 with the step in whole ns, truncated toward zero (DESIGN CHOICE,
notes/assumptions/67), and PPSO edges that a forward step passes are skipped (R54), as are armed starts late. A time outside the 48 bits
of seconds is a value the spec does not state. -/
def Dev.oneStep (d : Dev) (n : Nat) (s : Step) : Dev :=
  let old := (d.dom n).time
  let want : Int := match s with
    | .adv δ => Int.ofNat old + δ
    | .goTo t => Int.ofNat t
  let (new, d) := if 0 ≤ want ∧ want < Int.ofNat timeEnd then (want.toNat, d)
    else (d.takeFree.1 % timeEnd, d.takeFree.2)
  let d := forNums 4 (fun k d =>
    d.when (d.on (TB_PPSOk_CFG_EN k) && d.rd (TB_PPSOk_CFG_DOM k) == n && !d.ppsoGated k && decide (old < new)
      && d.ppsoWithin k (Int.ofNat old - 1) (Int.ofNat new - 1)) (fun d => d.put (TB_PPSOk_STAT_SKIPPED k) true)) d
  let d := d.keepRel n
  let d := d.setDom n { d.dom n with time := new }
  let d := (d.put (TB_TDn_STAT_STEPPED n) true).inc (TB_TDn_CNT_STEPS n)
  let d := d.postEvent 0x0B01 (0x0D0 + n) (sat32 (Int.tdiv (Int.ofNat new - Int.ofNat old) (2 ^ 32)))
  d.stepStarts n old new

/-- A SET or STEP write is accepted while the servo is off, in FREE or in ACQUIRE (R35). -/
def Dev.stepAllowed (d : Dev) (n : Nat) : Bool :=
  !d.on (TB_TDn_CFG_SERVO n) || d.rd (TB_TDn_STAT_STATE n) < 2

/-- A refused write of a servo control (R35): REFUSED and event 0x0B06, whose register offset is that of BAR0 (DEDUCED,
notes/assumptions/67). -/
def Dev.servoRefuse (d : Dev) (n off : Nat) : Dev :=
  (d.put (TB_TDn_STAT_REFUSED n) true).postEvent 0x0B06 (0x0D0 + n) off

/-- A step by software waits for the tick boundary and clears CONS; an update that arrived in this tick is discarded (R54). -/
def Dev.softStep (d : Dev) (n off : Nat) (s : Step) : Dev :=
  if d.stepAllowed n then
    let x := d.dom n
    (d.setDom n { x with
      steps := x.steps ++ [(s, true)]
      offsets := x.offsets.filter (fun e => e.1 != d.tb.lt) }).wr (TB_TDn_STAT_CONS n) 0
  else d.servoRefuse n off

/-! ### The servo (R31, R32) -/

/-- FREQ_IN's rate, where it is good: at least one good window, and 1,000 in a row after a bad one (R51). Clearing
`TB_FREQIN_CFG.EN` leaves the last result in use (DESIGN CHOICE, notes/assumptions/67). -/
def Dev.freqUsable (d : Dev) : Bool :=
  0 < d.tb.freqGood && (!d.tb.freqBad || 1000 ≤ d.tb.freqGood)

/-- The servo's base frequency from FREQ_IN, where FSRC = 1 and FREQ_IN is good. -/
def Dev.baseFreq (d : Dev) (n : Nat) : Option Int :=
  if d.on (TB_TDn_CFG_FSRC n) && d.freqUsable then some (d.rdS TB_FREQIN_MEAS_MEAS) else none

/-- The servo changes state, with event 0x0B02 (R30). -/
def Dev.servoState (d : Dev) (n new : Nat) : Dev :=
  let old := d.rd (TB_TDn_STAT_STATE n)
  if old = new then d
  else (d.wr (TB_TDn_STAT_STATE n) new).postEvent 0x0B02 (0x0D0 + n) (old * 2 ^ 8 + new)

/-- `x × 10^9 / T`; for T = 0, which the rule divides by, an open value. -/
def overT (x T : Rat) : Rat := if T = 0 then (Config.servoZeroT (x * 65536).floor : Rat) else x * 1000000000 / T

/-- Recompute the error estimate of a domain (R33). -/
def Dev.refreshEst (d : Dev) (n : Nat) : Dev :=
  if d.synced n then
    let off := absNat (d.rdS (TB_TDn_LASTOFF_LAST n)) * 1000 / 2 ^ 16
    let dt := d.tb.lt - ((d.dom n).lastUpd.getD d.tb.lt)
    let drift := d.rd (TB_TDn_HOLD_HOLD_RATE n) * dt / sec16
    d.wr (TB_TDn_EST_EST n) (min 0xFFFFFFFF (off + d.rd (TB_TDn_EFLOOR_EFLOOR n) + drift))
  else d.wr (TB_TDn_EST_EST n) 0xFFFFFFFF

/-- The proportional and integral terms for the gains in force: the frequency correction, and the integral sum. -/
def piTerm (base : Option Int) (o integ T : Rat) (kp ki : Nat) : Rat × Rat :=
  let i := match base with
    | some _ => 0
    | none => integ + o
  let b : Rat := match base with
    | some m => (m : Rat)
    | none => 0
  (b - overT (o / pow2 kp + i / pow2 ki) T, i)

/-- Clamp f to SLEW_MAX, with SLEWLIM and event 0x0B0A. -/
def Dev.slew (d : Dev) (n : Nat) : Dev :=
  let x := d.dom n
  let lim : Rat := ((d.rd (TB_TDn_SLEW_SLEW_MAX n) * 10 : Nat) : Rat)
  if x.f > lim ∨ x.f < -lim then
    ((d.setDom n { x with f := if x.f > 0 then lim else -lim }).put (TB_TDn_STAT_SLEWLIM n) true).postEvent 0x0B0A (0x0D0 + n) n
  else d

/-- The servo processes one offset update (R31): its arrival in LT and the offset in units of 2^-16 ns. A step of the servo takes effect
before one by software at the same boundary, so that the time software wrote stands (DEDUCED, notes/assumptions/67). -/
def Dev.servoUpdate (d : Dev) (n arrival : Nat) (o : Int) : Dev :=
  let x := d.dom n
  let st := d.rd (TB_TDn_STAT_STATE n)
  let oNs : Rat := (o : Rat) / 65536
  let T : Rat := if st = 0 then 1000000000 else (((arrival - x.lastUpd.getD arrival) : Nat) : Rat) / 65536
  let big (thr : Nat) : Bool := thr * 2 ^ 16 ≤ absNat o
  let lossBig := big (d.rd (TB_TDn_LOSS_LOSS_THR n))
  let base := d.baseFreq n
  let kiA : Int := Int.ofNat (d.rd (TB_TDn_GAIN_KI_ACQ n))
  let kiT : Int := Int.ofNat (d.rd (TB_TDn_GAIN_KI_TRK n))
  let d := d.wr (TB_TDn_LASTOFF_LAST n) (ofSigned 64 o)
  let d := d.setDom n { x with lastUpd := some arrival, lastT := T }
  -- FREE and HOLDOVER are left before the update is judged
  let d := if st = 0 then (d.servoState n 1).wr (TB_TDn_STAT_CONS n) 0
    else if st = 3 then
      if lossBig then (d.servoState n 1).wr (TB_TDn_STAT_CONS n) 0 else (d.servoState n 2).wr (TB_TDn_STAT_LOSS n) 0
    else d
  let x := d.dom n
  let d := if d.rd (TB_TDn_STAT_STATE n) = 1 then
      if d.on (TB_TDn_CFG_STEPEN n) && big (d.rd (TB_TDn_THR_STEP_THR n)) then
        (d.setDom n { x with
          steps := x.steps.filter (fun e => !e.2) ++ [(.adv (-o * 2 ^ 16), false)] ++ x.steps.filter (fun e => e.2) }).wr
          (TB_TDn_STAT_CONS n) 0
      else
        let (f, i) := piTerm base oNs x.integ T (d.rd (TB_TDn_GAIN_KP_ACQ n)) (d.rd (TB_TDn_GAIN_KI_ACQ n))
        let cons := if big (d.rd (TB_TDn_THR_CONS_WIN n)) then 0 else d.rd (TB_TDn_STAT_CONS n) + 1
        let d := d.wr (TB_TDn_STAT_CONS n) cons
        if cons = 8 then
          ((d.setDom n { x with f := f, integ := i * pow2 (kiT - kiA) }).servoState n 2).wr (TB_TDn_STAT_LOSS n) 0
        else d.setDom n { x with f := f, integ := i }
    else
      let (f, i) := piTerm base oNs x.integ T (d.rd (TB_TDn_GAIN_KP_TRK n)) (d.rd (TB_TDn_GAIN_KI_TRK n))
      let loss := if lossBig then min (d.rd (TB_TDn_STAT_LOSS n) + 1) 15 else 0
      let d := d.wr (TB_TDn_STAT_LOSS n) loss
      if d.rd (TB_TDn_LOSS_LOSS_CNT n) ≤ loss then
        (((d.setDom n { x with f := f, integ := i * pow2 (kiA - kiT) }).servoState n 1).wr (TB_TDn_STAT_CONS n) 0).inc
          (TB_TDn_CNT_LOCKLOSS n)
      else d.setDom n { x with f := f, integ := i }
  ((d.slew n).setEff n).refreshEst n

/-- An offset arrives at a domain's servo: taken while the servo is on and the source is the selected one (R29, R536); in the tick of a
software step it is discarded (R54). -/
def Dev.offerOffset (d : Dev) (n psrc : Nat) (o : Int) : Dev :=
  let x := d.dom n
  d.when (d.on (TB_TDn_CFG_SERVO n) && d.rd (TB_TDn_CFG_PSRC n) == psrc && !x.steps.any (fun e => e.2)) (fun d =>
    d.setDom n { x with offsets := x.offsets ++ [(d.tb.lt, o)] })

/-- Whether an update waits that arrived in an earlier tick: the tick of its arrival is the one in which R54 has a software step discard
it (DEDUCED, notes/assumptions/67). -/
def Dev.servoReady (d : Dev) (n : Nat) : Bool :=
  match (d.dom n).offsets with
  | [] => false
  | e :: _ => decide (e.1 < d.tb.lt)

/-- The servo processes the oldest update that arrived before this tick (R31). -/
def Dev.servoNext (d : Dev) (n : Nat) : Dev :=
  match (d.dom n).offsets with
  | [] => d
  | (t, o) :: r =>
    if d.servoReady n then (d.setDom n { d.dom n with offsets := r }).servoUpdate n t o else d

/-- The servo returns to FREE with f, I and both run counters at 0 (R27, R536), at the nominal increment. A step that already waits for
the tick boundary still takes effect (DESIGN CHOICE, notes/assumptions/67). -/
def Dev.servoFree (d : Dev) (n : Nat) : Dev :=
  let d := d.setDom n { d.dom n with f := 0, integ := 0, offsets := [], lastUpd := none }
  let d := (d.wr (TB_TDn_STAT_CONS n) 0).wr (TB_TDn_STAT_LOSS n) 0
  ((d.wr (TB_TDn_STAT_STATE n) 0).setEff n).refreshEst n

/-- SERVO is cleared (R536). -/
def Dev.servoOff (d : Dev) (n : Nat) : Dev :=
  let old := d.rd (TB_TDn_STAT_STATE n)
  let d := d.servoFree n
  d.when (old != 0) (fun d => d.postEvent 0x0B02 (0x0D0 + n) (old * 2 ^ 8))

/-- Whether no update has arrived within TIMEOUT, a number of 10 ms, of the last one (R32). -/
def Dev.servoSilent (d : Dev) (n : Nat) : Bool :=
  match (d.dom n).lastUpd with
  | some t => (d.dom n).offsets.isEmpty && decide (t + d.rd (TB_TDn_HOLD_TIMEOUT n) * (10000000 * 65536) ≤ d.tb.lt)
  | none => false

/-- No update arrives within TIMEOUT (R32). In HOLDOVER f is the integral term alone, as R32 writes it: with FREQ_IN as the base I is held
at 0 (R31), and f is then 0, without FREQ_IN's rate (DEDUCED, notes/assumptions/67). -/
def Dev.servoTimeout (d : Dev) (n : Nat) : Dev :=
  if d.on (TB_TDn_CFG_SERVO n) && d.servoSilent n then
    match d.rd (TB_TDn_STAT_STATE n) with
    | 2 =>
      let x := d.dom n
      let i : Rat := if (d.baseFreq n).isSome then 0 else x.integ
      let f := -overT (i / pow2 (Int.ofNat (d.rd (TB_TDn_GAIN_KI_TRK n)))) x.lastT
      ((d.setDom n { x with f := f, integ := i }).servoState n 3).setEff n
    | 1 =>
      let d := d.servoState n 0
      ((d.setDom n { d.dom n with f := 0, integ := 0 }).setEff n).refreshEst n
    | _ => d
  else d

/-! ### Snapshots (R28) -/

/-- LT and the domains are captured on one tick; VALID follows. -/
def Dev.capture (d : Dev) (n : Nat) : Dev :=
  let d := (d.wr (TB_SNAPn_LT_LT n) (ts96 d.tb.lt)).put (TB_SNAPn_CTRL_VALID n) false
  let d := forNums 4 (fun k d => d.wr (TB_SNAPn_TDk_TD n k) (ts96 (d.domTime k))) d
  { d with tb := { d.tb with snapDue := d.tb.snapDue.filter (fun i => !(i == n)) ++ [n] } }

/-! ### Stamps and departure records -/

/-- The number of a port's receive or transmit TDC among those of the device. -/
def tdcNum (p : Nat) (tx : Bool) : Nat := 2 * p + b01 tx

/-- Whether a port's receive (or transmit) TDC has been calibrated since the port powered up (R38). -/
def Dev.tdcOk (d : Dev) (p : Nat) (tx : Bool) : Bool := d.tb.tdcs.contains (tdcNum p tx)

/-- The TDCs of a port are to be calibrated anew: the port's lane has lost its power (R38), or a function reset has cleared CALOK, until the
next calibration (DEDUCED, notes/assumptions/67). -/
def Dev.tdcsOff (d : Dev) (p : Nat) : Dev := { d with tb := { d.tb with tdcs := d.tb.tdcs.filter (fun n => n / 2 != p) } }

/-- The stamp of an event at a port's TDC (R39, R40), the event given as an instant of LT: the instant truncated to 62.5 ps, or to the tick
while the TDC is uncalibrated; less RXLAT on receive, plus TXLAT on transmit. -/
def Dev.stampOf (d : Dev) (p : Nat) (tx : Bool) (event : Int) : Stamp :=
  let step : Int := if d.tdcOk p tx then 4096 else Int.ofNat tick16
  let cap := event / step * step
  { tick := event / Int.ofNat tick16 * Int.ofNat tick16
    lt := if tx then cap + d.rdS (TB_Pp_TXLAT_TXLAT p) else cap - d.rdS (TB_Pp_RXLAT_RXLAT p)
    cal := d.tdcOk p tx }

/-- An instant `ago` ticks before this one, with the TDC's count of 62.5 ps steps (0–63) within the tick. -/
def Dev.instant (d : Dev) (ago sub : Nat) : Int := Int.ofNat (d.tb.lt + sub % 64 * 4096) - Int.ofNat (ago * tick16)

/-- A frame's stamp (R39, R40), its stamp point in this tick. -/
def Dev.stampLt (d : Dev) (p : Nat) (tx : Bool) (sub : Nat) : Stamp := d.stampOf p tx (d.instant 0 sub)

/-- The receive stamp of a start of frame that fell some ticks ago. -/
def Dev.rxStamp (d : Dev) (p ago sub : Nat) : Stamp := d.stampOf p false (d.instant ago sub)

/-- When a start of frame that fell some ticks ago crossed the medium boundary. -/
def Dev.rxMedium (d : Dev) (p ago sub : Nat) : Int := d.instant ago sub - d.rdS (TB_Pp_RXLAT_RXLAT p)

/-- A stamp in a domain, in units of 2^-16 ns, by the relation in force in its capture tick (R40); what lies before zero reads 0. -/
def Dev.stampIn (d : Dev) (dom : Nat) (s : Stamp) : Nat := (d.ltToDomAt dom s.tick s.lt).toNat

/-- A port's departure-record queue. -/
def Dev.depQ (d : Dev) (p : Nat) : DepQ := tgetD d.tb.deps p {}

/-- Replace a port's departure-record queue. -/
def Dev.setDepQ (d : Dev) (p : Nat) (q : DepQ) : Dev := { d with tb := { d.tb with deps := tput d.tb.deps p q } }

/-- Post a departure record (R46, R48): `flags` are bits [29:27] of word 0 (CAL, INSFAIL, CUT); GAP and LOST tell of the records
refused since the last one stored. A full queue refuses it. -/
def Dev.postDeparture (d : Dev) (p flags dom tag kind domNum stamp : Nat) : Dev :=
  let q := d.depQ p
  if 64 ≤ q.recs.length then
    let d := (d.setDepQ p { q with lost := q.lost + 1 }).inc (TB_Pp_DRLOST_DRLOST p)
    d.when (q.lost == 0) (fun d => d.postEvent 0x0B07 0x0D8 p)
  else
    let w0 := 2 ^ 31 + b01 (0 < q.lost) * 2 ^ 30 + flags % 8 * 2 ^ 27 + dom % 8 * 2 ^ 24 + min q.lost 255 * 2 ^ 16 + tag % 2 ^ 16
    let w1 := kind % 256 + domNum % 256 * 2 ^ 8
    d.setDepQ p { recs := q.recs ++ [w0 + w1 * 2 ^ 32 + stamp % 2 ^ 64 * 2 ^ 64], lost := 0 }

/-- The TDC of a port is calibrated against the tick, or fails (R38). -/
def Dev.calibrate (d : Dev) (p : Nat) (tx : Bool) (taps : Nat) : Dev :=
  if 48 ≤ taps ∧ taps ≤ 96 then
    let d := { d with tb := { d.tb with tdcs := tdcNum p tx :: d.tb.tdcs.filter (fun n => n != tdcNum p tx) } }
    let d := d.wr (if tx then TB_Pp_CAL_TXTAPS p else TB_Pp_CAL_RXTAPS p) taps
    d.put (TB_Pp_CAL_CALOK p) (d.tdcOk p false && d.tdcOk p true)
  else (d.put (TB_Pp_CAL_CALFAIL p) true).postEvent 0x0B09 0x0D8 (p * 2 ^ 16 + b01 tx * 2 ^ 8 + taps % 256)

/-! ### PPS_IN and FREQ_IN -/

/-- The plausibility window of PPS_IN, in units of 2^-16 ns (R49). -/
def Dev.ppsWindow (d : Dev) : Nat :=
  (if d.synced (d.rd TB_PPSIN_CFG_DOM) then 1000 else d.rd TB_PPSIN_WIDE_WIDE) * 2 ^ 16

/-- The difference of an instant from the nearest whole second; a tie is as the implementation takes it. -/
def nearSecond (t : Int) : Int :=
  let r := t % Int.ofNat sec16
  if 2 * r < Int.ofNat sec16 ∨ (2 * r = Int.ofNat sec16 ∧ Config.ppsTieDown) then r else r - Int.ofNat sec16

/-- Accept a PPS_IN edge, with its stamp in the domain (R49, R50). -/
def Dev.ppsAccept (d : Dev) (edge : Int) : Dev :=
  let d := { d with tb := { d.tb with ppsLast := some edge, ppsCount := d.tb.ppsCount + 1 } }
  d.wr TB_PPSIN_STAMP_STAMP (compact (edge - d.rdS TB_PPSIN_DELAY_DELAY).toNat)

/-- A PPS_IN edge (R49, R50): its direction, the pulse's width in ns, and the interpolator's count within the tick. The interval from the
previous accepted edge is taken in the domain's time, so that a step of the domain between them counts in it; in event 0x0B03 it is given
in whole ns, truncated toward zero (DESIGN CHOICE both, notes/assumptions/67). -/
def Dev.ppsEdge (d : Dev) (rising : Bool) (width sub : Nat) : Dev :=
  let dom := d.rd TB_PPSIN_CFG_DOM
  if d.on TB_PPSIN_CFG_EN && (rising == !d.on TB_PPSIN_CFG_POL) && decide (d.rd TB_PPSIN_CFG_MINW * 16 ≤ width) then
    let edge := d.ltToDom dom (Int.ofNat (d.tb.lt + sub % 64 * 4096))
    match d.tb.ppsLast with
    | none => d.ppsAccept edge
    | some last =>
      let err := edge - last - Int.ofNat sec16
      if absNat err ≤ d.ppsWindow then (d.ppsAccept edge).offerOffset dom 2 (nearSecond (edge - d.rdS TB_PPSIN_DELAY_DELAY))
      else (d.inc TB_PPSIN_CNT_IMPLAUS).postEvent 0x0B03 (0x0D0 + dom) (sat32 (Int.tdiv err (2 ^ 16)))
  else d

/-- No PPS_IN edge by 1 s and the window after the last accepted one (R50). -/
def Dev.ppsMiss (d : Dev) : Dev :=
  let dom := d.rd TB_PPSIN_CFG_DOM
  match d.tb.ppsLast with
  | some last =>
    if d.on TB_PPSIN_CFG_EN && decide (last + Int.ofNat (sec16 + d.ppsWindow) ≤ Int.ofNat (d.domTime dom)) then
      let d := (d.inc TB_PPSIN_CNT_MISSING).postEvent 0x0B04 (0x0D0 + dom) d.tb.ppsCount
      { d with tb := { d.tb with ppsLast := none } }
    else d
  | none => d

/-- A FREQ_IN window ends (R51): whether edges were present, and the rate measured in ppb. -/
def Dev.freqWindow (d : Dev) (present : Bool) (ppb : Int) : Dev :=
  if d.on TB_FREQIN_CFG_EN then
    let d := d.put TB_FREQIN_STAT_PRESENT present
    let d := d.when present (fun d => d.wr TB_FREQIN_MEAS_MEAS (ofSigned 32 ppb))
    if present && decide (absNat ppb ≤ d.rd TB_FREQIN_CFG_WIN * 1000) then
      { d with tb := { d.tb with freqGood := d.tb.freqGood + 1 } }
    else
      let d := { d with tb := { d.tb with freqGood := 0, freqBad := true } }
      let d := d.put TB_FREQIN_STAT_BAD true
      let d := forNums 4 (fun n d => d.when (d.on (TB_TDn_CFG_FSRC n)) (fun d => d.put (TB_TDn_STAT_FREQBAD n) true)) d
      d.postEvent 0x0B05 0x0D8 (if present then ofSigned 32 ppb else 0x80000000)
  else d

/-- The pulse that output k begins in this tick, where an edge of its schedule falls in it: the LT of its two edges, to 62.5 ps, WIDTH
apart in LT (R52; that WIDTH counts in LT and not in the domain's time is a DESIGN CHOICE, notes/assumptions/67). -/
def Dev.ppsoPulse (d : Dev) (k : Nat) : Option (Nat × Nat) :=
  let dom := d.rd (TB_PPSOk_CFG_DOM k)
  let now : Int := Int.ofNat (d.domTime32 dom)
  let len : Int := if dom = 4 then Int.ofNat (tick16 * 2 ^ 16) else Int.ofNat (d.rd (TB_TDn_INCR_EFF_EFF dom))
  if d.ppsoWithin k (now - 1) (now - 1 + len) then
    let into := (d.ppsoLast k (now - 1 + len) - now) * Int.ofNat tick16 / len
    let rise := d.tb.lt + into.toNat / 4096 * 4096
    some (rise, rise + d.rd (TB_PPSOk_WIDTH_WIDTH k) * 65536)
  else none

/-- Output k begins a pulse where an edge of its schedule falls in this tick and the gate is open (R52, R53). Its end is fixed now, so
that a new WIDTH counts from the next pulse on. -/
def Dev.ppsoStart (d : Dev) (k : Nat) : Dev :=
  match d.ppsoPulse k with
  | some e =>
    if d.on (TB_PPSOk_CFG_EN k) && !d.ppsoGated k && (tget d.tb.pulses k).map (·.1) != some e.1 then
      (({ d with tb := { d.tb with pulses := tput d.tb.pulses k e } } : Dev).put (TB_PPSOk_STAT_ACTIVE k) true).emit (.ppso k e.1 true)
    else d
  | none => d

/-- The pulse under way on output k ends, once its second edge falls in this tick or before it, whatever the gate (R52, R53). -/
def Dev.ppsoEnd (d : Dev) (k : Nat) : Dev :=
  match tget d.tb.pulses k with
  | some e =>
    if d.on (TB_PPSOk_STAT_ACTIVE k) && decide (e.2 < d.tb.lt + tick16) then
      (d.put (TB_PPSOk_STAT_ACTIVE k) false).emit (.ppso k e.2 false)
    else d
  | none => d

/-- The level of output k's ball: active while a pulse is under way and the output is enabled (R52). -/
def Dev.ppsoLevel (d : Dev) (k : Nat) : Bool :=
  (d.on (TB_PPSOk_STAT_ACTIVE k) && d.on (TB_PPSOk_CFG_EN k)) != d.on (TB_PPSOk_CFG_POL k)

end Sys2Proof.Machine
end

