-- ==== Sys2Proof/Machine/SauCalc.lean ====
section
/-! DEFINITION. What the Sample Alignment Unit computes (spec/08): the savPdu, binary32, the validation and continuity of samples
(R206, R207), their instants (R209), interpolation (R216, R217), output forms and quality (R218, R219). -/

namespace Sys2Proof.Machine

/-! ### Numbers -/

/-- A quotient rounded to the nearest integer, ties upward (R211). -/
def rndDiv (a : Int) (b : Nat) : Int := (2 * a + Int.ofNat b) / (2 * Int.ofNat b)

/-- A rational rounded to the nearest integer, ties to even. -/
def roundEven (x : Rat) : Int :=
  let f := x.floor
  let r := x - (f : Rat)
  if r < 1 / 2 then f else if 1 / 2 < r then f + 1 else if f % 2 = 0 then f else f + 1

/-- The number a binary32 word holds; NaN and infinity, which SCALE does not take (R213), read as by their significand. -/
def f32Val (w : Nat) : Rat :=
  let e := bits w 23 8
  let m := bits w 0 23
  let a : Rat := if e = 0 then (m : Rat) * pow2 (-149) else ((2 ^ 23 + m : Nat) : Rat) * pow2 (Int.ofNat e - 150)
  if bit w 31 then -a else a

/-- The exponent of a positive rational: the largest e with 2^e ≤ x, not below −126. -/
def f32Exp (x : Rat) : Int :=
  let e : Int := Int.ofNat (Nat.log2 x.num.natAbs) - Int.ofNat (Nat.log2 x.den)
  let e := if pow2 e ≤ x then e else e - 1
  max e (-126)

/-- A rational rounded once to binary32, ties to even; beyond the largest number, infinity (R218). -/
def f32Of (x : Rat) : Nat :=
  if x = 0 then 0
  else
    let s := if x < 0 then 2 ^ 31 else 0
    let a := if x < 0 then -x else x
    let e := f32Exp a
    let m := (roundEven (a / pow2 (e - 23))).toNat
    let (m, e) := if 2 ^ 24 ≤ m then (m / 2, e + 1) else (m, e)
    if 127 < e then s + 0x7F800000
    else if m < 2 ^ 23 then s + m
    else s + (e + 127).toNat * 2 ^ 23 + (m - 2 ^ 23)

/-! ### The savPdu -/

/-- An ASDU of a sampled-value frame. -/
structure Asdu where
  svId : List Byte
  cnt : Nat
  confRev : Nat
  synch : Nat
  rate : Option Nat
  data : List Byte
deriving DecidableEq, Repr

/-- The ASDU that a sequence's content holds; `none` where a mandatory field is missing or the BER is malformed. -/
def asduOf (c : List Byte) : Option Asdu :=
  let fs := berList 16 c
  match fs.2, berField fs.1 0x80, berField fs.1 0x82, berField fs.1 0x83, berField fs.1 0x85, berField fs.1 0x87 with
  | true, some id, some cnt, some rev, some syn, some data =>
    some ⟨id, beNat cnt, beNat rev, beNat syn, (berField fs.1 0x86).map beNat, data⟩
  | _, _, _, _, _, _ => none

/-- All the ASDUs of a list of elements, where each is a well-formed sequence. -/
def asdusOf : List (Nat × List Byte) → Option (List Asdu)
  | [] => some []
  | (t, c) :: r =>
    match asduOf c, asdusOf r with
    | some a, some l => if t = 0x30 then some (a :: l) else none
    | _, _ => none

/-- The savPdu of a frame: noASDU and the elements of the sequence of ASDUs; `none` where its BER is malformed. -/
def savPdu (l : List Byte) : Option (Nat × List (Nat × List Byte)) :=
  match berNext (l.drop (etherOff l + 10)) with
  | some (0x60, c, _) =>
    let fs := berList 8 c
    match fs.2, berField fs.1 0x80, berField fs.1 0xA2 with
    | true, some n, some seq =>
      let as := berList 9 seq
      if as.2 then some (beNat n, as.1) else none
    | _, _, _ => none
  | _ => none

/-- The svID octets of a frame's first ASDU, read as they stream past, whatever stands after them (R205; notes/assumptions/36). -/
def firstSvId (l : List Byte) : Option (List Byte) :=
  match berFind 1 0x60 (l.drop (etherOff l + 10)) with
  | none => none
  | some (_, pdu) =>
    match berFind 8 0xA2 pdu with
    | none => none
    | some (_, seq) =>
      match berFind 1 0x30 seq with
      | none => none
      | some (_, asdu) =>
        match berFind 16 0x80 asdu with
        | none => none
        | some (n, id) => if n = id.length then some id else none

/-- APPID and the simulate bit of a frame's header. -/
def svAppId (l : List Byte) : Nat := fieldAt l (etherOff l + 2) 2
def svSim (l : List Byte) : Nat := b01 (bit (fieldAt l (etherOff l + 6) 2) 15)

/-! ### Streams -/

/-- A stream's history. -/
def Dev.stream (d : Dev) (s : Nat) : Stream := tgetD d.sau.streams s {}

/-- Replace a stream's history. -/
def Dev.setStream (d : Dev) (s : Nat) (x : Stream) : Dev := { d with sau := { d.sau with streams := tput d.sau.streams s x } }

/-- The unit's identifier. -/
abbrev sauUid : Nat := 0x0E8

/-- Stream states (R208). -/
abbrev svOff : Nat := 0
abbrev svWait : Nat := 1
abbrev svPriming : Nat := 2
abbrev svRun : Nat := 3
abbrev svLost : Nat := 4

/-- A stream changes state, with event 0x0D01 (R208). -/
def Dev.streamState (d : Dev) (s new : Nat) : Dev :=
  if d.rd (SAU_S_STAT_STATE s) = new then d
  else (d.wr (SAU_S_STAT_STATE s) new).postEvent 0x0D01 sauUid (s * 2 ^ 16 + new)

/-- The lowest-numbered enabled stream entry that a frame matches (R205). -/
def Dev.streamLookup (d : Dev) (l : List Byte) : Option Nat :=
  if etherType l ≠ d.rd FAB_ETYPE_SV then none
  else match firstSvId l with
    | none => none
    | some id =>
      let crc := crcNum id
      (List.range 256).find? (fun s =>
        d.on (SAU_S_CFG_EN s) && d.rd (SAU_S_APPID_APPID s) == svAppId l && d.rd (SAU_S_SVCRC_SVCRC s) == crc
          && d.rd (SAU_S_DMAC_H_DMAC s) * 2 ^ 32 + d.rd (SAU_S_DMAC_L_DMAC s) == dstMac l)

/-- What R207 says of an smpCnt. -/
inductive Verdict where
  | first | next | gap (d : Nat) | dup | ooo | restart
deriving DecidableEq, Repr

/-- The channel count of a stream. -/
def Dev.streamNch (d : Dev) (s : Nat) : Nat := d.rd (SAU_S_CFG_NCH s) + 1

/-- A slot's state: a present sample, known missing, or empty. -/
def Stream.slot (x : Stream) (c : Nat) : Option (Option Sample) := tget x.slots c

/-- Whether a slot holds a present sample. -/
def Stream.present (x : Stream) (c : Nat) : Bool :=
  match x.slot c with
  | some (some _) => true
  | _ => false

/-- The verdict of R207 on an smpCnt; a stream whose history was lost starts with the next sample as one in WAIT does (R231). -/
def Dev.svVerdict (d : Dev) (s c : Nat) : Verdict :=
  let x := d.stream s
  let wrap := d.rd (SAU_S_WRAP_WRAP s)
  let st := d.rd (SAU_S_STAT_STATE s)
  if (st ≠ svPriming ∧ st ≠ svRun) ∨ x.anchor.isNone then .first
  else
    let k := (c + wrap - x.next % wrap) % wrap
    if k = 0 then .next
    else if k ≤ d.rd (SAU_S_CFG_GAPMAX s) then .gap k
    else
      let b := (x.next + 2 * wrap - 1 - c) % wrap
      if b < 64 then (if x.present c then .dup else .ooo) else .restart

/-- A matrix's members: their entry numbers. -/
def Dev.members (d : Dev) (m : Nat) : List Nat := (List.range (d.rd (SAU_Mm_MEMB_MCOUNT m))).map (· + d.rd (SAU_Mm_MEMB_MBASE m))

/-- The instants of a sample (R209) by domain, and whether a stale relation placed it; `none` in REF mode while the reference has
placed no sample. `i` of `n` is the ASDU's place in its frame, `A` the receive stamp by domain. A sample is placed in every domain, so
that a matrix enabled later finds its history placed (notes/assumptions/36). -/
def Dev.svPlace (d : Dev) (s c i n : Nat) (A : List Int) : Option (Tab Int × Bool) :=
  let rate := d.rd (SAU_S_RATE_RATE s)
  let off := d.rdS (SAU_S_OFFSET_OFFSET s)
  let sec : Int := Int.ofNat sec16
  match d.rd (SAU_S_CFG_MODE s) with
  | 0 =>
    let x := rndDiv (Int.ofNat (c * sec16)) rate + off
    some ((List.range 4).map (fun k => (k, x + (A.getD k 0 + sec / 4 - x) / sec * sec)), false)
  | 1 =>
    let back := d.rdS (SAU_S_LATENCY_LATENCY s) + rndDiv (Int.ofNat ((n - 1 - i) * sec16)) rate
    some ((List.range 4).map (fun k => (k, A.getD k 0 - back)), false)
  | _ =>
    let r := d.rd (SAU_S_CFG_REF s)
    match (d.stream r).newest with
    | none => none
    | some (cr, tr) =>
      let wrap := d.rd (SAU_S_WRAP_WRAP s)
      let e0 : Int := (Int.ofNat c - Int.ofNat cr) % Int.ofNat wrap
      let e := if Int.ofNat wrap ≤ 2 * e0 then e0 - Int.ofNat wrap else e0
      let st := d.rd (SAU_S_STAT_STATE r)
      some (tr.map (fun t => (t.1, t.2 + rndDiv (e * sec) rate + off)),
        st != svPriming && st != svRun)

/-! ### The window of a grid instant (R216) -/

/-- The instant of the slot `j` places after the anchor in a domain: a present sample's own, any other's by the period. -/
def Dev.slotInst (d : Dev) (s dom : Nat) (j : Int) : Int :=
  let x := d.stream s
  let rate := d.rd (SAU_S_RATE_RATE s)
  let wrap := d.rd (SAU_S_WRAP_WRAP s)
  match x.anchor with
  | none => 0
  | some (ca, ts) =>
    let ta := tgetD ts dom 0
    let c := ((Int.ofNat ca + j) % Int.ofNat wrap).toNat
    let nominal :=
      let t := ta + rndDiv (j * Int.ofNat sec16) rate
      if d.rd (SAU_S_CFG_MODE s) = 0 then
        let y := rndDiv (Int.ofNat (c * sec16)) rate + d.rdS (SAU_S_OFFSET_OFFSET s)
        y + rndDiv (t - y) sec16 * Int.ofNat sec16
      else t
    let a : Int := (Int.ofNat x.next - 1 - Int.ofNat ca) % Int.ofNat wrap
    match (if j ≤ a ∧ a < j + 64 then x.slot c else none) with
    | some (some v) => tgetD v.inst dom nominal
    | _ => nominal

/-- The newest place whose instant is not after `g`, looking down from a place. -/
def Dev.placeDown (d : Dev) (s dom : Nat) (g : Int) : Nat → Int → Int
  | 0, j => j
  | k + 1, j => if d.slotInst s dom j ≤ g then j else d.placeDown s dom g k (j - 1)

/-- The four slots around a grid instant: unknown yet, known missing, or a sample; the smpCnt of x[n]; and μ in units of 2^-24. -/
structure Window where
  n : Nat
  mu : Nat
  xs : List (Option (Option Sample))
deriving DecidableEq, Repr

/-- The window of a stream at a grid instant; `none` while the stream is not in PRIMING or RUN (R208). A slot is known missing once R207
marked it, or once it has left the history; an empty one within the history is not known. -/
def Dev.svWindow (d : Dev) (s dom : Nat) (g : Int) : Option Window :=
  let x := d.stream s
  let st := d.rd (SAU_S_STAT_STATE s)
  if st ≠ svPriming ∧ st ≠ svRun then none
  else match x.anchor with
  | none => some ⟨0, 0, [none, none, none, none]⟩
  | some (ca, ts) =>
    if (tget ts dom).isNone then none
    else
      let rate := d.rd (SAU_S_RATE_RATE s)
      let wrap := d.rd (SAU_S_WRAP_WRAP s)
      let a : Int := (Int.ofNat x.next - 1 - Int.ofNat ca) % Int.ofNat wrap
      let k := (g - tgetD ts dom 0) * Int.ofNat rate / Int.ofNat sec16
      let n := d.placeDown s dom g 80 (max (k + 2) a)
      let mu := min (rndDiv ((g - d.slotInst s dom n) * Int.ofNat rate * 2 ^ 24) sec16) (2 ^ 24 - 1)
      let at_ (j : Int) : Option (Option Sample) :=
        let q := n + j
        if a < q then none
        else if q + 64 ≤ a then some none
        else match x.slot ((Int.ofNat ca + q) % Int.ofNat wrap).toNat with
          | some (some v) => if (tget v.inst dom).isSome then some (some v) else some none
          | some none => some none
          | none => none
      some ⟨((Int.ofNat ca + n) % Int.ofNat wrap).toNat, mu.toNat, [at_ (-2), at_ (-1), at_ 0, at_ 1]⟩

/-! ### A member's value (R216–R220) -/

/-- Flags of a cell (R220). -/
abbrev flInterp : Nat := 1
abbrev flHeld : Nat := 2
abbrev flMissing : Nat := 4
abbrev flPriming : Nat := 8
abbrev flUnsync : Nat := 16
abbrev flOoo : Nat := 32
abbrev flTime : Nat := 64
abbrev flSubst : Nat := 128

/-- The rank of a validity: good, questionable, invalid (0b10 is treated as invalid). -/
def valRank (v : Nat) : Nat := match v % 4 with | 0 => 0 | 3 => 1 | _ => 2

/-- Whether a sample's channel counts under a member's QPOL (R219). -/
def usable (qpol ch : Nat) (x : Sample) : Bool :=
  match x.vals[ch]? with
  | none => false
  | some (_, q) => match qpol with
    | 0 => true
    | 1 => valRank q != 2
    | _ => valRank q == 0

/-- The quality word of a value: the OR of its samples' words, with the worst validity among them (R219). -/
def mergeQuality (qs : List Nat) : Nat :=
  let worst := qs.foldl (fun w q => if valRank w < valRank q then q % 4 else w) 0
  let all := qs.foldl (· ||| ·) 0
  all / 4 * 4 + worst

/-- The interpolation that applies to a member: a stream in PRIMING is taken by NEAREST (R208, R229). -/
def Dev.memberInterp (d : Dev) (e : Nat) : Nat :=
  if d.rd (SAU_S_STAT_STATE (d.rd (SAU_E_CFG_STREAM e))) = svPriming then 0 else d.rd (SAU_E_CFG_INTERP e)

/-- The weights of CUBIC (R217). -/
def cubicWeights (mu : Rat) : List Rat :=
  [-(mu + 1) * mu * (mu - 1) / 6, (mu + 2) * mu * (mu - 1) / 2, -(mu + 2) * (mu + 1) * (mu - 1) / 2, (mu + 2) * (mu + 1) * mu / 6]

/-- The samples and weights of a member at a window: `none` while it has not settled; an empty list where it is absent; and whether it
was substituted (R216, R217). -/
def memberPoints (interp qpol ch : Nat) (w : Window) : Option (List (Rat × Sample) × Bool) :=
  let ok (x : Option (Option Sample)) : Option Sample :=
    match x with
    | some (some v) => if usable qpol ch v then some v else none
    | _ => none
  let mu : Rat := (w.mu : Rat) / 2 ^ 24
  let x (i : Nat) : Option (Option Sample) := w.xs.getD i none
  if interp = 0 then
    let c := if w.mu ≤ 2 ^ 23 then x 2 else x 3
    if c.isNone then none
    else match ok c with
      | some v => some ([(1, v)], false)
      | none => some ([], false)
  else if (x 2).isNone || (x 3).isNone then none
  else match ok (x 2), ok (x 3) with
    | some a, some b =>
      if interp = 2 then
        match ok (x 0), ok (x 1) with
        | some p, some q => some ((cubicWeights mu).zip [p, q, a, b], false)
        | _, _ => some ([(1 - mu, a), (mu, b)], true)
      else some ([(1 - mu, a), (mu, b)], false)
    | _, _ => some ([], false)

/-- A member's cell at a grid instant (R216–R220); `none` while it has not settled. `unc` is the row's time uncertainty. -/
def Dev.memberCell (d : Dev) (e dom : Nat) (g : Int) (unc : Bool) : Option Cell :=
  let s := d.rd (SAU_E_CFG_STREAM e)
  let ch := d.rd (SAU_E_CFG_CH e)
  let interp := d.memberInterp e
  match d.svWindow s dom g with
  | none => some .absent
  | some w =>
    match memberPoints interp (d.rd (SAU_E_CFG_QPOL e)) ch w with
    | none => none
    | some ([], _) => some .absent
    | some (ps, sub) =>
      let val : Rat := ps.foldl (fun t p => t + p.1 * ((toSigned 32 ((p.2.vals.getD ch (0, 0)).1) : Int) : Rat)) 0
      let val : Rat := ((roundEven (val * 65536) : Int) : Rat) / 65536
      let q := mergeQuality (ps.map (fun p => (p.2.vals.getD ch (0, 0)).2))
      let n := roundEven val
      let overrun := decide (n < -2147483648) || decide (2147483647 < n)
      let out := if d.on (SAU_E_CFG_FMT e) then f32Of (val * f32Val (d.rd (SAU_E_SCALE_SCALE e)))
        else ofSigned 32 (max (-2147483648) (min 2147483647 n))
      let q := if overrun && !d.on (SAU_E_CFG_FMT e) then q ||| 4 else q
      let fl := b01 (interp != 0 && w.mu != 0) * flInterp
        + b01 (d.rd (SAU_S_STAT_STATE s) == svPriming) * flPriming
        + b01 (ps.any (fun p => p.2.unsync)) * flUnsync + b01 (ps.any (fun p => p.2.ooo)) * flOoo
        + b01 (unc || ps.any (fun p => p.2.stale)) * flTime + b01 sub * flSubst
      some (.value out q fl (ps.foldl (fun t p => max t p.2.arrive) 0))

end Sys2Proof.Machine
end

