-- ==== Sys2Proof/Machine/SauRows.lean ====
section
/-! DEFINITION. The rows of the Sample Alignment Unit as they complete (spec/08): the ring and its slots (R223), absent members (R218), the
deadline and early closing (R222), delivery (R226), and how a matrix stops (R230, R231). -/

namespace Sys2Proof.Machine

/-- A matrix's state. -/
def Dev.matrix (d : Dev) (m : Nat) : Matrix := tgetD d.sau.mats m {}

/-- Replace a matrix's state; STAT.OPEN shows the rows that are open. -/
def Dev.setMatrix (d : Dev) (m : Nat) (x : Matrix) : Dev :=
  { d with sau := { d.sau with mats := tput d.sau.mats m x } }.wr (SAU_Mm_STAT_OPEN m) x.rows.length

/-- The time domain of a matrix. -/
def Dev.matDom (d : Dev) (m : Nat) : Nat := d.rd (SAU_Mm_CFG_DOM m)

/-- The bytes of a row (R223). -/
def rowSize (mcount : Nat) : Nat := (32 + 8 * mcount + (mcount + 7) / 8 * 8 + 63) / 64 * 64

/-- The bytes of a row of a matrix, as MCOUNT stands: what SAU_Mm_ROWSZ shows (R223). -/
def Dev.rowBytes (d : Dev) (m : Nat) : Nat := rowSize (d.rd (SAU_Mm_MEMB_MCOUNT m))

/-- The byte offset in the shared memory of the slot of a row's SEQ (R223). -/
def Dev.rowAddr (d : Dev) (m seq : Nat) : Nat :=
  d.rd (SAU_Mm_RING_BANK m) * 0x40000 + seq % max 1 (d.rd (SAU_Mm_RING_ROWS m)) * d.rowBytes m

/-- The unit writes bytes into a bank it owns. -/
def Dev.sauWrite (d : Dev) (a : Nat) (l : List Byte) : Dev := (d.memWriteBy Dev.handoverNow sauUid sauUid a l).1

/-! ### Absent members (R218) -/

/-- The value, quality and flags of an absent member by its POLICY (R218, R220), and what HOLD then keeps, from what it keeps now. -/
def Dev.absentCell (d : Dev) (e : Nat) (held : Option (Nat × Nat × Nat)) (unc : Bool) : (Nat × Nat × Nat) × Option (Nat × Nat × Nat) :=
  let fl := b01 unc * flTime + b01 (d.rd (SAU_S_STAT_STATE (d.rd (SAU_E_CFG_STREAM e))) == svPriming) * flPriming
  let mark := if d.on (SAU_E_CFG_FMT e) then 0x7FC00000 else 0x80000000
  match d.rd (SAU_E_CFG_POLICY e), held with
  | 0, some (v, q, n) =>
    if n < d.rd (SAU_E_CFG_K e) then
      ((v, if q % 4 = 0 then q + 3 else q, fl + flHeld), some (v, q, n + 1))
    else ((mark, 1, fl + flMissing), held)
  | 1, _ => ((0, 1, fl + flMissing + flSubst), held)
  | _, _ => ((mark, 1, fl + flMissing), held)

/-- What HOLD keeps of each member once a row has taken its cells; a cell that has not settled counts as absent. -/
def Dev.rowHolds (d : Dev) (m : Nat) (holds : Tab (Nat × Nat × Nat)) (r : MRow) : Tab (Nat × Nat × Nat) :=
  ((List.range r.cells.length).zip r.cells).foldl (fun h ic =>
    let e := d.rd (SAU_Mm_MEMB_MBASE m) + ic.1
    match ic.2 with
    | some (.value v q _ _) => tput h e (v, q, 0)
    | _ => match (d.absentCell e (tget h e) r.unc).2 with
      | some k => tput h e k
      | none => h) holds

/-- Whether a row has completed but for its writes: it is closed, and so is every row before it (R222). -/
def Matrix.completed (x : Matrix) : List MRow := x.rows.takeWhile (·.close.isSome)

/-! ### Deadlines, completion and delivery (R222–R226) -/

/-- The rows of a matrix whose deadline its domain has reached are to complete (R222). -/
def Dev.dueRows (d : Dev) (m : Nat) : Dev :=
  let limit := Int.ofNat (d.rd (SAU_Mm_DEADLINE_DEADLINE m) * 1000 * 65536)
  let now := Int.ofNat (d.domTime (d.matDom m))
  let x := d.matrix m
  let due (r : MRow) : MRow := if r.close.isNone && decide (r.g + limit ≤ now) then { r with close := some .deadline } else r
  d.setMatrix m { x with rows := x.rows.map due }

/-- The notification of a row (R226). -/
def Dev.rowNotify (d : Dev) (m : Nat) : Dev :=
  let d := d.when (d.on (SAU_Mm_NOTIFY_DBEN m)) (fun d => d.ring (d.rd (SAU_Mm_NOTIFY_DB m)))
  d.when (d.on (SAU_Mm_NOTIFY_MSIXEN m)) (fun d => d.postVec (d.rd (SAU_Mm_NOTIFY_VEC m)))

/-- A DMA channel's state. -/
def Dev.chan (d : Dev) (c : Nat) : Chan := tgetD d.hif.chans c {}

/-- Replace a channel's state; STAT.ROWQ shows the row transfers queued. -/
def Dev.setChan (d : Dev) (c : Nat) (x : Chan) : Dev :=
  { d with hif := { d.hif with chans := tput d.hif.chans c x } }.wr (HIF_CHc_STAT_ROWQ c) x.rows.length

/-- The row transfers of a matrix that are outstanding. -/
def Dev.rowsOut (d : Dev) (m : Nat) : Nat :=
  d.hif.chans.foldl (fun n e =>
    let busy := match e.2.busy with
      | some (.row r _) => b01 (r.matrix == m)
      | _ => 0
    n + (e.2.rows.filter (fun r => r.matrix == m)).length + busy) 0

/-- A completed row is delivered (R226). -/
def Dev.rowDeliver (d : Dev) (m seq : Nat) : Dev :=
  let note := (d.matrix m).count % max 1 (d.rd (SAU_Mm_NOTIFY_N m)) == 0
  if d.on (SAU_Mm_CFG_DMAEN m) then
    let c := d.rd (SAU_Mm_CFG_DMACH m)
    let x := d.chan c
    if d.rowsOut m < 4 ∧ x.rows.length < 16 then
      let size := d.rowBytes m
      let slot := seq % max 1 (d.rd (SAU_Mm_RING_ROWS m))
      d.setChan c { x with rows := x.rows ++ [⟨m, seq, d.rowAddr m seq, size, d.rd (SAU_Mm_HADDR_HADDR m) + slot * size, note⟩] }
    else
      let d := (d.inc (SAU_Mm_DMASKIP_CNT m)).postEvent 0x0D08 sauUid m
      d.when note (fun d => d.rowNotify m)
  else d.when note (fun d => d.rowNotify m)

/-- The oldest open row completes, where it is to: absent members, flags, header, SEQ, delivery (R218, R222–R226). -/
def Dev.rowComplete (d : Dev) (m : Nat) : Dev :=
  let x := d.matrix m
  match x.rows with
  | [] => d
  | r :: rest =>
    match r.close with
    | none => d
    | some why =>
      let base := d.rd (SAU_Mm_MEMB_MBASE m)
      let addr := d.rowAddr m r.seq
      let unsettled := r.cells.any Option.isNone
      let step (acc : Dev × List Nat × Nat × Nat) (ic : Nat × Option Cell) : Dev × List Nat × Nat × Nat :=
        let (d, fls, absent, last) := acc
        let e := base + ic.1
        match ic.2 with
        | some (.value v q fl t) =>
          let y := d.matrix m
          (d.setMatrix m { y with holds := tput y.holds e (v, q, 0) }, fls ++ [fl], absent, max last t)
        | _ =>
          let ((v, q, fl), h) := d.absentCell e (tget (d.matrix m).holds e) r.unc
          let y := d.matrix m
          let d := match h with
            | some h => d.setMatrix m { y with holds := tput y.holds e h }
            | none => d
          (d.sauWrite (addr + 32 + 8 * ic.1) (toLe 4 v ++ toLe 4 q), fls ++ [fl], absent + 1, last)
      let (d, fls, absent, last) := ((List.range r.cells.length).zip r.cells).foldl step (d, [], 0, 0)
      let computed := r.cells.length - absent
      let (lat, d) := if why = .settled then
          (if computed = 0 then (d.takeFree.1 % 2 ^ 32, d.takeFree.2) else (min 0xFFFFFFFF ((d.tb.lt - last) / 65536), d))
        else (0xFFFFFFFF, d)
      let w4 := r.k % 2 ^ 17 + b01 unsettled * 2 ^ 24 + b01 (why == .incomplete) * 2 ^ 25 + b01 r.unc * 2 ^ 26
        + b01 (absent != 0) * 2 ^ 27 + b01 (why == .stepped) * 2 ^ 28
      let header := toLe 4 w4 ++ toLe 12 (ts96 r.g.toNat) ++ toLe 2 computed ++ toLe 2 absent
        ++ toLe 4 (d.tb.lt % sec16 / 65536) ++ toLe 4 lat
      let size := d.rowBytes m
      let flags := fls.map (fun f => BitVec.ofNat 8 f)
      let d := d.sauWrite (addr + 32 + 8 * r.cells.length) (flags ++ List.replicate (size - 32 - 9 * r.cells.length) 0)
      let d := (d.sauWrite (addr + 4) header).sauWrite addr (toLe 4 r.seq)
      let d := d.wr (SAU_Mm_WSEQ_WSEQ m) r.seq
      let y := d.matrix m
      let d := d.setMatrix m { y with rows := rest, count := y.count + 1, done := r.g :: y.done }
      let d := (d.inc (SAU_Mm_ROWCNT_CNT m)).incBy (SAU_Mm_ABSENT_CNT m) absent
      let d := d.when (why == .settled) (fun d => d.wr (SAU_Mm_LATMAX_LATMAX m) (max lat (d.rd (SAU_Mm_LATMAX_LATMAX m))))
      let d := d.when (why == .deadline) (fun d => (d.inc (SAU_Mm_DEADLINECNT_CNT m)).postEvent 0x0D05 sauUid (m * 2 ^ 24 + absent))
      let d := d.when (why == .incomplete) (fun d => d.inc (SAU_Mm_INCOMPLETE_CNT m))
      d.rowDeliver m r.seq

/-- Complete every row of a matrix that is to complete. -/
def Dev.rowsFinish (d : Dev) (m : Nat) : Dev := iter (d.matrix m).rows.length (fun d => d.rowComplete m) d

/-- Close every open row of a matrix early, and complete them (R230–R232). A row that has completed but for its writes, having settled or
reached its deadline before, completes as that (R222). -/
def Dev.rowsClose (d : Dev) (m : Nat) (why : Close) : Dev :=
  let x := d.matrix m
  let done := x.completed
  (d.setMatrix m { x with rows := done ++ (x.rows.drop done.length).map (fun r => { r with close := some why }) }).rowsFinish m

/-! ### Stopping a matrix (R215, R230, R231) -/

/-- The load of the enabled streams and of the enabled matrices (R215). -/
def Dev.loadIn (d : Dev) : Nat :=
  (List.range 256).foldl (fun n s => if d.on (SAU_S_CFG_EN s) then n + d.rd (SAU_S_RATE_RATE s) * d.streamNch s else n) 0
def Dev.loadOut (d : Dev) : Nat :=
  (List.range 4).foldl (fun n m =>
    if d.on (SAU_Mm_CFG_EN m) then n + d.rd (SAU_Mm_RATE_RATE m) * d.rd (SAU_Mm_MEMB_MCOUNT m) else n) 0

/-- SAU_LOADIN and SAU_LOADOUT follow. -/
def Dev.loadShow (d : Dev) : Dev := (d.wr SAU_LOADIN_LOAD d.loadIn).wr SAU_LOADOUT_LOAD d.loadOut

/-- A matrix is disabled (R230): its open rows complete INCOMPLETE. Its time is judged afresh when it is enabled again. -/
def Dev.matrixDisable (d : Dev) (m : Nat) : Dev :=
  let d := (d.dueRows m).rowsClose m .incomplete
  (((d.put (SAU_Mm_CFG_EN m) false).put (SAU_Mm_STAT_ACTIVE m) false).put (SAU_Mm_STAT_TIMEUNC m) false).loadShow

/-- Whether a bank of a matrix's ring belongs to another owner than the unit. -/
def Dev.ringLost (d : Dev) (m : Nat) : Bool :=
  (List.range (d.rd (SAU_Mm_RING_NBANKS m) + 1)).any (fun i => d.rd (MEM_BANKb_OWNER (d.rd (SAU_Mm_RING_BANK m) + i)) != sauUid)

/-- An enabled matrix whose ring has lost a bank stops as if EN were cleared, with event 0x0D07 (R231). -/
def Dev.ringKept (d : Dev) (m : Nat) : Dev :=
  if d.on (SAU_Mm_CFG_EN m) && d.ringLost m then (d.matrixDisable m).postEvent 0x0D07 sauUid (0x501000 + 0x100 * m) else d

/-- Every matrix whose ring has lost a bank stops; the rows that one closes may meet the handover of another's bank. -/
def Dev.ringsKept (d : Dev) : Dev := iter 2 (fun d => forNums 4 (fun m d => d.ringKept m) d) d

end Sys2Proof.Machine
end

