-- ==== Sys2Proof/Machine/Access.lean ====
section
/-! DEFINITION. Accesses to the shared memory (R328, R330, R334): what a handover that takes effect does to the unit that loses the bank, and
the reads and writes of every requester. -/

namespace Sys2Proof.Machine

/-- A handover takes effect (R330): a deep queue that spills into the bank enters FAULT (R343), a matrix whose ring loses it stops (R231). -/
def Dev.handoverEffect (d : Dev) (b : Nat) : Dev :=
  (d.handoverNow b).when ((tget d.mem.pend b).isSome && d.rd (MEM_BANKb_OWNER b) == sauUid) Dev.ringsKept

/-- A read of `n` bytes of the shared memory by a requester (R328, R334). -/
def Dev.memRead (d : Dev) (actor uid a n : Nat) : Dev × MemRes :=
  let p := d.presentAllBy Dev.handoverEffect actor uid false (unitsOf 0x40000 a n)
  if p.2 then
    let q := p.1.eccReads (unitsOf 8 a n)
    (q.1, if q.2 then .ok (cellsGet q.1.mem.cells a n) else .ecc)
  else (p.1, .bus)

/-- A write of bytes to the shared memory by a requester (R328, R334). -/
def Dev.memWrite (d : Dev) (actor uid a : Nat) (l : List Byte) : Dev × MemRes := d.memWriteBy Dev.handoverEffect actor uid a l

/-- An access of a master to the shared memory; a host's bus error shows as R477 states. -/
def Dev.memAccess (d : Dev) (w : Master) (a : Nat) (write : Option (List Byte)) (n : Nat) : Dev × MemRes :=
  let r := match write with
    | some l => d.memWrite w.actor w.uid a l
    | none => d.memRead w.actor w.uid a n
  (r.1.when (w.isHost && !r.2.good) (fun d => d.hostBusError w (0x1000000 + a)), r.2)

end Sys2Proof.Machine
end

