-- ==== Sys2Proof/Machine/Queues.lean ====
section
/-! DEFINITION. The hardware queues (R340–R351): pushes, pops, refills and spills of deep queues, configuration writes, rights and
resets. -/

namespace Sys2Proof.Machine

/-- The entries a queue holds. -/
def Queue.depth (x : Queue) : Nat := x.win.length + x.spilled + x.tail.length

/-- A queue's SIZE (R342). -/
def Dev.queueSize (d : Dev) (q : Nat) : Nat := 2 ^ d.rd (QM_Qn_CFG_LOG2 q)

/-- The shared-memory word that holds entry number `k` of a deep queue's spilled entries (notes/assumptions/13). -/
def Dev.spillWord (d : Dev) (q k : Nat) : Nat := d.rd (QM_Qn_CFG_BANK q) * 32768 + k % d.queueSize q

/-- Write an entry to a spill word; an entry lost to ECC leaves an uncorrectable word. -/
def Dev.spillPut (d : Dev) (w : Nat) (e : Option Nat) : Dev :=
  match e with
  | some v => { d with mem := { d.mem with cells := cellsPut d.mem.cells (8 * w) (toLe 8 v), ecc := tdel d.mem.ecc w } }
  | none => { d with mem := { d.mem with ecc := tput d.mem.ecc w 2 } }

/-- Read an entry from a spill word through its check bits (R334). -/
def Dev.spillGet (d : Dev) (w : Nat) : Dev × Option Nat :=
  let p := d.eccRead w
  (p.1, if p.2 then some (leNat (cellsGet p.1.mem.cells (8 * w) 8)) else none)

/-- The queue manager presents its access to the banks that hold spilled entries (R328, R330): a handover that waits takes effect, and the
access of an owner that has lost the bank is refused; the queue is then in FAULT (R343, R351). -/
def Dev.spillPresent (d : Dev) (q : Nat) (write : Bool) (ks : List Nat) : Dev × Bool :=
  d.presentAllBy Dev.handoverEffect 0x0FB 0x0FB write (ks.map (fun k => d.spillWord q k / 32768)).eraseDups

/-- The eight oldest entries of a deep queue's tail half go to its spill banks (R343), where those are the queue manager's still. -/
def Dev.queueSpill (d : Dev) (q : Nat) : Dev :=
  let x := d.queue q
  let ks := (List.range 8).map (· + (x.hd + x.win.length + x.spilled))
  let p := d.spillPresent q true ks
  if p.2 then
    let d := (List.range 8).foldl (fun d i => d.spillPut (d.spillWord q (ks.getD i 0)) ((x.tail.getD i none))) p.1
    d.setQueue q { d.queue q with spilled := x.spilled + 8, tail := x.tail.drop 8 }
  else p.1

/-- Entries read from the spill banks. -/
def Dev.spillGets (d : Dev) (q : Nat) : List Nat → Dev × List (Option Nat)
  | [] => (d, [])
  | k :: r =>
    let p := d.spillGet (d.spillWord q k)
    let t := p.1.spillGets q r
    (t.1, p.2 :: t.2)

/-- A deep queue's head half takes its next entries, up to 8: from the spill banks, or, with nothing spilled, from the tail half
(R343). -/
def Dev.queueRefill (d : Dev) (q : Nat) : Dev :=
  let x := d.queue q
  if 0 < x.spilled then
    let n := min 8 x.spilled
    let ks := (List.range n).map (· + (x.hd + x.win.length))
    let a := d.spillPresent q false ks
    if a.2 then
      let p := a.1.spillGets q ks
      p.1.setQueue q { p.1.queue q with win := x.win ++ p.2, spilled := x.spilled - n }
    else a.1
  else d.setQueue q { x with win := x.win ++ x.tail.take 8, tail := x.tail.drop 8 }

/-- Record the greatest depth (QM_Qn_HWM). -/
def Dev.queueHwm (d : Dev) (q : Nat) : Dev := d.wr (QM_Qn_HWM_HWM q) (max (d.rd (QM_Qn_HWM_HWM q)) (d.queue q).depth)

/-- A push is refused (R346): counted, and event 0x0601 for the first refusal after an accepted push. -/
def Dev.pushRefuse (d : Dev) (q : Nat) : Dev :=
  let d := (d.inc (QM_Qn_REF_REFUSED q)).when (!(d.queue q).refused) (fun d => d.postEvent 0x0601 (0x100 + q) q)
  d.setQueue q { d.queue q with refused := true }

/-- A full tail half of a deep queue makes room for a push (R343). -/
def Dev.pushRoom (d : Dev) (q : Nat) : Dev :=
  d.when (d.on (QM_Qn_CFG_ORG q) && decide (16 ≤ (d.queue q).tail.length)) (fun d => d.queueSpill q)

/-- A push to a queue: stored, with the doorbell of the depth's going from 0 to 1 (R347), or refused (R346). -/
def Dev.queuePush (d : Dev) (q v : Nat) : Dev × Bool :=
  let x := d.queue q
  if d.on (QM_Qn_CFG_EN q) && !x.fault && decide (x.depth < d.queueSize q) then
    let e := some (2 ^ 63 + v % 2 ^ 63)
    let deep := d.on (QM_Qn_CFG_ORG q)
    let d := d.pushRoom q
    let y := d.queue q
    if y.fault then (d.pushRefuse q, false)
    else
    let y := if deep && (decide (16 ≤ y.win.length) || decide (0 < y.spilled) || !y.tail.isEmpty)
      then { y with tail := y.tail ++ [e] } else { y with win := y.win ++ [e] }
    let d := (d.setQueue q { y with refused := false }).queueHwm q
    (d.when (x.depth == 0 && d.on (QM_Qn_CFG_DBEN q)) (fun d => d.ring (d.rd (QM_Qn_CFG_DB q))), true)
  else (d.pushRefuse q, false)

/-- The value a pop returns for an entry lost to ECC (R350). -/
abbrev lostEntry : Nat := 0x7FFFFFFFFFFFFFFF

/-- A pop of a queue: the oldest entry, an empty read, or the marker of an entry lost to ECC (R345, R350). -/
def Dev.queuePop (d : Dev) (q : Nat) : Dev × Nat :=
  let x := d.queue q
  if !d.on (QM_Qn_CFG_EN q) || x.depth == 0 || (x.fault && x.win.isEmpty) then (d, 0)
  else
    let d := d.when x.win.isEmpty (fun d => d.queueRefill q)
    let y := d.queue q
    match y.win with
    | [] => (d, 0)
    | e :: r =>
      let d := d.setQueue q { y with win := r, hd := (y.hd + 1) % (2 * d.queueSize q) }
      match e with
      | some v => (d, v)
      | none => (d.postEvent 0x0603 (0x100 + q) (d.queue q).depth, lostEntry)

/-- The queue manager moves a block of a deep queue on its own (R343): a refill of the head half when a block fits into it, else a
spill of a full tail half. -/
def Dev.queueMove (d : Dev) (q : Nat) : Dev :=
  let x := d.queue q
  if !d.on (QM_Qn_CFG_ORG q) || x.fault then d
  else if decide (x.win.length ≤ 8) && decide (0 < x.spilled + x.tail.length) then d.queueRefill q
  else if 16 ≤ x.tail.length then d.queueSpill q
  else d

/-! ### Rights -/

/-- Whether a master may push to a queue, or pop from it (R341). -/
def Dev.queueRight (d : Dev) (q : Nat) (push : Bool) : Master → Bool
  | .engine n => bit (d.rd (if push then QM_Qn_CFG_PUSHDEP q else QM_Qn_CFG_POPDEP q)) (n / 8)
  | .pcie => d.on (if push then QM_Qn_CFG_PUSHHOST q else QM_Qn_CFG_POPHOST q)
  | .spi => d.on (if push then QM_Qn_CFG_PUSHHOST q else QM_Qn_CFG_POPHOST q)
  | _ => false

/-- An access without the right (R341): an engine traps with cause 0x07; any other access sets QM_STAT.REFUSED and records event
0x0602. -/
def Dev.queueNoRight (d : Dev) (w : Master) (q : Nat) : Dev × IoRes :=
  if w.isEngine then (d, .trap 0x07)
  else ((d.put QM_STAT_REFUSED true).postEvent 0x0602 0x0FB q, .done 0)

/-- A master's push (R341, R346). -/
def Dev.queuePushBy (d : Dev) (w : Master) (q v : Nat) : Dev × IoRes :=
  if d.queueRight q true w then
    let p := d.queuePush q v
    (p.1, if p.2 then .done 0 else .refused)
  else d.queueNoRight w q

/-- A master's pop (R341, R345). -/
def Dev.queuePopBy (d : Dev) (w : Master) (q : Nat) : Dev × IoRes :=
  if d.queueRight q false w then
    let p := d.queuePop q
    (p.1, .done p.2)
  else d.queueNoRight w q

/-! ### Configuration and resets -/

/-- The queue RAM entries `[base, base + n)` that a configuration claims (R342). -/
def queueRam (org : Bool) (log2 base : Nat) : Nat × Nat := (base, if org then 32 else 2 ^ log2)

/-- Whether the pair of organisation and LOG2 is one of R342's. -/
def queueLog2Ok (org : Bool) (log2 : Nat) : Bool :=
  if org then decide (13 ≤ log2) && decide (log2 ≤ 21) else decide (2 ≤ log2) && decide (log2 ≤ 12)

/-- Whether a configuration may be enabled (R344): its queue RAM region overlaps no other enabled queue's, its spill banks belong to
the queue manager, and neither runs past its end. -/
def Dev.queueFits (d : Dev) (q v : Nat) : Bool :=
  let org := bit v 1
  let log2 := bits v 2 5
  let bank := bits v 23 6
  let ram := queueRam org log2 (bits v 7 16)
  let banks := if org then 2 ^ (log2 - 15) else 0
  decide (ram.1 + ram.2 ≤ 65536) && decide (bank + banks ≤ 64)
    && (List.range banks).all (fun i => d.rd (MEM_BANKb_OWNER (bank + i)) == 0x0FB)
    && (List.range 1024).all (fun p =>
      p == q || !d.on (QM_Qn_CFG_EN p) ||
        (let other := queueRam (d.on (QM_Qn_CFG_ORG p)) (d.rd (QM_Qn_CFG_LOG2 p)) (d.rd (QM_Qn_CFG_BASE p))
         decide (ram.1 + ram.2 ≤ other.1) || decide (other.1 + other.2 ≤ ram.1)))

/-- A configuration's value (all fields of `QM_Qn_CFG`). -/
def Dev.queueCfg (d : Dev) (q : Nat) : Nat :=
  d.rd (QM_Qn_CFG_EN q) + d.rd (QM_Qn_CFG_ORG q) * 2 + d.rd (QM_Qn_CFG_LOG2 q) * 2 ^ 2 + d.rd (QM_Qn_CFG_BASE q) * 2 ^ 7
    + d.rd (QM_Qn_CFG_BANK q) * 2 ^ 23 + d.rd (QM_Qn_CFG_PUSHDEP q) * 2 ^ 32 + d.rd (QM_Qn_CFG_POPDEP q) * 2 ^ 40
    + d.rd (QM_Qn_CFG_PUSHHOST q) * 2 ^ 48 + d.rd (QM_Qn_CFG_POPHOST q) * 2 ^ 49 + d.rd (QM_Qn_CFG_DB q) * 2 ^ 50
    + d.rd (QM_Qn_CFG_DBEN q) * 2 ^ 59

/-- Store a queue's configuration. -/
def Dev.setQueueCfg (d : Dev) (q v : Nat) : Dev :=
  let d := ((((d.wr (QM_Qn_CFG_EN q) v).wr (QM_Qn_CFG_ORG q) (v / 2)).wr (QM_Qn_CFG_LOG2 q) (v / 2 ^ 2)).wr
    (QM_Qn_CFG_BASE q) (v / 2 ^ 7)).wr (QM_Qn_CFG_BANK q) (v / 2 ^ 23)
  let d := (((d.wr (QM_Qn_CFG_PUSHDEP q) (v / 2 ^ 32)).wr (QM_Qn_CFG_POPDEP q) (v / 2 ^ 40)).wr
    (QM_Qn_CFG_PUSHHOST q) (v / 2 ^ 48)).wr (QM_Qn_CFG_POPHOST q) (v / 2 ^ 49)
  (d.wr (QM_Qn_CFG_DB q) (v / 2 ^ 50)).wr (QM_Qn_CFG_DBEN q) (v / 2 ^ 59)

/-- A write of `QM_Qn_CFG` (R344): refused while the queue is enabled or holds entries and another field than EN would change, or
where EN = 1 is not allowed. Reserved bits are ignored (R8). -/
def Dev.queueCfgWrite (d : Dev) (q v : Nat) : Dev :=
  let v := bits v 0 29 + bits v 32 28 * 2 ^ 32
  let old := d.queueCfg q
  let busy := d.on (QM_Qn_CFG_EN q) || decide ((d.queue q).depth ≠ 0)
  if (busy && decide (v / 2 ≠ old / 2)) || (bit v 0 && !d.queueFits q v) then
    (d.put QM_STAT_REFUSED true).postEvent 0x0605 0x0FB (0x58000 + 0x20 * q)
  else d.setQueueCfg q v

/-- QM_Qn_DEPTH.STATE: 0 disabled, 1 running, 2 FAULT. -/
def Dev.queueState (d : Dev) (q : Nat) : Nat := if (d.queue q).fault then 2 else d.rd (QM_Qn_CFG_EN q)

/-- Empty a queue: entries, pointers, FAULT, FN fields and staging (R349), that of the engines' ports 0x1801 + 2q (R279) with it. -/
def Dev.queueClear (d : Dev) (q : Nat) : Dev :=
  let d := d.setQueue q {}
  let here (e : (Nat × Nat) × Nat) : Bool := decide (0x54000 + q * 0x10 ≤ e.1.2) && decide (e.1.2 < 0x54010 + q * 0x10)
  let engs := d.engs.map (fun e => (e.1, { e.2 with latch := tdel e.2.latch (0x1801 + 2 * q) }))
  { d with staged := d.staged.filter (fun e => !here e), engs := engs }.clrs (fnFields_QMQ q)

/-- A function reset of a queue, which reports the entries discarded (R349). -/
def Dev.queueReset (d : Dev) (q : Nat) : Dev := (d.queueClear q).resetReport 0x06 (0x100 + q) (d.queue q).depth

/-- A function reset of the queue manager (R349, R431): every queue's, each with its report (R434), and its own. -/
def Dev.qmReset (d : Dev) : Dev :=
  let n := ((List.range 1024).map (fun q => (d.queue q).depth)).foldl (· + ·) 0
  ((forNums 1024 (fun q d => d.queueReset q) d).clrs fnFields_QM).resetReport 0x06 0x0FB n

end Sys2Proof.Machine
end

