-- ==== Sys2Proof/Machine/Seq.lean ====
section
/-! DEFINITION. The pin sequencers' instructions (spec/09, R248–R259): operand checks, the shift registers with their stages, the
conditions of BRANCH and WAIT, the time compare and its grid, and one group edge of a sequencer that is at a given instruction. -/

namespace Sys2Proof.Machine

/-- What executing an instruction on a group edge comes to: completed (with the branch it takes), stalled, or halted with a
cause. -/
inductive SeqOut where
  | go (d : Dev) (jump : Option Nat)
  | stall (d : Dev)
  | halt (d : Dev) (cause : Nat)

/-! ### Fields of the instruction word (R256) -/

/-- OP, SIDE and the operand of an instruction word. -/
def seqOp (w : Nat) : Nat := bits w 20 4
def seqSide (w : Nat) : Nat := bits w 15 5
def seqArg (w : Nat) : Nat := bits w 0 15

/-- The instruction word at a sequencer's PC. -/
def Dev.seqWord (d : Dev) (q : Nat) : Nat := d.rd (PIN_GRP_IMEMw_INSTR (q / 4) (d.rd (PIN_SEQ_STAT_PC (q / 4) (q % 4))))

/-- The operand bits of an operation that must be 0 (R256). -/
def seqReserved (op arg : Nat) : Nat :=
  match op with
  | 0 => arg
  | 1 => bits arg 4 11
  | 2 => match bits arg 4 2 with
    | 0 => bits arg 11 4
    | 1 => bits arg 14 1
    | 2 => bits arg 6 9
    | _ => 0
  | 3 => bits arg 5 10
  | 4 => bits arg 2 13
  | 6 => bits arg 0 6
  | 7 => if bit arg 13 then bits arg 0 13 else 0
  | 8 => bits arg 8 7
  | 9 => bits arg 5 10
  | _ => 0

/-- Whether WAIT's condition, extension, polarity or index is a reserved value (R258). -/
def waitBad (inbase x arg : Nat) : Bool :=
  let cond := bits arg 12 3
  let pol := bits arg 11 1
  let idx := bits arg 6 5
  if x = 2 then decide (1 < cond)
  else if 2 < x ∨ 5 < cond ∨ (x = 1 ∧ ¬ (cond = 0 ∨ cond = 1 ∨ cond = 2 ∨ cond = 4)) then true
  else match cond with
    | 0 => decide (47 < inbase + idx)
    | 1 => decide (47 < inbase + idx)
    | 2 => pol != 0
    | 4 => pol != 0 || decide (7 < idx)
    | _ => pol != 0 || idx != 0

/-- Whether a field of the instruction holds a reserved value (R259, cause 0x03). -/
def seqBadValue (op arg inbase x : Nat) : Bool :=
  let width := bits arg 0 4
  match op with
  | 1 => width == 0 || decide (8 < width)
  | 2 => width == 0 || decide (8 < width) || bits arg 4 2 == 3
      || (bits arg 4 2 == 0 && decide (48 < inbase + bits arg 6 5 + width))
  | 3 => decide (4 < bits arg 0 3) || (bits arg 0 3 == 4 && bits arg 3 2 != 0)
  | 5 =>
    let cond := bits arg 6 4
    let idx := bits arg 10 5
    decide (10 < cond) || ((cond == 5 || cond == 6) && decide (47 < inbase + idx))
      || (!(cond == 5 || cond == 6 || cond == 7 || cond == 8) && idx != 0)
  | 6 => waitBad inbase x arg
  | 8 => decide (47 < bits arg 0 6)
  | 9 => decide (2 ≤ bits arg 0 2) && bits arg 2 3 != 0
  | _ => false

/-- The pins an instruction would set: the side pattern's, and those of SEND and DRIVE. -/
def Dev.seqPins (d : Dev) (q w : Nat) : List Nat :=
  let g := q / 4
  let s := q % 4
  let side := if d.on (PIN_SEQ_CFG_SIDEMODE g s) then
      (numsWhere 5 (fun k => bit (d.rd (PIN_SEQ_CFG_SIDEMASK g s)) k)).map (fun k => d.rd (PIN_SEQ_CFG_SIDEBASE g s) + k)
    else []
  match seqOp w with
  | 1 => side ++ (List.range (bits (seqArg w) 0 4)).map (fun i => d.rd (PIN_SEQ_CFG_OUTBASE g s) + i)
  | 8 => side ++ [bits (seqArg w) 0 6]
  | _ => side

/-- The cause that halts a sequencer at an instruction before it has any effect (R259); 0 for none. -/
def Dev.seqCheck (d : Dev) (q w : Nat) : Nat :=
  let g := q / 4
  let s := q % 4
  let op := seqOp w
  let sideMode := d.on (PIN_SEQ_CFG_SIDEMODE g s)
  let x := if sideMode then 0 else seqSide w
  if 9 < op then 0x01
  else if seqReserved op (seqArg w) ≠ 0 then 0x02
  else if seqBadValue op (seqArg w) (d.rd (PIN_SEQ_CFG_INBASE g s)) x then 0x03
  else if ¬ sideMode ∧ op ≠ 6 ∧ seqSide w ≠ 0 then 0x04
  else if (d.seqPins q w).any (fun n => !d.seqOwns q n) then 0x05
  else if op = 5 ∧ (bits (seqArg w) 0 6 < d.rd (PIN_SEQ_PROG_LO g s) ∨ d.rd (PIN_SEQ_PROG_HI g s) < bits (seqArg w) 0 6) then 0x06
  else 0

/-! ### Shift registers and stages (R250, R251) -/

/-- SWLEN and TWLEN, where 0 means 32. -/
def wordLen (v : Nat) : Nat := if v = 0 then 32 else v

/-- A word enters SDR, and SREM := SWLEN. -/
def Dev.placeSdr (d : Dev) (q v : Nat) : Dev :=
  let g := q / 4
  let s := q % 4
  let n := wordLen (d.rd (PIN_SEQ_WLEN_SWLEN g s))
  let word := if d.on (PIN_SEQ_CFG_SHIFTDIR g s) then v else v * 2 ^ (32 - n)
  (d.wr (PIN_SEQ_SDR_SDR g s) word).wr (PIN_SEQ_STAT_SREM g s) n

/-- The word taken from TKR. -/
def Dev.tkrWord (d : Dev) (q : Nat) : Nat :=
  let g := q / 4
  let s := q % 4
  let n := wordLen (d.rd (PIN_SEQ_WLEN_TWLEN g s))
  if d.on (PIN_SEQ_CFG_SHIFTDIR g s) then d.rd (PIN_SEQ_TKR_TKR g s) / 2 ^ (32 - n) else d.rd (PIN_SEQ_TKR_TKR g s) % 2 ^ n

/-- TKR and TCNT clear. -/
def Dev.clrTkr (d : Dev) (q : Nat) : Dev :=
  (d.wr (PIN_SEQ_TKR_TKR (q / 4) (q % 4)) 0).wr (PIN_SEQ_STAT_TCNT (q / 4) (q % 4)) 0

/-- The word TKR keeps enters THD, where THD is empty; none while it cannot. -/
def Dev.settleKept (d : Dev) (q : Nat) : Option Dev :=
  if (d.seq q).kept then
    if (d.seq q).thd.isNone then
      some ((d.setSeq q { d.seq q with thd := some (d.tkrWord q), kept := false }).clrTkr q)
    else none
  else some d

/-- SPF takes the head word of the FIFO from the engines, once in a group cycle. -/
def Dev.spfFeed (d : Dev) (q : Nat) : Dev :=
  match (d.seq q).spf, (d.seq q).txf with
  | none, v :: r =>
    if d.on (PIN_SEQ_CFG_FEED (q / 4) (q % 4)) && d.grpFree (q / 4) (8 + q % 4) then
      (d.setSeq q { d.seq q with spf := some v, txf := r }).grpMark (q / 4) (8 + q % 4)
    else d
  | _, _ => d

/-- THD passes its word into the FIFO to the engines when it has room, once in a group cycle; a word that TKR keeps then enters THD. -/
def Dev.thdDeliver (d : Dev) (q : Nat) : Dev :=
  match (d.seq q).thd with
  | some v =>
    if (d.seq q).rxf.length < 8 ∧ d.grpFree (q / 4) (4 + q % 4) then
      let d := (d.setSeq q { d.seq q with thd := none, rxf := (d.seq q).rxf ++ [v] }).grpMark (q / 4) (4 + q % 4)
      (d.settleKept q).getD d
    else d
  | none => d

/-- The words from the engines that a LOAD can take now: SPF's, then the FIFO's. -/
def Seq.words (x : Seq) : List Nat := x.spf.toList ++ x.txf

/-- Take `n` words from the engines. -/
def Dev.takeWords (d : Dev) (q n : Nat) : Dev :=
  let x := d.seq q
  match x.spf with
  | some _ => d.setSeq q { x with spf := none, txf := x.txf.drop (n - 1) }
  | none => d.setSeq q { x with txf := x.txf.drop n }

/-- SEND of `w` bits, its WIDTH (R250, R251). -/
def Dev.seqSend (d : Dev) (q w : Nat) : SeqOut :=
  let g := q / 4
  let s := q % 4
  let starved := d.rd (PIN_SEQ_STAT_SREM g s) < w ∧ d.on (PIN_SEQ_CFG_FEED g s)
  if starved ∧ (d.seq q).spf.isNone then .stall d
  else
    let d := match (d.seq q).spf with
      | some v => if starved then (d.setSeq q { d.seq q with spf := none }).placeSdr q v else d
      | none => d
    let sdr := d.rd (PIN_SEQ_SDR_SDR g s)
    let rem := d.rd (PIN_SEQ_STAT_SREM g s)
    let lsb := d.on (PIN_SEQ_CFG_SHIFTDIR g s)
    let d := forNums w (fun i d =>
      let b := if lsb then bit sdr i && decide (i < rem) else bit sdr (32 - w + i) && decide (w - 1 - i < rem)
      d.latch (d.rd (PIN_SEQ_CFG_OUTBASE g s) + i) b true) d
    .go ((d.wr (PIN_SEQ_SDR_SDR g s) (if lsb then sdr / 2 ^ w else sdr * 2 ^ w)).wr (PIN_SEQ_STAT_SREM g s) (rem - w)) none

/-- TAKE (R250, R251). -/
def Dev.seqTake (d : Dev) (q arg : Nat) : SeqOut :=
  let g := q / 4
  let s := q % 4
  let w := bits arg 0 4
  match d.settleKept q with
  | none => .stall d
  | some d =>
    let b := match bits arg 4 2 with
      | 0 => (List.range w).foldl (fun v i =>
          v + b01 (d.pn (d.rd (PIN_SEQ_CFG_INBASE g s) + bits arg 6 5 + i)).filt * 2 ^ i) 0
      | 1 => bits arg 6 8 % 2 ^ w
      | _ => d.rd (PIN_SEQ_CNTR_C0 g s) % 2 ^ w
    let tkr := d.rd (PIN_SEQ_TKR_TKR g s)
    let tkr := if d.on (PIN_SEQ_CFG_SHIFTDIR g s) then tkr / 2 ^ w + b * 2 ^ (32 - w) else tkr * 2 ^ w + b
    let cnt := min 32 (d.rd (PIN_SEQ_STAT_TCNT g s) + w)
    let d := (d.wr (PIN_SEQ_TKR_TKR g s) tkr).wr (PIN_SEQ_STAT_TCNT g s) cnt
    if d.on (PIN_SEQ_CFG_DELIVER g s) ∧ wordLen (d.rd (PIN_SEQ_WLEN_TWLEN g s)) ≤ cnt then
      if (d.seq q).thd.isNone then .go ((d.setSeq q { d.seq q with thd := some (d.tkrWord q) }).clrTkr q) none
      else if d.on (PIN_SEQ_CFG_FULLPOL g s) then .go ((d.inc (PIN_SEQ_FCNT_RXOVF g s)).clrTkr q) none
      else .go (d.setSeq q { d.seq q with kept := true }) none
    else .go d none

/-- Resolve a compact stamp's wrap against a time within 32,768 s of it (R5); units of 2^-16 ns. -/
def resolveStamp (now c : Nat) : Nat :=
  let sec := now / sec16
  let low := bits c 48 16
  let base := sec / 65536 * 65536 + low
  let s := if base + 32768 < sec then base + 65536
    else if sec + 32768 < base ∧ 65536 ≤ base then base - 65536 else base
  s * sec16 + c % 2 ^ 48

/-- LOAD (R255, R256). -/
def Dev.seqLoad (d : Dev) (q arg : Nat) : SeqOut :=
  let g := q / 4
  let s := q % 4
  let dst := bits arg 0 3
  let src := bits arg 3 2
  let need := if src = 0 then (if dst = 4 then 2 else 1) else 0
  match if dst = 1 ∨ src = 1 then d.settleKept q else some d with
  | none => .stall d
  | some d =>
    let ws := (d.seq q).words
    if ws.length < need then .stall d
    else
      let v := match src with
        | 0 => ws.getD 0 0
        | 1 => d.tkrWord q
        | 2 => d.rd (PIN_SEQ_CNTR_C0 g s)
        | _ => d.rd (PIN_SEQ_CNTR_C1 g s)
      let d := if src = 0 then d.takeWords q need else d
      match dst with
      | 0 => .go (d.placeSdr q v) none
      | 1 => .go ((d.wr (PIN_SEQ_TKR_TKR g s) v).wr (PIN_SEQ_STAT_TCNT g s) 0) none
      | 2 => .go (d.wr (PIN_SEQ_CNTR_C0 g s) v) none
      | 3 => .go (d.wr (PIN_SEQ_CNTR_C1 g s) v) none
      | _ =>
        let c := v + ws.getD 1 0 * 2 ^ 32
        if bits c 16 32 < 1000000000 then
          .go (d.wr (PIN_SEQ_TCMP_TCMP g s) (ts96 (resolveStamp (d.domTime (d.rd (PIN_SEQ_TIME_DOM g s))) c))) none
        else .halt d 0x03

/-- STORE (R251, R256). -/
def Dev.seqStore (d : Dev) (q src : Nat) : SeqOut :=
  let g := q / 4
  let s := q % 4
  match if src = 0 then d.settleKept q else some d with
  | none => .stall d
  | some d =>
    let v := match src with
      | 0 => d.tkrWord q
      | 1 => d.rd (PIN_SEQ_SDR_SDR g s)
      | 2 => d.rd (PIN_SEQ_CNTR_C0 g s)
      | _ => d.rd (PIN_SEQ_CNTR_C1 g s)
    let done (d : Dev) : Dev := if src = 0 then d.clrTkr q else d
    if (d.seq q).thd.isNone then .go (done (d.setSeq q { d.seq q with thd := some v })) none
    else if d.on (PIN_SEQ_CFG_FULLPOL g s) then .go (done (d.inc (PIN_SEQ_FCNT_RXOVF g s))) none
    else .stall d

/-! ### Conditions -/

/-- Whether an instruction sees a flag pending: one that was raised in this group cycle was pending before it (R254). -/
def Dev.seqFlag (d : Dev) (q i : Nat) : Bool :=
  let x := d.grp (q / 4)
  bit (d.rd (PIN_SEQ_PEND_PEND (q / 4) (q % 4))) i && (!bit x.fresh i || bit x.again (32 * (q % 4) + i))

/-- An instruction consumes a flag; one that was raised again in this group cycle stays pending (R254). -/
def Dev.seqConsume (d : Dev) (q i : Nat) : Dev :=
  let x := d.grp (q / 4)
  if bit x.fresh i then d.setGrp (q / 4) { x with again := setBits x.again (32 * (q % 4) + i) 1 0 }
  else d.wr (PIN_SEQ_PEND_PEND (q / 4) (q % 4)) (setBits (d.rd (PIN_SEQ_PEND_PEND (q / 4) (q % 4))) i 1 0)

/-- BRANCH, its target inside the window (R257). -/
def Dev.seqBranch (d : Dev) (q arg : Nat) : SeqOut :=
  let g := q / 4
  let s := q % 4
  let idx := bits arg 10 5
  let target (c : Bool) : Option Nat := if c then some (bits arg 0 6) else none
  let pin := (d.pn (d.rd (PIN_SEQ_CFG_INBASE g s) + idx)).filt
  match bits arg 6 4 with
  | 0 => .go d (target true)
  | 1 =>
    let c := d.rd (PIN_SEQ_CNTR_C0 g s) - 1
    .go (d.wr (PIN_SEQ_CNTR_C0 g s) c) (target (c != 0))
  | 2 =>
    let c := d.rd (PIN_SEQ_CNTR_C1 g s) - 1
    .go (d.wr (PIN_SEQ_CNTR_C1 g s) c) (target (c != 0))
  | 3 => .go d (target (d.rd (PIN_SEQ_CNTR_C0 g s) == 0))
  | 4 => .go d (target (d.rd (PIN_SEQ_CNTR_C1 g s) == 0))
  | 5 => .go d (target pin)
  | 6 => .go d (target !pin)
  | 7 => if d.seqFlag q idx then .go (d.seqConsume q idx) (target true) else .go d none
  | 8 => .go d (target !(d.seqFlag q idx))
  | 9 => .go d (target !(d.seq q).txf.isEmpty)
  | _ => .go d (target (d.on (PIN_SEQ_STAT_TOUT g s)))

/-- The number of grid instants s + PHASE + j × PER at or before a time (R255); units of 2^-16 ns. -/
def gridCount (phase per t : Nat) : Nat :=
  let upTo (off : Nat) : Nat := if off < phase then 0 else if per = 0 then 1 else (off - phase) / per + 1
  t / sec16 * upTo (sec16 - 1) + upTo (t % sec16)

/-- The first grid instant later than a time. -/
def gridNext (phase per t : Nat) : Nat :=
  let sec := t / sec16
  let off := t % sec16
  if off < phase then sec * sec16 + phase
  else
    let v := phase + ((off - phase) / per + 1) * per
    if per ≠ 0 ∧ v < sec16 then sec * sec16 + v else (sec + 1) * sec16 + phase

/-- After a release by TIME with GRID = 1, TCMP becomes the next grid instant, and the instants passed count in TSKIP (R255). -/
def Dev.gridAdvance (d : Dev) (q : Nat) : Dev :=
  let g := q / 4
  let s := q % 4
  if d.on (PIN_SEQ_TIME_GRID g s) then
    let old := ofTs96 (d.rd (PIN_SEQ_TCMP_TCMP g s))
    let phase := d.rd (PIN_SEQ_TPHASE_PHASE g s)
    let per := d.rd (PIN_SEQ_TPER_PER g s)
    let new := gridNext phase per (max old (d.domTime (d.rd (PIN_SEQ_TIME_DOM g s))))
    (d.incBy (PIN_SEQ_TSKIP_TSKIP g s) (gridCount phase per (new - 1) - gridCount phase per old)).wr
      (PIN_SEQ_TCMP_TCMP g s) (ts96 new)
  else d

/-- Whether WAIT TIME ends in this group cycle (R255): the next group edge is at or past TCMP. -/
def Dev.timeUp (d : Dev) (q : Nat) : Bool :=
  ofTs96 (d.rd (PIN_SEQ_TCMP_TCMP (q / 4) (q % 4))) * 2 ^ 16
    ≤ d.nextEdgeTime (q / 4) (d.rd (PIN_SEQ_TIME_DOM (q / 4) (q % 4)))

/-- WAIT (R258). -/
def Dev.seqWait (d : Dev) (q x arg : Nat) : SeqOut :=
  let g := q / 4
  let s := q % 4
  let cond := bits arg 12 3
  let pol := bit arg 11
  let idx := bits arg 6 5
  let pin := d.rd (PIN_SEQ_CFG_INBASE g s) + idx
  let (rose, fell) := (d.seq q).edges.getD (0, 0)
  let base :=
    if x = 2 then (if cond = 0 then !(d.seq q).txf.isEmpty else decide ((d.seq q).rxf.length < 8))
    else match cond with
      | 0 => (d.pn pin).filt == pol
      | 1 => if pol then bit fell pin else bit rose pin
      | 2 => d.seqFlag q idx
      | 3 => (d.seq q).kick
      | 4 => d.seqFlag q idx
      | _ => false
  let time := (x == 1 || (x == 0 && cond == 5)) && d.timeUp q
  if base || time then
    let d := if base ∧ x ≠ 2 ∧ (cond = 2 ∨ cond = 4) then d.seqConsume q idx else d
    let d := if base ∧ x ≠ 2 ∧ cond = 3 then d.setSeq q { d.seq q with kick := false } else d
    let d := d.put (PIN_SEQ_STAT_TOUT g s) (time && !base)
    .go (d.when time (fun d => d.gridAdvance q)) none
  else .stall (d.when (d.seq q).edges.isNone (fun d => d.setSeq q { d.seq q with edges := some (0, 0) }))

/-- COUNT (R256). -/
def Dev.seqCount (d : Dev) (q arg : Nat) : SeqOut :=
  let g := q / 4
  let s := q % 4
  let one := bit arg 14
  let v := if bit arg 13 then (if one then d.rd (PIN_SEQ_CRLD_CRLD1 g s) else d.rd (PIN_SEQ_CRLD_CRLD0 g s)) else bits arg 0 13
  .go (d.wr (if one then PIN_SEQ_CNTR_C1 g s else PIN_SEQ_CNTR_C0 g s) v) none

/-- DRIVE (R236, R256). -/
def Dev.seqDrive (d : Dev) (arg : Nat) : SeqOut :=
  let n := bits arg 0 6
  match bits arg 6 2 with
  | 0 => .go (d.latch n false true) none
  | 1 => .go (d.latch n true true) none
  | 2 => .go (d.latch n (d.pn n).lvl false) none
  | _ => .go (d.latch n (!(d.pn n).lvl) true) none

/-- SIGNAL (R256). -/
def Dev.seqSignal (d : Dev) (q arg : Nat) : SeqOut :=
  let g := q / 4
  let s := q % 4
  match bits arg 0 2 with
  | 0 => .go (d.softFlag g (24 + bits arg 2 3)) none
  | 1 => .go (d.softFlag (1 - g) (24 + bits arg 2 3)) none
  | 2 => .go (d.ring (d.rd (PIN_SEQ_SIG_DB g s))) none
  | _ =>
    let d := d.put (PIN_SEQ_STAT_IRQ g s) true
    .go (d.when (d.on (PIN_SEQ_SIG_MSIXEN g s)) (fun d => d.postVec (d.rd (PIN_SEQ_SIG_VEC g s)))) none

/-! ### One group edge -/

/-- The side pattern of an instruction's first cycle (R256). -/
def Dev.sideSet (d : Dev) (q w : Nat) : Dev :=
  let g := q / 4
  let s := q % 4
  if d.on (PIN_SEQ_CFG_SIDEMODE g s) ∧ d.seqState q = 1 then
    forNums 5 (fun k d => d.when (bit (d.rd (PIN_SEQ_CFG_SIDEMASK g s)) k)
      (fun d => d.latch (d.rd (PIN_SEQ_CFG_SIDEBASE g s) + k) (bit (seqSide w) k) true)) d
  else d

/-- The PC after a PC (R249). -/
def Dev.seqNext (d : Dev) (q pc : Nat) : Nat :=
  if pc = d.rd (PIN_SEQ_PROG_HI (q / 4) (q % 4)) then d.rd (PIN_SEQ_PROG_WRAP (q / 4) (q % 4)) else (pc + 1) % 64

/-- An instruction of sequencer q has completed: the next PC, and the group cycle is used (R248, R249). -/
def Dev.seqDone (d : Dev) (q : Nat) (jump : Option Nat) : Dev :=
  let g := q / 4
  let s := q % 4
  let d := d.setSeq q { d.seq q with edges := none }
  ((d.wr (PIN_SEQ_STAT_PC g s) (jump.getD (d.seqNext q (d.rd (PIN_SEQ_STAT_PC g s))))).wr (PIN_SEQ_STAT_STATE g s) 1).grpMark g s

/-- One group cycle of sequencer q, where the word at its PC is of the operations that `mine` accepts: the checks of R259, the side
pattern, then the operation `f` on the word, which completes, stalls or halts. A sequencer that is halted, or at another operation,
or that has had its instruction in this group cycle does nothing. A halt leaves the pin latches as they were. -/
def Dev.seqStep (d : Dev) (q : Nat) (mine : Nat → Bool) (f : Dev → Nat → SeqOut) : Dev :=
  let g := q / 4
  let s := q % 4
  let w := d.seqWord q
  if d.seqState q = 0 ∨ !mine (seqOp w) ∨ !d.grpFree g s then d
  else
    let cause := d.seqCheck q w
    if cause ≠ 0 then d.seqHalt q cause
    else
      match f (d.sideSet q w) w with
      | .go d jump => d.seqDone q jump
      | .stall d => (d.wr (PIN_SEQ_STAT_STATE g s) 2).grpMark g s
      | .halt _ c =>
        match f d w with
        | .halt d c => d.seqHalt q c
        | _ => d.seqHalt q c

end Sys2Proof.Machine
end

