-- ==== Sys2Proof/Machine/Engine.lean ====
section
/-! DEFINITION. Engines and depots (spec/10) without the instructions: power, local memories, interrupt lines, traps, swaps, the
depot timer, debug access, resets and reports. -/

namespace Sys2Proof.Machine

/-- An engine's state. -/
def Dev.eng (d : Dev) (e : Nat) : Eng := tgetD d.engs e {}

/-- Replace an engine's state. -/
def Dev.setEng (d : Dev) (e : Nat) (x : Eng) : Dev := { d with engs := tput d.engs e x }

/-- Change an engine's state. -/
def Dev.modEng (d : Dev) (e : Nat) (f : Eng → Eng) : Dev := d.setEng e (f (d.eng e))

/-- A depot's state. -/
def Dev.depot (d : Dev) (n : Nat) : Depot := tgetD d.deps n {}

/-- Replace a depot's state. -/
def Dev.setDepot (d : Dev) (n : Nat) (x : Depot) : Dev := { d with deps := tput d.deps n x }

/-- The engines of a depot. -/
def depotEngines (n : Nat) : List Nat := (List.range 8).map (· + 8 * n)

/-- The BAR0 offset of an engine's registers (R295). -/
def engBase (e : Nat) : Nat := 0x800000 + 0x100000 * (e / 8) + 0x10000 + 0x1000 * (e % 8)

/-- ENG_STAT.STATE codes. -/
abbrev engHalted : Nat := 0
abbrev engRunning : Nat := 1
abbrev engSleeping : Nat := 2
abbrev engParked : Nat := 3

/-- An engine's STATE. -/
def Dev.engState (d : Dev) (e : Nat) : Nat := d.rd (ENG_STAT_STATE e)

/-- Whether a depot is ON (R268). -/
def Dev.depotOn (d : Dev) (n : Nat) : Bool := d.rd (DEP_STAT_PWRSTATE n) == 2

/-- FL as a register value (R299). -/
def Flags.val (f : Flags) : Nat :=
  b01 f.z + b01 f.n * 2 + b01 f.c * 4 + b01 f.v * 8 + b01 f.dz * 16 + b01 f.ioe * 32 + b01 f.dzt * 64

/-- The flags of a register value. -/
def Flags.of (v : Nat) : Flags := ⟨bit v 0, bit v 1, bit v 2, bit v 3, bit v 4, bit v 5, bit v 6⟩

/-- W0–W15. -/
def Eng.reg (x : Eng) (r : Nat) : Word := tgetD x.w r 0

/-- Write a general register. -/
def Eng.setReg (x : Eng) (r : Nat) (v : Word) : Eng := { x with w := tput x.w r v }

/-- A refused register write or request at an engine (R288, R292): ENG_STAT.REFUSED and event 0x0405 of its depot. -/
def Dev.engRefuse (d : Dev) (e off : Nat) : Dev :=
  (d.put (ENG_STAT_REFUSED e) true).postEvent 0x0405 (0x010 + e / 8) off

/-- A refused request at a depot (R268, R269): DEP_STAT.REFUSED and event 0x0405. -/
def Dev.depRefuse (d : Dev) (n off : Nat) : Dev := (d.put (DEP_STAT_REFUSED n) true).postEvent 0x0405 (0x010 + n) off

/-! ### Interrupt lines -/

/-- Whether an engine's line is pending (R281): latched for kinds 1 and 2, the condition for kinds 3–6. -/
def Dev.linePending (d : Dev) (e l : Nat) : Bool :=
  let i := d.rd (ENG_IRQSELL_INDEX e l)
  match d.rd (ENG_IRQSELL_KIND e l) with
  | 1 => bit (d.rd (ENG_IRQ_PEND e)) l
  | 2 => bit (d.rd (ENG_IRQ_PEND e)) l
  | 3 => !(tgetD (d.depot (e / 8)).rx i {}).descs.isEmpty
  | 4 => decide ((tgetD (d.depot (e / 8)).tx i []).length < 32)
  | 5 => (d.box i).msg.isSome && d.rd (MBX_MBm_CFG_RCV i) == 0x040 + e
  | 6 => !(d.seq i).rxf.isEmpty
  | _ => false

/-- The pending lines as the bits of ENG_IRQ.PEND. -/
def Dev.linesPending (d : Dev) (e : Nat) : Nat :=
  (List.range 8).foldl (fun n l => n + b01 (d.linePending e l) * 2 ^ l) 0

/-- The line that an engine would take now (R282): the lowest pending line in IMASK below every line in service. -/
def Dev.lineToTake (d : Dev) (e : Nat) : Option Nat :=
  if d.on (ENG_STAT_TACT e) || (d.eng e).parked then none
  else (List.range 8).find? (fun l => d.linePending e l && bit (d.rd (ENG_IRQ_IMASK e)) l
    && (List.range (l + 1)).all (fun k => !bit (d.rd (ENG_IRQ_INSVC e)) k))

/-- Whether a wake line is pending (R283). -/
def Dev.wakePending (d : Dev) (e : Nat) : Bool :=
  (List.range 8).any (fun l => d.linePending e l && bit (d.rd (ENG_IRQ_WAKEMASK e)) l)

/-! ### Reports, traps and resets -/

/-- The reset report in the ENG_RPT registers (R291), and the record of the event log. -/
def Dev.engReport (d : Dev) (e cause : Nat) : Dev :=
  let x := d.eng e
  let d := (d.wr (ENG_RPT0_RCAUSE e) cause).wr (ENG_RPT0_TCAUSE e) x.tcause
  let d := ((d.wr (ENG_RPT0_DSD e) x.dsd).wr (ENG_RPT0_RSD e) x.rsd).put (ENG_RPT0_RPTV e) true
  let d := (d.wr (ENG_RPT1_PC e) x.pc.toNat).wr (ENG_RPT2_IOPORT e) x.ioPort
  let d := (d.put (ENG_RPT2_IODIR e) x.ioOut).wr (ENG_RPT3_LTNS e) (bits (ts96 d.tb.lt) 16 32)
  d.resetReport 0x04 (0x040 + e) 0

/-- Push a word onto the data stack. -/
def Eng.pushD (x : Eng) (v : Word) : Eng := { x with ds := tput x.ds x.dsd v, dsd := x.dsd + 1 }

/-- Push a word onto the return stack. -/
def Eng.pushR (x : Eng) (v : Word) : Eng := { x with rs := tput x.rs x.rsd v, rsd := x.rsd + 1 }

/-- The data-stack entry `k` below the top. -/
def Eng.topD (x : Eng) (k : Nat) : Word := tgetD x.ds (x.dsd - 1 - k) 0

/-- The top of the return stack. -/
def Eng.topR (x : Eng) : Word := tgetD x.rs (x.rsd - 1) 0

/-- A sleeping engine runs again when a wake line is pending (R283). -/
def Dev.wfeWake (d : Dev) (e : Nat) : Dev :=
  if d.engState e = engSleeping ∧ d.wakePending e = true ∧ (d.eng e).parked = false then
    d.wr (ENG_STAT_STATE e) engRunning
  else d

/-! ### Hitless swap -/

/-- The two instruction memories of an engine exchange roles (R286). -/
def Dev.swapNow (d : Dev) (e : Nat) : Dev :=
  let keep := d.on (ENG_SWAP_KEEPSTK e)
  let entry := if d.on (ENG_SWAP_USEENTRY e) then some (BitVec.ofNat 32 (4 * d.rd (ENG_SWAP_ENTRY e))) else none
  let d := d.modEng e (fun x => { x with
    im := x.sh, sh := x.im, imEcc := x.shEcc, shEcc := x.imEcc, pc := entry.getD x.pc, parked := false
    dsd := if keep then x.dsd else 0, rsd := if keep then x.rsd else 0
    ds := if keep then x.ds else [], rs := if keep then x.rs else [] })
  let d := d.when (!keep) (fun d => d.clr (ENG_IRQ_INSVC e))
  let d := ((d.clr (ENG_SWAP_PEND e)).put (ENG_SWAP_DONE e) true).inc (ENG_SWAPCNT_SWAPCNT e)
  d.postEvent 0x0403 (0x040 + e) (d.rd (ENG_SWAPCNT_SWAPCNT e))

/-- Whether an engine is at a point where a depot-wide swap may take it: HALTED or parked. -/
def Dev.swapReady (d : Dev) (e : Nat) : Bool := d.engState e == engHalted || (d.eng e).parked

/-- The engines that a depot-wide swap names. -/
def maskEngines (n mask : Nat) : List Nat := (depotEngines n).filter (fun e => bit mask (e % 8))

/-- A parked engine goes on: asleep again where it was parked in WFE with no wake line pending, else running (R286). -/
def Dev.unpark (d : Dev) (e : Nat) : Dev :=
  let slept := (d.eng e).asleep
  let d := d.modEng e (fun x => { x with parked := false, asleep := false })
  if d.engState e = engParked then
    (d.wr (ENG_STAT_STATE e) (if slept then engSleeping else engRunning)).wfeWake e
  else d

/-- A depot-wide swap takes effect once every engine it names is HALTED or parked (R287). -/
def Dev.depotSwapTry (d : Dev) (n : Nat) : Dev :=
  match (d.depot n).swap with
  | none => d
  | some mask =>
    let es := maskEngines n mask
    if es.all (fun e => d.swapReady e) then
      let d := es.foldl (fun d e => (d.swapNow e).unpark e) d
      ((d.setDepot n { d.depot n with swap := none }).clr (DEP_STAT_SWPEND n)).put (DEP_STAT_SWDONE n) true
    else d

/-- An engine reaches a swap point (R286, R287): a pending swap of its own takes effect; a depot-wide one parks it. `asleep` is
whether it is in WFE, where it stays asleep after the swap. A parked engine shows STATE 3 (R295). -/
def Dev.swapPoint (d : Dev) (e : Nat) (asleep : Bool) : Dev :=
  if d.on (ENG_SWAP_PEND e) then d.swapNow e
  else match (d.depot (e / 8)).swap with
    | none => d
    | some mask =>
      if bit mask (e % 8) && !(d.eng e).parked then
        ((d.modEng e (fun x => { x with parked := true, asleep := asleep })).wr (ENG_STAT_STATE e) engParked).depotSwapTry (e / 8)
      else d

/-- A swap of one engine ends without effect (R288). -/
def Dev.swapFail (d : Dev) (e : Nat) (timeout : Bool) : Dev :=
  if d.on (ENG_SWAP_PEND e) then
    ((d.clr (ENG_SWAP_PEND e)).put (ENG_SWAP_FAILED e) true).postEvent 0x0404 (0x040 + e) (b01 timeout)
  else d

/-- A depot-wide swap ends without effect (R288): parked engines resume where they stopped. -/
def Dev.depotSwapFail (d : Dev) (n : Nat) (timeout : Bool) : Dev :=
  match (d.depot n).swap with
  | none => d
  | some mask =>
    let d := (maskEngines n mask).foldl (fun d e => (d.unpark e).postEvent 0x0404 (0x040 + e) (b01 timeout)) d
    ((d.setDepot n { d.depot n with swap := none }).clr (DEP_STAT_SWPEND n)).put (DEP_STAT_SWFAIL n) true

/-- Whether a swap of the engine is pending, its own or a depot-wide one. -/
def Dev.swapPending (d : Dev) (e : Nat) : Bool :=
  d.on (ENG_SWAP_PEND e) || (match (d.depot (e / 8)).swap with | some mask => bit mask (e % 8) | none => false)

/-- A write of `ENG_SWAP` (R286, R288): the options, then CANCEL, then REQ. -/
def Dev.swapWrite (d : Dev) (e v : Nat) : Dev :=
  if bit v 0 && (d.swapPending e || !d.depotOn (e / 8)) then d.engRefuse e (engBase e + 0x50)
  else
    let d := ((d.put (ENG_SWAP_KEEPSTK e) (bit v 2)).put (ENG_SWAP_USEENTRY e) (bit v 3)).wr (ENG_SWAP_ENTRY e) (bits v 4 13)
    let d := d.when (bit v 25) (fun d => d.clr (ENG_SWAP_DONE e))
    let d := d.when (bit v 26) (fun d => d.clr (ENG_SWAP_FAILED e))
    let d := d.when (bit v 1) (fun d => d.swapFail e false)
    d.when (bit v 0) (fun d =>
      let d := (d.put (ENG_SWAP_PEND e) true).modEng e (fun x => { x with swapAt := d.tb.lt })
      if d.engState e = engHalted then d.swapNow e
      else if d.engState e = engSleeping then d.swapPoint e true
      else d)

/-- A write of `DEP_SWAP` (R287, R288). -/
def Dev.depotSwapWrite (d : Dev) (n v : Nat) : Dev :=
  let mask := bits v 0 8
  let d := d.when (bit v 9) (fun d => d.depotSwapFail n false)
  if !bit v 8 then d
  else if (d.depot n).swap.isSome || !d.depotOn n || (maskEngines n mask).any (fun e => d.on (ENG_SWAP_PEND e)) then
    d.depRefuse n (0x800000 + 0x100000 * n + 0x008)
  else
    let d := (d.setDepot n { d.depot n with swap := some mask, swapAt := d.tb.lt }).put (DEP_STAT_SWPEND n) true
    let d := (maskEngines n mask).foldl (fun d e => if d.engState e = engSleeping then d.swapPoint e true else d) d
    d.depotSwapTry n

/-! ### Control -/

/-- An engine that has become HALTED: a pending swap of its own takes effect at once (R286), and it counts as parked for a
depot-wide one (R287). -/
def Dev.haltedSwap (d : Dev) (e : Nat) : Dev :=
  (d.when (d.on (ENG_SWAP_PEND e)) (fun d => d.swapNow e)).depotSwapTry (e / 8)

/-- The engine halts after the current word (R280, R293). -/
def Dev.engHalt (d : Dev) (e : Nat) : Dev :=
  ((d.wr (ENG_STAT_STATE e) engHalted).modEng e (fun x => { x with stepping := false })).haltedSwap e

/-- A trap (R284), or a double trap that halts the engine (R285). -/
def Dev.engTrap (d : Dev) (e : Nat) (tpc tiw : Word) (cause : Nat) : Dev :=
  if d.on (ENG_STAT_TACT e) then
    let d := (d.wr (ENG_STAT_STATE e) engHalted).postEvent 0x0401 (0x040 + e) (cause * 2 ^ 16 + (d.eng e).pc.toNat % 2 ^ 15)
    (d.engReport e 3).haltedSwap e
  else
    let d := d.put (ENG_STAT_TACT e) true
    d.modEng e (fun x => { x with
      tpc := tpc, tiw := tiw, tcause := cause, pc := BitVec.ofNat 32 (4 * d.rd (ENG_TVEC_TVEC e)) })

/-- A pending unmasked line is taken between words (R282). -/
def Dev.interruptEntry (d : Dev) (e : Nat) : Dev :=
  match d.engState e == engRunning, d.lineToTake e with
  | true, some l =>
    let x := d.eng e
    if x.rsd = 32 then d.engTrap e x.pc (BitVec.ofNat 32 l) (0x05 + 0x80)
    else if x.dsd = 32 then d.engTrap e x.pc (BitVec.ofNat 32 l) (0x03 + 0x80)
    else
      let k := d.rd (ENG_IRQSELL_KIND e l)
      let d := d.wr (ENG_IRQ_INSVC e) (setBits (d.rd (ENG_IRQ_INSVC e)) l 1 1)
      let d := d.when (k == 1 || k == 2) (fun d => d.wr (ENG_IRQ_PEND e) (setBits (d.rd (ENG_IRQ_PEND e)) l 1 0))
      d.setEng e { (x.pushR x.pc).pushD (BitVec.ofNat 32 x.fl.val) with
        pc := BitVec.ofNat 32 (16 * d.rd (ENG_IVEC_IVEC e) + 16 * l) }
  | _, _ => d

/-- The engine starts at ENG_BOOT (R291): from HALTED, with its depot ON and no depot-wide swap holding it. -/
def Dev.engRun (d : Dev) (e : Nat) : Dev :=
  if d.engState e = engHalted ∧ d.depotOn (e / 8) = true then
    let d := d.modEng e (fun x => { x with pc := BitVec.ofNat 32 (4 * d.rd (ENG_BOOT_PC e)), parked := false })
    (d.wr (ENG_STAT_STATE e) engRunning).clr (ENG_RPT0_RPTV e)
  else d

/-- STEP: a HALTED engine is to execute one word (R292). -/
def Dev.engStepReq (d : Dev) (e : Nat) : Dev :=
  if d.engState e = engHalted ∧ d.depotOn (e / 8) = true then d.modEng e (fun x => { x with stepping := true }) else d

/-- A write of `ENG_CTRL`. -/
def Dev.engCtrl (d : Dev) (e v : Nat) : Dev :=
  let d := d.when (bit v 0) (fun d => d.engRun e)
  let d := d.when (bit v 1) (fun d => d.engHalt e)
  d.when (bit v 2) (fun d => d.engStepReq e)

/-- Read an engine register through `ENG_DBGREG` (R292); 0 while the engine is not HALTED. -/
def Dev.dbgRead (d : Dev) (e r : Nat) : Nat :=
  let x := d.eng e
  if d.engState e ≠ engHalted then 0
  else if r < 16 then (x.reg r).toNat
  else match r with
    | 16 => x.pc.toNat
    | 17 => x.fl.val
    | 18 => x.tpc.toNat
    | 19 => x.tiw.toNat
    | 20 => x.tcause
    | 21 => x.dsd
    | 22 => x.rsd
    | _ => 0

/-- Write an engine register through `ENG_DBGREG`; refused while the engine is not HALTED. -/
def Dev.dbgWrite (d : Dev) (e r v : Nat) : Dev :=
  let w := BitVec.ofNat 32 v
  if d.engState e ≠ engHalted then d.engRefuse e (engBase e + 0x200 + 4 * r)
  else d.modEng e (fun x =>
    if r < 16 then x.setReg r w
    else match r with
      | 16 => { x with pc := w }
      | 17 => { x with fl := Flags.of v }
      | 18 => { x with tpc := BitVec.ofNat 32 (v / 4 * 4) }
      | 19 => { x with tiw := w }
      | 20 => { x with tcause := v % 256 }
      | 21 => { x with dsd := min v 32 }
      | 22 => { x with rsd := min v 32 }
      | _ => x)

/-- Read a stack entry (R292). -/
def Dev.dbgStack (d : Dev) (e : Nat) (ret : Bool) (i : Nat) : Nat :=
  if d.engState e ≠ engHalted then 0 else (tgetD (if ret then (d.eng e).rs else (d.eng e).ds) i 0).toNat

/-- Write a stack entry. -/
def Dev.dbgStackWrite (d : Dev) (e : Nat) (ret : Bool) (i v : Nat) : Dev :=
  if d.engState e ≠ engHalted then d.engRefuse e (engBase e + (if ret then 0x380 else 0x300) + 4 * i)
  else d.modEng e (fun x => if ret then { x with rs := tput x.rs i (BitVec.ofNat 32 v) } else { x with ds := tput x.ds i (BitVec.ofNat 32 v) })

/-! ### Power and resets -/

/-- Write PWRON = 1 (R268): an OFF depot wakes, its memories cleared. -/
def Dev.depotPowerOn (d : Dev) (n : Nat) : Dev :=
  if d.rd (DEP_STAT_PWRSTATE n) = 0 then
    let d := (depotEngines n).foldl (fun d e => d.setEng e {}) d
    d.wr (DEP_STAT_PWRSTATE n) 1
  else d

/-- The depot has woken (R268): ON, every engine HALTED with its report invalid. -/
def Dev.depotWakeDone (d : Dev) (n : Nat) : Dev :=
  if d.rd (DEP_STAT_PWRSTATE n) = 1 then
    let d := (depotEngines n).foldl (fun d e => (d.wr (ENG_STAT_STATE e) engHalted).clr (ENG_RPT0_RPTV e)) d
    d.wr (DEP_STAT_PWRSTATE n) 2
  else d

/-- Write PWRON = 0 (R268): accepted when every engine is HALTED and both egress queues are empty, a descriptor whose frame is being
copied among them; a depot that leaves ON counts as a reset of its engines for their epochs and locks (R362, R370). -/
def Dev.depotPowerOff (d : Dev) (n : Nat) : Dev :=
  let x := d.depot n
  if (depotEngines n).all (fun e => d.engState e == engHalted) && (tgetD x.tx 0 []).isEmpty && (tgetD x.tx 1 []).isEmpty
      && x.copying.isNone then
    let d := d.put (DEP_CTRL_PWRON n) false
    let d := d.when (d.depotOn n) (fun d => (depotEngines n).foldl (fun d e => d.bumpEpoch (0x040 + e)) d)
    d.when (d.rd (DEP_STAT_PWRSTATE n) != 0) (fun d => d.wr (DEP_STAT_PWRSTATE n) 3)
  else d.depRefuse n (0x800000 + 0x100000 * n)

/-- The depot is OFF (R268): memory contents are lost, the rings and queues empty. -/
def Dev.depotOffDone (d : Dev) (n : Nat) : Dev :=
  if d.rd (DEP_STAT_PWRSTATE n) = 3 then
    let d := (depotEngines n).foldl (fun d e => d.setEng e {}) d
    (d.setDepot n {}).wr (DEP_STAT_PWRSTATE n) 0
  else d

/-- A write of `DEP_CTRL`. -/
def Dev.depCtrl (d : Dev) (n v : Nat) : Dev :=
  if bit v 0 then (d.put (DEP_CTRL_PWRON n) true).depotPowerOn n
  else if d.on (DEP_CTRL_PWRON n) then d.depotPowerOff n
  else d

/-- What a reset does to an engine (R289): report, HALTED, registers, stacks, pending bits, TACT and staging cleared, that of the mailboxes
with it, local memories kept, its locks released broken. -/
def Dev.engResetAs (d : Dev) (e cause : Nat) : Dev :=
  let d := d.engReport e cause
  let d := d.clrs (fnFields_ENG e)
  let uid := 0x040 + e
  let d := { d with
    staged := d.staged.filter (fun s => !(s.1.1 == uid)), latched := d.latched.filter (fun s => !(s.1.1 == uid)) }
  let x := d.eng e
  let d := d.setEng e {
    dm := x.dm, im := x.im, sh := x.sh, dmEcc := x.dmEcc, imEcc := x.imEcc, shEcc := x.shEcc, parked := x.parked, asleep := x.asleep }
  ((d.bumpEpoch uid).unstage uid).depotSwapTry (e / 8)

/-- Write a completion word of a depot's transmit descriptor (R273, R436): one 64-bit store, and the doorbell after a final
one. `state`: 1 FETCHED, 2 PARTIAL, 3 DONE, 4 ABORTED_RESET. -/
def Dev.depComplete (d : Dev) (n cidx state reason tag count : Nat) : Dev :=
  let v := state + reason * 2 ^ 8 + tag % 2 ^ 16 * 2 ^ 16 + min count 0xFFFFFF * 2 ^ 32
  let d := (d.memWrite (0x010 + n) (0x010 + n) ((d.rd (DEP_TXC_CBASE n) + cidx * 8) % 2 ^ 24) (toLe 8 v)).1
  d.when (state != 1 && d.on (DEP_TXC_DBEN n)) (fun d => d.ring (d.rd (DEP_TXC_DB n)))

/-- A descriptor word. -/
def descWord (ws : List Nat) (i : Nat) : Nat := ws.getD i 0

/-- Abort a depot's descriptor on a reset (R438); whether it asked for a completion word. -/
def Dev.depAbort (d : Dev) (n : Nat) (ws : List Nat) : Dev :=
  d.when (bit (descWord ws 1) 28) (fun d => d.depComplete n (bits (descWord ws 3) 0 10) 4 0 (bits (descWord ws 2) 0 16) 0)

/-- A function reset of a depot (R290). -/
def Dev.depotReset (d : Dev) (n : Nat) : Dev :=
  let x := d.depot n
  let held := (x.copying.toList.map (·.1)) ++ tgetD x.tx 0 [] ++ tgetD x.tx 1 []
  let words := (held.filter (fun ws => bit (descWord ws 1) 28)).length
  let d := d.depotSwapFail n false
  let d := (depotEngines n).foldl (fun d e => d.swapFail e false) d
  let d := (depotEngines n).foldl (fun d e => d.engResetAs e 2) d
  let d := held.foldl (fun d ws => d.depAbort n ws) d
  let d := d.setDepot n {}
  (d.clrs (fnFields_DEP n)).resetReport 0x04 (0x010 + n) words

/-! ### The depot timer (R275) -/

/-- A compare's instant in its domain's time, the wrap resolved (R5); units of 2^-16 ns. -/
def Dev.compareAt (d : Dev) (n k : Nat) : Nat := resolveStamp (d.domTime (d.rd (DEP_TCMPk_DOM n k))) (d.rd (DEP_TCMPV_VALUE n k))

/-- Commit a compare's VALUE: a value already past is noted for LATE. -/
def Dev.compareCommit (d : Dev) (n k v : Nat) : Dev :=
  let d := d.wr (DEP_TCMPV_VALUE n k) v
  let x := d.depot n
  let past := decide (d.compareAt n k ≤ d.domTime (d.rd (DEP_TCMPk_DOM n k)))
  d.setDepot n { x with late := if past then k :: x.late.filter (· != k) else x.late.filter (· != k) }

/-- A compare fires once its domain has reached VALUE (R275): it disarms, or advances by whole periods into the future. -/
def Dev.compareFire (d : Dev) (n k : Nat) : Dev :=
  let now := d.domTime (d.rd (DEP_TCMPk_DOM n k))
  let at_ := d.compareAt n k
  if d.on (DEP_TCMPk_EN n k) && decide (at_ ≤ now) then
    let d := d.when ((d.depot n).late.contains k) (fun d => d.put (DEP_TCMPS_LATE n k) true)
    let d := d.setDepot n { d.depot n with late := (d.depot n).late.filter (· != k) }
    let p := d.rd (DEP_TCMPP_PERIOD n k)
    let d := if !d.on (DEP_TCMPk_PERIODIC n k) then d.put (DEP_TCMPk_EN n k) false
      else if p = 0 then d
      else
        let m := (now - at_) / p + 1
        (d.wr (DEP_TCMPV_VALUE n k) (compact (at_ + m * p))).incBy (DEP_TCMPS_SKIP n k) (m - 1)
    d.latchLines (depotEngines n) 2 k
  else d

/-! ### Local memories -/

/-- Which of an engine's memories. -/
inductive LocalMem where
  | dm | im | sh
deriving DecidableEq, Repr

/-- A local memory's bytes. -/
def Eng.cells (x : Eng) : LocalMem → List Host.Cell
  | .dm => x.dm
  | .im => x.im
  | .sh => x.sh

/-- The ECC state of a local memory's word (0 good, 1 single-bit, 2 uncorrectable). -/
def Eng.eccOf (x : Eng) (m : LocalMem) (w : Nat) : Nat :=
  tgetD (match m with | .dm => x.dmEcc | .im => x.imEcc | .sh => x.shEcc) w 0

/-- Clear the ECC error of a word. -/
def Eng.eccClear (x : Eng) (m : LocalMem) (w : Nat) : Eng :=
  match m with
  | .dm => { x with dmEcc := tdel x.dmEcc w }
  | .im => { x with imEcc := tdel x.imEcc w }
  | .sh => { x with shEcc := tdel x.shEcc w }

/-- Read a 32-bit word of a local memory through its check bits (R278): a single-bit error is corrected and counted, an
uncorrectable one recorded as event 0x0402. -/
def Dev.localWord (d : Dev) (e : Nat) (m : LocalMem) (a : Nat) : Dev × Option Word :=
  let x := d.eng e
  let w := a / 4
  let v := BitVec.ofNat 32 (leNat (cellsGet (x.cells m) (4 * w) 4))
  match x.eccOf m w with
  | 0 => (d, some v)
  | 1 => ((d.setEng e (x.eccClear m w)).inc (ENG_ECCCOR_CNT e), some v)
  | _ => (d.postEvent 0x0402 (0x040 + e) ((if m = .dm then 0 else 2 ^ 16) + 4 * w), none)

/-- Write bytes to data memory or shadow instruction memory; false where a part of a word could not be read first. -/
def Dev.localPut (d : Dev) (e : Nat) (m : LocalMem) (a : Nat) (l : List Byte) : Dev × Bool :=
  let p := if l.length = 4 then (d.modEng e (fun x => x.eccClear m (a / 4)), true)
    else let r := d.localWord e m a; (r.1, r.2.isSome)
  if p.2 then
    (p.1.modEng e (fun x => match m with
      | .dm => { x with dm := cellsPut x.dm a l }
      | .im => { x with im := cellsPut x.im a l }
      | .sh => { x with sh := cellsPut x.sh a l }), true)
  else (p.1, false)

/-- Whether a depot's windows are dead because it is OFF (R268). -/
def Dev.depotDark (d : Dev) (n : Nat) : Bool := d.rd (DEP_STAT_PWRSTATE n) == 0

/-- A write of a 32-bit word to an engine's memory window (R288, R295); `a` in 0x0000–0x7FFF is data memory, above it the shadow. -/
def Dev.windowWrite (d : Dev) (e a v : Nat) : Dev :=
  if d.depotDark (e / 8) then d
  else if a < 0x8000 then (d.localPut e .dm a (toLe 4 v)).1
  else if d.swapPending e then d.engRefuse e (0x820000 + 0x100000 * (e / 8) + 0x10000 * (e % 8) + a)
  else (d.localPut e .sh (a - 0x8000) (toLe 4 v)).1

/-- A read of a 32-bit word of an engine's memory window. -/
def Dev.windowRead (d : Dev) (e : Nat) (m : LocalMem) (a : Nat) : Dev × Nat :=
  if d.depotDark (e / 8) then (d, 0)
  else let r := d.localWord e m a; (r.1, (r.2.getD 0).toNat)

/-! ### Receive rings -/

/-- A depot's receive ring. -/
def Dev.rxRing (d : Dev) (n i : Nat) : RxRing := tgetD (d.depot n).rx i {}

/-- Replace a receive ring. -/
def Dev.setRxRing (d : Dev) (n i : Nat) (r : RxRing) : Dev := d.setDepot n { d.depot n with rx := tput (d.depot n).rx i r }

/-- Whether every bank a byte range touches is owned by the depot. -/
def Dev.depotOwns (d : Dev) (n a len : Nat) : Bool :=
  decide (a + len ≤ 0x1000000) && (unitsOf 0x40000 a len).all (fun b => d.rd (MEM_BANKb_OWNER b) == 0x010 + n)

/-- The bytes of a receive ring (R269). -/
def Dev.rxRingLen (d : Dev) (n i : Nat) : Nat := d.rd (DEP_RXRi_NSLOT n i) * d.rd (DEP_RXRi_SLOTSZ n i) * 256

/-- A write of `DEP_RXRi` (R269): refused where it changes an enabled ring or enables one that touches a bank the depot does not
own. -/
def Dev.rxRingWrite (d : Dev) (n i v : Nat) : Dev :=
  let base := bits v 0 24
  let slotsz := bits v 24 6
  let nslot := bits v 32 11
  let changes := decide (base ≠ d.rd (DEP_RXRi_BASE n i) ∨ slotsz ≠ d.rd (DEP_RXRi_SLOTSZ n i) ∨ nslot ≠ d.rd (DEP_RXRi_NSLOT n i))
  let en := d.on (DEP_RXRi_EN n i)
  if (en && changes) || (bit v 48 && !d.depotOwns n base (nslot * slotsz * 256)) then
    d.depRefuse n (0x800020 + 0x100000 * n + 8 * i)
  else
    (((d.wr (DEP_RXRi_BASE n i) base).wr (DEP_RXRi_SLOTSZ n i) slotsz).wr (DEP_RXRi_NSLOT n i) nslot).put
      (DEP_RXRi_EN n i) (bit v 48)

/-- Free the `k` oldest occupied slots (R271); false where the count is ignored. -/
def Dev.rxRelease (d : Dev) (n i k : Nat) : Dev × Bool :=
  let r := d.rxRing n i
  if k = 0 ∨ r.occ < k then (d, false)
  else (d.setRxRing n i { r with old := (r.old + k) % d.rd (DEP_RXRi_NSLOT n i), occ := r.occ - k }, true)

/-- Pop a receive descriptor (R270); an empty read returns all zeros. -/
def Dev.rxPop (d : Dev) (n i : Nat) : Dev × Nat :=
  let r := d.rxRing n i
  match r.descs with
  | [] => (d, 0)
  | v :: t => (d.setRxRing n i { r with descs := t }, v)

/-- Push a transmit descriptor into an egress queue (R272); false where the queue is full. -/
def Dev.txPush (d : Dev) (n j : Nat) (ws : List Nat) : Dev × Bool :=
  let x := d.depot n
  let q := tgetD x.tx j []
  if 32 ≤ q.length then (d, false) else (d.setDepot n { x with tx := tput x.tx j (q ++ [ws]) }, true)

end Sys2Proof.Machine
end

