-- ==== Sys2Proof/Machine/Sched.lean ====
section
/-! DEFINITION. The egress schedulers (R120–R138, R143, R144): descriptors and completions, gate control lists, the fit test, muting,
launch times, and list changes. -/

namespace Sys2Proof.Machine

/-- A port's state. -/
def Dev.port (d : Dev) (p : Nat) : Port := tgetD d.ports p {}

/-- Replace a port's state. -/
def Dev.setPort (d : Dev) (p : Nat) (x : Port) : Dev := { d with ports := tput d.ports p x }

/-- A class queue of a port. -/
def Dev.classQ (d : Dev) (p c : Nat) : List Desc := tgetD (d.port p).queues c []

/-- Replace a class queue. -/
def Dev.setClassQ (d : Dev) (p c : Nat) (q : List Desc) : Dev :=
  d.setPort p { d.port p with queues := tput (d.port p).queues c q }

/-- A scheduler's unit identifier. -/
def schUid (p : Nat) : Nat := 0x0B0 + p

/-- Completion states (R436). -/
abbrev stFetched : Nat := 1
abbrev stPartial : Nat := 2
abbrev stDone : Nat := 3
abbrev stAborted : Nat := 4

/-- Reasons (R123). -/
abbrev rsOk : Nat := 0
abbrev rsLateSent : Nat := 1
abbrev rsLateDropped : Nat := 2
abbrev rsTooLong : Nat := 3
abbrev rsFuture : Nat := 4
abbrev rsMuteDropped : Nat := 5
abbrev rsNoKey : Nat := 6
abbrev rsNeverFits : Nat := 7
abbrev rsBadDesc : Nat := 8
abbrev rsQueueFull : Nat := 9

/-- Tenths of a nanosecond per byte by PRT_CFG.MODE: 0.8, 8, 8, 80, 800 ns. -/
def byteTime10 (mode : Nat) : Nat := if mode = 0 then 8 else if mode = 3 then 800 else if mode = 4 then 8000 else 80

/-! ### The packet buffer and flow control (R96, R74) -/

/-- The cells an ingress port holds, of one class or, with class 8, of every class. -/
def Dev.cellsHeld (d : Dev) (p c : Nat) : Nat :=
  (d.fab.held.filter (fun e => e.2.port == p && (c == 8 || e.2.tc == c))).foldl (fun n e => n + e.2.cells) 0

/-- The free cells of the packet buffer (FAB_BUF.FREE). -/
def Dev.cellsFree (d : Dev) : Nat := 32768 - d.fab.held.foldl (fun n e => n + e.2.cells) 0

/-- A quantum of a pause at a port, 512 bit times (R71), `n` of them in units of 2^-16 ns. -/
def Dev.quanta (d : Dev) (p n : Nat) : Nat := n * 64 * byteTime10 (d.rd (PRT_CFG_MODE p)) * 65536 / 10

/-- A PAUSE (class 8) or PFC frame of some classes waits to leave (R74); the classes that it holds off are noted. Nothing is sent while
the link is down. -/
def Dev.flowFrame (d : Dev) (p cs q : Nat) : Dev :=
  if cs = 0 ∨ !d.on (PRT_STAT_LINK p) then d
  else
    let x := d.port p
    let at_ := if q = 0 then x.xoffAt else (numsWhere 9 (bit cs)).foldl (fun t c => tput t c d.tb.lt) x.xoffAt
    d.setPort p { x with own := x.own ++ [(cs, q)], xoffAt := at_ }

/-- Assert or end a port's flow control where occupancy crossed a threshold (R96): a PAUSE, or with FCMODE 2 a PFC of the classes that
changed. -/
def Dev.flowCheck (d : Dev) (p : Nat) : Dev :=
  let mode := d.rd (PRT_CFG_FCMODE p)
  if 20 ≤ p then d
  else
    let ids := if mode = 1 then [8] else if mode = 2 then List.range 8 else []
    let xoff := d.rd (FAB_ADM_XOFF p)
    let xon := d.rd (FAB_ADM2_XON p)
    let old := (d.port p).flow
    let overrun (c : Nat) : Bool := let n := d.cellsHeld p c; if bit old c then decide (xon < n) else decide (xoff ≤ n)
    let new := ids.foldl (fun n c => n + b01 (overrun c) * 2 ^ c) 0
    if new = old then d
    else
      let d := d.setPort p { d.port p with flow := new }
      let d := d.flowFrame p (new - (new &&& old)) (d.rd (PRT_PAUSETX_QUANTA p))
      d.flowFrame p (old - (new &&& old)) 0

/-- A copy of a frame that the packet buffer holds has left. -/
def Dev.releaseHeld (d : Dev) (h : Nat) : Dev :=
  match tget d.fab.held h with
  | none => d
  | some x =>
    let held := if x.refs ≤ 1 then tdel d.fab.held h else tput d.fab.held h { x with refs := x.refs - 1 }
    { d with fab := { d.fab with held := held } }.flowCheck x.port

/-! ### Completions (R123, R436) -/

/-- Write the completion word of a DMA descriptor, into bytes 24–31 of it (R484); a final one counts, and posts the ring's vector where
IRQ asks for it. An unreachable host gets no word (R478). -/
def Dev.hostComplete (d : Dev) (c at_ : Nat) (rxRing irq : Bool) (state reason tag count : Nat) : Dev :=
  let v := state + reason * 2 ^ 8 + tag % 2 ^ 16 * 2 ^ 16 + min count 0xFFFFFF * 2 ^ 32
  let d := d.when d.hostReachable (fun d => d.emit (.hostWrite (at_ + 24) (toLe 8 v)))
  if state = stFetched then d
  else
    let good := state == stDone && (reason == rsOk || reason == rsLateSent || reason == rsNoKey)
    let d := (d.inc (HIF_CHc_DESC_CNT c)).when (!good) (fun d => d.inc (HIF_CHc_ERR_CNT c))
    d.when irq (fun d => d.postVec (if rxRing then d.rd (HIF_CHc_RCFG_VEC c) else d.rd (HIF_CHc_CCFG_VEC c)))

/-- Complete a descriptor towards where it came from; a forwarded frame leaves the packet buffer. -/
def Dev.complete (d : Dev) (x : Desc) (state reason count : Nat) : Dev :=
  match x.origin with
  | .depot n cidx cw => d.when cw (fun d => d.depComplete n cidx state reason x.tag count)
  | .dma c a irq => d.hostComplete c a false irq state reason x.tag count
  | .fabric h => d.releaseHeld h
  | .copy => d
  | .orphan => d
  | .own => d

/-- Whether a descriptor's completion writes a word. -/
def Desc.wantsWord (x : Desc) : Bool :=
  match x.origin with
  | .depot _ _ cw => cw
  | .dma _ _ _ => true
  | .fabric _ => false
  | .copy => false
  | .orphan => false
  | .own => false

/-- The counter of a reason (R123). -/
def Dev.countReason (d : Dev) (p r : Nat) : Dev :=
  match r with
  | 1 => d.inc (SCH_LATE_SENT_CNT p)
  | 2 => d.inc (SCH_LATE_DROP_CNT p)
  | 3 => d.inc (SCH_TOOLONG_CNT p)
  | 4 => d.inc (SCH_FUTURE_CNT p)
  | 5 => d.inc (SCH_MUTE_DROP_CNT p)
  | 6 => d.inc (SCH_NOKEY_CNT p)
  | 7 => d.inc (SCH_NEVERFIT_CNT p)
  | 8 => d.inc (SCH_QREF_CNT p)
  | 9 => d.inc (SCH_QREF_CNT p)
  | _ => d

/-- A queued frame is removed unsent (R123, R145). -/
def Dev.dropQueued (d : Dev) (p : Nat) (x : Desc) (reason : Nat) : Dev :=
  let d := (d.countReason p reason).postEvent 0x0A06 (schUid p) (p * 2 ^ 16 + reason)
  d.complete x stDone reason 0

/-! ### Gate control lists (R124, R125) -/

/-- A gate control list: entries (GATES, OP, INTERVAL in units of 2^-16 ns), the cycle and the base in units of 2^-16 ns. -/
structure GateList where
  entries : List (Nat × Nat × Nat)
  cycle : Nat
  base : Nat
deriving DecidableEq, Repr

/-- A list entry as its 64-bit word gives it. -/
def gateEntry (v : Nat) : Nat × Nat × Nat := (bits v 0 8, bits v 8 3, bits v 32 32 * 65536)

/-- The operational list of a port; no entries where none is in force. -/
def Dev.operList (d : Dev) (p : Nat) : GateList :=
  { entries := (List.range (d.rd (SCH_OPERLEN_LEN p))).map (fun e => gateEntry (d.rd (SCH_OPERLISTe_ENTRY p e)))
    cycle := d.rd (SCH_OPERCYCLE_CYCLE p), base := ofTs96 (d.rd (SCH_OPERBASE_BASE p)) }

/-- The administrative cycle in units of 2^-16 ns. -/
def Dev.admCycle (d : Dev) (p : Nat) : Nat := d.rd (SCH_ADMCYCLE_NS p) * 65536 + d.rd (SCH_ADMCYCLE_FRAC p)

/-- The administrative list of a port. -/
def Dev.admList (d : Dev) (p : Nat) : GateList :=
  { entries := (List.range (d.rd (SCH_ADMLEN_LEN p))).map (fun e => gateEntry (d.rd (SCH_ADMLISTe_ENTRY p e)))
    cycle := d.admCycle p, base := ofTs96 (d.rd (SCH_ADMBASE_BASE p)) }

/-- The position of an instant in its cycle, and the instant at which that cycle ends (R125). -/
def GateList.cycleAt (g : GateList) (secAlign : Bool) (t : Nat) : Nat × Nat :=
  let c := max g.cycle 1
  if secAlign then
    let s := t / sec16 * sec16
    let b := g.base % sec16 % c
    let o := t - s
    if o < b then (c - b + o, s + b)
    else let pos := (o - b) % c; (pos, min (t + (c - pos)) (s + sec16))
  else
    let pos := ((Int.ofNat t - Int.ofNat g.base) % Int.ofNat c).toNat
    (pos, t + (c - pos))

/-- The entry in force at a position: its number, its gates, and the position at which it ends (`none` where it holds to the end of the
cycle). -/
def entryFrom (i acc pos : Nat) : List (Nat × Nat × Nat) → Nat × Nat × Option Nat
  | [] => (0, 0xFF, none)
  | [e] => (i, e.1, if pos < acc + e.2.2 then some (acc + e.2.2) else none)
  | e :: f :: r => if pos < acc + e.2.2 then (i, e.1, some (acc + e.2.2)) else entryFrom (i + 1) (acc + e.2.2) pos (f :: r)

/-- The change time T of a pending change (R127), in units of 2^-16 ns. -/
def Dev.changeAt (d : Dev) (p : Nat) : Option Nat :=
  if d.on (SCH_STAT_PENDING p) then some (ofTs96 (d.rd (SCH_CHGTIME_T p))) else none

/-- The instant at which the run of the list that is under way began: a cycle's start, or with SECALIGN the start of a second, where the
tail of a cycle stands before the first whole one (R125). -/
def GateList.runStart (g : GateList) (sec : Bool) (t : Nat) : Nat :=
  let s := t / sec16 * sec16
  if sec && decide (t - s < g.base % sec16 % max g.cycle 1) then s else t - (g.cycleAt sec t).1

/-- Entry and gates of a list at an instant, and the next instant at which they may change (R125). -/
def GateList.look (g : GateList) (sec : Bool) (t : Nat) : Nat × Nat × Nat :=
  let c := g.cycleAt sec t
  let e := entryFrom 0 0 c.1 g.entries
  (e.1, e.2.1, match e.2.2 with | some x => min c.2 (t + (x - c.1)) | none => c.2)

/-- Entry and gates at an instant of the port's domain, and the next instant at which they may change: by the operational list up to a
pending change time, and by the administrative list after it (R125, R127, R129). A cycle that ends after CHANGE and less than SCH_CTEXT
before the change time is extended to it: the entry in force at its end goes on. -/
def Dev.gateLook (d : Dev) (p t : Nat) : Nat × Nat × Nat :=
  let sec := d.on (SCH_CFG_SECALIGN p)
  match d.changeAt p with
  | none => (d.operList p).look sec t
  | some T =>
    if T ≤ t then (d.admList p).look sec t
    else
      let g := d.operList p
      if g.entries.isEmpty then (0, d.rd (SCH_ADMINIT_IGATES p), T)
      else
        let start := g.runStart sec t
        if (d.port p).chgAt < start ∧ T - start < d.rd (SCH_CTEXT_CTEXT p) * 65536 then
          let r := g.look sec (start - 1)
          (r.1, r.2.1, T)
        else let r := g.look sec t; (r.1, r.2.1, min r.2.2 T)

/-- The gate states in force now (R125, R126): those of the last gate event. -/
def Dev.gatesNow (d : Dev) (p : Nat) : Nat :=
  if !d.on (SCH_CTRL_GATEEN p) then 0xFF
  else if d.rd (SCH_OPERLEN_LEN p) = 0 then d.rd (SCH_ADMINIT_IGATES p)
  else d.rd (SCH_POS_GATES p)

/-- The gates that start decisions use now (R126): at an instant where a gate event falls, those before it. -/
def Dev.gatesStart (d : Dev) (p : Nat) : Nat :=
  match (d.port p).gateWas with
  | some (lt, g) => if lt = d.tb.lt then g else d.gatesNow p
  | none => d.gatesNow p

/-- The instant at which the tick before this one began, in the schedule's domain. -/
def Dev.tickAgo (d : Dev) (p : Nat) : Nat :=
  let n := d.rd (SCH_CFG_DOM p)
  d.domTime n - (if n = 4 then tick16 else d.rd (TB_TDn_INCR_EFF_EFF n) / 2 ^ 16)

/-- A gate event of instant `t` falls in this tick, whose start decisions use the gates in force before it (R126). -/
def Dev.noteGates (d : Dev) (p t : Nat) : Dev :=
  if d.tickAgo p < t then d.setPort p { d.port p with gateWas := some (d.tb.lt, d.gatesStart p) } else d

/-- The instant of the list's gate event that this tick brings; 0 where it brings none. -/
def Dev.eventAt (d : Dev) (p : Nat) : Nat :=
  let t := (d.gateLook p (d.tickAgo p)).2.2
  if t ≤ d.domTime (d.rd (SCH_CFG_DOM p)) then t else 0

/-- The first instant from `t` on, before `stop`, at which a class's gate is closed, looking through at most `fuel` changes. -/
def Dev.closeFrom (d : Dev) (p c stop : Nat) : Nat → Nat → Option Nat
  | 0, _ => none
  | k + 1, t =>
    if stop ≤ t then none
    else let r := d.gateLook p t; if bit r.2.1 c then d.closeFrom p c stop k (max r.2.2 (t + 1)) else some t

/-- The next instant at which a class's gate closes (R129), where it lies before `stop`: each change looked through is later than the one
before it, so that the look reaches `stop`. -/
def Dev.nextClose (d : Dev) (p c t stop : Nat) : Option Nat :=
  if !d.on (SCH_CTRL_GATEEN p) then none
  else if d.rd (SCH_OPERLEN_LEN p) = 0 ∧ (d.changeAt p).isNone then
    if bit (d.rd (SCH_ADMINIT_IGATES p)) c then none else some t
  else d.closeFrom p c stop (stop - t + 1) t

/-! ### The fit test (R129–R131) -/


/-- The byte time of a port, in tenths of a nanosecond. -/
def Dev.byteTime (d : Dev) (p : Nat) : Nat := byteTime10 (d.rd (PRT_CFG_MODE p))

/-- What a frame of `len` bytes needs before its gate closes, in tenths of 2^-16 ns: exact, nothing rounded. -/
def Dev.needed (d : Dev) (p len : Nat) : Nat := ((8 + len) * d.byteTime p + 10 * d.rd (SCH_GUARD_GUARD p)) * 65536

/-- Whether `len` bytes of a class fit from instant `t` (R129): the gate does not close before they have what they need. -/
def Dev.fits (d : Dev) (p c t len : Nat) : Bool :=
  match d.nextClose p c t (t + d.needed p len / 10 + 1) with
  | none => true
  | some e => decide (10 * t + d.needed p len ≤ 10 * e)

/-- Whether preemption is active on a port (R130). -/
def Dev.preemptive (d : Dev) (p : Nat) : Bool := d.rd (PRT_STAT_VERSTAT p) == 3 && d.on (PRT_PREEMPT_PREEN p) && decide (p < 20)

/-- Whether a class goes out on the preemptable MAC. -/
def Dev.preemptable (d : Dev) (p c : Nat) : Bool := d.preemptive p && bit (d.rd (SCH_TCCFG_PREEMPT p)) c

/-- The length the fit test uses for a class (R129, R130). -/
def Dev.fitLen (d : Dev) (p c len : Nat) : Nat :=
  if d.preemptable p c then 64 * (1 + d.rd (PRT_PREEMPT_ADDFRAG p)) else len

/-- A frame's length with its FCS. -/
def Desc.size (x : Desc) : Nat := x.bytes.length + 4

/-- The openings of a class from a cycle's start on, for a time that is left: whether open, and how long. -/
def openings (c : Nat) : Nat → List (Nat × Nat × Nat) → List (Bool × Nat)
  | _, [] => []
  | left, [e] => [(bit e.1 c, left)]
  | left, e :: f :: r => (bit e.1 c, min left e.2.2) :: openings c (left - e.2.2) (f :: r)

/-- A sequence of openings without its first part. -/
def openingsPast : Nat → List (Bool × Nat) → List (Bool × Nat)
  | _, [] => []
  | n, o :: r => if o.2 ≤ n then openingsPast (n - o.2) r else (o.1, o.2 - n) :: r

/-- The openings of a class in the order in which they recur, the ones of no length left out: two cycles, and with SECALIGN what stands
around the start of a second besides: the cycle cut short before it, and the tail of a cycle after it (R125). -/
def GateList.recurs (g : GateList) (c : Nat) (sec : Bool) : List (Bool × Nat) :=
  let cyc := max g.cycle 1
  let whole := openings c cyc g.entries
  let os := if sec then
      let b := g.base % sec16 % cyc
      let tail := if b = 0 then [] else openingsPast (cyc - b) whole
      tail ++ (List.replicate (min 2 ((sec16 - b) / cyc)) whole).flatten ++ openings c ((sec16 - b) % cyc) g.entries
    else whole
  os.filter (fun o => o.2 != 0)

/-- The longest run of open time in a sequence. -/
def longestRun : Nat → List (Bool × Nat) → Nat
  | run, [] => run
  | run, (b, n) :: r => if b then longestRun (run + n) r else max run (longestRun 0 r)

/-- The longest continuous opening of a class's gate in the operational list, across cycle ends; `none` if the gate never closes. -/
def Dev.longestOpen (d : Dev) (p c : Nat) : Option Nat :=
  let os := (d.operList p).recurs c (d.on (SCH_CFG_SECALIGN p))
  if os.all (·.1) then none else some (longestRun 0 (os ++ os))

/-- Whether a frame can never fit a window of the operational list (R131). -/
def Dev.neverFits (d : Dev) (p c : Nat) (x : Desc) : Bool :=
  d.on (SCH_CTRL_GATEEN p) && d.rd (SCH_OPERLEN_LEN p) != 0 &&
    match d.longestOpen p c with
    | none => false
    | some n => decide (10 * n < d.needed p (d.fitLen p c x.size))

/-! ### Muting (R133, R134) -/

/-- Whether a class is muted. -/
def Dev.muted (d : Dev) (p c : Nat) : Bool := bit (d.rd (SCH_STAT_MUTED p)) c

/-- Whether a launch time of this descriptor is valid on the port (R121). -/
def Dev.hasLaunch (d : Dev) (p : Nat) (x : Desc) : Bool := x.ltv && d.on (SCH_CTRL_LTEN p)

/-- The time of a port's domain, units of 2^-16 ns. -/
def Dev.schNow (d : Dev) (p : Nat) : Nat := d.domTime (d.rd (SCH_CFG_DOM p))

/-- A descriptor's launch time, the wrap resolved against the present domain time. -/
def Dev.launchAt (d : Dev) (p : Nat) (x : Desc) : Nat := resolveStamp (d.schNow p) x.launch

/-- The range of δ by port type, in units of 2^-16 ns (R135), without the wait for the medium of P20 and P21. -/
def Dev.deltaMax (d : Dev) (p : Nat) : Nat :=
  match d.rd (PRT_CFG_MODE p) with
  | 0 => 209715
  | 3 => 40 * 65536
  | 4 => 400 * 65536
  | _ => 16 * 65536

/-- Bit times of P20 and P21 at 10 Mb/s, in units of 2^-16 ns. -/
def bitTimes (n : Nat) : Nat := n * 100 * 65536

/-- The transmit opportunity of PLCA at this instant (R69), as the sublayer counts it on from the one last noted: a node ID (NODECNT during
a BEACON), since when, and the frames that this node sent in it. An opportunity passes after TOTMR, or, where a frame was sent in it, with
the frame's end, unless BURSTCNT allows another one within BURSTTMR; after those of NODECNT nodes comes a BEACON of 20 bit times. The
course is that of IEEE 802.3 Clause 148, which R69 names (PRESUMED, notes/assumptions/68). While this port sends a frame the opportunity is
its own. -/
def Dev.plcaAtLt (d : Dev) (p t : Nat) : Nat × Nat × Nat :=
  let x := (d.port p).plcaAt
  let span := bitTimes (max 1 (d.rd (PRT_PLCA_TOTMR p)))
  let n := max 1 (d.rd (PRT_PLCA_NODECNT p))
  let cycle := bitTimes 20 + n * span
  let stop := x.2.1 + (if n ≤ x.1 then bitTimes 20 else if x.2.2 = 0 then span
    else if x.2.2 ≤ d.rd (PRT_PLCA_BURSTCNT p) then bitTimes (d.rd (PRT_HDX_BURSTTMR p)) else 0)
  let busy := match (d.port p).tx with | some f => !f.waits | none => false
  if busy || decide (t < stop) then x
  else
    let into := (bitTimes 20 + (if n ≤ x.1 then 0 else (x.1 + 1) * span) + (t - stop)) % cycle
    if into < bitTimes 20 then (n, t - into, 0) else ((into - bitTimes 20) / span, t - (into - bitTimes 20) % span, 0)

/-- The transmit opportunity of PLCA now. -/
def Dev.plcaNow (d : Dev) (p : Nat) : Nat × Nat × Nat := d.plcaAtLt p d.tb.lt

/-- Whether a port may transmit by PLCA (R69): it is not active, or the transmit opportunity is the port's own. -/
def Dev.plcaOpen (d : Dev) (p : Nat) : Bool :=
  !d.on (PRT_STAT_PLCAACT p) || (d.plcaNow p).1 == d.rd (PRT_PLCA_NODEID p)

/-- Whether a launch frame could have started by now but for the medium of P20 and P21, whose CSMA/CD or PLCA wait δ takes in (R135):
since the medium was last busy, and since the port's own opportunity began. -/
def Dev.mediumOver (d : Dev) (p : Nat) : Bool :=
  decide (p < 20) || (decide ((d.port p).busyTo + bitTimes 96 + d.deltaMax p ≤ d.tb.lt)
    && (!d.on (PRT_STAT_PLCAACT p) || (d.plcaOpen p && decide ((d.plcaNow p).2.1 + d.deltaMax p ≤ d.tb.lt))))

/-- Whether the lateness policy removes a frame now (R136): policy 1 at LAUNCH + LATETOL, policy 2 past LAUNCH + δ. A frame that the domain
reached in this tick still has the tick to start in, also where δ is shorter (DEDUCED, notes/assumptions/74). While its class is muted a
frame is not judged (R134). -/
def Dev.tooLate (d : Dev) (p : Nat) (x : Desc) : Bool :=
  d.hasLaunch p x && !d.muted p x.tc &&
    ((x.latepol == 1 && decide (d.launchAt p x + d.rd (SCH_LATE_LATETOL p) * 65536 ≤ d.schNow p))
      || (x.latepol == 2 && decide (d.launchAt p x + d.deltaMax p ≤ d.schNow p) && decide (d.launchAt p x ≤ d.tickAgo p)
        && d.mediumOver p))

/-- The descriptors at a queue's head that R131, R134 and R136 remove are removed; `fresh` where the head has just come there, or the list
was swapped, which is when R131 judges it. -/
def Dev.settleHead (d : Dev) (p c : Nat) (fresh : Bool) : Nat → Dev
  | 0 => d
  | k + 1 =>
    match d.classQ p c with
    | [] => d
    | x :: r =>
      let out (reason : Nat) : Dev := ((d.setClassQ p c r).dropQueued p x reason).settleHead p c true k
      if d.muted p c && bit (d.rd (SCH_TCCFG_MUTEDROP p)) c then out rsMuteDropped
      else if d.tooLate p x then out rsLateDropped
      else if fresh && d.neverFits p c x then out rsNeverFits
      else d

/-- The heads of every class queue of a port, which have stood there, are judged. -/
def Dev.settlePort (d : Dev) (p : Nat) : Dev := forNums 8 (fun c d => d.settleHead p c false 257) d

/-- The heads of every class queue of a port are judged after a list swap (R131). -/
def Dev.settleSwap (d : Dev) (p : Nat) : Dev := forNums 8 (fun c d => d.settleHead p c true 257) d

/-- Muting of a port's classes by the latest estimate (R133): classes in SCHED mute while EST exceeds MARGIN; a class leaves SCHED, or
LT becomes the domain, and stops being muted at once. -/
def Dev.muteEval (d : Dev) (p : Nat) : Dev :=
  let dom := d.rd (SCH_CFG_DOM p)
  let sched := if dom = 4 then 0 else d.rd (SCH_TCCFG_SCHED p)
  let old := d.rd (SCH_STAT_MUTED p)
  let kept := old &&& sched
  let overrun := decide (dom < 4) && decide (d.rd (SCH_MARGIN_MARGIN p) < d.rd (TB_TDn_EST_EST dom))
  let new := if overrun then sched else kept
  let d := d.wr (SCH_STAT_MUTED p) new
  let d := d.when (kept != old) (fun d => d.postEvent 0x0A02 (schUid p) (p * 2 ^ 16 + (old - kept)))
  let entered := new - kept
  let d := d.when (entered != 0) (fun d =>
    let d := (d.postEvent 0x0A01 (schUid p) (p * 2 ^ 16 + entered)).inc (SCH_MUTECNT_CNT p)
    d.setPort p { d.port p with mutes := (d.port p).mutes.filter (fun e => !bit entered e.1) })
  if new = old then d else d.settlePort p

/-- A servo update of a domain (R133): each muted class of a port of that domain counts it, or counts from 0 again; after 16 in a row
with EST ≤ MARGIN the class is muted no more. -/
def Dev.muteUpdate (d : Dev) (n : Nat) : Dev :=
  forNums 22 (fun p d =>
    if d.rd (SCH_CFG_DOM p) = n ∧ d.rd (SCH_STAT_MUTED p) ≠ 0 then
      let good := d.rd (TB_TDn_STAT_STATE n) == 2 && decide (d.rd (TB_TDn_EST_EST n) ≤ d.rd (SCH_MARGIN_MARGIN p))
      let old := d.rd (SCH_STAT_MUTED p)
      let count (c : Nat) : Nat := tgetD (d.port p).mutes c 0 + 1
      let cs := numsWhere 8 (bit old)
      let ended := if good then (cs.filter (fun c => decide (16 ≤ count c))).foldl (fun n c => n + 2 ^ c) 0 else 0
      let d := d.setPort p { d.port p with
        mutes := if good then (cs.filter (fun c => !bit ended c)).map (fun c => (c, count c)) else [] }
      if ended = 0 then d
      else ((d.wr (SCH_STAT_MUTED p) (old - ended)).postEvent 0x0A02 (schUid p) (p * 2 ^ 16 + ended)).settlePort p
    else d) d

/-- Every port's muting is judged by the latest estimates. -/
def Dev.muteAll (d : Dev) : Dev := forNums 22 (fun p d => d.muteEval p) d

/-! ### Hand-over (R120) -/

/-- The reason with which a scheduler refuses a descriptor, if any. -/
def Dev.refuseReason (d : Dev) (p : Nat) (x : Desc) : Option Nat :=
  if x.latepol = 3 ∨ (d.hasLaunch p x ∧ 1000000000 ≤ bits x.launch 16 32) then some rsBadDesc
  else if d.rd (PRT_CFG_MAXLEN p) < x.size then some rsTooLong
  else if d.hasLaunch p x ∧ d.schNow p + d.rd (SCH_HORIZON_HORIZON p) * sec16 < d.launchAt p x then some rsFuture
  else if 256 ≤ (d.classQ p x.tc).length then some rsQueueFull
  else none

/-- Put a descriptor at the end of its class queue; a launch time already past counts as reached, and is judged at once (R136). -/
def Dev.enqueue (d : Dev) (p : Nat) (x : Desc) : Dev :=
  let x := { x with due := x.ltv && decide (d.launchAt p x ≤ d.schNow p) }
  if d.tooLate p x then d.dropQueued p x rsLateDropped
  else (d.setClassQ p x.tc (d.classQ p x.tc ++ [x])).settleHead p x.tc (d.classQ p x.tc).isEmpty 257

/-- A descriptor handed to a scheduler is queued, or refused with one reason (R120). -/
def Dev.handover1 (d : Dev) (p : Nat) (x : Desc) : Dev :=
  match d.refuseReason p x with
  | some r => (d.countReason p r).complete x stDone r 0
  | none => d.enqueue p x

/-- Hand a descriptor over to a port's scheduler. -/
def Dev.handTo (d : Dev) (p : Nat) (x : Desc) : Dev := d.setPort p { d.port p with hand := (d.port p).hand ++ [x] }

/-- The domain reaches the LAUNCH of the `i`-th frame of a class (R135). -/
def Dev.launchReached (d : Dev) (p c i : Nat) : Dev :=
  let q := d.classQ p c
  match q[i]? with
  | some x => if d.hasLaunch p x && decide (d.launchAt p x ≤ d.schNow p) then d.setClassQ p c (q.set i { x with due := true }) else d
  | none => d

/-- A frame is judged under its LATEPOL (R136). -/
def Dev.lateExpiry (d : Dev) (p c i : Nat) : Dev :=
  let q := d.classQ p c
  match q[i]? with
  | some x => if d.tooLate p x then ((d.setClassQ p c (q.eraseIdx i)).dropQueued p x rsLateDropped).settleHead p c (i == 0) 257 else d
  | none => d

/-! ### List changes (R127, R128) -/

/-- Whether a list entry may be used: OP 0–2, INTERVAL a multiple of 4 and at least 8. -/
def gateEntryOk (v : Nat) : Bool := decide (bits v 8 3 ≤ 2) && bits v 32 32 % 4 == 0 && decide (8 ≤ bits v 32 32)

/-- A refused write at a scheduler (R128). -/
def Dev.schRefuse (d : Dev) (p off : Nat) : Dev :=
  (d.put (SCH_STAT_REFUSED p) true).postEvent 0x0A04 (schUid p) (0x300000 + 0x8000 * p + off)

/-- CHANGE: the administrative list is checked and the change time computed (R127). -/
def Dev.schChange (d : Dev) (p : Nat) : Dev :=
  if d.on (SCH_STAT_PENDING p) then d.schRefuse p 0
  else
    match (List.range (d.rd (SCH_ADMLEN_LEN p))).find? (fun e => !gateEntryOk (d.rd (SCH_ADMLISTe_ENTRY p e))) with
    | some e => (d.put (SCH_STAT_LISTERR p) true).postEvent 0x0A05 (schUid p) e
    | none =>
      let base := ofTs96 (d.rd (SCH_ADMBASE_BASE p))
      let now := d.schNow p
      let c := max (d.admCycle p) 1
      let T := if now < base then base else base + ((now - base) / c + 1) * c
      let d := d.setPort p { d.port p with chgAt := now }
      (d.wr (SCH_CHGTIME_T p) (ts96 T)).put (SCH_STAT_PENDING p) true

/-- CANCEL clears a pending change (R128); in the tick of the change time it is ignored (R144). -/
def Dev.schCancel (d : Dev) (p : Nat) : Dev :=
  match d.changeAt p with
  | some T => if T ≤ d.schNow p then d else d.clr (SCH_STAT_PENDING p)
  | none => d

/-- The entry in force and its gates are taken from the list (R125). -/
def Dev.setPos (d : Dev) (p : Nat) : Dev :=
  if d.rd (SCH_OPERLEN_LEN p) = 0 then (d.clr (SCH_POS_ENTRY p)).clr (SCH_POS_GATES p)
  else
    let r := d.gateLook p (d.schNow p)
    (d.wr (SCH_POS_ENTRY p) r.1).wr (SCH_POS_GATES p) r.2.1

/-- Whether a port's list, in force or pending, may ask for a hold: with GATEEN = 1 and preemption active (R125, R132). -/
def Dev.mayHold (d : Dev) (p : Nat) : Bool :=
  d.on (SCH_CTRL_GATEEN p) && d.preemptive p && (d.rd (SCH_OPERLEN_LEN p) != 0 || d.on (SCH_STAT_PENDING p))

/-- A hold ends where no list may ask for one. -/
def Dev.holdJudge (d : Dev) (p : Nat) : Dev := if d.mayHold p then d else d.put (SCH_STAT_HOLD p) false

/-- Whether the entry that will be in force at an instant asks for a hold (OP 1) or a release (OP 2) (R132). -/
def Dev.opAt (d : Dev) (p t : Nat) : Nat :=
  if d.mayHold p then
    let g := match d.changeAt p with
      | some T => if T ≤ t then d.admList p else d.operList p
      | none => d.operList p
    ((g.entries[(d.gateLook p t).1]?).map (·.2.1)).getD 0
  else 0

end Sys2Proof.Machine
end

