-- ==== Sys2Proof/Machine/Ports.lean ====
section
/-! DEFINITION. The Ethernet ports (spec/03) and the leaving of frames: what a frame carries as it departs (R43–R46, R110), starting,
preempting, ending and cutting transmissions (R79, R122, R130), link state, verification, pauses, half-duplex access, lane power and
port resets. -/

namespace Sys2Proof.Machine

/-- A port's unit identifier. -/
def prtUid (p : Nat) : Nat := 0x080 + p

/-- Whether a port can carry frames: enabled, powered and with its link up (R78). -/
def Dev.portUp (d : Dev) (p : Nat) : Bool := d.on (PRT_CTRL_EN p) && !d.on (PRT_CTRL_PWRDN p) && d.on (PRT_STAT_LINK p)

/-- Whether an error code follows a stomped FCS on a port (R79): on 10GBASE-R and 1000BASE-X. -/
def Dev.errCodes (d : Dev) (p : Nat) : Bool := d.rd (PRT_CFG_MODE p) ≤ 1

/-- A frame's bytes with the FCS, right or stomped (R79). -/
def withFcs (l : List Byte) (stomp : Bool) : List Byte := l ++ (if stomp then (fcsOf l).map (fun b => ~~~b) else fcsOf l)

/-- A whole frame, or one that was cut, ends on a port's wire. -/
def Dev.emitFrame (d : Dev) (p : Nat) (bytes : List Byte) (cut : Bool) : Dev := d.emit (.frame p bytes cut (cut && d.errCodes p))

/-- An mPacket ends on a port's wire (R75). -/
def Dev.emitMpacket (d : Dev) (p : Nat) (q : Nat × Nat) (bytes : List Byte) (final cut : Bool) : Dev :=
  d.emit (.mpacket p q.1 q.2 bytes final cut (cut && d.errCodes p))

/-- The speed code of a port's type (R59, R84). -/
def speedCode (mode : Nat) : Nat := if mode = 0 then 0 else if mode ≤ 2 then 1 else if mode = 3 then 2 else 3

/-- The EtherType of Ripiost coaches on the rings, by ring (R149). -/
def Dev.coachType (d : Dev) (r : Nat) : Nat := d.rd (TRN_ETYPE_ETYPE r)

/-- Whether a frame is a coach of a ring (R149). -/
def Dev.isCoachOf (d : Dev) (r : Nat) (l : List Byte) : Bool :=
  dstMac l == d.rd (TRN_DMAC_H_DMAC r) * 2 ^ 32 + d.rd (TRN_DMAC_L_DMAC r) && fieldAt l 12 2 == d.coachType r

/-- Whether a frame on a port is a Ripiost coach (R149). -/
def Dev.isCoach (d : Dev) (p : Nat) (l : List Byte) : Bool := decide (p < 4) && d.isCoachOf (p / 2) l

/-- Whether a reset at an instant of LT came after the first byte of a frame that came `ago` ticks before this one (R117, R174). -/
def Dev.cameAfter (d : Dev) (rst ago : Nat) : Bool := decide (d.tb.lt < rst + ago * tick16)

/-! ### What a frame leaves with -/

/-- Whether a key slot may be used on a port now (R108). -/
def Dev.keyUsable (d : Dev) (k p : Nat) : Bool :=
  let now := d.domTime 0 / sec16
  let from_ := d.rd (KS_VFROM_VFROM k)
  let until_ := d.rd (KS_VUNTIL_VUNTIL k)
  d.rd (KS_CFG_ALG k) != 0 && bit (d.rd (KS_PORTS_PORTS k)) p
    && (if d.synced 0 then decide (from_ ≤ now) && (until_ == 0 || decide (now < until_)) else d.on FAB_AUTHCFG_UNSYNCOK)

/-- A forwarded message's residence (R43), scaled by the domain's rate ratio where RRSCALE = 1; units of 2^-16 ns, rounded to the
nearest with ties upward. -/
def Dev.residence (d : Dev) (p : Nat) (egress ingress : Int) : Int :=
  let r := egress - ingress
  let dom := d.rd (TB_Pp_CFG_TXDOM p)
  if d.on (TB_Pp_CFG_RRSCALE p) && decide (dom < 4) then
    let num := r * Int.ofNat (d.rd (TB_TDn_INCR_EFF_EFF dom))
    let den := Int.ofNat (4 * 2 ^ 32)
    (2 * num + den) / (2 * den)
  else r

/-- The bytes of a frame with the fields of R43 written, with its transmit stamp; `none` where the insertion failed (R44). A forwarded
Delay_Req or Pdelay_Req is corrected as any event message is, and the descriptor of a Pdelay_Resp carries the request's receive stamp in
LAUNCH, with LTV = 0 (DESIGN CHOICE both, notes/assumptions/67). -/
def Dev.insertTimes (d : Dev) (p : Nat) (x : Desc) (stamp : Stamp) : Option (List Byte) :=
  match ptpEvent x.bytes with
  | none => some x.bytes
  | some (form, o) =>
    let t := d.stampIn (d.rd (TB_Pp_CFG_TXDOM p)) stamp
    let oneStep := d.on (TB_Pp_CFG_OSEN p) && x.osreq && decide (p < 20)
    match x.origin with
    | .fabric _ =>
      if d.on (TB_Pp_CFG_OSEN p) && d.on (TB_Pp_CFG_TCEN p) && decide (p < 20) then
        ptpRewrite x.bytes form o (writeCorrection o (d.residence p stamp.lt x.rxLt))
      else some x.bytes
    | _ =>
      if oneStep && fieldAt x.bytes o 1 % 16 == 0 then ptpRewrite x.bytes form o (writeSync o t sec16)
      else if oneStep && fieldAt x.bytes o 1 % 16 == 3 && !x.ltv then
        ptpRewrite x.bytes form o (writeCorrection o (Int.ofNat t - Int.ofNat (resolveStamp t x.launch)))
      else some x.bytes

/-- The authentication value is written into a frame whose descriptor names a key slot, or left zero (R110): the bytes, and whether the
slot was unusable. -/
def Dev.authenticate (d : Dev) (p : Nat) (x : Desc) (l : List Byte) : List Byte × Bool :=
  if x.ksv then
    let k := x.kslot
    if d.keyUsable k p then
      (Config.authFill (d.rd (KS_CFG_ALG k)) (d.rd (KS_CFG_TAGLEN k)) (some (tgetD d.fab.keys k 0)) l, false)
    else (Config.authFill (d.rd (KS_CFG_ALG k)) (d.rd (KS_CFG_TAGLEN k)) none l, true)
  else (l, false)

/-- Whether a frame's departure is recorded (R45). -/
def Dev.recordsDeparture (d : Dev) (p : Nat) (x : Desc) : Bool :=
  x.drreq || d.rd (TB_Pp_CFG_DRSEL p) == 2 || (d.rd (TB_Pp_CFG_DRSEL p) == 1 && (ptpEvent x.bytes).isSome)

/-- The TAG of a frame's departure record (R46). -/
def Desc.recordTag (x : Desc) : Nat :=
  match x.origin with
  | .fabric _ =>
    match ptpEvent x.bytes with
    | some (_, o) => fieldAt x.bytes (o + 30) 2
    | none => 0
  | _ => x.tag

/-- The departure record of a frame, where it is selected (R45, R46); `cut` when it ended with a stomped FCS. -/
def Dev.recordDeparture (d : Dev) (p : Nat) (x : Desc) (stamp : Stamp) (insFail cut : Bool) : Dev :=
  let dom := d.rd (TB_Pp_CFG_TXDOM p)
  let k := ptpKind x.bytes
  if d.recordsDeparture p x then
    d.postDeparture p (b01 stamp.cal * 4 + b01 insFail * 2 + b01 cut) dom x.recordTag k.1 k.2 (compact (d.stampIn dom stamp))
  else d

/-- The mark by which the departure record of a frame is found again, where it has one. -/
def Dev.recordMark (d : Dev) (p : Nat) (x : Desc) (stamp : Stamp) : Option Nat :=
  if d.recordsDeparture p x then some (compact (d.stampIn (d.rd (TB_Pp_CFG_TXDOM p)) stamp)) else none

/-- The CUT bit is set in a stored record, found by its tag and stamp (R79). -/
def Dev.markCut (d : Dev) (p stamp : Nat) : Dev :=
  let q := d.depQ p
  d.setDepQ p { q with recs := q.recs.map (fun r => if bits r 64 64 = stamp then setBits r 27 1 1 else r) }

/-- A frame as it leaves now: the transmission it makes, with its departure stamped (`sub`: the TDC's count within the tick), its fields
inserted, its authentication value and FCS; and the device with what that reports. -/
def Dev.depart (d : Dev) (p : Nat) (x : Desc) (sub : Nat) : Dev × Tx :=
  let stamp := d.stampLt p true sub
  let ins := d.insertTimes p x stamp
  let d := d.when ins.isNone (fun d => (d.inc (TB_Pp_OSFAIL_OSFAIL p)).postEvent 0x0B08 0x0D8 (p * 2 ^ 16 + x.recordTag))
  let (bytes, noKey) := d.authenticate p x (ins.getD x.bytes)
  let late := d.hasLaunch p x && decide (d.launchAt p x + d.rd (SCH_LATE_LATETOL p) * 65536 < d.schNow p)
  let reason := if noKey then rsNoKey else if late then rsLateSent else rsOk
  (d, { desc := x, wire := bytes ++ fcsOf bytes, reason := reason, start := d.tb.lt, stamp := stamp, insFail := ins.isNone })

/-! ### Start, end and cut -/

/-- The bytes that pass on a port in a time given in units of 2^-16 ns. -/
def Dev.bytesIn (d : Dev) (p : Nat) (t : Int) : Nat := t.toNat * 10 / (65536 * d.byteTime p)

/-- The bytes that a frame in transmission has sent by an instant of LT. -/
def Dev.sentAt (d : Dev) (p : Nat) (x : Tx) (t : Int) : Nat :=
  if x.waits then 0 else min x.wire.length (x.before + d.bytesIn p (t - Int.ofNat x.start))

/-- The bytes that a frame in transmission has sent by now. -/
def Dev.sentBytes (d : Dev) (p : Nat) (x : Tx) : Nat := d.sentAt p x (Int.ofNat d.tb.lt)

/-- Whether a class is paused on a port (R71). -/
def Dev.paused (d : Dev) (p c : Nat) : Bool := d.on (PRT_STAT_PAUSED p) || bit (d.rd (PRT_STAT_PFCACT p)) c

/-- Whether a frame is pause-immune (R72). -/
def Dev.pauseImmune (d : Dev) (p : Nat) (x : Desc) : Bool :=
  bit (d.rd (PRT_PIMM_TCMASK p)) x.tc || (d.on (PRT_PIMM_EXPRESS p) && d.preemptive p && !d.preemptable p x.tc)
    || (d.on (PRT_PIMM_PTPEV p) && (ptpEvent x.bytes).isSome) || d.isCoach p x.bytes || x.origin == .own

/-- Whether a class may start now with `len` bytes to fit before its gate closes, by its gate, the fit test and the hold (R122, R126,
R129, R132). -/
def Dev.classFits (d : Dev) (p c len : Nat) : Bool :=
  bit (d.gatesStart p) c && d.fits p c (d.schNow p) len && !(d.preemptable p c && d.on (SCH_STAT_HOLD p))

/-- Whether a class may start a frame of `len` bytes now; of a preemptable class a fragment is to fit (R130). -/
def Dev.classOpen (d : Dev) (p c len : Nat) : Bool := d.classFits p c (d.fitLen p c len)

/-- Whether a class is eligible to start its head frame (R122). -/
def Dev.headReady (d : Dev) (p c : Nat) : Bool :=
  match d.classQ p c with
  | [] => false
  | x :: _ =>
    d.classOpen p c x.size && !d.muted p c && (!d.hasLaunch p x || x.due) && !d.tooLate p x
      && (!d.paused p c || d.pauseImmune p x) && !(d.preemptable p c && (d.port p).pre.isSome)

/-- Whether a class is eligible to resume its preempted frame (R130). -/
def Dev.preReady (d : Dev) (p c : Nat) : Bool :=
  match (d.port p).pre with
  | some t => t.desc.tc == c && d.classOpen p c (t.wire.length - t.before)
  | none => false

/-- The class that starts or resumes now: the highest eligible one; with a preemptable frame in transmission, the highest one that may
preempt it (R122, R138). -/
def Dev.nextClass (d : Dev) (p : Nat) : Option Nat :=
  let classes := [7, 6, 5, 4, 3, 2, 1, 0]
  match (d.port p).tx with
  | none => classes.find? (fun c => d.headReady p c || d.preReady p c)
  | some t =>
    if d.preemptable p t.desc.tc && (d.port p).pre.isNone then
      classes.find? (fun c => !d.preemptable p c && d.headReady p c)
    else none

/-- The bytes after which a frame in transmission may be preempted (R130): its fragment holds at least 64 × (1 + ADDFRAG) bytes, and what
remains is at least a fragment of 64. A frame with no such boundary left, or on the express MAC, is not preempted. -/
def Dev.boundary (d : Dev) (p : Nat) (t : Tx) : Option Nat :=
  let n := max (d.sentBytes p t) (t.before + 64 * (1 + d.rd (PRT_PREEMPT_ADDFRAG p)) - 4)
  if t.mp.isSome && (d.port p).pre.isNone && decide (n + 64 ≤ t.wire.length) then some n else none

/-- Whether a port can start a frame now as to what it is sending: nothing, or a frame that gives way (R138). -/
def Dev.yields (d : Dev) (p : Nat) : Bool :=
  match (d.port p).tx with
  | none => true
  | some t => (d.boundary p t).isSome

/-- The frame in transmission is preempted at the next permitted boundary (R130). -/
def Dev.preempt (d : Dev) (p : Nat) : Dev :=
  match (d.port p).tx with
  | none => d
  | some t =>
    match d.boundary p t with
    | none => d
    | some n =>
      let q := t.mp.getD (0, 0)
      let d := d.emitMpacket p q ((t.wire.take n).drop t.before) false false
      (d.setPort p { d.port p with tx := none, pre := some { t with before := n, mp := some (q.1, q.2 + 1) }, lastEnd := d.tb.lt }).inc
        (PRT_FRAG_TX_CNT p)

/-- The class of the preemptable frame in transmission, where its gate is closed. -/
def Dev.closedUnder (d : Dev) (p : Nat) : Bool :=
  match (d.port p).tx with
  | some t => d.preemptable p t.desc.tc && !bit (d.gatesNow p) t.desc.tc
  | none => false

/-- Where a gate has closed under a preemptable frame in transmission, the frame is preempted (R130). -/
def Dev.preemptClosed (d : Dev) (p : Nat) : Dev := d.when (d.closedUnder p) (fun d => d.preempt p)

/-- At the change time the administrative list becomes operational (R127); a preemptable frame whose gate it closes is preempted
(R130). -/
def Dev.configSwap (d : Dev) (p : Nat) : Dev :=
  match d.changeAt p with
  | none => d
  | some T =>
    if d.schNow p < T then d
    else
      let n := d.rd (SCH_ADMLEN_LEN p)
      let d := d.noteGates p T
      let d := forNums 1024 (fun e d => d.wr (SCH_OPERLISTe_ENTRY p e) (d.rd (SCH_ADMLISTe_ENTRY p e))) d
      let d := ((d.wr (SCH_OPERLEN_LEN p) n).wr (SCH_OPERCYCLE_CYCLE p) (d.admCycle p)).wr
        (SCH_OPERBASE_BASE p) (d.rd (SCH_ADMBASE_BASE p))
      let d := ((d.clr (SCH_STAT_PENDING p)).put (SCH_STAT_SWAPPED p) true).inc (SCH_SWAPCNT_CNT p)
      ((((d.postEvent 0x0A03 (schUid p) (n % 1024)).setPos p).holdJudge p).preemptClosed p).settleSwap p

/-- The entry that is next in force is taken (R125); a preemptable frame whose gate closes is preempted (R130). -/
def Dev.gateEvent (d : Dev) (p : Nat) : Dev :=
  if d.on (SCH_CTRL_GATEEN p) && d.rd (SCH_OPERLEN_LEN p) != 0 then ((d.noteGates p (d.eventAt p)).setPos p).preemptClosed p else d

/-- A step of a domain has passed or taken back instants of a scheduler's domain (R54, R137): a change time passed takes effect, the
frames whose launch time was passed become eligible, and the list position is that of the new time. -/
def Dev.schStepped (d : Dev) (p : Nat) : Dev :=
  let d := d.configSwap p
  let reach (x : Desc) : Desc := { x with due := x.due || (x.ltv && decide (d.launchAt p x ≤ d.schNow p)) }
  (d.setPort p { d.port p with queues := (d.port p).queues.map (fun e => (e.1, e.2.map reach)) }).gateEvent p

/-- A port of P20 and P21 begins to send: its transmit opportunity stands until the frame has ended (R69). -/
def Dev.plcaNote (d : Dev) (p : Nat) : Dev := if p < 20 then d else d.setPort p { d.port p with plcaAt := d.plcaNow p }

/-- A frame takes a port, as an mPacket of the preemptable MAC where its class is preemptable (R75). -/
def Dev.occupy (d : Dev) (p : Nat) (t : Tx) : Dev :=
  let d := d.plcaNote p
  let x := d.port p
  if d.preemptable p t.desc.tc then
    d.setPort p { x with tx := some { t with mp := some (x.smd, 0) }, smd := (x.smd + 1) % 4, colls := 0 }
  else d.setPort p { x with tx := some t, colls := 0 }

/-- The bytes of a PAUSE (class 8) or PFC frame with quanta for some classes (R74); addresses and padding are those of IEEE 802.3
(PRESUMED, notes/assumptions/68). -/
def flowBytes (p cs q : Nat) : List Byte :=
  let body := if bit cs 8 then toBe 2 0x0001 ++ toBe 2 q
    else toBe 2 0x0101 ++ toBe 2 cs ++ ((List.range 8).map (fun c => toBe 2 (if bit cs c then q else 0))).flatten
  padMin (toBe 6 0x0180C2000001 ++ toBe 6 (Config.portMac p) ++ toBe 2 0x8808 ++ body)

/-- The port's own PAUSE or PFC frame starts, between two frames and ahead of queued traffic (R74); it is pause-immune (R72, R73). -/
def Dev.startOwn (d : Dev) (p sub : Nat) : Dev :=
  match (d.port p).own with
  | [] => d
  | (cs, q) :: r =>
    let x : Desc := { bytes := flowBytes p cs q, tc := 7, origin := .own }
    let d := d.setPort p { d.port p with own := r }
    let d := d.when (d.on (PRT_STAT_PAUSED p)) (fun d => d.inc (PRT_PIMMOVR_CNT p))
    let (d, t) := d.depart p x sub
    let d := d.recordDeparture p x t.stamp false false
    d.setPort p { d.port p with tx := some { t with recorded := d.recordMark p x t.stamp } }

/-- A class starts its head frame: the frame departs, and its record is posted (on P20–P21 when it has succeeded, R41). -/
def Dev.startHead (d : Dev) (p c sub : Nat) : Dev :=
  match d.classQ p c with
  | [] => d
  | x :: r =>
    let d := d.when (d.paused p c && d.pauseImmune p x) (fun d => d.inc (PRT_PIMMOVR_CNT p))
    let d := d.setClassQ p c r
    let (d, t) := d.depart p x sub
    let d := d.when (decide (p < 20)) (fun d => d.recordDeparture p x t.stamp t.insFail false)
    let mark := if p < 20 then d.recordMark p x t.stamp else none
    (d.occupy p { t with recorded := mark }).settleHead p c true 257

/-- A preempted frame resumes. -/
def Dev.resume (d : Dev) (p : Nat) : Dev :=
  match (d.port p).pre with
  | some t => d.setPort p { d.port p with pre := none, tx := some { t with start := d.tb.lt } }
  | none => d

/-- The next class starts or resumes on a port (R122), a preemptable frame in transmission giving way (R130). -/
def Dev.startNext (d : Dev) (p sub : Nat) : Dev :=
  match d.nextClass p with
  | none => d
  | some c =>
    let d := if (d.port p).tx.isSome then d.preempt p else d
    if (d.port p).tx.isSome then d
    else if d.preReady p c then d.resume p
    else (d.when (d.on (PRT_STAT_PLCAACT p)) (fun d => d.emit (.commit p))).startHead p c sub

/-- A port starts what it has to send (R122): its own flow control frame between two frames (R74), else the next class, after the heads
that are too late have gone (R136); under PLCA in its own transmit opportunity (R69). A port that is to power down sends the remaining
fragments of a preempted frame and nothing else (R82). `sub` is the TDC's count of 62.5 ps steps at the start of frame (R40). -/
def Dev.transmitStart (d : Dev) (p sub : Nat) : Dev :=
  if d.on SUP_STAT_FAULT then d
  else if d.portUp p && d.plcaOpen p then
    if (d.port p).tx.isNone && !(d.port p).own.isEmpty then d.startOwn p sub else (d.settlePort p).startNext p sub
  else if (d.port p).offDue && (d.port p).tx.isNone && (List.range 8).any (d.preReady p) then d.resume p
  else d

/-- A down condition's or power-down's effect on the pauses, verification and the fabric (R65). -/
def Dev.linkLost (d : Dev) (p : Nat) : Dev :=
  let d := ((d.put (PRT_STAT_LINK p) false).put (PRT_STAT_LINKCHG p) true).put (PRT_STAT_PAUSED p) false
  let d := (d.wr (PRT_STAT_PFCACT p) 0).wr (PRT_STAT_VERSTAT p) (b01 (d.on (PRT_PREEMPT_PREEN p) && decide (p < 20)))
  (d.setPort p { d.port p with
    up := false, down := none, pauseDue := [], pfcDue := [], pauseEnd := [], own := [], verifies := 0 }).holdJudge p

/-- How a frame in transmission comes to be cut (R79): by the link, by a reset that PRT_CUT_RESET counts, by a device fault or Standby, which
it counts too, or by the port's own reset. -/
inductive CutBy where
  | link | reset | fault | port
deriving DecidableEq, Repr

/-- What ends the wire of a frame that is cut after `n` bytes: the complemented FCS of those bytes (R79). Of a frame that stands preempted
when the link goes down no fragment follows (R82); where a reset cuts it, a last mPacket carries the stomped FCS alone (DESIGN CHOICE,
notes/assumptions/68). -/
def Dev.emitCut (d : Dev) (p : Nat) (by_ : CutBy) (t : Tx) (n : Nat) : Dev :=
  match t.mp with
  | none => d.emitFrame p (withFcs (t.wire.take n) true) true
  | some q => if by_ = .link ∧ n = t.before then d else d.emitMpacket p q ((withFcs (t.wire.take n) true).drop t.before) true true

/-- One transmission is cut after `n` bytes (R79): a stomped FCS of the bytes sent, the counter, CUT in its record, a partial
completion. -/
def Dev.cutOne (d : Dev) (p : Nat) (by_ : CutBy) (t : Tx) (n : Nat) : Dev :=
  let d := d.emitCut p by_ t n
  let d := match by_ with
    | .link => d.inc (PRT_CUT_LINK_CNT p)
    | .reset => d.inc (PRT_CUT_RESET_CNT p)
    | .fault => d.inc (PRT_CUT_RESET_CNT p)
    | .port => d
  let d := match t.recorded with
    | some m => d.markCut p m
    | none => d
  d.complete t.desc stPartial t.reason n

/-- A frame that waits for its back-off is not on the wire: it goes back to the head of its class queue. -/
def Dev.requeue (d : Dev) (p : Nat) : Dev :=
  match (d.port p).tx with
  | some t =>
    if t.waits then
      (d.setPort p { d.port p with tx := none, colls := 0, backoff := 0 }).setClassQ p t.desc.tc (t.desc :: d.classQ p t.desc.tc)
    else d
  | none => d

/-- The frame in transmission and the preempted frame are cut, each with the bytes it has sent; the number of completion words this
wrote. A reset of the fabric or the scheduler spares a coach that the ring's controller sends, which R174 has its own reset or the port's
end (DEDUCED, notes/assumptions/70). -/
def Dev.cutFrames (d : Dev) (p : Nat) (by_ : CutBy) : Dev × Nat :=
  let d := d.requeue p
  let x := d.port p
  let spared := x.tx.filter (fun t => t.coach && by_ == .reset)
  let cut := if spared.isSome then none else x.tx
  let ts := (match cut with | some t => [(t, d.sentBytes p t)] | none => []) ++ (match x.pre with | some t => [(t, t.before)] | none => [])
  let d := d.setPort p { x with
    tx := spared, pre := none, coaches := if by_ = .reset then x.coaches else [], colls := 0, backoff := 0 }
  (ts.foldl (fun d t => d.cutOne p by_ t.1 t.2) d, (ts.filter (fun t => t.1.desc.wantsWord)).length)

/-- The frame in assembly is given up with the first reason of R78 that applies: a line code error in it, the link's end, a length that has
passed MAXLEN, or the assembly error. That it is short is not known of a frame that has not ended (DEDUCED, notes/assumptions/68). -/
def Dev.dropAsm (d : Dev) (p : Nat) (a : Assembly) (trunc : Bool) : Dev :=
  (d.setPort p { d.port p with asm := none }).inc
    (if a.codeErr then PRT_DROP_CODE_CNT p else if trunc then PRT_DROP_TRUNC_CNT p
     else if d.rd (PRT_CFG_MAXLEN p) < a.bytes.length then PRT_DROP_OVERSIZE_CNT p else PRT_DROP_ASSEMBLY_CNT p)

/-- The link goes down with a cause (R65). -/
def Dev.linkGoesDown (d : Dev) (p cause : Nat) : Dev :=
  let d := (d.linkLost p).postEvent 0x0802 (prtUid p) cause
  let d := (d.cutFrames p .link).1
  match (d.port p).asm with
  | some a => d.dropAsm p a true
  | none => d

/-- PLCA's status falls (R69). -/
def Dev.plcaFalls (d : Dev) (p : Nat) : Dev := (d.put (PRT_STAT_PLCAACT p) false).postEvent 0x0807 (prtUid p) 0

/-- The lane powers off (R80): link and calibration are lost, registers keep their values. The MAC of P20 and P21 stops, and PLCA's status
falls with it (DEDUCED, notes/assumptions/68). -/
def Dev.laneOff (d : Dev) (p : Nat) : Dev :=
  let up := d.on (PRT_STAT_LINK p)
  let d := d.when (d.on (PRT_STAT_PLCAACT p)) (fun d => d.plcaFalls p)
  let d := d.setPort p { d.port p with offDue := false, up := false, down := none }
  let d := ((d.put (PRT_STAT_PWRDY p) false).put (TB_Pp_CAL_CALOK p) false).tdcsOff p
  if up then d.linkGoesDown p 1 else d

/-- Whether a frame is on the wire, or stands preempted between two of its fragments. -/
def Dev.sending (d : Dev) (p : Nat) : Bool :=
  (match (d.port p).tx with | some t => !t.waits | none => false) || (d.port p).pre.isSome

/-- A lane that is to power off does so once no frame is being sent (R80, R82). -/
def Dev.offIfDue (d : Dev) (p : Nat) : Dev := if (d.port p).offDue && !d.sending p then d.laneOff p else d

/-- A write of PRT_CTRL changes PWRDN (R80, R82): the lane goes off after the frame in transmission and the fragments of a preempted one;
a write that clears PWRDN before that keeps it on. -/
def Dev.pwrdnWritten (d : Dev) (p : Nat) (old new : Bool) : Dev :=
  if new && !old then (d.setPort p { d.port p with offDue := true }).offIfDue p
  else if old && !new then d.setPort p { d.port p with offDue := false }
  else d

/-- What counts a frame that has left (R74, R84): the port's own flow control by its kind, any other as sent complete, but for one that
ended stomped (R100). -/
def Dev.countSent (d : Dev) (p : Nat) (t : Tx) : Dev :=
  if t.desc.origin == .own then d.inc (if fieldAt t.wire 14 2 = 1 then PRT_TXPAUSE_CNT p else PRT_TXPFC_CNT p)
  else if t.bad then d
  else (d.inc (PRT_TXOK_CNT p)).incBy (PRT_TXOCT_CNT p) t.wire.length

/-- The wire of a frame ends (R75). -/
def Dev.emitEnd (d : Dev) (p : Nat) (t : Tx) : Dev :=
  match t.mp with
  | none => d.emitFrame p t.wire t.bad
  | some q => d.emitMpacket p q (t.wire.drop t.before) true t.bad

/-- The medium of P20 or P21 falls idle after a frame that began at an instant of LT; where it was this port's, its transmit opportunity has
one frame more, else the opportunity it began in is over (R69). -/
def Dev.mediumIdle (d : Dev) (p : Nat) (mine : Bool) (start : Nat) : Dev :=
  let x := d.port p
  let now := d.plcaAtLt p start
  let chance : Nat × Nat × Nat := if mine then (d.rd (PRT_PLCA_NODEID p), d.tb.lt, now.2.2 + 1) else (now.1 + 1, d.tb.lt, 0)
  if p < 20 then d else d.setPort p { x with busyTo := d.tb.lt, plcaAt := chance }

/-- A coach that the ring's controller originates starts on a port whose link is up (R156, R166), its start of frame at the TDC at `start` in
LT; one that a pause would hold counts as immune (R72). -/
def Dev.coachStart (d : Dev) (p : Nat) (l : List Byte) (start : Nat) : Dev :=
  if !d.on (PRT_STAT_LINK p) then d
  else
    let d := d.when (d.paused p 7) (fun d => d.inc (PRT_PIMMOVR_CNT p))
    let stamp := d.stampOf p true (Int.ofNat start)
    let x : Desc := { bytes := l, tc := 7, origin := .copy }
    let d := d.recordDeparture p x stamp false false
    d.setPort p { d.port p with tx := some {
      desc := x, wire := withFcs l false, reason := rsOk, start := start, recorded := d.recordMark p x stamp, stamp := stamp, coach := true } }

/-- The next coach of a train starts behind the one that has ended (R152). -/
def Dev.nextCoach (d : Dev) (p : Nat) : Dev :=
  match (d.port p).coaches with
  | [] => d
  | (start, l) :: r => (d.setPort p { d.port p with coaches := r }).coachStart p l start

/-- A frame finishes leaving (R123): counted, completed with its reason and its length, and judged heads move up; a train's next coach
follows. -/
def Dev.transmitEnd (d : Dev) (p : Nat) : Dev :=
  match (d.port p).tx with
  | none => d
  | some t =>
    if t.waits then d
    else
      let d := (d.setPort p { d.port p with tx := none, colls := 0, lastEnd := d.tb.lt }).mediumIdle p true t.start
      let d := (d.emitEnd p t).countSent p t
      let d := d.when (0 < t.before) (fun d => d.inc (PRT_FRAG_TX_CNT p))
      let d := d.when (decide (20 ≤ p)) (fun d => d.recordDeparture p t.desc t.stamp t.insFail false)
      let d := (d.complete t.desc stDone t.reason t.wire.length).countReason p t.reason
      ((d.settlePort p).offIfDue p).nextCoach p

/-! ### Link state -/

/-- The port's lane is powered and ready (R80). -/
def Dev.laneReady (d : Dev) (p : Nat) : Bool := d.on (PRT_STAT_PWRDY p) && !d.on (PRT_CTRL_PWRDN p)

/-- The up condition of the port's type is met (R64); it holds since now, unless it held before. Remote Fault received on 10GBASE-R is no
down condition, and shows in RFAULT (R84). -/
def Dev.linkUpCondition (d : Dev) (p : Nat) (remote : Bool) : Dev :=
  if d.laneReady p then
    let d := (d.put (PRT_STAT_LFAULT p) false).put (PRT_STAT_RFAULT p) (remote && d.rd (PRT_CFG_MODE p) == 0)
    let x := d.port p
    d.setPort p { x with up := true, down := none, since := if x.up then x.since else d.tb.lt }
  else d

/-- A down condition is detected (R64): cause 1–5 of R65. A 10GBASE-R port then sends Remote Fault, a 100BASE-FX port Far-End Fault
Indication. -/
def Dev.linkDownCondition (d : Dev) (p cause : Nat) (remote : Bool) : Dev :=
  if d.laneReady p then
    let mode := d.rd (PRT_CFG_MODE p)
    let d := d.put (PRT_STAT_LFAULT p) (cause == 1 || (cause == 4 && mode == 0))
    let d := d.put (PRT_STAT_RFAULT p) ((cause == 4 && mode == 3) || (remote && mode == 0))
    let x := d.port p
    let d := d.setPort p { x with up := false, down := some cause, since := if x.down.isSome then x.since else d.tb.lt }
    d.when (x.down.isNone && (mode == 0 || mode == 3)) (fun d => d.emit (.lineFault p))
  else d

/-- The Clause 37 ability word that a 1000BASE-X port advertises (R66): full duplex, and symmetric pause with FCMODE = 1; the bits are
those of IEEE 802.3 Clause 37 (PRESUMED, notes/assumptions/68). -/
def Dev.advertised (d : Dev) (p : Nat) : Nat := 0x0020 + (if d.rd (PRT_CFG_FCMODE p) = 1 then 0x0080 else 0)

/-- Whether an SGMII in-band word reports link up, and whether it reports 1,000 Mb/s (R62, R64); the bits are those of the SGMII
specification (PRESUMED, notes/assumptions/68). -/
def sgmiiUp (w : Nat) : Bool := bit w 15
def sgmiiGigabit (w : Nat) : Bool := bits w 10 2 == 2

/-- The partner's word has arrived and the rest of the up condition is met (R62, R64, R66): with ANEN = 1 the word of Clause 37, after the
port's own has left, or the PHY's in-band word, which holds the link down where it reports no link or another speed; with ANEN = 0 no word is
looked at, on SGMII either (DESIGN CHOICE, notes/assumptions/68). -/
def Dev.upWithAbility (d : Dev) (p : Nat) (ability : BitVec 16) (remote : Bool) : Dev :=
  let mode := d.rd (PRT_CFG_MODE p)
  let w := ability.toNat
  if d.laneReady p && d.on (PRT_CFG_ANEN p) && mode == 1 then
    ((d.emit (.advert p (d.advertised p))).wr (PRT_ANLP_LPABIL p) w).linkUpCondition p remote
  else if d.laneReady p && d.on (PRT_CFG_ANEN p) && mode == 2 then
    let d := d.wr (PRT_ANLP_LPABIL p) w
    if sgmiiUp w && sgmiiGigabit w then d.linkUpCondition p remote
    else
      let d := d.when (sgmiiUp w && !d.on (PRT_STAT_LINK p)) (fun d => d.postEvent 0x0802 (prtUid p) 5)
      d.linkDownCondition p 5 remote
  else d.linkUpCondition p remote

/-- A verify mPacket leaves (R76). -/
def Dev.sendVerify (d : Dev) (p : Nat) : Dev :=
  (d.setPort p { d.port p with verifies := (d.port p).verifies + 1, verAt := d.tb.lt }).emit (.verify p)

/-- Verification at a link-up (R76). -/
def Dev.verifyStart (d : Dev) (p : Nat) : Dev :=
  if !d.on (PRT_PREEMPT_PREEN p) || decide (20 ≤ p) then d.wr (PRT_STAT_VERSTAT p) 0
  else if d.on (PRT_PREEMPT_VERDIS p) then d.wr (PRT_STAT_VERSTAT p) 3
  else (d.setPort p { d.port p with verifies := 0 }).wr (PRT_STAT_VERSTAT p) 2 |>.sendVerify p

/-- The up condition has held for LUDEB (R65). -/
def Dev.linkUp (d : Dev) (p : Nat) : Dev :=
  if (d.port p).up && d.laneReady p && !d.on (PRT_STAT_LINK p)
      && decide ((d.port p).since + d.rd (PRT_LINK_LUDEB p) * (1000000 * 65536) ≤ d.tb.lt) then
    let sp := speedCode (d.rd (PRT_CFG_MODE p))
    let d := ((d.put (PRT_STAT_LINK p) true).put (PRT_STAT_LINKCHG p) true).wr (PRT_STAT_SPEED p) sp
    (d.postEvent 0x0801 (prtUid p) sp).verifyStart p
  else d

/-- The down condition has held for LDDEB (R65). -/
def Dev.linkDown (d : Dev) (p : Nat) : Dev :=
  match (d.port p).down with
  | some c =>
    if d.on (PRT_STAT_LINK p) && decide ((d.port p).since + d.rd (PRT_LINK_LDDEB p) * (100 * 65536) ≤ d.tb.lt) then
      (d.linkGoesDown p c).offIfDue p
    else d
  | none => d

/-- An MDIO poll of P20 or P21, every MDPOLL, ends with the PHY's report (R64). -/
def Dev.mdioPoll (d : Dev) (p : Nat) (link : Bool) : Dev :=
  if decide (20 ≤ p) && d.laneReady p && decide ((d.port p).pollAt ≤ d.tb.lt) then
    let d := d.setPort p { d.port p with pollAt := d.tb.lt + d.rd (PRT_HDX_MDPOLL p) * (1000000 * 65536) }
    if link then d.linkUpCondition p false else if (d.port p).up || d.on (PRT_STAT_LINK p) then d.linkDownCondition p 5 false else d
  else d

/-- A write of PRT_PREEMPT changes what VERSTAT shows (R76): disabled with PREEN = 0, which ends a hold (R132); on setting it, initial
until the next link-up, or succeeded at once with VERDIS = 1 and the link up. -/
def Dev.preemptWritten (d : Dev) (p : Nat) : Dev :=
  if !d.on (PRT_PREEMPT_PREEN p) || decide (20 ≤ p) then (d.wr (PRT_STAT_VERSTAT p) 0).holdJudge p
  else if d.on (PRT_PREEMPT_VERDIS p) && d.on (PRT_STAT_LINK p) then d.wr (PRT_STAT_VERSTAT p) 3
  else if d.rd (PRT_STAT_VERSTAT p) = 0 then d.wr (PRT_STAT_VERSTAT p) 1
  else d

/-- VERTIME expires while the port verifies (R76). -/
def Dev.verifyTimer (d : Dev) (p : Nat) : Dev :=
  if d.rd (PRT_STAT_VERSTAT p) = 2 ∧ (d.port p).verAt + d.rd (PRT_PREEMPT_VERTIME p) * (1000000 * 65536) ≤ d.tb.lt then
    let n := (d.port p).verifies
    if 3 ≤ n then (d.wr (PRT_STAT_VERSTAT p) 4).postEvent 0x0803 (prtUid p) n else d.sendVerify p
  else d

/-- A respond mPacket arrives (R76). -/
def Dev.respondReceived (d : Dev) (p : Nat) : Dev :=
  if d.portUp p && d.rd (PRT_STAT_VERSTAT p) == 2 then d.wr (PRT_STAT_VERSTAT p) 3 else d

/-- A verify mPacket arrives and is answered (R76, R82). -/
def Dev.verifyReceived (d : Dev) (p : Nat) : Dev := if d.portUp p && decide (p < 20) then d.emit (.respond p) else d

/-! ### Pauses (R70, R71, R74) -/

/-- A pause timer (of a class, or 8 of the port) is loaded with quanta (R71). -/
def Dev.loadPause (d : Dev) (p t q : Nat) : Dev :=
  d.setPort p { d.port p with pauseEnd := tput (d.port p).pauseEnd t (d.tb.lt + d.quanta p q) }

/-- A PAUSE takes effect: the port timer loads its quanta. -/
def Dev.pauseEffect (d : Dev) (p : Nat) : Dev :=
  match (d.port p).pauseDue with
  | [] => d
  | q :: r => ((d.setPort p { d.port p with pauseDue := r }).loadPause p 8 q).put (PRT_STAT_PAUSED p) (q != 0)

/-- A PFC takes effect: the timers of its enabled classes load. -/
def Dev.pfcEffect (d : Dev) (p : Nat) : Dev :=
  match (d.port p).pfcDue with
  | [] => d
  | (en, qs) :: r =>
    let old := d.rd (PRT_STAT_PFCACT p)
    let new := (List.range 8).foldl (fun v c => if bit en c then setBits v c 1 (b01 (qs.getD c 0 != 0)) else v) old
    let d := forNums 8 (fun c d => d.when (bit en c) (fun d => d.loadPause p c (qs.getD c 0))) d
    (d.setPort p { d.port p with pfcDue := r }).wr (PRT_STAT_PFCACT p) new

/-- Whether a pause timer has run out. -/
def Dev.pauseOver (d : Dev) (p t : Nat) : Bool := decide (tgetD (d.port p).pauseEnd t 0 ≤ d.tb.lt)

/-- A pause timer reaches zero: of class `t`, or of the port (8). -/
def Dev.pauseExpiry (d : Dev) (p t : Nat) : Dev :=
  if !d.pauseOver p t then d
  else if t = 8 then d.put (PRT_STAT_PAUSED p) false else d.wr (PRT_STAT_PFCACT p) (setBits (d.rd (PRT_STAT_PFCACT p)) t 1 0)

/-- The classes (or 8, the port) whose flow control is asserted and was last sent REFRESH quanta ago or more, as a mask (R74). -/
def Dev.refreshDue (d : Dev) (p : Nat) : Nat :=
  let x := d.port p
  let mode := d.rd (PRT_CFG_FCMODE p)
  let cs := if mode = 1 then x.flow &&& 0x100 else if mode = 2 then x.flow &&& 0xFF else 0
  ((numsWhere 9 (bit cs)).filter (fun c =>
    decide (tgetD x.xoffAt c 0 + d.quanta p (d.rd (PRT_PAUSETX_REFRESH p)) ≤ d.tb.lt))).foldl (fun n c => n + 2 ^ c) 0

/-- The repeat of a PAUSE or PFC every REFRESH quanta while its condition holds (R74). -/
def Dev.pauseRefresh (d : Dev) (p : Nat) : Dev :=
  if 20 ≤ p then d else d.flowFrame p (d.refreshDue p) (d.rd (PRT_PAUSETX_QUANTA p))

/-- A MAC control frame with a good FCS (R70): consumed and honoured, consumed and ignored, or dropped. -/
def Dev.macControl (d : Dev) (p : Nat) (l : List Byte) : Dev :=
  let op := fieldAt l 14 2
  let mode := d.rd (PRT_CFG_FCMODE p)
  let x := d.port p
  if 20 ≤ p ∨ (op ≠ 0x0001 ∧ op ≠ 0x0101) then d.inc (PRT_DROP_MACCTL_CNT p)
  else if op = 0x0001 ∧ mode = 1 then
    (d.setPort p { x with pauseDue := x.pauseDue ++ [fieldAt l 16 2] }).inc (PRT_RXPAUSE_CNT p)
  else if op = 0x0101 ∧ mode = 2 then
    (d.setPort p { x with pfcDue := x.pfcDue ++ [(fieldAt l 16 2 % 256, (List.range 8).map (fun c => fieldAt l (18 + 2 * c) 2))] }).inc
      (PRT_RXPFC_CNT p)
  else d.inc (PRT_RXFCIGN_CNT p)

/-! ### Half-duplex access (R67–R69) -/

/-- A frame is discarded for its collisions: partial, for no bit of it arrived whole. -/
def Dev.dropCollided (d : Dev) (p : Nat) (t : Tx) : Dev :=
  let d := d.setPort p { d.port p with tx := none, colls := 0, backoff := 0 }
  ((d.complete t.desc stPartial t.reason (d.sentBytes p t)).settlePort p).offIfDue p

/-- A collision while PLCA is active means that two nodes share an ID (R69). -/
def Dev.plcaHit (d : Dev) (p : Nat) : Dev := d.when (d.on (PRT_STAT_PLCAACT p)) (fun d => d.postEvent 0x0807 (prtUid p) 1)

/-- A collision on P20 or P21 (R67): jammed, counted, and a back-off drawn, or the frame discarded after ATTLIM attempts; under PLCA also
event 0x0807. The slots of the back-off count from the end of the 32-bit jam (DEDUCED, notes/assumptions/68). -/
def Dev.collision (d : Dev) (p : Nat) : Dev :=
  match (d.port p).tx with
  | none => d
  | some t =>
    if p < 20 ∨ t.waits then d
    else
      let d := (d.emit (.jam p)).mediumIdle p false d.tb.lt
      let d := (d.inc (PRT_COLL_CNT p)).plcaHit p
      let n := (d.port p).colls + 1
      if d.rd (PRT_HDX_ATTLIM p) ≤ n then
        ((d.inc (PRT_DROP_EXCOL_CNT p)).postEvent 0x0804 (prtUid p) n).dropCollided p t
      else
        let v := Config.lfsrNext (d.port p).lfsr % 2 ^ 32
        let r := v % 2 ^ min n 10
        d.setPort p { d.port p with
          colls := n, lfsr := v, backoff := r, backAt := d.tb.lt + bitTimes (32 + 512 * r), tx := some { t with waits := true } }

/-- The back-off of r slots has expired and the frame is attempted again, stamped anew (R41, R67). -/
def Dev.backoffExpiry (d : Dev) (p sub : Nat) : Dev :=
  match (d.port p).tx with
  | some t =>
    if t.waits && decide ((d.port p).backAt ≤ d.tb.lt) && d.plcaOpen p then
      let (d, u) := (d.plcaNote p).depart p t.desc sub
      d.setPort p { d.port p with backoff := 0, tx := some { u with waits := false } }
    else d
  | none => d

/-- A late collision (R68), with its bit time; under PLCA also event 0x0807 (R69). PRT_COLL, which R67 has each collision count, does not
count it: R68 names the counter of a late one (DESIGN CHOICE, notes/assumptions/68). -/
def Dev.lateCollision (d : Dev) (p bitTime : Nat) : Dev :=
  match (d.port p).tx with
  | some t =>
    if p < 20 ∨ t.waits ∨ bitTime ≤ 512 then d
    else
      let d := ((d.emit (.jam p)).mediumIdle p false d.tb.lt).plcaHit p
      ((d.inc (PRT_DROP_LATECOL_CNT p)).postEvent 0x0805 (prtUid p) bitTime).dropCollided p t
  | none => d

/-- The coordinator of a PLCA segment sends a BEACON, with which the transmit opportunities begin (R69). -/
def Dev.plcaBeacon (d : Dev) (p : Nat) : Dev := d.when (d.rd (PRT_PLCA_NODEID p) == 0) (fun d => d.emit (.beacon p))

/-- plca_status of P20 or P21 changes (R69): it cannot become true while NODEID turns PLCA off. -/
def Dev.plca (d : Dev) (p : Nat) (active : Bool) : Dev :=
  if decide (20 ≤ p) && d.on (PRT_STAT_PLCAACT p) != active && !(active && d.rd (PRT_PLCA_NODEID p) == 255) then
    if active then ((d.put (PRT_STAT_PLCAACT p) true).setPort p { d.port p with plcaAt := (d.rd (PRT_PLCA_NODECNT p), d.tb.lt, 0) }).plcaBeacon p
    else d.plcaFalls p
  else d

/-- One tick of PLCA: the coordinator's next BEACON (R69). -/
def Dev.plcaTick (d : Dev) (p : Nat) : Dev :=
  let now := d.plcaNow p
  if d.on (PRT_STAT_PLCAACT p) && decide (d.rd (PRT_PLCA_NODECNT p) ≤ now.1) && now.2.1 == d.tb.lt then d.plcaBeacon p else d

/-! ### Lane power and resets -/

/-- The lane has locked and its TDCs are first calibrated, with the tap counts measured (R38, R80), after the check of SDREFCLK on a
SerDes port (R399). -/
def Dev.laneUp (d : Dev) (p : Nat) (sdOk : Bool) (rxTaps txTaps : Nat) : Dev :=
  if d.on (PRT_CTRL_PWRDN p) || d.on (PRT_STAT_PWRDY p) then d
  else if p < 20 ∧ !sdOk then (d.put LDR_CLKSTAT_SDOK false).postEvent 0x0208 0x0F9 3
  else
    let d := d.when (decide (p < 20)) (fun d => d.put LDR_CLKSTAT_SDOK true)
    let d := (d.calibrate p false rxTaps).calibrate p true txTaps
    d.put (PRT_STAT_PWRDY p) (d.on (TB_Pp_CAL_CALOK p))

/-- A function reset of a port (R81): frames cut and discarded, FN fields cleared, the link down with cause 6. VERSTAT is such a field and
reads 0 after it, also with PREEN = 1 (DESIGN CHOICE, notes/assumptions/68). -/
def Dev.portReset (d : Dev) (p : Nat) : Dev :=
  let was := d.on (PRT_STAT_LINK p)
  let (d, words) := d.cutFrames p .port
  let x := d.port p
  let d := d.setPort p { x with
    up := false, down := none, offDue := false, pauseDue := [], pfcDue := [], pauseEnd := [], own := [], xoffAt := [], smd := 0
    verifies := 0, asm := none, flow := 0, rstAt := d.tb.lt }
  let d := (d.clrs (fnFields_PRT p)).clrs (fnFields_TBP p)
  let d := ((d.setDepQ p {}).tdcsOff p).holdJudge p
  let d := d.resetReport 0x08 (prtUid p) words
  if was then (d.put (PRT_STAT_LINKCHG p) true).postEvent 0x0802 (prtUid p) 6 else d

/-- A function reset of a scheduler (R143). -/
def Dev.schReset (d : Dev) (p : Nat) : Dev :=
  let (d, words) := d.cutFrames p .reset
  let d := d.offIfDue p
  let qs := ((d.port p).queues.map (·.2)).flatten ++ (d.port p).hand
  let d := d.setPort p { d.port p with queues := [], hand := [], mutes := [], gateWas := none }
  let d := qs.foldl (fun d x => d.complete x stAborted 0 0) d
  let d := (d.clrs (fnFields_SCH p)).muteEval p
  d.resetReport 0x0A (schUid p) (words + (qs.filter Desc.wantsWord).length)

end Sys2Proof.Machine
end

