-- ==== Sys2Proof/Machine/Sau.lean ====
section
/-! DEFINITION. The Sample Alignment Unit (spec/08): frames validated and placed (R206–R208), the grid (R212), rows opening,
and settling (R216, R222, R224), enables, refusals, steps and resets (R210, R214, R215, R230–R232). -/

namespace Sys2Proof.Machine

/-! ### Settling (R216) -/

/-- Settle the cells of a row that can settle now; `again` says for which streams a settled cell is computed anew. A cell is written as
it settles (R224); `holds` is what HOLD keeps after the rows before it. -/
def Dev.settleRow (d : Dev) (m : Nat) (r : MRow) (holds : Tab (Nat × Nat × Nat)) (again : Nat → Bool) : Dev × MRow :=
  if r.close.isSome && !(r.close == some .settled) then (d, r)
  else
    let base := d.rd (SAU_Mm_MEMB_MBASE m)
    let step (acc : Dev × List (Option Cell)) (ic : Nat × Option Cell) : Dev × List (Option Cell) :=
      let e := base + ic.1
      let todo := ic.2.isNone || again (d.rd (SAU_E_CFG_STREAM e))
      let c := if todo then (d.memberCell e (d.matDom m) r.g r.unc).or ic.2 else ic.2
      let word : Option (Nat × Nat) := match c with
        | none => none
        | some (.value v q _ _) => some (v, q)
        | some .absent => let a := (d.absentCell e (tget holds e) r.unc).1; some (a.1, a.2.1)
      let put := match word with
        | some (v, q) => if c = ic.2 then acc.1 else acc.1.sauWrite (d.rowAddr m r.seq + 32 + 8 * ic.1) (toLe 4 v ++ toLe 4 q)
        | none => acc.1
      (put, acc.2 ++ [c])
    let (d', cells) := ((List.range r.cells.length).zip r.cells).foldl step (d, [])
    (d', { r with cells := cells, close := if cells.all Option.isSome then some .settled else r.close })

/-- Settle what can settle in the open rows of a matrix; a row that has completed takes no more. -/
def Dev.settleMatrix (d : Dev) (m : Nat) (again : Nat → Bool) : Dev :=
  let x := d.matrix m
  let closed := x.completed
  let step (acc : Dev × List MRow × Tab (Nat × Nat × Nat)) (r : MRow) : Dev × List MRow × Tab (Nat × Nat × Nat) :=
    let p := acc.1.settleRow m r acc.2.2 again
    (p.1, acc.2.1 ++ [p.2], p.1.rowHolds m acc.2.2 p.2)
  let (d, rows, _) := (x.rows.drop closed.length).foldl step (d, [], closed.foldl (d.rowHolds m) x.holds)
  d.setMatrix m { d.matrix m with rows := closed ++ rows }

/-- Settle the open rows of every matrix; a deadline reached in the same tick applies first (R231). -/
def Dev.settleAll (d : Dev) (again : Nat → Bool) : Dev :=
  (forNums 4 (fun m d => if d.on (SAU_Mm_CFG_EN m) then (d.dueRows m).settleMatrix m again else d) d).ringsKept

/-! ### Samples (R206–R209) -/

/-- The places of the history that are kept: the 64 most recent smpCnt slots (R207). -/
def Stream.trim (x : Stream) (wrap : Nat) : Stream :=
  { x with slots := x.slots.filter (fun e => decide ((x.next + 2 * wrap - 1 - e.1) % wrap < 64)) }

/-- Whether four consecutive slots of a history are present (R208). -/
def Stream.runs (x : Stream) (wrap : Nat) : Bool :=
  x.slots.any (fun e => x.present e.1 && x.present ((e.1 + 1) % wrap) && x.present ((e.1 + 2) % wrap) && x.present ((e.1 + 3) % wrap))

/-- Whether a completed row of an enabled matrix should have used a sample with these instants (R222): by NEAREST where the instant lies
within half a period of the grid's, by LINEAR and CUBIC where it is one of the samples of R216. -/
def Dev.svLate (d : Dev) (s : Nat) (inst : Tab Int) : Bool :=
  let one : Int := 2 ^ 24
  (List.range 4).any (fun m =>
    match d.on (SAU_Mm_CFG_EN m), tget inst (d.matDom m) with
    | true, some t => (d.members m).any (fun e =>
        let p (g : Int) : Int := rndDiv ((g - t) * Int.ofNat (d.rd (SAU_S_RATE_RATE s)) * one) sec16
        let used (g : Int) : Bool := match d.memberInterp e with
          | 0 => decide (-one < 2 * p g) && decide (2 * p g ≤ one)
          | 1 => decide (-one ≤ p g) && decide (p g < one)
          | _ => decide (-one ≤ p g) && decide (p g < 3 * one)
        d.rd (SAU_E_CFG_STREAM e) == s
          && ((d.matrix m).done.any used || (d.matrix m).completed.any (fun r => used r.g)))
    | _, _ => false)

/-- Store an accepted sample (R207), or mark its slot missing (`none`; R206 check 6). -/
def Dev.svStore (d : Dev) (s c : Nat) (v : Option Sample) : Dev :=
  let wrap := d.rd (SAU_S_WRAP_WRAP s)
  let x := d.stream s
  let place (x : Stream) : Stream :=
    let anchor := match v with
      | some a => some (c, a.inst)
      | none => x.anchor
    { x with
      slots := tput x.slots c v, next := (c + 1) % wrap, anchor := anchor
      newest := match v with | some _ => anchor | none => x.newest }.trim wrap
  let primed (d : Dev) : Dev := if v.isSome then d.wr (SAU_S_STAT_NEWEST s) c else d
  let d : Dev := match d.svVerdict s c, v with
    | .first, none => d
    | .restart, none => d
    | .first, some _ => primed ((d.setStream s (place { x with slots := [] })).streamState s svPriming)
    | .next, _ => primed (d.setStream s (place x))
    | .gap k, _ =>
      let x := { x with slots := (List.range k).foldl (fun t i => tput t ((x.next + i) % wrap) none) x.slots }
      primed ((d.setStream s (place x)).incBy (SAU_S_MISSING_CNT s) k)
    | .dup, _ => d
    | .ooo, some a => (d.setStream s { x with slots := tput x.slots c (some { a with ooo := true }) }).inc (SAU_S_OOO_CNT s)
    | .ooo, none => d.setStream s { x with slots := tput x.slots c none }
    | .restart, some _ =>
      let d := (d.setStream s (place { x with slots := [] })).streamState s svPriming
      primed (((d.inc (SAU_S_RESTART_CNT s)).put (SAU_S_STAT_RESTARTED s) true).postEvent 0x0D02 sauUid (s * 2 ^ 16 + c % 2 ^ 16))
  if d.rd (SAU_S_STAT_STATE s) = svPriming ∧ (d.stream s).runs wrap then d.streamState s svRun else d

/-- One ASDU of an accepted frame (R206 checks 4–6): `i` of `n`. -/
def Dev.svAsdu (d : Dev) (f : SvFrame) (a : Asdu) (i n : Nat) : Dev :=
  let s := f.stream
  if d.rd (SAU_S_WRAP_WRAP s) ≤ a.cnt then d.inc (SAU_S_FORMAT_CNT s)
  else if d.svVerdict s a.cnt = .dup then d.inc (SAU_S_DUP_CNT s)
  else
    let unsync := match d.rd (SAU_S_CFG_SYNCMIN s) with
      | 0 => false
      | 1 => a.synch == 0
      | _ => a.synch != 2
    if unsync && d.on (SAU_S_CFG_UNSYNCDROP s) then
      ((d.inc (SAU_S_UNSYNC_CNT s)).svStore s a.cnt none).settleAll (fun _ => false)
    else match d.svPlace s a.cnt i n f.stamps with
      | none => d.inc (SAU_S_NOREF_CNT s)
      | some (inst, stale) =>
        let vals := (List.range (d.streamNch s)).map (fun j => (fieldAt a.data (8 * j) 4, fieldAt a.data (8 * j + 4) 4))
        let st := d.rd (SAU_S_STAT_STATE s)
        let late := (st == svPriming || st == svRun) && d.svLate s inst
        let isOoo := d.svVerdict s a.cnt == .ooo
        let d := d.inc (if unsync then SAU_S_UNSYNC_CNT s else SAU_S_ACCEPT_CNT s)
        let d := d.svStore s a.cnt (some ⟨vals, inst, f.arrive, unsync, false, stale⟩)
        let d := d.setStream s { d.stream s with heard := d.tb.lt }
        (d.when late (fun d => d.inc (SAU_S_LATE_CNT s))).settleAll (fun t => isOoo && t == s)

/-- A frame discarded by validation (R206): its counter and event 0x0D04 with the check. -/
def Dev.svDiscard (d : Dev) (s check : Nat) (cnt : Fld) : Dev := (d.inc cnt).postEvent 0x0D04 sauUid (s * 2 ^ 16 + check)

/-- The history of a stream has an uncorrectable ECC error: the stream restarts, and the next accepted sample sets NEXT (R231). -/
def Dev.svHistoryLost (d : Dev) (s : Nat) : Dev :=
  if d.rd (SAU_S_STAT_STATE s) = svPriming ∨ d.rd (SAU_S_STAT_STATE s) = svRun then
    let x := d.stream s
    let d := (d.setStream s { x with slots := [], anchor := none }).streamState s svPriming
    ((d.inc (SAU_S_RESTART_CNT s)).put (SAU_S_STAT_RESTARTED s) true).postEvent 0x0D09 sauUid s
  else d

/-- The unit takes the oldest frame of its queue, validates it and places its samples (R206, R207, R209); `ecc`: the history of its
stream has met an uncorrectable ECC error (R231). -/
def Dev.sampleFrame (d : Dev) (ecc : Bool) : Dev :=
  match d.sau.inq with
  | [] => d
  | f :: rest =>
    let d := { d with sau := { d.sau with inq := rest } }
    let s := f.stream
    if !d.on (SAU_S_CFG_EN s) then d
    else
      let d := forNums 4 (fun m d => d.dueRows m) (d.when ecc (fun d => d.svHistoryLost s))
      let good : Option (List Asdu) :=
        match savPdu f.bytes with
        | none => none
        | some (n, seq) =>
          match asdusOf seq with
          | none => none
          | some as =>
            if n = 0 ∨ 8 < n ∨ as.length ≠ n ∨ as.any (fun a => a.data.length != 8 * d.streamNch s
                || (a.rate.isSome && a.rate != some (d.rd (SAU_S_RATE_RATE s))) || some a.svId != (as.head?.map (·.svId))) then none
            else some as
      match good with
      | none => d.svDiscard s 1 (SAU_S_FORMAT_CNT s)
      | some as =>
        let sp := d.rd (SAU_S_CFG_SIMPOL s)
        if d.on (SAU_S_CFG_CREVEN s) && as.any (fun a => a.confRev != d.rd (SAU_S_CONFREV_CONFREV s)) then
          d.svDiscard s 2 (SAU_S_CONFREVCNT_CNT s)
        else if sp < 2 ∧ svSim f.bytes ≠ sp then d.svDiscard s 3 (SAU_S_SIM_CNT s)
        else ((List.range as.length).zip as).foldl (fun d p => d.svAsdu f p.2 p.1 as.length) d

/-- No sample accepted for TMO (R208): nothing before that time has passed. -/
def Dev.streamTimeout (d : Dev) (s : Nat) : Dev :=
  let st := d.rd (SAU_S_STAT_STATE s)
  if (st = svPriming ∨ st = svRun) ∧ (d.stream s).heard + d.rd (SAU_S_TMO_TMO s) * 1000000 * 65536 ≤ d.tb.lt then
    let d := d.setStream s { d.stream s with slots := [], anchor := none }
    ((d.streamState s svLost).postEvent 0x0D03 sauUid s).settleAll (fun _ => false)
  else d

/-! ### The grid and rows (R212, R221–R226) -/

/-- Grid instant k of whole second S (R212). -/
def Dev.gridAt (d : Dev) (m : Nat) (S : Int) (k : Nat) : Int :=
  S + rndDiv (Int.ofNat (k * sec16)) (d.rd (SAU_Mm_RATE_RATE m)) + d.rdS (SAU_Mm_PHASE_PHASE m)

/-- The first grid instant after an instant: its index and time. -/
def Dev.nextGrid (d : Dev) (m : Nat) (x : Int) : Nat × Int :=
  let sec : Int := Int.ofNat sec16
  let rate := d.rd (SAU_Mm_RATE_RATE m)
  let cands := ([-1, 0, 1] : List Int).flatMap (fun i =>
    let S := (x / sec + i) * sec
    let k0 := ((x - S - d.rdS (SAU_Mm_PHASE_PHASE m)) * Int.ofNat rate / sec).toNat
    [k0, k0 + 1, k0 + 2].filterMap (fun k => let g := d.gridAt m S k; if k < rate ∧ x < g then some (k, g) else none))
  match cands with
  | [] => (0, x + sec)
  | c :: r => r.foldl (fun b e => if e.2 < b.2 then e else b) c

/-- Whether the time of a matrix is uncertain now (R221). -/
def Dev.timeUncertain (d : Dev) (m : Nat) : Bool :=
  let n := d.matDom m
  !d.synced n || decide (d.rd (SAU_Mm_TLIM_TLIM m) < d.rd (TB_TDn_EST_EST n))

/-- Judge a matrix's time: entering and leaving the condition record event 0x0D06 (R221). -/
def Dev.sauTime (d : Dev) (m : Nat) : Dev :=
  let u := d.timeUncertain m
  if !d.on (SAU_Mm_CFG_EN m) || u == d.on (SAU_Mm_STAT_TIMEUNC m) then d
  else (d.put (SAU_Mm_STAT_TIMEUNC m) u).postEvent 0x0D06 sauUid (m * 2 ^ 24 + b01 u)

/-- Judge the time of every matrix. -/
def Dev.sauTimes (d : Dev) : Dev := forNums 4 (fun m d => d.sauTime m) d

/-- A row opens at its grid instant (R222, R224). -/
def Dev.rowOpen (d : Dev) (m : Nat) : Dev :=
  if !d.on (SAU_Mm_CFG_EN m) then d
  else
    let x := d.matrix m
    let (k, g) := d.nextGrid m x.after
    if Int.ofNat (d.domTime (d.matDom m)) < g then d
    else
      let d := d.sauTime m
      let d := d.sauWrite (d.rowAddr m x.seq) (toLe 4 0xFFFFFFFF)
      let r : MRow := {
        k := k, g := g, seq := x.seq, unc := d.on (SAU_Mm_STAT_TIMEUNC m)
        cells := List.replicate (d.rd (SAU_Mm_MEMB_MCOUNT m)) none }
      let d := d.setMatrix m { x with rows := x.rows ++ [r], after := g, seq := (x.seq + 1) % (2 ^ 32 - 1) }
      (d.settleMatrix m (fun _ => false)).ringsKept

/-- The domain reaches the deadline of the oldest row that has not yet to complete (R222). -/
def Dev.rowDeadline (d : Dev) (m : Nat) : Dev :=
  let x := d.matrix m
  match x.rows.findIdx? (fun r => r.close.isNone) with
  | none => d
  | some i =>
    match x.rows[i]? with
    | none => d
    | some r =>
      if r.g + Int.ofNat (d.rd (SAU_Mm_DEADLINE_DEADLINE m) * 1000 * 65536) ≤ Int.ofNat (d.domTime (d.matDom m)) then
        d.setMatrix m { x with rows := x.rows.set i { r with close := some .deadline } }
      else d

/-- Before a step of a domain, the rows of its matrices whose deadline it has reached are to complete at it (R222). -/
def Dev.sauDue (d : Dev) (n : Nat) : Dev :=
  forNums 4 (fun m d => d.when (d.on (SAU_Mm_CFG_EN m) && d.matDom m == n) (fun d => d.dueRows m)) d

/-- A step of a domain closes the open rows of its matrices (R231): the next row opens at the first grid instant after the new time, or,
after a backward step, after the newest row opened. -/
def Dev.sauStepped (d : Dev) (n old new : Nat) : Dev :=
  (forNums 4 (fun m d =>
    if d.on (SAU_Mm_CFG_EN m) && d.matDom m == n then
      let d := d.rowsClose m .stepped
      if old < new then d.setMatrix m { d.matrix m with after := max (d.matrix m).after (Int.ofNat (new / 2 ^ 16)) } else d
    else d) d).ringsKept

/-- The schedulers on a domain follow a step of it (R54, R137). -/
def Dev.schsStepped (d : Dev) (n : Nat) : Dev := forNums 22 (fun p d => d.when (d.rd (SCH_CFG_DOM p) == n) (fun d => d.schStepped p)) d

/-- The steps of a domain that wait for the tick boundary take effect, close rows, and pass the schedulers' instants (R36, R54, R137, R231). -/
def Dev.domainStep (d : Dev) (n : Nat) : Dev :=
  let ss := (d.dom n).steps
  if ss.isEmpty then d
  else
    (ss.foldl (fun d s =>
      let old := (d.dom n).time
      let d := (d.sauDue n).oneStep n s.1
      d.sauStepped n old (d.dom n).time) (d.setDom n { d.dom n with steps := [] })).schsStepped n

/-! ### Enables and refusals -/

/-- A refused write (R210, R214, R230). -/
def Dev.sauRefuse (d : Dev) (off : Nat) : Dev := (d.put SAU_STAT_REFUSED true).postEvent 0x0D07 sauUid off

/-- The limit of R215. -/
abbrev loadMax : Nat := 29491200

/-- Whether a stream with this MODE and REF may be enabled (R210, R215). -/
def Dev.streamEnableOk (d : Dev) (s mode ref nch : Nat) : Bool :=
  decide (d.loadIn + d.rd (SAU_S_RATE_RATE s) * nch ≤ loadMax) &&
    (mode != 2 || (ref != s && d.rd (SAU_S_CFG_MODE ref) != 2 && d.rd (SAU_S_RATE_RATE ref) == d.rd (SAU_S_RATE_RATE s)
      && d.rd (SAU_S_WRAP_WRAP ref) == d.rd (SAU_S_WRAP_WRAP s)))

/-- A stream is enabled: it enters WAIT with nothing placed (R208, R209). -/
def Dev.streamEnable (d : Dev) (s : Nat) : Dev :=
  (((d.setStream s {}).put (SAU_S_CFG_EN s) true).streamState s svWait).loadShow

/-- A stream's history is cleared; its last relation stays (R209). -/
def Dev.clearStream (d : Dev) (s : Nat) : Dev := d.setStream s { newest := (d.stream s).newest }

/-- A stream is disabled (R230): OFF, its members absent. -/
def Dev.streamDisable (d : Dev) (s : Nat) : Dev :=
  let d := (d.clearStream s).put (SAU_S_CFG_EN s) false
  ((d.streamState s svOff).loadShow).settleAll (fun _ => false)

/-- Whether some enabled stream in REF mode names a stream as its reference (R210). -/
def Dev.isReference (d : Dev) (s : Nat) : Bool :=
  (List.range 256).any (fun t => d.on (SAU_S_CFG_EN t) && d.rd (SAU_S_CFG_MODE t) == 2 && d.rd (SAU_S_CFG_REF t) == s)

/-- A write of SAU_S_CFG with its word (R208, R210, R230): a write that changes the other fields while EN is 1 is
refused. -/
def Dev.streamCfgWrite (d : Dev) (s v : Nat) : Dev :=
  let off := 0x510000 + 0x80 * s
  let wasOn := d.on (SAU_S_CFG_EN s)
  let old := d.rd (SAU_S_CFG_MODE s) * 2 + d.rd (SAU_S_CFG_NCH s) * 8 + d.rd (SAU_S_CFG_SIMPOL s) * 128
    + d.rd (SAU_S_CFG_SYNCMIN s) * 512 + d.rd (SAU_S_CFG_CREVEN s) * 2048 + d.rd (SAU_S_CFG_UNSYNCDROP s) * 4096
    + d.rd (SAU_S_CFG_REF s) * 8192 + d.rd (SAU_S_CFG_GAPMAX s) * 2 ^ 21
  let new := bits v 1 26 * 2
  let mode := bits new 1 2
  if wasOn && bit v 0 && new != old then d.sauRefuse off
  else if mode != d.rd (SAU_S_CFG_MODE s) && d.isReference s then d.sauRefuse off
  else if !wasOn && bit v 0 && !d.streamEnableOk s mode (bits new 13 8) (bits new 3 4 + 1) then d.sauRefuse off
  else
    let put (d : Dev) : Dev :=
      let d := ((d.wr (SAU_S_CFG_MODE s) mode).wr (SAU_S_CFG_NCH s) (bits new 3 4)).wr (SAU_S_CFG_SIMPOL s) (bits new 7 2)
      let d := ((d.wr (SAU_S_CFG_SYNCMIN s) (bits new 9 2)).wr (SAU_S_CFG_CREVEN s) (bits new 11 1)).wr (SAU_S_CFG_UNSYNCDROP s) (bits new 12 1)
      (d.wr (SAU_S_CFG_REF s) (bits new 13 8)).wr (SAU_S_CFG_GAPMAX s) (bits new 21 6)
    let d := if wasOn && !bit v 0 then d.streamDisable s else d
    let d := put d
    if !wasOn && bit v 0 then d.streamEnable s else d

/-- Whether a write of a stream's RATE or WRAP is refused: the stream is enabled, or is the reference of an enabled one (R210, R230). -/
def Dev.streamLocked (d : Dev) (s : Nat) (rateOrWrap : Bool) : Bool := d.on (SAU_S_CFG_EN s) || (rateOrWrap && d.isReference s)

/-- Whether a matrix may be enabled (R214, R215). -/
def Dev.matrixEnableOk (d : Dev) (m : Nat) : Bool :=
  let b := d.rd (SAU_Mm_MEMB_MBASE m)
  let n := d.rd (SAU_Mm_MEMB_MCOUNT m)
  let overlap := (List.range 4).any (fun j => j != m && d.on (SAU_Mm_CFG_EN j)
    && decide (b < d.rd (SAU_Mm_MEMB_MBASE j) + d.rd (SAU_Mm_MEMB_MCOUNT j)) && decide (d.rd (SAU_Mm_MEMB_MBASE j) < b + n))
  let bank := d.rd (SAU_Mm_RING_BANK m)
  let banks := d.rd (SAU_Mm_RING_NBANKS m) + 1
  !overlap && decide (b + n ≤ 2048)
    && (d.members m).all (fun e => decide (d.rd (SAU_E_CFG_CH e) < d.streamNch (d.rd (SAU_E_CFG_STREAM e))))
    && decide (d.rd (SAU_Mm_DEADLINE_DEADLINE m) * d.rd (SAU_Mm_RATE_RATE m) ≤ 63000000)
    && decide (d.rd (SAU_Mm_RING_ROWS m) * rowSize n ≤ banks * 0x40000) && decide (bank + banks ≤ 64)
    && (List.range banks).all (fun i => d.rd (MEM_BANKb_OWNER (bank + i)) == sauUid)
    && decide (d.loadOut + d.rd (SAU_Mm_RATE_RATE m) * n ≤ loadMax)

/-- A matrix is enabled: SEQ restarts at 0, and the first row opens at the first grid instant from now on (R212, R223, R230). -/
def Dev.matrixEnable (d : Dev) (m : Nat) : Dev :=
  let d := ((d.put (SAU_Mm_CFG_EN m) true).put (SAU_Mm_STAT_ACTIVE m) true).setMatrix m
    { after := Int.ofNat (d.domTime (d.matDom m)) - 1 }
  d.loadShow.sauTime m

/-- A write of SAU_Mm_CFG with its word (R214, R230). -/
def Dev.matrixCfgWrite (d : Dev) (m v : Nat) : Dev :=
  let off := 0x501000 + 0x100 * m
  let wasOn := d.on (SAU_Mm_CFG_EN m)
  let old := d.rd (SAU_Mm_CFG_DOM m) * 2 + d.rd (SAU_Mm_CFG_DMAEN m) * 16 + d.rd (SAU_Mm_CFG_DMACH m) * 32
  let new := bits v 1 7 * 2
  if wasOn && bit v 0 && new != old then d.sauRefuse off
  else
    let d := if wasOn && !bit v 0 then d.matrixDisable m else d
    let e := ((d.wr (SAU_Mm_CFG_DOM m) (bits new 1 3)).wr (SAU_Mm_CFG_DMAEN m) (bits new 4 1)).wr (SAU_Mm_CFG_DMACH m) (bits new 5 3)
    if !wasOn && bit v 0 then (if e.matrixEnableOk m then e.matrixEnable m else d.sauRefuse off) else e

/-- Whether a member entry lies in an enabled matrix (R230). -/
def Dev.memberLocked (d : Dev) (e : Nat) : Bool :=
  (List.range 4).any (fun m => d.on (SAU_Mm_CFG_EN m) && decide (d.rd (SAU_Mm_MEMB_MBASE m) ≤ e)
    && decide (e < d.rd (SAU_Mm_MEMB_MBASE m) + d.rd (SAU_Mm_MEMB_MCOUNT m)))

/-- A function reset of the unit (R232). -/
def Dev.sauReset (d : Dev) : Dev :=
  let d := (forNums 4 (fun m d => (d.dueRows m).rowsClose m .incomplete) d).ringsKept
  let d := forNums 8 (fun c d => d.setChan c { d.chan c with rows := [] }) d
  let d := forNums 4 (fun m d => (d.setMatrix m { d.matrix m with holds := [], rows := [] }).clrs (fnFields_SAUM m)) d
  let d := forNums 4 (fun m d =>
    let on := d.on (SAU_Mm_CFG_EN m)
    (d.put (SAU_Mm_STAT_ACTIVE m) on).put (SAU_Mm_STAT_TIMEUNC m) (on && d.timeUncertain m)) d
  let d := forNums 256 (fun s d =>
    let old := d.rd (SAU_S_STAT_STATE s)
    let on := d.on (SAU_S_CFG_EN s)
    let d := d.clrs (fnFields_SAUS s)
    if on then ((d.clearStream s).wr (SAU_S_STAT_STATE s) old).streamState s svWait else d) d
  let d := { d with sau := { d.sau with inq := [] } }.clrs fnFields_SAU
  d.resetReport 0x0D sauUid 0

end Sys2Proof.Machine
end

