-- ==== Sys2Proof/Machine/Dma.lean ====
section
/-! DEFINITION. The host DMA channels (R482–R488): rings, descriptors, transfers and their completion; and the host's notifications on
the SPI interrupt ball (R481). -/

namespace Sys2Proof.Machine

/-- A channel's unit identifier. -/
def chUid (c : Nat) : Nat := 0x008 + c

/-- The channel's own reasons (R485). -/
abbrev rsSharedBus : Nat := 0x20
abbrev rsHostErr : Nat := 0x21
abbrev rsBadChDesc : Nat := 0x22
abbrev rsRxShort : Nat := 0x23

/-- A refused write of the host interface (R477, R483). -/
def Dev.hifRefuse (d : Dev) (uid off : Nat) : Dev := (d.put HIF_STAT_REFUSED true).postEvent 0x0305 uid off

/-- The size of a ring, of which `rx` tells the receive ring (R483). -/
def Dev.ringSize (d : Dev) (c : Nat) (rx : Bool) : Nat :=
  2 ^ (if rx then d.rd (HIF_CHc_RCFG_LOG2 c) else d.rd (HIF_CHc_CCFG_LOG2 c))

/-- HEAD and TAIL of a ring. -/
def Dev.ringHead (d : Dev) (c : Nat) (rx : Bool) : Nat := if rx then d.rd (HIF_CHc_RHEAD_HEAD c) else d.rd (HIF_CHc_CHEAD_HEAD c)
def Dev.ringTail (d : Dev) (c : Nat) (rx : Bool) : Nat := if rx then d.rd (HIF_CHc_RTAIL_TAIL c) else d.rd (HIF_CHc_CTAIL_TAIL c)

/-- The register offset of a ring's TAIL. -/
def tailOff (c : Nat) (rx : Bool) : Nat := 0x9000 + 0x100 * c + if rx then 0x2C else 0x14

/-- A write of TAIL (R483): refused where more descriptors would wait than the ring holds. -/
def Dev.tailWrite (d : Dev) (c : Nat) (rx : Bool) (v : Nat) : Dev :=
  let v := v % 65536
  if d.ringSize c rx < (v + 65536 - d.ringHead c rx) % 65536 then d.hifRefuse (chUid c) (tailOff c rx)
  else if rx then d.wr (HIF_CHc_RTAIL_TAIL c) v else d.wr (HIF_CHc_CTAIL_TAIL c) v

/-! ### Descriptors (R484) -/

def HDesc.kind (h : HDesc) : Nat := bits h.w0 0 4
def HDesc.irq (h : HDesc) : Bool := bit h.w0 4
def HDesc.len (h : HDesc) : Nat := bits h.w0 8 16
def HDesc.tag (h : HDesc) : Nat := bits h.w1 0 16
def HDesc.port (h : HDesc) : Nat := bits h.w1 16 5

/-- A descriptor that cannot be carried out (R485, 0x22). -/
def HDesc.bad (h : HDesc) : Bool :=
  bits h.w0 5 3 != 0 || decide (4 ≤ h.kind) || bits h.w1 30 2 != 0 || h.len == 0 || (h.kind == 3) != h.rxRing
    || (h.kind != 2 && (bits h.w1 16 14 != 0 || bits h.w0 24 8 != 0)) || (decide (h.kind ≤ 1) && bits h.arg 24 40 != 0)
    || (h.kind == 2 && (decide (21 < h.port) || bits h.w1 25 2 == 3))

/-- A descriptor of the command ring in host memory is what 32 bytes give. -/
def hdescOf (at_ : Nat) (rx : Bool) (l : List Byte) : HDesc :=
  let w (o n : Nat) : Nat := leNat ((l.drop o).take n)
  { at_ := at_, rxRing := rx, w0 := w 0 4, w1 := w 4 4, haddr := w 8 8, arg := w 16 8 }

/-- Complete a channel's own descriptor. -/
def Dev.chComplete (d : Dev) (c : Nat) (h : HDesc) (state reason count : Nat) : Dev :=
  d.hostComplete c h.at_ h.rxRing h.irq state reason h.tag count

/-- Whether a channel works: enabled, and not halted (R486). -/
def Dev.chanRuns (d : Dev) (c : Nat) : Bool := d.on (HIF_CHc_CTRL_EN c) && !d.on (HIF_CHc_STAT_HALTED c)

/-- A ready channel fetches the next descriptor of a ring (R482, R486): the 32 bytes that the host answers, or none for an error. -/
def Dev.descFetch (d : Dev) (c : Nat) (rx : Bool) (answer : Option (List Byte)) : Dev :=
  if !d.chanRuns c || d.ringHead c rx == d.ringTail c rx then d
  else
    let head := d.ringHead c rx
    let base := if rx then d.rd (HIF_CHc_RBASE_BASE c) else d.rd (HIF_CHc_CBASE_BASE c)
    match (if d.hostReachable then answer else none) with
    | none => (d.put (HIF_CHc_STAT_HALTED c) true).postEvent 0x0303 (chUid c) (c * 2 ^ 16 + head)
    | some l =>
      let h := hdescOf (base * 64 + 32 * (head % d.ringSize c rx)) rx l
      let d := if rx then d.wr (HIF_CHc_RHEAD_HEAD c) (head + 1) else d.wr (HIF_CHc_CHEAD_HEAD c) (head + 1)
      if h.bad then d.chComplete c h stDone rsBadChDesc 0
      else
        let x := d.chan c
        d.setChan c (if rx then { x with rx := x.rx ++ [h] } else { x with cmd := x.cmd ++ [h] })

/-- Whether a channel may start a descriptor of the command ring (R482): nothing in progress, no row and no delivery that goes first. -/
def Dev.cmdReady (d : Dev) (c : Nat) : Bool :=
  let x := d.chan c
  d.chanRuns c && x.busy.isNone && x.rows.isEmpty && x.deliver.isEmpty

/-- The oldest fetched command descriptor, if it is of a kind and may start. -/
def Dev.cmdHead (d : Dev) (c kind : Nat) : Option HDesc :=
  match (d.chan c).cmd with
  | h :: _ => if d.cmdReady c && h.kind == kind then some h else none
  | [] => none

/-- A descriptor's transfer is done but for its completion. -/
def Dev.cmdDone (d : Dev) (c : Nat) (h : HDesc) (state reason count : Nat) : Dev :=
  let x := d.chan c
  (d.setChan c { x with cmd := x.cmd.drop 1, busy := some (.desc h state reason count) }).incBy (HIF_CHc_BYTES_CNT c) count

/-! ### Moving bytes -/

/-- Read shared memory for the host, 8 bytes at a time, until an error: what was read, and whether it was all. -/
def Dev.hostRead (d : Dev) (c : Nat) : Nat → Nat → Nat → Dev × List Byte × Bool
  | 0, _, n => (d, [], n == 0)
  | k + 1, a, n =>
    if n = 0 then (d, [], true)
    else
      let m := min n (8 - a % 8)
      let q := if a + m ≤ 2 ^ 24 then d.memRead 0x001 (chUid c) a m else (d, .bus)
      if q.2.good then let w := q.1.hostRead c k (a + m) (n - m); (w.1, q.2.data ++ w.2.1, w.2.2) else (q.1, [], false)

/-- Write shared memory for the host, 8 bytes at a time, until an error: how many bytes were written. -/
def Dev.hostWrite (d : Dev) (c : Nat) : Nat → Nat → List Byte → Dev × Nat
  | 0, _, _ => (d, 0)
  | k + 1, a, l =>
    if l.isEmpty then (d, 0)
    else
      let m := min l.length (8 - a % 8)
      let q := if a + m ≤ 2 ^ 24 then d.memWrite 0x001 (chUid c) a (l.take m) else (d, .bus)
      if q.2.good then let w := q.1.hostWrite c k (a + m) (l.drop m); (w.1, w.2 + m) else (q.1, 0)

/-- The bytes that reach the host before an error, if one comes (R485). -/
def Dev.toHost (d : Dev) (haddr : Nat) (l : List Byte) (err : Option Nat) : Dev × Nat × Bool :=
  let n := if d.hostReachable then (match err with | some n => min n l.length | none => l.length) else 0
  (if n = 0 then d else d.emit (.hostWrite haddr (l.take n)), n, d.hostReachable && err.isNone)

/-- A READ descriptor copies shared memory to the host (R485); `err` is the number of bytes after which the host answers an error. -/
def Dev.dmaRead (d : Dev) (c : Nat) (err : Option Nat) : Dev :=
  match d.cmdHead c 0 with
  | none => d
  | some h =>
    if !d.hostReachable then d.cmdDone c h stPartial rsHostErr 0
    else
    let q := d.hostRead c (h.len / 8 + 2) (h.arg % 2 ^ 24) h.len
    let w := q.1.toHost h.haddr q.2.1 err
    if !w.2.2 then w.1.cmdDone c h stPartial rsHostErr w.2.1
    else if q.2.2 then w.1.cmdDone c h stDone rsOk h.len else w.1.cmdDone c h stPartial rsSharedBus w.2.1

/-- A WRITE descriptor copies the host's bytes to shared memory (R485); fewer than LEN bytes are a host error after them. -/
def Dev.dmaWrite (d : Dev) (c : Nat) (data : List Byte) : Dev :=
  match d.cmdHead c 1 with
  | none => d
  | some h =>
    let l := if d.hostReachable then data.take h.len else []
    let q := d.hostWrite c (h.len / 8 + 2) (h.arg % 2 ^ 24) l
    if q.2 < l.length then q.1.cmdDone c h stPartial rsSharedBus q.2
    else if l.length < h.len then q.1.cmdDone c h stPartial rsHostErr q.2 else q.1.cmdDone c h stDone rsOk h.len

/-- A TX descriptor fetches its frame and hands it to the scheduler of PORT (R485). -/
def Dev.dmaTx (d : Dev) (c : Nat) (data : List Byte) : Dev :=
  match d.cmdHead c 2 with
  | none => d
  | some h =>
    let l := if d.hostReachable then data.take h.len else []
    if l.length < h.len then d.cmdDone c h stPartial rsHostErr l.length
    else
      let x := d.chan c
      let d := (d.setChan c { x with cmd := x.cmd.drop 1 }).incBy (HIF_CHc_BYTES_CNT c) h.len
      let d := d.chComplete c h stFetched rsOk 0
      d.handTo h.port {
        bytes := l, tc := bits h.w1 21 3, ltv := bit h.w1 24, launch := h.arg, latepol := bits h.w1 25 2, ksv := bit h.w1 27,
        kslot := bits h.w0 24 8, osreq := bit h.w1 28, drreq := bit h.w1 29, tag := h.tag, origin := .dma c h.at_ h.irq }

/-! ### Deliveries and rows -/

/-- The fabric delivers a cell (tint word and frame) of its packet buffer's frame `held` to a channel (R485); false when the delivery is
refused, as it is on a channel that is disabled or halted. -/
def Dev.dmaDeliver (d : Dev) (c held : Nat) (cell : List Byte) : Dev × Bool :=
  let x := d.chan c
  match d.chanRuns c, x.rx with
  | false, _ => (d, false)
  | _, [] => (d, false)
  | _, h :: r =>
    if h.len < cell.length then ((d.setChan c { x with rx := r }).chComplete c h stDone rsRxShort 0, false)
    else (d.setChan c { x with rx := r, deliver := x.deliver ++ [(h, cell, held)] }, true)

/-- A delivered frame is moved into its buffer, and leaves the packet buffer (R96). -/
def Dev.rxbuf (d : Dev) (c : Nat) (err : Option Nat) : Dev :=
  let x := d.chan c
  match x.deliver with
  | (h, l, held) :: r =>
    if x.busy.isNone && x.rows.isEmpty && d.chanRuns c then
      let w := d.toHost h.haddr l err
      let x := w.1.chan c
      let good := w.2.2
      let work := Work.desc h (if good then stDone else stPartial) (if good then rsOk else rsHostErr) w.2.1
      ((w.1.setChan c { x with deliver := r, busy := some work }).incBy (HIF_CHc_BYTES_CNT c) w.2.1).releaseHeld held
    else d
  | [] => d

/-- The oldest row transfer of a channel moves (R226, R482). -/
def Dev.rowTransfer (d : Dev) (c : Nat) (err : Option Nat) : Dev :=
  let x := d.chan c
  match x.rows with
  | r :: rest =>
    if x.busy.isNone && d.chanRuns c then
      let q := if d.hostReachable then d.hostRead c (r.len / 8 + 2) r.src r.len else (d, [], false)
      let w := q.1.toHost r.haddr q.2.1 err
      let x := w.1.chan c
      (w.1.setChan c { x with rows := rest, busy := some (.row r (w.2.2 && q.2.2)) }).incBy (HIF_CHc_BYTES_CNT c) w.2.1
    else d
  | [] => d

/-- The last part of a transfer has finished (R485, R486, R226): the completion word and the vector, or the row's notification. -/
def Dev.transferComplete (d : Dev) (c : Nat) : Dev :=
  let x := d.chan c
  match x.busy with
  | none => d
  | some (.desc h st rs n) => (d.setChan c { x with busy := none }).chComplete c h st rs n
  | some (.row r good) =>
    let d := d.setChan c { x with busy := none }
    let d := d.when (!good) (fun d => (d.inc (HIF_CHc_ROWERR_CNT c)).postEvent 0x0302 (chUid c) (c * 2 ^ 16 + r.matrix))
    d.when r.note (fun d => d.rowNotify r.matrix)

/-- A function reset of a channel (R487, R438). -/
def Dev.channelReset (d : Dev) (c : Nat) : Dev :=
  let x := d.chan c
  let d := d.setChan c {}
  let d := match x.busy with
    | some (.desc h _ _ n) => d.chComplete c h stPartial rsOk n
    | _ => d
  let hs := x.deliver.map (·.1) ++ x.rx ++ x.cmd
  let d := x.deliver.foldl (fun d e => d.releaseHeld e.2.2) d
  let d := hs.foldl (fun d h => d.chComplete c h stAborted rsOk 0) d
  let n := hs.length + (match x.busy with | some (.desc _ _ _ _) => 1 | _ => 0)
  (d.clrs (fnFields_CH c)).resetReport 0x03 (chUid c) n

/-- The SPI_IRQ_N ball is asserted (R481). -/
def Dev.spiIrq (d : Dev) : Bool :=
  d.on HIF_CFG_SPIIRQ && (List.range 8).any (fun i => d.rd (HIF_PENDi_PEND i) &&& d.rd (HIF_SPIMASKi_MASK i) != 0)

end Sys2Proof.Machine
end

