-- ==== Sys2Proof/Machine/Express.lean ====
section
/-! DEFINITION. The ingress pipeline (R14): authentication of received frames (R107–R109), and the express rules with their mordants
(R111–R116, R139). -/

namespace Sys2Proof.Machine

/-! ### Authentication -/

/-- The AUTH codes of the tint word (R86). -/
abbrev authNone : Nat := 0
abbrev authPass : Nat := 1
abbrev authFail : Nat := 2
abbrev authNoKey : Nat := 3
abbrev authUnsupp : Nat := 4
abbrev authNotChecked : Nat := 5

/-- The key slot that verifies a frame (R108): the lowest-numbered usable one with the frame's key identifier. -/
def Dev.keyFor (d : Dev) (p : Nat) (l : List Byte) : Option Nat :=
  (List.range 256).find? (fun k => d.rd (KS_KEYID_KEYID k) == Config.authKeyId l && d.keyUsable k p)

/-- The key that a slot held at an instant `ago` ticks before this one (R109). -/
def Dev.keyAt (d : Dev) (k ago : Nat) : Nat :=
  let later := d.fab.oldKeys.filter (fun e => e.1 == k && decide (d.tb.lt < e.2.1 + ago * tick16))
  (later.getLast?.map (·.2.2)).getD (tgetD d.fab.keys k 0)


/-- The AUTH verdict of a frame that arrived whole and whose first byte came `ago` ticks before this one (R107–R109); one that a reset of
authentication met gets FAIL (R117). -/
def Dev.authVerdict (d : Dev) (p ago : Nat) (l : List Byte) : Dev × Nat :=
  if !d.on (FAB_PCFG_AUTHEN p) then (d, authNotChecked)
  else if !Config.authPresent l then (d, authNone)
  else if !Config.authHandled l then (d, authUnsupp)
  else
    match d.keyFor p l with
    | none => (d, authNoKey)
    | some k =>
      if Config.authGood (d.rd (KS_CFG_ALG k)) (d.rd (KS_CFG_TAGLEN k)) (d.keyAt k ago) l && !d.cameAfter d.fab.authRst ago then
        (d, authPass)
      else ((d.inc (KS_STAT_FAILCNT k)).postEvent 0x0903 0x0A2 (p * 2 ^ 16 + k), authFail)

/-! ### Express rules -/

/-- Whether a rule looks at a frame on a port, by ETYPE, APPID and destination (R111). -/
def Dev.xrLooks (d : Dev) (x p : Nat) (l : List Byte) : Bool :=
  d.on (XR_CFG_EN x) && bit (d.rd (XR_PORTS_PORTS x)) p && etherType l == d.rd (XR_APPID_ETYPE x)
    && fieldAt l (etherOff l + 2) 2 == d.rd (XR_APPID_APPID x)
    && (!d.on (XR_CFG_DMACEN x) || dstMac l == d.rd (XR_DMAC_H_DMAC x) * 2 ^ 32 + d.rd (XR_DMAC_L_DMAC x))

/-- Whether a rule's gocbRef and confRev criteria have not failed; what the walk did not reach has not (R111, R112). -/
def Dev.xrCriteria (d : Dev) (x : Nat) (g : Goose) : Bool :=
  (!d.on (XR_CFG_GOCBEN x) || (match g.gocbRef with | some b => crcNum b == d.rd (XR_GOCB_GOCB x) | none => true))
    && (!d.on (XR_CFG_CREVEN x) || (match g.confRev with | some v => v == d.rd (XR_CONFREV_CONFREV x) | none => true))

/-- Element `i` of allData, counted from 1. -/
def Goose.elem (g : Goose) (i : Nat) : Option (Nat × List Byte) := if i = 0 ∨ 64 < i then none else g.elems[i - 1]?

/-- Condition j of a rule holds, or is off (R113). -/
def Dev.xrCond (d : Dev) (x j : Nat) (g : Goose) : Bool :=
  let idx := d.rd (XR_CONDj_IDX x j)
  if idx = 0 then true
  else
    match g.elem idx with
    | none => false
    | some (t, c) =>
      t == d.rd (XR_CONDj_TAG x j) &&
        match gooseValue t c with
        | none => false
        | some v =>
          let m := v &&& d.rd (XR_CONDM_MASK x j)
          match d.rd (XR_CONDj_OP x j) with
          | 0 => m == d.rd (XR_CONDV_VAL x j)
          | 1 => m != d.rd (XR_CONDV_VAL x j)
          | 2 => m != 0
          | _ => m == 0

/-- A policy on a flag (R115). -/
def policyPass (pol : Nat) (flag : Bool) : Bool := pol == 2 || (pol == 0 && !flag) || (pol == 1 && flag)

/-- The quality, test and simulation policies of a rule pass (R115). -/
def Dev.xrQuality (d : Dev) (x : Nat) (g : Goose) : Bool :=
  let sim := policyPass (d.rd (XR_CFG_SIMPOL x)) (g.sim.getD false)
  let qi := d.rd (XR_CFG_QIDX x)
  if qi = 0 then sim && policyPass (d.rd (XR_CFG_TESTPOL x)) false
  else
    match g.elem qi with
    | some (0x84, c) =>
      let v := (gooseValue 0x84 c).getD 0
      sim && (!d.on (XR_CFG_QVAL x) || bits v 30 2 == 0) && policyPass (d.rd (XR_CFG_TESTPOL x)) (bit v 20)
    | _ => false

/-- A rule fires on a port (R116, R139). -/
def Dev.xrFire (d : Dev) (x p : Nat) : Dev :=
  let d := (d.inc (XR_FIRECNT_FIRECNT x)).postEvent 0x0901 0x0A3 (p * 2 ^ 16 + x)
  let d := d.when (d.on (SCH_MORDx_DDEN x)) (fun d => d.expressFire (d.rd (SCH_MORDx_DDPIN x)))
  d.when (d.on (SCH_MORDx_SFEN x)) (fun d => d.raiseFlag (d.rd (SCH_MORDx_SFGRP x)) (d.rd (SCH_MORDx_SFNUM x)))

/-- One rule's instance on a port judges a frame with a good FCS verdict (R112–R114); whether it fired. -/
def Dev.xrJudge (d : Dev) (x p : Nat) (l : List Byte) (auth : Nat) (g : Goose) : Dev × Bool :=
  if !d.xrLooks x p l || !d.xrCriteria x g then (d, false)
  else if g.malformed then ((d.inc (XR_MALF_MALF x)).postEvent 0x0902 0x0A3 (p * 2 ^ 16 + x), false)
  else if d.on (XR_CFG_AUTHREQ x) && auth != authPass then (d, false)
  else
    let st := g.stNum.getD 0
    let old := tget d.fab.lastSt (64 * p + x)
    let d := { d with fab := { d.fab with lastSt := tput d.fab.lastSt (64 * p + x) st } }
    if (List.range 4).all (fun j => d.xrCond x j g) && d.xrQuality x g && (!d.on (XR_CFG_NSO x) || old != some st) then (d.xrFire x p, true)
    else (d, false)

/-- Every rule's instance on a port judges a frame whose first byte came `ago` ticks before this one; the rules that fired, in rising order.
A frame that a reset of the express rules met fires none (R117). -/
def Dev.expressRun (d : Dev) (p ago : Nat) (l : List Byte) (auth : Nat) : Dev × List Nat :=
  let g := gooseWalk l (etherOff l)
  if d.cameAfter d.fab.xrRst ago then (d, [])
  else
    (List.range 64).foldl (fun acc x =>
      let q := acc.1.xrJudge x p l auth g
      (q.1, if q.2 then acc.2 ++ [x] else acc.2)) (d, [])

end Sys2Proof.Machine
end

