-- ==== Sys2Proof/Machine/Redundancy.lean ====
section
/-! DEFINITION. The redundancy unit (R102–R106): instances and their ports, duplicate windows, tags, and the frames that local sources send
to an instance. -/

namespace Sys2Proof.Machine

/-- Roles of an instance (R102). -/
abbrev riDanp : Nat := 1
abbrev riDanh : Nat := 2
abbrev riPrpBox : Nat := 3
abbrev riHsrBox : Nat := 4
abbrev riQuad : Nat := 5

/-- The ports that a role uses, by side: A, B, C, D. -/
def redSides (role : Nat) : Nat :=
  match role with
  | 0 => 0
  | 1 => 2
  | 2 => 2
  | 3 => 3
  | 4 => 3
  | 5 => 4
  | _ => 0

/-- Whether a role is one of PRP. -/
def redPrp (role : Nat) : Bool := role == riDanp || role == riPrpBox

/-- An instance's role. -/
def Dev.redRole (d : Dev) (i : Nat) : Nat := d.rd (RED_CFG_ROLE i)

/-- The port of a side of an instance. -/
def Dev.redPort (d : Dev) (i side : Nat) : Nat :=
  match side with
  | 0 => d.rd (RED_CFG_PORTA i)
  | 1 => d.rd (RED_CFG_PORTB i)
  | 2 => d.rd (RED_CFG_PORTC i)
  | _ => d.rd (RED_CFG_PORTD i)

/-- The instance and side that a port belongs to. -/
def Dev.redOf (d : Dev) (p : Nat) : Option (Nat × Nat) :=
  ((List.range 4).map (fun i => (List.range (redSides (d.redRole i))).map (fun s => (i, s)))).flatten.find?
    (fun e => d.redPort e.1 e.2 == p)

/-- Whether a side carries tagged frames: a LAN or a ring, not an interlink. -/
def Dev.redLan (d : Dev) (i side : Nat) : Bool := decide (side < 2) || d.redRole i == riQuad

/-- The ports of an instance on the LANs or the ring that a side belongs to. -/
def Dev.redPair (d : Dev) (i side : Nat) : List Nat :=
  if side < 2 then [d.redPort i 0, d.redPort i 1] else [d.redPort i 2, d.redPort i 3]

/-- The other port of a side's pair. -/
def Dev.redPartner (d : Dev) (i side : Nat) : Nat := d.redPort i (if side % 2 = 0 then side + 1 else side - 1)

/-- The sequence number of a frame's tag on an instance, where it carries one (R104). -/
def Dev.redTag (d : Dev) (i : Nat) (l : List Byte) : Option Nat :=
  if redPrp (d.redRole i) then (rctOf l).map (·.1)
  else if hasHsr l then some (fieldAt l (etherOff l + 4) 2) else none

/-- A source is the node itself or one it proxies (R105). -/
def Dev.redOwn (d : Dev) (i mac : Nat) : Bool :=
  (List.range (redSides (d.redRole i))).any (fun s => Config.portMac (d.redPort i s) % 2 ^ 48 == mac)
    || d.fab.proxies.any (fun e => e.1 / 512 == i && e.2 == mac)

/-! ### Duplicate windows (R104) -/

/-- DUP verdicts as the tint word codes them (R86). -/
abbrev dupNone : Nat := 0
abbrev dupFirst : Nat := 1
abbrev dupDuplicate : Nat := 2
abbrev dupUntracked : Nat := 3

/-- One window judges a sequence number: the window after it, the verdict, and whether it was out of the window. -/
def DupWin.judge (w : Option DupWin) (seq : Nat) : DupWin × Nat × Bool :=
  match w with
  | none => (⟨seq, 1⟩, dupFirst, false)
  | some w =>
    let d := (seq + 65536 - w.base) % 65536
    if 1 ≤ d ∧ d ≤ 32767 then (⟨seq, (w.win * 2 ^ d) % 2 ^ 128 / 2 * 2 + 1⟩, dupFirst, false)
    else
      let b := (w.base + 65536 - seq) % 65536
      if b < 128 then
        if bit w.win b then (w, dupDuplicate, false) else (⟨w.base, setBits w.win b 1 1⟩, dupFirst, false)
      else (w, dupFirst, true)

/-- One forget time of an instance, in units of 2^-16 ns. -/
def Dev.redForget (d : Dev) (i : Nat) : Nat := d.rd (RED_FORGET_FORGET i) * 1000000 * 65536

/-- The entry number that a new source takes: the lowest free one, else the lowest unseen for FORGET. -/
def Dev.nodeFree (d : Dev) (i : Nat) : Option Nat :=
  match (List.range 2048).find? (fun n => (tget d.fab.nodes (2048 * i + n)).isNone) with
  | some n => some (2048 * i + n)
  | none =>
    (d.fab.nodes.find? (fun e => e.1 / 2048 == i && decide (d.redForget i < d.tb.lt - e.2.last))).map (·.1)

/-- The windows of an instance judge a source's sequence number (R104); the verdict of the first of them and of the second. A frame that
finds the table full counts once, also where two windows judge it (DESIGN CHOICE, notes/assumptions/69). -/
def Dev.redJudge (d : Dev) (i mac seq : Nat) (wins : List Nat) : Dev × List Nat :=
  let found := d.fab.nodes.find? (fun e => e.1 / 2048 == i && e.2.mac == mac)
  let slot := match found with
    | some e => some e.1
    | none => d.nodeFree i
  match slot with
  | none => ((d.inc (RED_NODEFULL_CNT i)).postEvent 0x0907 0x0A1 i, wins.map (fun _ => dupUntracked))
  | some k =>
    let old := match found with
      | some e => if d.redForget i < d.tb.lt - e.2.last then [] else e.2.wins
      | none => []
    let r := wins.foldl (fun (acc : Tab DupWin × List Nat × Nat) w =>
      let q := DupWin.judge (tget acc.1 w) seq
      (tput acc.1 w q.1, acc.2.1 ++ [q.2.1], acc.2.2 + b01 q.2.2)) (old, [], 0)
    let d := { d with fab := { d.fab with nodes := tput d.fab.nodes k ⟨mac, d.tb.lt, r.1⟩ } }
    (d.incBy (RED_OOW_CNT i) r.2.2, r.2.1)

/-! ### Sending to an instance (R103) -/

/-- A frame as it goes to a side of an instance, tagged with a sequence number; false where the RCT did not fit. -/
def Dev.redTagged (d : Dev) (i side seq : Nat) (l : List Byte) : List Byte × Bool :=
  if redPrp (d.redRole i) then
    let t := addRct (padMin l) seq (0xA + side)
    if d.rd (PRT_CFG_MAXLEN (d.redPort i side)) < t.length + 4 then (l, false) else (t, true)
  else (addHsr l seq (side % 2), true)

/-- Every port that a frame sent to a side of an instance goes to, with its bytes; and how many went without an RCT. -/
def Dev.redSend (d : Dev) (i side : Nat) (l : List Byte) : List (Nat × List Byte) × Nat :=
  let seq := d.rd (RED_SEQ_SEQ i)
  let s := if side < 2 then 0 else 2
  let a := d.redTagged i s seq l
  let b := d.redTagged i (s + 1) seq l
  ([(d.redPort i s, a.1), (d.redPort i (s + 1), b.1)], b01 (!(a.2 && b.2)))

/-- The sequence number of an instance goes on, and a frame that went without an RCT is counted. -/
def Dev.redSent (d : Dev) (i norct : Nat) : Dev := (d.wr (RED_SEQ_SEQ i) ((d.rd (RED_SEQ_SEQ i) + 1) % 65536)).incBy (RED_NORCT_CNT i) norct

/-- Whether a descriptor comes from a local source. -/
def Desc.isLocal (x : Desc) : Bool :=
  match x.origin with
  | .fabric _ => false
  | .copy => false
  | _ => true

/-- The side of an instance to both of whose ports a local frame for a port goes (R103). -/
def Dev.redTarget (d : Dev) (p : Nat) (x : Desc) : Option (Nat × Nat) :=
  (if x.isLocal then d.redOf p else none).filter (fun e => d.redLan e.1 e.2)

/-- A class queue is full, and its head is to start in this tick: a push of this cycle takes the slot that the pop frees (R144). -/
def Dev.popsNow (d : Dev) (p c : Nat) : Bool :=
  decide (256 ≤ (d.classQ p c).length) && !d.on SUP_STAT_FAULT && d.yields p && d.portUp p && d.plcaOpen p && (d.port p).own.isEmpty && d.nextClass p == some c && !d.preReady p c

/-- A scheduler takes the oldest descriptor handed over (R120); a local frame for a LAN or ring port of an instance goes to both (R103). A
pop of this cycle goes first (R144). -/
def Dev.handoverNext (d : Dev) (p : Nat) : Dev :=
  match (d.port p).hand with
  | [] => d
  | x :: r =>
    let target := d.redTarget p x
    let ports := match target with
      | some (i, side) => d.redPair i side
      | none => [p]
    if ports.any (fun e => d.popsNow e x.tc) then d
    else
      let d := d.setPort p { d.port p with hand := r }
      match target with
      | some (i, side) =>
        let q := d.redSend i side x.bytes
        q.1.foldl (fun d e =>
          d.handover1 e.1 (if e.1 = p then { x with bytes := e.2 } else { x with bytes := e.2, origin := .copy })) (d.redSent i q.2)
      | none => d.handover1 p x

/-- A write of RED_CFG (R102): refused where it gives a port to a second instance. A number outside P0–P19, which the field can hold, is
stored as any other (DESIGN CHOICE, notes/assumptions/69). -/
def Dev.redCfgBad (d : Dev) (i v : Nat) : Bool :=
  let role := bits v 0 3
  let ports := (List.range (redSides role)).map (fun s => bits v (3 + 5 * s) 5)
  (List.range 4).any (fun j => j != i && (List.range (redSides (d.redRole j))).any (fun s => ports.contains (d.redPort j s)))

end Sys2Proof.Machine
end

