-- ==== Sys2Proof/Machine/Fabric.lean ====
section
/-! DEFINITION. The forwarding fabric (spec/04): tint word (R86, R87), VLANs and bridging (R92–R95), classifier rules (R88–R90), buffer
admission (R96), cut-through (R97–R100), disposition and delivery (R15, R91, R101), tables, and the fabric's resets (R117). -/

namespace Sys2Proof.Machine

/-! ### A frame in the fabric -/

/-- What is known of a received frame: port, bytes without the FCS, length with it, receive stamp, the instant of LT at which its start
crossed the medium boundary, classification VID and PCP, whether a VID tag stands in it, its instance and side, DUP, whether it has come back to its originator, whether it may go on around
its ring, and AUTH. -/
structure Rx where
  p : Nat
  l : List Byte
  len : Nat
  stamp : Stamp
  med : Int
  vid : Nat
  pcp : Nat
  tagged : Bool
  red : Option (Nat × Nat) := none
  dup : Nat := 0
  own : Bool := false
  ringOn : Bool := false
  auth : Nat := 5
deriving DecidableEq, Repr

/-- The C-VLAN tag of a frame: PCP and VID. -/
def ctag (l : List Byte) : Option (Nat × Nat) :=
  if fieldAt l 12 2 = 0x8100 then some (fieldAt l 14 2 / 8192, fieldAt l 14 2 % 4096) else none

/-- A frame enters: its classification VID and PCP (R89, R93). -/
def Dev.rxOf (d : Dev) (p : Nat) (l : List Byte) (len : Nat) (stamp : Stamp) (med : Int) : Rx :=
  let x : Rx := {
    p := p, l := l, len := len, stamp := stamp, med := med, vid := d.rd (FAB_PCFG_PVID p), pcp := d.rd (FAB_PCFG_DEFPRI p), tagged := false }
  match ctag l with
  | some (pcp, v) => { x with vid := if v = 0 then x.vid else v, pcp := pcp, tagged := v != 0 }
  | none => x

/-- The VLAN entry of a VID. -/
def Dev.vlan (d : Dev) (v : Nat) : Option Vlan := if v = 4095 then none else tget d.fab.vlans v

/-- A frame passes VLAN ingress (R85, R93). -/
def Dev.vlanOk (d : Dev) (x : Rx) : Bool :=
  let acc := d.rd (FAB_PCFG_ACCEPT x.p)
  (acc == 0 || (acc == 1 && x.tagged) || (acc == 2 && !x.tagged))
    && match d.vlan x.vid with
       | some v => !d.on (FAB_PCFG_INGFILT x.p) || bit v.members x.p
       | none => false

/-- The redundancy stage (R104, R105): tag, own frames, windows. -/
def Dev.redStage (d : Dev) (x : Rx) : Dev × Rx :=
  match d.redOf x.p with
  | none => (d, x)
  | some (i, side) =>
    let x := { x with red := some (i, side) }
    if !d.redLan i side then (d, x)
    else
      match d.redTag i x.l with
      | none => (d, x)
      | some seq =>
        let odd := side % 2 == 1
        let d := d.inc (if odd then RED_RXB_CNT i else RED_RXA_CNT i)
        let lan := ((rctOf x.l).map (·.2)).getD 0
        let wrong := redPrp (d.redRole i) && lan != 0xA + side % 2
        let d := d.when wrong (fun d =>
          (d.inc (if odd then RED_WRONGLAN_B_CNT i else RED_WRONGLAN_A_CNT i)).postEvent 0x0906 0x0A1 (i * 2 ^ 16 + b01 odd))
        let hsr := !redPrp (d.redRole i)
        if hsr && d.redOwn i (srcMac x.l) then (d.inc (RED_OWNRET_CNT i), { x with own := true })
        else
          let q := d.redJudge i (srcMac x.l) seq (if hsr then [0, 1 + side] else [0])
          let ringOn := hsr && q.2.getD 1 0 == dupFirst
            && !(d.rd (RED_CFG_HSRMODE i) == 0 && !isGroup (dstMac x.l) && d.redOwn i (dstMac x.l))
          (q.1, { x with dup := q.2.getD 0 0, ringOn := ringOn })

/-! ### Classifier rules (R88, R89) -/

/-- A rule matches a frame in all but its compared word. -/
def Dev.clFields (d : Dev) (c : Nat) (x : Rx) : Bool :=
  let mask := d.rd (CL_DMASK_H_DMASK c) * 2 ^ 32 + d.rd (CL_DMASK_L_DMASK c)
  let want := d.rd (CL_DMAC_H_DMAC c) * 2 ^ 32 + d.rd (CL_DMAC_L_DMAC c)
  d.on (CL_CFG_EN c) && bit (d.rd (CL_PORTS_PORTS c)) x.p && (dstMac x.l &&& mask) == (want &&& mask)
    && (innerType x.l &&& d.rd (CL_ETYPE_MASK c)) == (d.rd (CL_ETYPE_VALUE c) &&& d.rd (CL_ETYPE_MASK c))
    && (!d.on (CL_VLAN_VIDEN c) || x.vid == d.rd (CL_VLAN_VID c)) && (!d.on (CL_VLAN_PCPEN c) || x.pcp == d.rd (CL_VLAN_PCP c))

/-- A rule's compared word matches; bytes of it that lie past the end of the frame read 0 (DESIGN CHOICE, notes/assumptions/69). -/
def Dev.clWord (d : Dev) (c : Nat) (x : Rx) : Bool :=
  let m := d.rd (CL_WMASK_WMASK c)
  (fieldAt x.l (innerOff x.l + 2 + d.rd (CL_WORD_OFF c)) 4 &&& m) == (d.rd (CL_WVAL_WVAL c) &&& m)

/-- The rule that applies: the lowest-numbered that matches. -/
def Dev.ruleOf (d : Dev) (x : Rx) : Option Nat := (List.range 256).find? (fun c => d.clFields c x && d.clWord c x)

/-- The rules that may apply when the header has been parsed, the default among them where none is sure (R98). -/
def Dev.ruleCandidates (d : Dev) (x : Rx) : List (Option Nat) :=
  let cs := (List.range 256).filter (fun c => d.clFields c x)
  let sure (c : Nat) : Bool := d.rd (CL_WMASK_WMASK c) == 0
  match cs.find? sure with
  | some k => (cs.takeWhile (fun c => !sure c) ++ [k]).map some
  | none => cs.map some ++ [none]

/-! ### Bridging (R93–R95) -/

/-- The static entry of a destination. -/
def Dev.staticOf (d : Dev) (x : Rx) : Option StaticFdb :=
  match d.vlan x.vid with
  | some v => (d.fab.statics.find? (fun e => e.2.mac == dstMac x.l && e.2.fid == v.fid)).map (·.2)
  | none => none

/-- The hash set of an address and FID (R94). -/
def fdbSet (mac fid : Nat) : Nat := crcNum (toBe 6 mac ++ toBe 1 fid) % 4096

/-- The learned entry of an address, by its index. -/
def Dev.learnedOf (d : Dev) (mac fid : Nat) : Option (Nat × LearnedFdb) :=
  ((List.range 4).map (fun w => fdbSet mac fid * 4 + w)).findSome? (fun k =>
    (tget d.fab.learned k).bind (fun e => if e.mac = mac ∧ e.fid = fid then some (k, e) else none))

/-- Whether a frame is to one of the addresses that are never forwarded (R95). -/
def neverForwarded (l : List Byte) : Bool := dstMac l / 16 == 0x0180C200000

/-- The ports that bridging finds for a frame, as a mask, before port states (R95). -/
def Dev.bridgeMask (d : Dev) (x : Rx) : Nat :=
  match d.vlan x.vid with
  | none => 0
  | some v =>
    match d.staticOf x, d.learnedOf (dstMac x.l) v.fid with
    | some e, _ => e.ports
    | none, some (_, e) => if isGroup (dstMac x.l) then v.members else 2 ^ e.port
    | none, none => v.members

/-- Whether bridging decides a frame's destination under a rule (R89, R95). -/
def Dev.bridged (d : Dev) (x : Rx) (rule : Option Nat) : Bool :=
  !neverForwarded x.l && match rule with
    | some c => d.rd (CL_CFG_FWD c) == 0
    | none => true

/-- A frame's traffic class under a rule (R89). -/
def Dev.classOf (d : Dev) (x : Rx) (rule : Option Nat) : Nat :=
  let byPcp := bits (d.rd (FAB_PCP2TC_MAP x.p)) (3 * x.pcp) 3
  let byFdb := match d.staticOf x with
    | some e => if e.tcen && d.bridged x rule then e.tc else byPcp
    | none => byPcp
  match rule with
  | some c => if d.on (CL_CFG_TCEN c) then d.rd (CL_CFG_TC c) else byFdb
  | none => byFdb

/-- The learned table takes a frame's source (R94). -/
def Dev.learn (d : Dev) (x : Rx) : Dev :=
  match d.vlan x.vid with
  | none => d
  | some v =>
    if !d.on (FAB_PCFG_LEARN x.p) || d.rd (FAB_PCFG_PSTATE x.p) == 0 then d
    else
      let mac := srcMac x.l
      let put (k : Nat) : Dev :=
        { d with fab := { d.fab with learned := tput d.fab.learned k ⟨mac, v.fid, x.p, d.tb.lt⟩ } }
      match d.learnedOf mac v.fid with
      | some (k, _) => put k
      | none =>
        match (List.range 4).find? (fun w => (tget d.fab.learned (fdbSet mac v.fid * 4 + w)).isNone) with
        | some w => put (fdbSet mac v.fid * 4 + w)
        | none => ((d.inc FAB_LEARNMISS_CNT).put FAB_STAT_LEARNFULL true).postEvent 0x0905 0x0A0 (fdbSet mac v.fid)

/-- A learned entry that was not refreshed in FAB_AGE is removed (R94). -/
def Dev.ageOut (d : Dev) (k : Nat) : Dev :=
  match tget d.fab.learned k with
  | some e =>
    let age := d.rd FAB_AGE_AGE
    if age ≠ 0 ∧ e.seen + age * sec16 ≤ d.tb.lt then { d with fab := { d.fab with learned := tdel d.fab.learned k } } else d
  | none => d

/-! ### Where a frame goes -/

/-- A supervision frame of an instance (R106). -/
def Dev.isSupervision (d : Dev) (i : Nat) (l : List Byte) : Bool := dstMac l == 0x01154E000100 + d.rd (RED_SUP_SUPLAST i)

/-- A frame as bridging sends it on a port: its VLAN tag by the untag mask (R95). -/
def Dev.vlanOut (d : Dev) (x : Rx) (e : Nat) (l : List Byte) : List Byte :=
  match d.vlan x.vid with
  | none => l
  | some v =>
    let bare := dropVlan l
    if bit v.untag e then (if (ctag l).isSome then padMin bare else l)
    else if x.tagged then l
    else if (ctag l).isSome then addVlan bare x.pcp x.vid else addVlan l x.pcp x.vid

/-- A frame without the tag of the LAN or ring it came from. -/
def Dev.untagged (d : Dev) (x : Rx) : List Byte :=
  match x.red with
  | some (i, side) =>
    if d.redLan i side && (d.redTag i x.l).isSome then
      if redPrp (d.redRole i) then padMin (x.l.take (x.l.length - 6)) else padMin (dropHsr x.l)
    else x.l
  | none => x.l

/-- Whether frames may be sent on a port: it is forwarding, and its link is up (R65, R95). -/
def Dev.canEgress (d : Dev) (e : Nat) : Bool := d.rd (FAB_PCFG_PSTATE e) == 2 && d.on (PRT_STAT_LINK e)

/-- The ports a frame goes to under a rule by bridging and port states, as a mask (R65, R89, R95). -/
def Dev.fwdMask (d : Dev) (x : Rx) (rule : Option Nat) : Nat :=
  let base := match rule with
    | some c =>
      if d.on (CL_CFG_AUTHFWD c) && x.auth != authPass then 0
      else if d.rd (CL_CFG_FWD c) = 1 then 0
      else if d.rd (CL_CFG_FWD c) = 2 then d.rd (CL_FWDPORTS_FWDPORTS c)
      else d.bridgeMask x
    | none => d.bridgeMask x
  if d.rd (FAB_PCFG_PSTATE x.p) ≠ 2 ∨ neverForwarded x.l then 0
  else ((List.range 22).filter (fun e => bit base e && e != x.p && d.canEgress e)).foldl (fun n e => n + 2 ^ e) 0

/-- Whether a rule lets a frame go on around its ring. -/
def Dev.ringAllowed (d : Dev) (x : Rx) (rule : Option Nat) (e : Nat) : Bool :=
  d.rd (FAB_PCFG_PSTATE x.p) == 2 && d.canEgress e && !neverForwarded x.l &&
    match rule with
    | some c =>
      !(d.on (CL_CFG_AUTHFWD c) && x.auth != authPass) && d.rd (CL_CFG_FWD c) != 1
        && (d.rd (CL_CFG_FWD c) != 2 || bit (d.rd (CL_FWDPORTS_FWDPORTS c)) e)
    | none => true

/-- The copies that leave: port and bytes, by ports outside any LAN or ring, by the ring the frame came on, and by the instances it is
sent to; with the instances whose RED_SEQ it uses (R95, R103, R105). -/
def Dev.egress (d : Dev) (x : Rx) (rule : Option Nat) : List (Nat × List Byte) × List (Nat × Nat) :=
  let mask := d.fwdMask x rule
  let ports := (List.range 22).filter (bit mask)
  let here : Option (Nat × Nat) := x.red.filter (fun e => d.redLan e.1 e.2)
  let stop := x.own || match here with
    | some (i, _) => d.isSupervision i x.l && d.redRole i ≤ 2
    | none => false
  if stop then ([], [])
  else
    let ring : List (Nat × List Byte) := match here with
      | some (i, side) =>
        let e := d.redPartner i side
        if x.ringOn && d.ringAllowed x rule e then [(e, x.l)] else []
      | none => []
    if x.dup = dupDuplicate then (ring, [])
    else
      let mine (e : Nat) : Bool := match here with
        | some (i, side) => (d.redPair i side).contains e
        | none => false
      let tags (e : Nat) : Option (Nat × Nat) := (d.redOf e).filter (fun q => d.redLan q.1 q.2)
      let quad (q : Nat × Nat) : Bool := match here with
        | some (i, _) => q.1 == i && d.redRole i == riQuad && (d.redTag i x.l).isSome
        | none => false
      let outside := ports.filter (fun e => !mine e && (tags e).isNone)
      let plain := outside.map (fun e => (e, d.vlanOut x e (d.untagged x)))
      let sends := ((ports.filter (fun e => !mine e)).filterMap tags).map (fun q => (q.1, q.2 / 2 * 2)) |>.eraseDups
      let tagged := (sends.map (fun q =>
        if quad q then (d.redPair q.1 q.2).map (fun e => (e, x.l))
        else (d.redSend q.1 q.2 (d.vlanOut x (d.redPort q.1 q.2) (d.untagged x))).1)).flatten
      let used := (sends.filter (fun q => !quad q)).map (fun q =>
        (q.1, (d.redSend q.1 q.2 (d.vlanOut x (d.redPort q.1 q.2) (d.untagged x))).2))
      (ring ++ plain ++ tagged.filter (fun e => e.1 != x.p && d.on (PRT_STAT_LINK e.1)), used)

/-! ### Cut-through (R97–R100) -/

/-- Two ports run at one rate at which frames are cut through (R98). -/
def Dev.ctRates (d : Dev) (a b : Nat) : Bool :=
  let m := d.rd (PRT_CFG_MODE a)
  let n := d.rd (PRT_CFG_MODE b)
  (m == 0 && n == 0) || ((m == 1 || m == 2) && (n == 1 || n == 2))

/-- The assumed length of a candidate (R89). -/
def Dev.ctLength (d : Dev) (x : Rx) (rule : Option Nat) : Nat :=
  match rule with
  | some c => if d.rd (CL_CFG_CTMAX c) = 0 then d.rd (PRT_CFG_MAXLEN x.p) else 8 * d.rd (CL_CFG_CTMAX c)
  | none => d.rd (PRT_CFG_MAXLEN x.p)

/-- The largest assumed length of the candidates. -/
def Dev.ctAssumed (d : Dev) (x : Rx) : Nat := ((d.ruleCandidates x).map (d.ctLength x)).foldl max 0

/-- The instant of LT at which a frame's header had been parsed (R98): the EtherType that follows its tags has been received. -/
def Dev.headerAt (d : Dev) (x : Rx) : Int := x.med + Int.ofNat ((innerOff x.l + 2) * d.byteTime x.p * 65536 / 10)

/-- A port is not within the inter-frame gap of 12 byte times after its last frame at an instant of LT (R98). -/
def Dev.gapOver (d : Dev) (e : Nat) (t : Int) : Bool := decide (Int.ofNat ((d.port e).lastEnd + 12 * d.byteTime e * 65536 / 10) ≤ t)

/-- Whether a class was open at an instant of LT for a frame of `len` bytes, as the scheduler's lists have it (R98, R125, R129). -/
def Dev.classFitsAt (d : Dev) (p c len : Nat) (lt : Int) : Bool :=
  let t := (d.ltToDom (d.rd (SCH_CFG_DOM p)) lt).toNat
  let gates := if !d.on (SCH_CTRL_GATEEN p) then 0xFF
    else if d.rd (SCH_OPERLEN_LEN p) = 0 then d.rd (SCH_ADMINIT_IGATES p) else (d.gateLook p t).2.1
  bit gates c && d.fits p c t len && !(d.preemptable p c && d.on (SCH_STAT_HOLD p))

/-- A frame is cut through on an egress port: every condition of R98 under every candidate. The gap, the gate and the fit are judged at the
instant the header had been parsed; the class's queue, pause and mute as they are when the frame is complete, which is when the command
brings it (DEDUCED, notes/assumptions/69). -/
def Dev.cutsThrough (d : Dev) (x : Rx) (e : Nat) : Bool :=
  let n := d.ctAssumed x
  d.on FAB_CTRL_CTEN && d.on (FAB_PCFG_CTIN x.p) && d.on (FAB_PCFG_CTOUT e) && d.ctRates x.p e && d.portUp e
    && (d.port e).tx.isNone && d.gapOver e (d.headerAt x) && decide (n ≤ d.rd (PRT_CFG_MAXLEN e))
    && (d.ruleCandidates x).all (fun c =>
      let tc := d.classOf x c
      (d.egress x c).1.contains (e, x.l) && (match c with | some k => !d.on (CL_CFG_AUTHFWD k) | none => true)
        && (d.classQ e tc).isEmpty && !d.paused e tc && !d.muted e tc && d.classFitsAt e tc n (d.headerAt x)
        && !(d.preemptable e tc && (d.port e).pre.isSome))

/-- The egress ports a frame is cut through on. -/
def Dev.ctPorts (d : Dev) (x : Rx) : List Nat := (List.range 22).filter (d.cutsThrough x)

/-- The time from one medium boundary to the other (R97), in units of 2^-16 ns. -/
def Dev.ctDelay (d : Dev) (p e : Nat) : Nat := if d.rd (PRT_CFG_MODE e) = 0 then 40 * 65536 else Config.ctLatency p e

/-- A cut-through copy leaves (R97, R99, R100): whole, cut at the assumed length, or ended with a stomped FCS. It has been on the wire of its
port since R97's delay after it crossed the ingress boundary, as the packet buffer's frame `h`. -/
def Dev.ctSend (d : Dev) (x : Rx) (e tc n h : Nat) (bad : Bool) : Dev :=
  let start := x.med + Int.ofNat (d.ctDelay x.p e)
  let stamp := d.stampOf e true (start - d.rdS (TB_Pp_TXLAT_TXLAT e))
  let q : Desc := { bytes := x.l, tc := tc, origin := .fabric h, rxLt := x.stamp.lt }
  let ins := d.insertTimes e q stamp
  let l := ins.getD x.l
  let d := d.when ins.isNone (fun d => (d.inc (TB_Pp_OSFAIL_OSFAIL e)).postEvent 0x0B08 0x0D8 (e * 2 ^ 16 + q.recordTag))
  let overrun := decide (n < l.length + 4)
  let stomp := bad || overrun
  let sent := if overrun then l.take (n - 4) else l
  let d := d.recordDeparture e q stamp ins.isNone stomp
  d.occupy e { desc := q, wire := withFcs sent stomp, reason := rsOk, start := start.toNat, stamp := stamp, insFail := ins.isNone, bad := stomp
               recorded := d.recordMark e q stamp }

/-- The cut-through copies of a frame leave; a frame that runs past its assumed length is counted once (R99). -/
def Dev.ctSends (d : Dev) (x : Rx) (es : List Nat) (tc n h : Nat) (bad : Bool) : Dev :=
  let d := es.foldl (fun d e => d.ctSend x e tc n h bad) d
  d.when (!es.isEmpty && decide (n < x.l.length + 4)) (fun d => d.inc (FAB_CTOVER_CNT x.p))

/-- The number of the next frame that the packet buffer holds is used up. -/
def Dev.nextHeld (d : Dev) : Dev := { d with fab := { d.fab with nextHeld := d.fab.nextHeld + 1 } }

/-- A frame that a port check fails has been cut through on some ports: its copies end stomped (R78, R100); false where it was not. A MAC
control frame is cut through nowhere (R70). -/
def Dev.ctStomped (d : Dev) (p : Nat) (l : List Byte) (len : Nat) (stamp : Stamp) (med : Int) : Dev × Bool :=
  if l.length < innerOff l + 2 ∨ fieldAt l 12 2 = 0x8808 ∨ !d.on FAB_CTRL_EN ∨ d.on SUP_STAT_FAULT then (d, false)
  else
    let x := d.rxOf p l len stamp med
    if !d.vlanOk x then (d, false)
    else
      let x := (d.redStage x).2
      let es := d.ctPorts x
      if es.isEmpty then (d, false)
      else ((d.nextHeld.inc (FAB_CTSTOMP_CNT p)).ctSends x es (d.classOf x (d.ruleOf x)) (d.ctAssumed x) d.fab.nextHeld true, true)

/-! ### Consumers (R87, R89–R91) -/

/-- The tint word (R86). -/
def Dev.tint (d : Dev) (x : Rx) (tc : Nat) (hits : List Nat) (stream : Option Nat) (ct : Bool) : Nat :=
  let dom := d.rd (TB_Pp_CFG_RXDOM x.p)
  let lan := match x.red with
    | some (i, side) => if d.redLan i side then 1 + side % 2 else 3
    | none => 0
  compact (d.stampIn dom x.stamp) + dom * 2 ^ 64 + x.p * 2 ^ 67 + x.len % 2 ^ 14 * 2 ^ 72 + tc * 2 ^ 86 + x.auth * 2 ^ 91 + x.dup * 2 ^ 94
    + b01 (!hits.isEmpty) * 2 ^ 96 + hits.headD 0 * 2 ^ 97 + b01 (decide (2 ≤ hits.length)) * 2 ^ 103 + stream.getD 0 * 2 ^ 104
    + b01 stream.isSome * 2 ^ 112 + x.vid * 2 ^ 113 + lan * 2 ^ 125 + b01 ct * 2 ^ 127

/-- A frame is delivered to a depot's ingress queue (R269, R270); false when refused. -/
def Dev.depotDeliver (d : Dev) (q : Nat) (tint : Nat) (cell : List Byte) : Dev × Bool :=
  let n := q / 2
  let i := q % 2
  let r := d.rxRing n i
  let nslot := d.rd (DEP_RXRi_NSLOT n i)
  let size := d.rd (DEP_RXRi_SLOTSZ n i) * 256
  let base := d.rd (DEP_RXRi_BASE n i)
  if nslot ≤ r.occ ∨ size < cell.length ∨ !d.on (DEP_RXRi_EN n i) ∨ !d.depotOn n ∨ !d.depotOwns n base (d.rxRingLen n i) then
    let d := d.inc (if i = 0 then DEP_RXREF0_CNT n else DEP_RXREF1_CNT n)
    let d := d.when (!r.refused) (fun d => d.postEvent 0x0407 (0x010 + n) (i * 2 ^ 16 + bits tint 67 5))
    (d.setRxRing n i { r with refused := true }, false)
  else
    let slot := (r.old + r.occ) % nslot
    let d := (d.memWrite (0x010 + n) (0x010 + n) (base + slot * size) cell).1
    let v := slot + bits tint 72 14 * 2 ^ 10 + bits tint 67 5 * 2 ^ 24 + bits tint 86 3 * 2 ^ 29 + bits tint 104 8 * 2 ^ 32
      + bits tint 112 1 * 2 ^ 40 + bits tint 96 1 * 2 ^ 41 + bits tint 91 3 * 2 ^ 42 + bits tint 94 2 * 2 ^ 45 + 2 ^ 63
    let d := d.setRxRing n i { r with occ := r.occ + 1, descs := r.descs ++ [v], refused := false }
    (d.inc (if i = 0 then DEP_RXFRM0_CNT n else DEP_RXFRM1_CNT n), true)

/-- A copy of a frame more is to leave the packet buffer. -/
def Dev.holdMore (d : Dev) (h : Nat) : Dev :=
  match tget d.fab.held h with
  | some x => { d with fab := { d.fab with held := tput d.fab.held h { x with refs := x.refs + 1 } } }
  | none => d

/-- A frame, the packet buffer's `h`, is delivered to a consumer: a depot queue (0–15), a DMA channel (16–23), which takes it from the buffer
later (R96), the Sample Alignment Unit (24). A sample arrives as the last bit of the FCS crosses the medium boundary (R223). -/
def Dev.deliverTo (d : Dev) (x : Rx) (tint : Nat) (whole : List Byte) (stream h q : Nat) : Dev × Bool :=
  let cell := toLe 16 tint ++ whole
  let r : Dev × Bool :=
    if q < 16 then d.depotDeliver q tint cell
    else if q < 24 then let r := d.dmaDeliver (q - 16) h cell; if r.2 then (r.1.holdMore h, true) else r
    else
      let f : SvFrame := {
        stream := stream, bytes := whole, stamps := (List.range 4).map (fun n => d.ltToDomAt n x.stamp.tick x.stamp.lt)
        arrive := (Int.ofNat d.tb.lt - d.rdS (TB_Pp_RXLAT_RXLAT x.p)).toNat }
      ({ d with sau := { d.sau with inq := d.sau.inq ++ [f] } }, true)
  if r.2 then r else (r.1.inc (FAB_CONSREF_CNT q), false)

/-- The consumers that classification names for a frame: the rule's or the port's, and whether the rule keeps duplicates and wants
AUTH = PASS. -/
def Dev.namedConsumers (d : Dev) (p : Nat) (rule : Option Nat) : List Nat :=
  match rule with
  | some c =>
    (if d.on (CL_CFG_DEPEN c) then [d.rd (CL_CFG_DEPQ c)] else []) ++ (if d.on (CL_CFG_DMAEN c) then [16 + d.rd (CL_CFG_DMA c)] else [])
  | none =>
    (if d.on (FAB_PDEF_DEPEN p) then [d.rd (FAB_PDEF_DEPQ p)] else []) ++ (if d.on (FAB_PDEF_DMAEN p) then [16 + d.rd (FAB_PDEF_DMA p)] else [])

/-- The cells a frame takes (R96). -/
def cellsOf (len : Nat) : Nat := if len ≤ 240 then 1 else 1 + (len - 240 + 255) / 256

/-- The packet buffer has room for a frame (R96). -/
def Dev.hasRoom (d : Dev) (p tc n : Nat) : Bool :=
  let free := d.cellsFree
  (if tc = 7 then decide (n ≤ free) else decide (n + d.rd FAB_BUF_RESV ≤ free)) && decide (d.cellsHeld p 8 + n ≤ d.rd (FAB_ADM_LIMIT p))

/-- Count a drop of a port under its reason (R101). -/
def Dev.fabDrop (d : Dev) (p reason : Nat) : Dev :=
  match reason with
  | 1 => d.inc (FAB_DROP_PSTATE_CNT p)
  | 2 => d.inc (FAB_DROP_VLAN_CNT p)
  | 3 => d.inc (FAB_DROP_RED_CNT p)
  | 4 => d.inc (FAB_DROP_DUP_CNT p)
  | 5 => d.inc (FAB_DROP_AUTH_CNT p)
  | 6 => d.inc (FAB_DROP_RULE_CNT p)
  | 7 => d.inc (FAB_DROP_NODEST_CNT p)
  | 8 => d.inc (FAB_DROP_NOBUF_CNT p)
  | _ => d.inc (FAB_DROP_QFULL_CNT p)

/-- A frame whose disposition is not empty takes the packet buffer, leaves and is delivered (R15, R87, R91, R96, R98); the buffer holds it
until its last copy has left. -/
def Dev.dispose (d : Dev) (x : Rx) (rule : Option Nat) (whole : List Byte) (hits : List Nat) (stream : Option Nat)
    (consumers : List Nat) : Dev :=
  let tc := d.classOf x rule
  let out := d.egress x rule
  let cts := (d.ctPorts x).filter (fun e => out.1.contains (e, x.l))
  let cells := cellsOf x.len
  let n := d.ctAssumed x
  let h := d.fab.nextHeld
  if !d.hasRoom x.p tc cells then
    let d := ((d.nextHeld.fabDrop x.p 8).put FAB_STAT_NOBUF true).postEvent 0x0908 0x0A0 x.p
    (d.when (!cts.isEmpty) (fun d => d.inc (FAB_CTSTOMP_CNT x.p))).ctSends x cts tc n h true
  else
    let stored := out.1.filter (fun e => !(cts.contains e.1 && e.2 == x.l))
    let here : Held := ⟨x.p, tc, cells, cts.length + stored.length + 1⟩
    let d := { d with fab := { d.fab with held := tput d.fab.held h here } }.nextHeld.flowCheck x.p
    let d := (out.2.foldl (fun d u => d.redSent u.1 u.2) d).ctSends x cts tc n h false
    let d := d.when (!cts.isEmpty && decide (x.len ≤ n)) (fun d => d.inc (FAB_CTOK_CNT x.p))
    let d := stored.foldl (fun d e => d.handTo e.1 { bytes := e.2, tc := tc, origin := .fabric h, rxLt := x.stamp.lt }) d
    let tint := d.tint x tc hits stream (!cts.isEmpty)
    let r := consumers.foldl (fun (acc : Dev × Bool) q =>
      let w := acc.1.deliverTo x tint whole (stream.getD 0) h q
      (w.1, acc.2 || w.2)) (d, false)
    let d := r.1.releaseHeld h
    if out.1.isEmpty && !r.2 then d.fabDrop x.p 9 else d

/-- A frame that has passed its port checks goes through the fabric (R85–R106). -/
def Dev.fabric (d : Dev) (p : Nat) (whole : List Byte) (stamp : Stamp) (med : Int) (auth : Nat) (hits : List Nat) : Dev :=
  if !d.on FAB_CTRL_EN || d.on SUP_STAT_FAULT then d.fabDrop p 7
  else
    let l := whole.take (whole.length - 4)
    let x := { d.rxOf p l whole.length stamp med with auth := auth }
    let vok := d.vlanOk x
    let (d, x) := if vok then d.redStage x else (d, x)
    let stream := d.streamLookup l
    let rule := d.ruleOf x
    let d := match rule with
      | some c => d.inc (CL_HITS_HITS c)
      | none => d
    let named := d.namedConsumers p rule ++ (if stream.isSome then [24] else [])
    let sup := match x.red with
      | some (i, side) =>
        if d.redLan i side && d.isSupervision i l && d.on (RED_SUP_SUPDEPEN i) then [d.rd (RED_SUP_SUPDEPQ i)] else []
      | none => []
    let needs := match rule with | some c => d.on (CL_CFG_AUTHREQ c) | none => false
    let keeps := match rule with | some c => d.on (CL_CFG_DUPKEEP c) | none => false
    let authFwd := match rule with | some c => d.on (CL_CFG_AUTHFWD c) | none => false
    let isDup := x.dup == dupDuplicate
    let kept := if isDup && !keeps then [] else named
    let kept := if needs && auth != authPass then [] else kept
    let consumers := if vok && !x.own then (kept ++ sup).eraseDups else []
    let goes := vok && !(d.egress x rule).1.isEmpty
    let d := d.learn x
    if consumers.isEmpty && !goes then
      let reason :=
        if d.rd (FAB_PCFG_PSTATE p) ≠ 2 ∧ (named ++ sup).isEmpty then 1
        else if !vok then 2
        else if x.own then 3
        else if isDup then 4
        else if (needs || authFwd) && auth != authPass then 5
        else if (match rule with | some c => d.rd (CL_CFG_FWD c) == 1 | none => false) && named.isEmpty then 6
        else 7
      d.fabDrop p reason
    else if !vok then d.fabDrop p 2
    else d.dispose x rule whole hits stream consumers

/-! ### A frame arrives (R14, R78) -/

/-- The port check that a frame fails (R78, 1–5 and 8): its reason, or none. -/
def Dev.portCheck (d : Dev) (p : Nat) (f : RxFrame) (good : Bool) : Option Nat :=
  if !d.portUp p then some 1
  else if f.codeErr then some 2
  else if f.trunc then some 3
  else if f.bytes.length < 64 then some 4
  else if d.rd (PRT_CFG_MAXLEN p) < f.bytes.length then some 5
  else if !good then some 8
  else none

/-- Count a port's drop. -/
def Dev.portDrop (d : Dev) (p reason : Nat) : Dev :=
  match reason with
  | 1 => d.inc (PRT_DROP_DISABLED_CNT p)
  | 2 => d.inc (PRT_DROP_CODE_CNT p)
  | 3 => d.inc (PRT_DROP_TRUNC_CNT p)
  | 4 => d.inc (PRT_DROP_RUNT_CNT p)
  | 5 => d.inc (PRT_DROP_OVERSIZE_CNT p)
  | 6 => d.inc (PRT_DROP_SMD_CNT p)
  | 7 => d.inc (PRT_DROP_ASSEMBLY_CNT p)
  | _ => d.inc (PRT_DROP_FCS_CNT p)

/-- A frame received on a port is stamped, checked, parsed, classified and disposed of (R14). -/
def Dev.frameIn (d : Dev) (p : Nat) (f : RxFrame) : Dev :=
  let n := f.bytes.length
  let l := f.bytes.take (n - 4)
  let stamp := d.rxStamp p f.ago f.sub
  let med := d.rxMedium p f.ago f.sub
  let good := decide (4 ≤ n) && fcsOf l == f.bytes.drop (n - 4)
  let sound := d.portUp p && !f.codeErr && !f.trunc && good
  let a := if sound then d.authVerdict p f.ago l else (d, authNotChecked)
  let e := if sound then a.1.expressRun p f.ago l a.2 else (a.1, [])
  let d := e.1
  match d.portCheck p f good with
  | some 1 => d.portDrop p 1
  | some r =>
    let q := d.ctStomped p l n stamp med
    if q.2 then q.1 else d.portDrop p r
  | none =>
    if fieldAt l 12 2 = 0x8808 then d.macControl p l
    else ((d.inc (PRT_RXOK_CNT p)).incBy (PRT_RXOCT_CNT p) n).fabric p f.bytes stamp med a.2 e.2

/-! ### Tables (R93, R119) -/

/-- The four data words of a table entry. -/
def Dev.tableRead (d : Dev) (table idx : Nat) : List Nat :=
  let mac (m fid : Nat) : List Nat := [m % 2 ^ 32, m / 2 ^ 32 + fid * 2 ^ 16 + 2 ^ 31]
  match table with
  | 0 =>
    match tget d.fab.vlans idx with
    | some v => [v.members, v.untag, v.fid + 2 ^ 8, 0]
    | none => [0, 0, 0, 0]
  | 1 =>
    match tget d.fab.statics idx with
    | some e => mac e.mac e.fid ++ [e.ports, e.tc + b01 e.tcen * 8]
    | none => [0, 0, 0, 0]
  | 2 =>
    match tget d.fab.learned idx with
    | some e => mac e.mac e.fid ++ [e.port, 0]
    | none => [0, 0, 0, 0]
  | 3 =>
    match tget d.fab.nodes idx with
    | some e => mac e.mac 0 ++ [((tget e.wins 0).map DupWin.base).getD 0, min ((d.tb.lt - e.last) / (1000000 * 65536)) (2 ^ 32 - 1)]
    | none => [0, 0, 0, 0]
  | _ =>
    match tget d.fab.proxies idx with
    | some m => mac m 0 ++ [0, 0]
    | none => [0, 0, 0, 0]

/-- The number of entries of a table. -/
def tableSize (table : Nat) : Nat :=
  match table with
  | 0 => 4096
  | 1 => 1024
  | 2 => 16384
  | 3 => 8192
  | _ => 2048

/-- Write a table entry from four data words; the node table is read-only, and an entry that is not valid is removed. An index past the
table's entries writes nothing, and reads zeros (DESIGN CHOICE, notes/assumptions/69). -/
def Dev.tableWrite (d : Dev) (table idx : Nat) (w : List Nat) : Dev :=
  if tableSize table ≤ idx then d
  else
    let a := w.getD 0 0
    let b := w.getD 1 0
    let c := w.getD 2 0
    let e := w.getD 3 0
    let mac := bits b 0 16 * 2 ^ 32 + a % 2 ^ 32
    let fid := bits b 16 6
    let valid := bit b 31
    match table with
    | 0 =>
      let vs := if bit c 8 then tput d.fab.vlans idx ⟨bits a 0 22, bits b 0 22, bits c 0 6⟩ else tdel d.fab.vlans idx
      { d with fab := { d.fab with vlans := vs } }
    | 1 =>
      let vs := if valid then tput d.fab.statics idx ⟨mac, fid, bits c 0 22, bits e 0 3, bit e 3⟩ else tdel d.fab.statics idx
      { d with fab := { d.fab with statics := vs } }
    | 2 =>
      let vs := if valid then tput d.fab.learned idx ⟨mac, fid, bits c 0 5, d.tb.lt⟩ else tdel d.fab.learned idx
      { d with fab := { d.fab with learned := vs } }
    | 4 =>
      let vs := if valid then tput d.fab.proxies idx mac else tdel d.fab.proxies idx
      { d with fab := { d.fab with proxies := vs } }
    | _ => d

/-- Invalidate a table entry; the node table is read-only. -/
def Dev.tableInvalidate (d : Dev) (table idx : Nat) : Dev := d.tableWrite table idx [0, 0, 0, 0]

/-- A write of FAB_TBLCMD starts a command: BUSY, and its effect. -/
def Dev.tableCommand (d : Dev) (v : Nat) : Dev :=
  let table := bits v 0 3
  let op := bits v 3 2
  let idx := bits v 8 16
  let d := ((d.wr FAB_TBLCMD_TABLE table).wr FAB_TBLCMD_OP op).wr FAB_TBLCMD_INDEX idx
  let d := d.put FAB_TBLCMD_BUSY true
  match op with
  | 0 => (List.range 4).foldl (fun d w => d.wr (FAB_TBLDATAw_CNT w) ((d.tableRead table idx).getD w 0)) d
  | 1 => d.tableWrite table idx ((List.range 4).map (fun w => d.rd (FAB_TBLDATAw_CNT w)))
  | 2 => d.tableInvalidate table idx
  | _ => if table = 2 then { d with fab := { d.fab with learned := [] } } else d

/-- LASTST of a rule on a port. -/
def Dev.lastSt (d : Dev) (x p : Nat) : Option Nat := tget d.fab.lastSt (64 * p + x)

/-! ### Resets (R117) -/

/-- A frame waiting in the packet buffer for a DMA channel is discarded; the receive descriptor it was to fill is the channel's next again
(DESIGN CHOICE, notes/assumptions/69). -/
def Dev.dmaDiscard (d : Dev) (c : Nat) : Dev :=
  let x := d.chan c
  d.when (!x.deliver.isEmpty) (fun d => d.setChan c { x with deliver := [], rx := x.deliver.map (·.1) ++ x.rx })

/-- A function reset of the fabric: frames on the wire cut, stored frames discarded, learned entries cleared. -/
def Dev.fabricReset (d : Dev) : Dev :=
  let r := (List.range 22).foldl (fun (acc : Dev × Nat) p =>
    let r := acc.1.cutFrames p .reset
    let q : Dev × Nat := (r.1.offIfDue p, r.2)
    let x := q.1.port p
    let keep (e : Desc) : Bool := match e.origin with | .fabric _ => false | _ => true
    (q.1.setPort p { x with queues := x.queues.map (fun e => (e.1, e.2.filter keep)), hand := x.hand.filter keep, flow := 0 },
      acc.2 + q.2)) (forNums 8 (fun c d => d.dmaDiscard c) d, 0)
  let d := { r.1 with fab := { r.1.fab with held := [], learned := [] } }
  let d := forNums 22 (fun p d => d.clrs (fnFields_FABP p)) (d.clrs fnFields_FAB)
  let d := forNums 256 (fun c d => d.clrs (fnFields_CL c)) d
  d.resetReport 0x09 0x0A0 r.2

/-- A function reset of redundancy: the node tables are emptied. -/
def Dev.redReset (d : Dev) : Dev :=
  let d := { d with fab := { d.fab with nodes := [] } }
  (forNums 4 (fun i d => d.clrs (fnFields_RED i)) d).resetReport 0x09 0x0A1 0

/-- A function reset of authentication: a frame being verified gets FAIL. -/
def Dev.authReset (d : Dev) : Dev :=
  let d := { d with fab := { d.fab with authRst := d.tb.lt } }
  (forNums 256 (fun k d => d.clrs (fnFields_KS k)) d).resetReport 0x09 0x0A2 0

/-- A function reset of the express rules: LASTST becomes invalid, and a frame being parsed does not fire. -/
def Dev.xrReset (d : Dev) : Dev :=
  let d := { d with fab := { d.fab with lastSt := [], xrRst := d.tb.lt } }
  (forNums 64 (fun x d => d.clrs (fnFields_XR x)) d).resetReport 0x09 0x0A3 0

end Sys2Proof.Machine
end

