-- ==== Sys2Proof/Machine/RegBus.lean ====
section
/-! DEFINITION. Access to a register by its place in the map (R6–R9, R533–R535): finding the register at an offset, reading and
storing its fields by their access codes, the checks of a committed write, a master's staging and latched words. -/

namespace Sys2Proof.Machine

/-- A register found in the map: its row, its instance numbers, and the 32-bit word of it that an access names. -/
structure RegAt where
  row : RegRow
  ix : List Nat
  word : Nat

/-- The instance numbers that a distance from a register's first instance stands for, and the bytes left over. -/
def instances : List (Nat × Nat) → Nat → Option (List Nat × Nat)
  | [], r => some ([], r)
  | (s, n) :: ds, r =>
    if r / s < n then (instances ds (r % s)).map (fun p => (r / s :: p.1, p.2)) else none

/-- The register of a row at an offset. -/
def RegRow.at_ (r : RegRow) (off : Nat) : Option RegAt :=
  if off < r.base then none
  else match instances r.dims (off - r.base) with
    | some (ix, rest) => if rest < 4 * r.words then some ⟨r, ix, rest / 4⟩ else none
    | none => none

/-- The register at an offset of BAR0 (R10, R523). -/
def findReg (off : Nat) : Option RegAt := (rowsAt off).findSome? (fun r => r.at_ off)

/-- The distance of an instance from a register's first. -/
def instOff : List (Nat × Nat) → List Nat → Nat
  | (s, _) :: ds, i :: is => s * i + instOff ds is
  | _, _ => 0

/-- A register's BAR0 offset. -/
def RegAt.off (a : RegAt) : Nat := a.row.base + instOff a.row.dims a.ix
/-- A register's instance numbers, in the order of its name. -/
def RegAt.i (a : RegAt) : Nat := a.ix.getD 0 0
def RegAt.j (a : RegAt) : Nat := a.ix.getD 1 0
def RegAt.k (a : RegAt) : Nat := a.ix.getD 2 0
/-- The engine or the sequencer that a register with two instance numbers belongs to. -/
def RegAt.engine (a : RegAt) : Nat := 8 * a.i + a.j
def RegAt.seq (a : RegAt) : Nat := 4 * a.i + a.j

/-- A field's home. -/
def RegAt.fld (a : RegAt) (f : FieldSpec) : Fld := ⟨8 * a.off + f.lo, f.width, f.reset a.i⟩

/-- The value that a register's fields hold; WO fields read 0 (R6). -/
def Dev.regStored (d : Dev) (a : RegAt) : Nat :=
  a.row.fields.foldl (fun n f => if f.acc = .wo then n else n + d.rd (a.fld f) * 2 ^ f.lo) 0

/-- Store a value in one field by its access code (R6). -/
def Dev.fieldPut (d : Dev) (a : RegAt) (f : FieldSpec) (v : Nat) : Dev :=
  let x := bits v f.lo f.width
  match f.acc with
  | .rw => d.wr (a.fld f) x
  | .rwl => d.wr (a.fld f) x
  | .w1c => let old := d.rd (a.fld f); d.wr (a.fld f) (old - Nat.land old x)
  | _ => d

/-- Store a value in a register's fields by their access codes (R6, R8). -/
def Dev.regStore (d : Dev) (a : RegAt) (v : Nat) : Dev := a.row.fields.foldl (fun d f => d.fieldPut a f v) d

/-- Whether a write to a register can act at all: it has a field that is neither RO nor RC. -/
def RegRow.writable (r : RegRow) : Bool := r.fields.any (fun f => !(f.acc == .ro || f.acc == .rc))

/-- Whether a write to a register is judged although nothing of it may act: a write to any register of an enabled rule, stream or matrix is
refused (R116, R230). -/
def RegRow.judged (r : RegRow) : Bool :=
  r.writable ||
    match r.kind with
    | .fab .clRule => true
    | .fab .xrRule => true
    | .fab .xrLastSt => true
    | .fab .xrLastV => true
    | .sau .matrixReg => true
    | .sau .rowSize => true
    | .sau .streamReg => true
    | _ => false

/-- Registers of these kinds exist on some instances only; elsewhere they read 0 and ignore writes (R84; the table of R266 with R8). -/
def RegAt.absent (a : RegAt) : Bool :=
  match a.row.kind with
  | .prt .plca => decide (a.i < 20)
  | .prt .hdx => decide (a.i < 20)
  | .pin .ioXdrv => decide (16 ≤ a.i)
  | _ => false

/-- Whether a value breaks what a register's table asks of its fields beyond a range: an alignment, or the highest side pin (R266, R269;
notes/assumptions/9). -/
def RegRow.misplaced (r : RegRow) (v : Nat) : Bool :=
  match r.kind with
  | .pin .seqSide => bits v 1 5 != 0 && decide (47 < bits v 6 6 + Nat.log2 (bits v 1 5))
  | .dep .rxRing => bits v 0 8 != 0
  | .dep .txCfg => bits v 0 3 != 0
  | .sau .hostAddr => bits v 0 6 != 0
  | _ => false

/-- Whether a value holds a reserved value in some field (R9); a TS96 register's nanoseconds must be below 10^9 (R4). -/
def RegRow.reservedIn (r : RegRow) (v : Nat) : Bool :=
  r.misplaced v || r.fields.any (fun f =>
    let x := bits v f.lo f.width
    (!f.legal.isEmpty && !(f.legal.any (fun g => decide (g.1 ≤ x) && decide (x ≤ g.2)))) || (f.width == 96 && !ts96ok x))

/-- A value with every RWL field at its present value (R534). -/
def Dev.lockedValue (d : Dev) (a : RegAt) (v : Nat) : Nat :=
  a.row.fields.foldl (fun v f => if f.acc = .rwl then setBits v f.lo f.width (d.rd (a.fld f)) else v) v

/-- What a master staged or latched for the word at an offset (R535). -/
def wordOf (t : List ((Nat × Nat) × Nat)) (uid off : Nat) : Option Nat :=
  (t.find? (fun e => e.1.1 == uid && e.1.2 == off)).map (·.2)

/-- A table of words without those of a master in a range of offsets. -/
def wordsDrop (t : List ((Nat × Nat) × Nat)) (uid lo hi : Nat) : List ((Nat × Nat) × Nat) :=
  t.filter (fun e => !(e.1.1 == uid && decide (lo ≤ e.1.2) && decide (e.1.2 < hi)))

/-- A master stages a word (R535). -/
def Dev.stageWord (d : Dev) (w : Master) (off v : Nat) : Dev :=
  { d with staged := ((w.uid, off), v % 2 ^ 32) :: wordsDrop d.staged w.uid off (off + 4) }

/-- A master latches a word (R535). -/
def Dev.latchWord (d : Dev) (w : Master) (off v : Nat) : Dev :=
  { d with latched := ((w.uid, off), v % 2 ^ 32) :: wordsDrop d.latched w.uid off (off + 4) }

/-- The word that a master latched at an offset, which this read uses up, or else a present value. -/
def Dev.takeLatched (d : Dev) (w : Master) (off present : Nat) : Dev × Nat :=
  match wordOf d.latched w.uid off with
  | some v => ({ d with latched := wordsDrop d.latched w.uid off (off + 4) }, v)
  | none => (d, present)

/-- The value that the write of a register's highest word commits (R535): the words staged, and the present value of the others
(`Dev.presentValue`, Machine/Bus.lean). -/
def Dev.committed (d : Dev) (w : Master) (a : RegAt) (present v : Nat) : Nat :=
  (List.range a.row.words).foldl (fun n k =>
    n + (if k + 1 = a.row.words then v % 2 ^ 32
      else (wordOf d.staged w.uid (a.off + 4 * k)).getD (bits present (32 * k) 32)) * 2 ^ (32 * k)) 0

/-- The master's staging of a register is used up. -/
def Dev.dropStaged (d : Dev) (w : Master) (a : RegAt) : Dev :=
  { d with staged := wordsDrop d.staged w.uid a.off (a.off + 4 * a.row.words) }

end Sys2Proof.Machine
end

