-- ==== Sys2Proof/Machine/TrainOps.lean ====
section
/-! DEFINITION. The Ripiost train controller's own parts (spec/06, spec/07): coach headers (R151, R153), seats and the mirror bank
(R161–R165), mode tables (R186), the cycle a ring runs and its marks (R182, R189, R190), late and derailed nodes (R191, R192), and the
sending of a coach (R156–R158). -/

namespace Sys2Proof.Machine

/-- A ring's controller. -/
def Dev.trn (d : Dev) (r : Nat) : Ring := tgetD d.rings r {}
/-- Replace a ring's controller. -/
def Dev.setTrn (d : Dev) (r : Nat) (x : Ring) : Dev := { d with rings := tput d.rings r x }
/-- Change a ring's controller. -/
def Dev.modTrn (d : Dev) (r : Nat) (f : Ring → Ring) : Dev := d.setTrn r (f (d.trn r))

/-- A ring's out-port and in-port (R147). -/
abbrev outPort (r : Nat) : Nat := 2 * r
abbrev inPort (r : Nat) : Nat := 2 * r + 1

/-- The MAC address that a ring's controller originates coaches from (R150): the out-port's. -/
def ringMac (r : Nat) : Nat := Config.portMac (outPort r) % 2 ^ 48

/-- Roles (R176). -/
abbrev roleOff : Nat := 0
abbrev roleNode : Nat := 1
abbrev roleClaiming : Nat := 2
abbrev roleMaster : Nat := 3

/-- A ring's role. -/
def Dev.role (d : Dev) (r : Nat) : Nat := d.rd (TRN_STAT_ROLE r)

/-- An event of the train controller whose detail names the ring. -/
def Dev.ringEvent (d : Dev) (typ r detail : Nat) : Dev := d.postEvent typ 0x0E0 (r * 2 ^ 24 + detail)

/-- A ring changes its role (R203, 0x0C09). -/
def Dev.setRole (d : Dev) (r new : Nat) (yielding : Bool) : Dev :=
  if d.role r = new then d
  else (d.wr (TRN_STAT_ROLE r) new).ringEvent 0x0C09 r (b01 yielding * 2 ^ 8 + new)

/-- A ring acts as derailed: derailed, or in a device fault (R192, R440). -/
def Dev.derailed (d : Dev) (r : Nat) : Bool := d.on (TRN_STAT_DERAIL r) || d.on SUP_STAT_FAULT

/-- The time of a ring's train domain, in units of 2^-16 ns. -/
def Dev.trnNow (d : Dev) (r : Nat) : Nat := d.domTime (d.rd (TRN_CFG_TDOM r))

/-- Whether a ring runs at 10 Gb/s. -/
def Dev.ring10G (d : Dev) (r : Nat) : Bool := d.rd (PRT_CFG_MODE (outPort r)) == 0

/-- The ring's grid G (R181), in units of 2^-16 ns. -/
def Dev.trnGrid (d : Dev) (r : Nat) : Nat := (if d.ring10G r then 8 else 16) * 65536

/-- The forwarding latency L (R156), in units of 2^-16 ns. -/
def Dev.trnLatency (d : Dev) (r : Nat) : Nat := (if d.ring10G r then 40 else 96) * 65536

/-- 1,024 ns in units of 2^-16 ns. -/
abbrev lead16 : Nat := 1024 * 65536

/-- Units of 8 ns in units of 2^-16 ns. -/
abbrev unit8 : Nat := 8 * 65536

/-- `a` is not before `b`, both modulo 2^32. -/
def cycleFrom (a b : Nat) : Bool := decide ((a + 2 ^ 32 - b % 2 ^ 32) % 2 ^ 32 < 2 ^ 31)

/-! ### A coach's fields (R151, R153); `l` is the coach without its FCS -/

def coachVer (l : List Byte) : Nat := fieldAt l 14 1 / 16
def coachKind (l : List Byte) : Nat := fieldAt l 14 1 % 16
def coachIndex (l : List Byte) : Nat := fieldAt l 15 1 / 16
def coachRev (l : List Byte) : Bool := bit (fieldAt l 15 1) 2
def coachRing (l : List Byte) : Nat := fieldAt l 16 1 / 16
def coachCycle (l : List Byte) : Nat := fieldAt l 18 4
def coachCmode (l : List Byte) : Nat := bits (fieldAt l 22 1) 5 3
def coachNmode (l : List Byte) : Nat := bits (fieldAt l 22 1) 2 3
def coachSwp (l : List Byte) : Bool := bit (fieldAt l 22 1) 1
def coachDmg (l : List Byte) : Bool := bit (fieldAt l 22 1) 0
def coachSwcyc (l : List Byte) : Nat := fieldAt l 23 3
def coachDep (l : List Byte) : Nat := fieldAt l 26 8
def coachConsent (l : List Byte) : Nat := fieldAt l 34 2
def coachPresence (l : List Byte) : Nat := fieldAt l 36 2
/-- The payload's length P. -/
def coachP (l : List Byte) : Nat := l.length - 42
/-- The payload. -/
def coachPayload (l : List Byte) : List Byte := (l.drop 38).take (coachP l)

/-- A coach with a number written at an offset, big-endian. -/
def putAt (l : List Byte) (o n v : Nat) : List Byte := if o + n ≤ l.length then spliceAt l o (toBe n v) else l

/-- Count one in a 16-bit tally that saturates (R163). -/
def tallyUp (l : List Byte) (o : Nat) : List Byte := putAt l o 2 (min 0xFFFF (fieldAt l o 2 + 1))

/-! ### Seats and mode tables (R161, R162, R186) -/

def seatCoach (v : Nat) : Nat := bits v 0 4
def seatOff (v : Nat) : Nat := bits v 4 11
def seatLen (v : Nat) : Nat := bits v 15 11
def seatDir (v : Nat) : Nat := bits v 26 2
def seatMoff (v : Nat) : Nat := bits v 32 18
/-- LENGTH rounded up to a multiple of 8 (R164). -/
def seatR (v : Nat) : Nat := (seatLen v + 7) / 8 * 8
def seatIn (v : Nat) : Bool := bit (seatDir v) 0
def seatOut (v : Nat) : Bool := bit (seatDir v) 1
def mergeCoach (v : Nat) : Nat := bits v 0 4
def mergeOff (v : Nat) : Nat := bits v 4 11
def mergeLen (v : Nat) : Nat := bits v 15 11
def mergeSta (v : Nat) : Nat := bits v 26 12
def mergeOn (v : Nat) : Bool := bit v 38

/-- The seats of a coach, with their numbers. -/
def seatsOf (t : ModeTab) (idx : Nat) : List (Nat × Nat) :=
  ((List.range t.seats.length).zip t.seats).filter (fun e => seatDir e.2 != 0 && seatCoach e.2 == idx)

/-- Whether a seat entry is valid by itself (R161, R162). -/
def seatOk (v : Nat) : Bool :=
  bits v 28 4 == 0 && bits v 50 14 == 0 &&
    (seatDir v == 0 ||
      (decide (1 ≤ seatLen v) && decide (seatOff v + seatLen v ≤ 1468) && seatMoff v % 8 == 0 && decide (0x800 ≤ seatMoff v)
        && decide (seatMoff v + seatR v * (if seatDir v = 3 then 4 else 2) ≤ 0x40000)))

/-- Whether two entries write overlapping bytes of one coach. -/
def seatsClash (a b : Nat) : Bool :=
  seatOut a && seatOut b && seatCoach a == seatCoach b && decide (seatOff a < seatOff b + seatLen b)
    && decide (seatOff b < seatOff a + seatLen a)

/-- Whether no entry of a list clashes with a later one. -/
def noClash : List Nat → Bool
  | [] => true
  | a :: r => r.all (fun b => !seatsClash a b) && noClash r

/-- Whether a mark is enabled, and its offset in units of 4 ns (TRN_SMARKj). -/
def markOn (v : Nat) : Bool := bit v 25
def markOff (v : Nat) : Nat := bits v 0 25

/-- Whether a merge entry is valid (R186). -/
def mergeOk (nc v : Nat) : Bool :=
  !mergeOn v || (decide (1 ≤ mergeLen v) && decide (mergeOff v + mergeLen v ≤ 1468) && decide (mergeCoach v ≤ nc))

/-- Whether a table is valid on a ring (R162, R186). -/
def ModeTab.ok (t : ModeTab) (tenGig : Bool) : Bool :=
  t.seats.all seatOk && noClash t.seats && decide (250 ≤ t.ct) && decide (t.ct ≤ 12500000) && (tenGig || t.ct % 2 == 0)
    && markOn (t.marks.getD 0 0) && markOff (t.marks.getD 0 0) == 0
    && t.marks.all (fun v => !markOn v || decide (markOff v < 2 * t.ct))
    && t.seats.all (fun v => seatDir v == 0 || decide (seatCoach v ≤ t.nc)) && t.merges.all (mergeOk t.nc)

/-- A committed table. -/
def Dev.modeTab (d : Dev) (r m : Nat) : ModeTab := tgetD (d.trn r).modes m {}

/-- Whether mode m is valid (TRN_MVALID). -/
def Dev.modeValid (d : Dev) (r m : Nat) : Bool := bit (d.rd (TRN_MVALID_VALID r)) m

/-- The staging table (R186). -/
def Dev.staging (d : Dev) (r : Nat) : ModeTab :=
  { ct := d.rd (TRN_SCT_CT r), nc := d.rd (TRN_SNC_NCOACH r)
    marks := (List.range 8).map (fun j => d.rd (TRN_SMARKj_OFF r j) + d.rd (TRN_SMARKj_EN r j) * 2 ^ 25
      + d.rd (TRN_SMARKj_DBEN r j) * 2 ^ 26 + d.rd (TRN_SMARKj_DB r j) * 2 ^ 27 + d.rd (TRN_SMARKj_GRPMASK r j) * 2 ^ 36
      + d.rd (TRN_SMARKj_MSIXEN r j) * 2 ^ 38 + d.rd (TRN_SMARKj_VEC r j) * 2 ^ 39)
    seats := (List.range 32).map (fun s => d.rd (TRN_SSEATs_SEAT r s))
    merges := (List.range 256).map (fun e => d.rd (TRN_SMERGEe_COACH r e) + d.rd (TRN_SMERGEe_OFFSET r e) * 2 ^ 4
      + d.rd (TRN_SMERGEe_LENGTH r e) * 2 ^ 15 + d.rd (TRN_SMERGEe_STA r e) * 2 ^ 26 + d.rd (TRN_SMERGEe_EN r e) * 2 ^ 38) }

/-- Copy a table into the staging registers. -/
def Dev.stage (d : Dev) (r : Nat) (t : ModeTab) : Dev :=
  let d := (d.wr (TRN_SCT_CT r) t.ct).wr (TRN_SNC_NCOACH r) t.nc
  let d := forNums 8 (fun j d =>
    let v := t.marks.getD j 0
    let d := (d.wr (TRN_SMARKj_OFF r j) v).wr (TRN_SMARKj_EN r j) (bits v 25 1)
    let d := (d.wr (TRN_SMARKj_DBEN r j) (bits v 26 1)).wr (TRN_SMARKj_DB r j) (bits v 27 9)
    let d := (d.wr (TRN_SMARKj_GRPMASK r j) (bits v 36 2)).wr (TRN_SMARKj_MSIXEN r j) (bits v 38 1)
    d.wr (TRN_SMARKj_VEC r j) (bits v 39 8)) d
  let d := forNums 32 (fun s d => d.wr (TRN_SSEATs_SEAT r s) (t.seats.getD s 0)) d
  forNums 256 (fun e d =>
    let v := t.merges.getD e 0
    let d := (d.wr (TRN_SMERGEe_COACH r e) (mergeCoach v)).wr (TRN_SMERGEe_OFFSET r e) (mergeOff v)
    let d := (d.wr (TRN_SMERGEe_LENGTH r e) (mergeLen v)).wr (TRN_SMERGEe_STA r e) (mergeSta v)
    d.put (TRN_SMERGEe_EN r e) (mergeOn v)) d

/-! ### The mirror bank (R164, R165) -/

/-- Read bytes of a ring's mirror bank; where the bank does not answer, a free value stands in their place. -/
def Dev.mirRead (d : Dev) (r a n : Nat) : Dev × List Byte :=
  let q := d.memRead 0x0E0 0x0E0 (d.rd (TRN_CFG_MBANK r) * 0x40000 + a) n
  if q.2.good then (q.1, q.2.data) else let f := q.1.takeFree; (f.2, toLe n f.1)

/-- Write bytes of a ring's mirror bank. -/
def Dev.mirWrite (d : Dev) (r a : Nat) (l : List Byte) : Dev := (d.memWrite 0x0E0 0x0E0 (d.rd (TRN_CFG_MBANK r) * 0x40000 + a) l).1

/-- The bank offset of a seat's status word. -/
def statusAt (m s : Nat) (out : Bool) : Nat := (m * 32 + s) * 8 + b01 out * 4

/-- A seat's status word. -/
def Dev.seatWord (d : Dev) (r m s : Nat) (out : Bool) : Dev × Nat :=
  let q := d.mirRead r (statusAt m s out) 4
  (q.1, leNat q.2)

/-- Set a seat's status word. -/
def Dev.setSeatWord (d : Dev) (r m s : Nat) (out : Bool) (v : Nat) : Dev := d.mirWrite r (statusAt m s out) (toLe 4 v)

/-- The bank offset of a copy of a seat's data. -/
def copyAt (v : Nat) (out : Bool) (front : Bool) : Nat :=
  seatMoff v + (if out && seatDir v == 3 then 2 * seatR v else 0) + b01 front * seatR v

/-- The IN bytes of a seat are copied into its back copy. -/
def Dev.seatTake (d : Dev) (r m s v : Nat) (l : List Byte) : Dev :=
  let q := d.seatWord r m s false
  q.1.mirWrite r (copyAt v false (!bit q.2 24)) ((l.drop (38 + seatOff v)).take (seatLen v))

/-- The OUT front copy of a seat replaces its bytes. -/
def Dev.seatGive (d : Dev) (r m s v : Nat) (l : List Byte) : Dev × List Byte :=
  let q := d.seatWord r m s true
  let w := q.1.mirRead r (copyAt v true (bit q.2 24)) (seatLen v)
  (w.1, spliceAt l (38 + seatOff v) w.2)

/-- An IN seat flips (R165). -/
def Dev.inFlip (d : Dev) (r m s cyc : Nat) (dmg : Bool) : Dev :=
  let q := d.seatWord r m s false
  let d := q.1.setSeatWord r m s false (cyc % 2 ^ 24 + b01 (!bit q.2 24) * 2 ^ 24 + b01 dmg * 2 ^ 27)
  let add (l : List Nat) : List Nat := if l.contains (32 * m + s) then l else l ++ [32 * m + s]
  d.modTrn r (fun x => { x with flipped := add x.flipped, filled := add x.filled })

/-- An OUT front copy was sent in a cycle. -/
def Dev.outSent (d : Dev) (r m s cyc : Nat) : Dev :=
  let q := d.seatWord r m s true
  q.1.setSeatWord r m s true (setBits q.2 0 24 cyc)

/-- The OUT flips (R165), of every OUT and EXCHANGE seat: of the mode tables that are valid. -/
def Dev.outFlips (d : Dev) (r : Nat) : Dev :=
  forNums 8 (fun m d =>
    ((List.range 32).zip (d.modeTab r m).seats).foldl (fun d e =>
      if seatOut e.2 && d.modeValid r m then
        let q := d.seatWord r m e.1 true
        q.1.setSeatWord r m e.1 true
          (if bit q.2 25 then setBits (setBits q.2 24 1 (b01 (!bit q.2 24))) 25 2 0 else setBits q.2 26 1 1)
      else d) d) d

/-- IN seats of a mode get STALE (R165): those of a test. -/
def Dev.staleMarks (d : Dev) (r m : Nat) (counted : Bool) (which : Nat → Bool) : Dev :=
  ((List.range 32).zip (d.modeTab r m).seats).foldl (fun d e =>
    if seatIn e.2 && which e.1 then
      let q := d.seatWord r m e.1 false
      (q.1.setSeatWord r m e.1 false (setBits q.2 25 1 1)).when counted (fun d => d.inc (TRN_CNT_STALE_CNT r))
    else d) d

/-- A word of the mirror window as it reads: an IN status word shows NEVER until its seat has had data since reset or table load (R165). -/
def Dev.mirrorRead (d : Dev) (r a : Nat) : Dev × Nat :=
  let q := d.mirRead r a 4
  let v := leNat q.2
  (q.1, if a < 0x800 ∧ a % 8 = 0 then setBits v 26 1 (b01 (!(d.trn r).filled.contains (a / 8))) else v)

/-- COMMIT is written in an OUT status word; other bits of a status word are not writable (R165). -/
def Dev.mirrorWord (d : Dev) (r a v : Nat) : Dev :=
  if a % 8 = 4 then
    let q := d.mirRead r a 4
    q.1.mirWrite r a (toLe 4 (setBits (leNat q.2) 25 1 (bits v 25 1)))
  else d

/-! ### Cycles and marks (R182, R188–R190) -/

/-- The mode that a ring runs in cycle c: a master's by its switch, another's by what it armed. -/
def Ring.modeAt (x : Ring) (c dflt : Nat) : Nat :=
  let old := match x.cur with
    | some y => y.mode
    | none => dflt
  match x.master with
  | some m =>
    match m.switch with
    | some s => if s.go && cycleFrom c s.n then s.m else old
    | none => old
  | none =>
    match x.arm with
    | some (n, m) => if cycleFrom c n then m else old
    | none => old

/-- The table whose marks and cycle time a cycle that starts at `s` has in a mode: a commit changes them from the next start on (R186,
R202). -/
def Dev.tableAt (d : Dev) (r m s : Nat) : ModeTab :=
  match tget (d.trn r).older m with
  | some (t, old) => if s ≤ t then old else d.modeTab r m
  | none => d.modeTab r m

/-- When mark j of a cycle is due (R189): mark 0 in every cycle, at its start; another where it is enabled. -/
def TrnCycle.markAt (y : TrnCycle) (j : Nat) : Option Nat :=
  let v := y.tab.marks.getD j 0
  if j = 0 then some y.s else if markOn v then some (y.s + markOff v * tick16) else none

/-- Whether mark j of a cycle has come at an instant and has not fired. -/
def TrnCycle.markCome (y : TrnCycle) (j now : Nat) : Bool := !y.fired.contains j && (y.markAt j).any (fun t => decide (t ≤ now))

/-- The marks that a cycle leaves behind: passed and not fired; each is owed once (R189). -/
def Dev.marksOwed (d : Dev) (r : Nat) (y : TrnCycle) : Tab TrnCycle :=
  if d.derailed r then []
  else
    ((numsWhere 8 (fun j => y.markCome j (d.trnNow r))).foldl (fun t j => tput t j y) (d.trn r).owed)

/-- Whether cycle c is one of the two of a survey whose MEASURE cycle is given. -/
def inSurvey (k : Option Nat) (c : Nat) : Bool :=
  match k with
  | some s => c % 2 ^ 32 == s % 2 ^ 32 || c % 2 ^ 32 == (s + 1) % 2 ^ 32
  | none => false

/-- Note a cycle as one of a survey (R184); the latest four are kept. -/
def Ring.noteSurvey (x : Ring) (c : Nat) : Ring := { x with surveyed := (c :: x.surveyed.filter (fun k => k != c)).take 4 }

/-- A ring enters cycle c at S_c (units of 2^-16 ns), or takes the start of the cycle it is in anew. An armed switch takes effect, and a
master's switch completes (R187). -/
def Dev.enterCycle (d : Dev) (r c s dflt : Nat) : Dev :=
  let x := d.trn r
  let same := match x.cur with
    | some y => y.c == c
    | none => false
  let mode := x.modeAt c dflt
  let fresh : TrnCycle := { c := c, s := s, mode := mode, tab := d.tableAt r mode s }
  let y : TrnCycle := match x.cur with
    | some y => if same then { y with s := s } else { fresh with before := s - y.s }
    | none => fresh
  let sw := match x.master with
    | some m => (match m.switch with | some w => w.go && cycleFrom c w.n | none => false)
    | none => false
  let armed := match x.arm with
    | some (n, _) => x.master.isNone && cycleFrom c n
    | none => false
  let owed := match x.cur with
    | some y => if same then x.owed else d.marksOwed r y
    | none => x.owed
  let d := d.setTrn r { x with
    cur := some y
    owed := owed
    arm := if armed then none else x.arm
    master := x.master.map (fun m => if sw then { m with switch := none } else m) }
  let d := (d.wr (TRN_CYCLE_CYCLE r) c).wr (TRN_CYCSTART_S r) (ts96 s)
  let d := d.wr (TRN_STAT_CMODE r) y.mode
  let d := d.when (sw || armed) (fun d => d.put (TRN_STAT_ARMED r) false)
  let d := d.when sw (fun d => d.ringEvent 0x0C0A r y.mode)
  let d := d.when (inSurvey x.survCyc c) (fun d => d.modTrn r (fun x => x.noteSurvey c))
  match x.survCyc with
  | some k => if cycleFrom c (k + 2) then (d.put (TRN_STAT_SURVPEND r) false).modTrn r (fun x => { x with survCyc := none }) else d
  | none => d

/-- S_c and c are taken from a coach 0 (R182): its cycle is entered, or, where the ring is in a later cycle by extrapolation, that cycle's start
is extrapolated from S_c anew, so that marks that have fired stand. A later cycle that has not come by then is not kept, but for the one
after c (DEDUCED, notes/assumptions/70). -/
def Dev.takeCycle (d : Dev) (r c s dflt : Nat) : Dev :=
  match (d.trn r).cur with
  | some y =>
    let n := (y.c + 2 ^ 32 - c % 2 ^ 32) % 2 ^ 32
    let len := y.tab.ct * unit8
    let later := s + (if y.before = 0 then len else y.before) + (n - 1) * len
    if 0 < n ∧ n < 2 ^ 31 ∧ (n = 1 ∨ later ≤ d.trnNow r) then d.enterCycle r y.c later dflt else d.enterCycle r c s dflt
  | none => d.enterCycle r c s dflt

/-- The start of the cycle after the present one, by extrapolation; none before the first, or where no cycle time is known. -/
def Ring.nextCycle (x : Ring) : Option (Nat × Nat) :=
  match x.cur with
  | some y => if y.tab.ct = 0 then none else some ((y.c + 1) % 2 ^ 32, y.s + y.tab.ct * unit8)
  | none => none

/-- A cycle whose start has come by extrapolation begins (R182); a node expects its coach 0 (R191). -/
def Dev.rollCycle (d : Dev) (r : Nat) : Dev :=
  match (d.trn r).nextCycle with
  | some (c, s) =>
    if s ≤ d.trnNow r then
      let d := d.enterCycle r c s 0
      let next := match (d.trn r).nextCycle with
        | some q => q.2
        | none => s
      if d.role r = roleMaster then d else d.modTrn r (fun x => { x with due := x.due ++ [(c, s, next)] })
    else d
  | none => d

/-- A mark is delivered to its targets (R190). -/
def Dev.markFires (d : Dev) (r j v : Nat) : Dev :=
  let d := d.when (bit v 26) (fun d => d.ring (bits v 27 9))
  let d := forNums 2 (fun g d => d.when (bit v (36 + g)) (fun d => d.raiseFlag g (8 + 8 * r + j))) d
  d.when (bit v 38) (fun d => d.postVec (bits v 39 8))

/-- What cycle mark 0 does to the seats (R165, R184): stale marking of the cycle that ended, and on a node the OUT flips. -/
def Dev.markZero (d : Dev) (r : Nat) (y : TrnCycle) : Dev :=
  let x := d.trn r
  let surv (c : Nat) : Bool := x.surveyed.contains (c % 2 ^ 32) || inSurvey x.survCyc c || inSurvey (x.master.bind (fun m => m.plan)) c
  let d := d.when (!surv (y.c + 2 ^ 32 - 1)) (fun d => d.staleMarks r y.mode true (fun s => !x.flipped.contains (32 * y.mode + s)))
  let d := d.when (d.role r != roleMaster && !surv y.c) (fun d => d.outFlips r)
  d.modTrn r (fun x => { x with flipped := [] })

/-- The surveyed delay for a direction, if valid (R167). -/
def Dev.trnDelay (d : Dev) (r : Nat) (rev : Bool) : Option Int :=
  if rev then (if d.on (TRN_STAT_DLYRV r) then some (d.rdS (TRN_DLYR_DLYR r)) else none)
  else if d.on (TRN_STAT_DLYFV r) then some (d.rdS (TRN_DLYF_DLYF r)) else none

/-- The instant by which coach 0 of a cycle is expected that began at `s`, the next one beginning at `next` (R191). -/
def Dev.lateAt (d : Dev) (r s next : Nat) : Int :=
  match d.trnDelay r (d.trn r).lastRev with
  | some δ => Int.ofNat s + δ + Int.ofNat (d.rd (TRN_WDOG_LATEWIN r) * 65536)
  | none => Int.ofNat next

/-- The cycle that a node is late for (R191): no good coach 0 of it has arrived by its expected time. -/
def Dev.lateFor (d : Dev) (r : Nat) : Option Nat :=
  match (d.trn r).due with
  | (c, s, next) :: _ =>
    if (d.role r == roleNode || d.role r == roleClaiming) && decide (d.lateAt r s next ≤ Int.ofNat (d.trnNow r)) then some c else none
  | [] => none

/-- A node derails in this tick (R192), which raises no mark then (R202). -/
def Dev.derailsNow (d : Dev) (r : Nat) : Bool := (d.lateFor r).isSome && decide (d.rd (TRN_WDOG_K r) ≤ d.rd (TRN_MISS_MISS r) + 1)

/-- Mark j of a cycle fires; its targets are those of the table, where it is enabled there. -/
def Dev.markOf (d : Dev) (r j : Nat) (y : TrnCycle) : Dev :=
  let v := y.tab.marks.getD j 0
  (d.when (j == 0) (fun d => d.markZero r y)).when (markOn v) (fun d => d.markFires r j v)

/-- Cycle mark j fires, where its instant has come, that of a cycle left behind first (R189); not on a derailed node, and not before the
first S_c (R190). -/
def Dev.cycleMark (d : Dev) (r j : Nat) : Dev :=
  if d.role r = roleOff ∨ d.derailed r then d
  else
    let d := d.rollCycle r
    let x := d.trn r
    if d.derailsNow r then d
    else
      match tget x.owed j, x.cur with
      | some y, _ => (d.setTrn r { x with owed := tdel x.owed j }).markOf r j y
      | none, none => d
      | none, some y =>
        if y.markCome j (d.trnNow r) then
          (d.setTrn r { x with cur := some { y with fired := y.fired ++ [j] } }).markOf r j y
        else d

/-! ### Late and derailed nodes (R191, R192) -/

/-- A ring's derailment begins: DERAIL, and the pins bound to it forced; it ends by a survey after it (R192, R193). -/
def Dev.derailBegins (d : Dev) (r : Nat) : Dev :=
  let ns := d.boundPins r
  let d := (d.put (TRN_STAT_DERAIL r) true).modTrn r (fun x => { x with rejoin := false, owed := [], forced := ns })
  if ns.isEmpty then d else d.forcePins 4 ns

/-- A node derails (R192). -/
def Dev.derail (d : Dev) (r : Nat) : Dev := ((d.inc (TRN_CNT_DERAIL_CNT r)).postEvent 0x0C0D 0x0E0 r).derailBegins r

/-- No good coach 0 has arrived by its expected time (R191): the node is late, and derails when MISS reaches K (R192). -/
def Dev.lateDeadline (d : Dev) (r : Nat) : Dev :=
  let d := if d.role r = roleNode ∨ d.role r = roleClaiming then d.rollCycle r else d
  match d.lateFor r with
  | some c =>
    let d := d.modTrn r (fun x => { x with due := x.due.drop 1 })
    let d := (d.put (TRN_STAT_LATE r) true).inc (TRN_MISS_MISS r)
    let d := (d.inc (TRN_CNT_LATE_CNT r)).ringEvent 0x0C0C r (c % 2 ^ 24)
    if d.rd (TRN_WDOG_K r) ≤ d.rd (TRN_MISS_MISS r) ∧ !d.on (TRN_STAT_DERAIL r) then d.derail r else d
  | none => d

/-- The pins that a ring's derailment forced, but for those that the other ring's holds too. -/
def Dev.derailPins (d : Dev) (r : Nat) : List Nat := (d.trn r).forced.filter (fun n => !(d.trn (1 - r)).forced.contains n)

/-- A ring's derailment ends as a cause on the pins that it forced (R193). -/
def Dev.derailEnds (d : Dev) (r : Nat) : Dev := (d.endForce 4 (d.derailPins r)).modTrn r (fun x => { x with forced := [] })

/-! ### Sending a coach -/

/-- What is on a port's wire is cut for a coach that leaves at an instant of LT, unless it is a coach (R157). -/
def Dev.cutForCoach (d : Dev) (e : Nat) (start : Int) : Dev :=
  match (d.port e).tx with
  | some t =>
    if d.isCoach e t.desc.bytes then d
    else
      let d := (d.setPort e { d.port e with tx := none }).cutOne e .port t (d.sentAt e t start)
      (d.inc (TRN_CNT_CUTFRM_CNT (e / 2))).postEvent 0x0C04 0x0E0 e
  | none => d

/-- A coach that the ring's controller originates leaves a port, its start of frame at the TDC at `start` in LT: behind a coach of its own that
is still in progress (R152), else at once, a frame in transmission that is no coach being cut (R157). -/
def Dev.coachSend (d : Dev) (e : Nat) (l : List Byte) (start : Int) : Dev :=
  if (d.port e).tx.any (fun t => t.coach) then
    d.setPort e { d.port e with coaches := (d.port e).coaches ++ [(start.toNat, l)] }
  else (d.cutForCoach e start).coachStart e l start.toNat

/-- A coach in progress that the ring's controller originates leaves with a stomped FCS, and none of its train follows (R174, R201). -/
def Dev.coachStomp (d : Dev) (e : Nat) : Dev :=
  match (d.port e).tx with
  | some t =>
    if t.coach then
      let d := match t.recorded with
        | some m => d.markCut e m
        | none => d
      d.setPort e { d.port e with tx := some { t with wire := withFcs t.desc.bytes true, bad := true }, coaches := [] }
    else d
  | none => d

/-- A coach that passes leaves a port (R156–R158), its start of frame at the TDC at `start` in LT: a frame in transmission that is no coach is
cut; the FCS is computed, or stomped; a coach that a pause would hold counts as immune (R72). -/
def Dev.coachOut (d : Dev) (e : Nat) (l : List Byte) (stomp : Bool) (start : Int) : Dev :=
  if !d.on (PRT_STAT_LINK e) then d
  else
    let d := d.cutForCoach e start
    let d := d.when (d.paused e 7) (fun d => d.inc (PRT_PIMMOVR_CNT e))
    let d := d.emitFrame e (withFcs l stomp) stomp
    let d := d.setPort e { d.port e with lastEnd := start.toNat + (l.length + 4) * d.byteTime e * 65536 / 10 }
    let d := if stomp then d else (d.inc (PRT_TXOK_CNT e)).incBy (PRT_TXOCT_CNT e) (l.length + 4)
    (d.recordDeparture e { bytes := l, tc := 7, origin := .copy } (d.stampOf e true start) false stomp).offIfDue e

/-- A coach in progress when its egress port was reset is cut there (R81, R174). -/
def Dev.coachCut (d : Dev) (e : Nat) (l : List Byte) (start : Int) : Dev :=
  d.emitFrame e (withFcs (l.take (d.bytesIn e (Int.ofNat (d.port e).rstAt - start))) true) true

end Sys2Proof.Machine
end

