-- ==== Sys2Proof/Machine/Train.lean ====
section
/-! DEFINITION. How a node of a Ripiost ring handles the coaches that pass (spec/06, spec/07): service of seats and tallies (R160–R163),
time (R167, R182), armed switches (R188), surveys (R168–R171, R184), start coaches (R172, R178–R180) and commands (R173, R200). -/

namespace Sys2Proof.Machine

/-! ### Coaches of kind train (R160–R165) -/

/-- What the serving of a coach came to: the device, the coach's bytes, the seats served, and whether a seat ran past its end. -/
structure Served where
  d : Dev
  l : List Byte
  seats : List Nat := []
  past : Bool := false

/-- Serve the seats of a mode in a coach: take the IN bytes as they passed, give the OUT bytes, or both. -/
def Dev.serveSeats (d : Dev) (r m : Nat) (takes gives : Bool) (l : List Byte) : Served :=
  (seatsOf (d.modeTab r m) (coachIndex l)).foldl (fun w e =>
    if seatOff e.2 + seatLen e.2 ≤ coachP w.l then
      let d := w.d.when (takes && seatIn e.2) (fun d => d.seatTake r m e.1 e.2 l)
      let q := if gives && seatOut e.2 then d.seatGive r m e.1 e.2 w.l else (d, w.l)
      { w with d := q.1, l := q.2, seats := w.seats ++ [e.1] }
    else { w with past := true }) { d := d, l := l }

/-- The served seats of a coach that arrived whole: IN seats flip, and OUT seats note the cycle in which they were sent (R165). -/
def Dev.seatsDone (d : Dev) (r m cyc : Nat) (dmg takes gives : Bool) (ss : List Nat) : Dev :=
  ss.foldl (fun d s =>
    let v := (d.modeTab r m).seats.getD s 0
    let d := d.when (takes && seatIn v) (fun d => d.inFlip r m s cyc dmg)
    d.when (gives && seatOut v) (fun d => d.outSent r m s (cyc % 2 ^ 24))) d

/-- What a coach's service is noted by (R160): its originator, its CYCLE, and which of the coaches of that cycle it is. -/
def coachKey (l : List Byte) (which : Nat) : Nat × Nat × Nat := (srcMac l, coachCycle l, which)

/-- Whether two cycle numbers lie within 2^23 of each other, modulo 2^32. -/
def cycleNear (a b : Nat) : Bool := decide ((a + 2 ^ 32 + 2 ^ 23 - b % 2 ^ 32) % 2 ^ 32 < 2 ^ 24)

/-- Note a coach as served; notes of the same originator whose cycle lies more than 2^23 cycles from it are another round's of the numbering
(DESIGN CHOICE, notes/assumptions/70). -/
def Ring.note (x : Ring) (l : List Byte) (which : Nat) : Ring :=
  { x with served := coachKey l which :: x.served.filter (fun e => e.1 != srcMac l || cycleNear (coachCycle l) e.2.1) }

/-- Whether a coach has not been served. -/
def Ring.fresh (x : Ring) (l : List Byte) (which : Nat) : Bool := !x.served.contains (coachKey l which)

/-- A coach whose seat runs past its end (R162). -/
def Dev.badLength (d : Dev) (r p len : Nat) : Dev := (d.inc (TRN_CNT_BADLEN_CNT r)).postEvent 0x0C03 0x0E0 (p * 2 ^ 16 + len % 65536)

/-- No valid table for the named mode (R162). -/
def Dev.noTable (d : Dev) (r mode cyc : Nat) : Dev :=
  (d.inc (TRN_CNT_NOTABLE_CNT r)).postEvent 0x0C05 0x0E0 (mode * 2 ^ 24 + cyc % 2 ^ 24)

/-- The offset of the access tally. -/
def tallyAt (l : List Byte) : Nat := l.length - 4

/-- A node serves a coach of kind train at its first arrival (R160–R163): the coach as it is forwarded, and the seats served. -/
def Dev.trainServe (d : Dev) (r p : Nat) (l : List Byte) : Dev × List Byte × List Nat :=
  let m := coachCmode l
  let pos := d.on (TRN_STAT_POSV r)
  let der := d.derailed r
  let valid := d.modeValid r m
  let d := d.when (!valid) (fun d => d.noTable r m (coachCycle l))
  let w : Served :=
    if !pos then { d := d, l := l }
    else if der || !valid then { d := d, l := tallyUp l (tallyAt l + 2) }
    else
      let w := d.serveSeats r m true true l
      { w with
        d := w.d.when w.past (fun d => d.badLength r p (l.length + 4))
        l := if !w.seats.isEmpty && !w.past then tallyUp w.l (tallyAt l) else w.l }
  let l := if coachIndex l = 0 then
      let l := tallyUp w.l 36
      if coachSwp l && pos && !der && d.modeValid r (coachNmode l) then tallyUp l 34 else l
    else w.l
  (w.d, l, w.seats)

/-! ### What a good coach 0 of kind train or survey gives (R167, R182, R188, R191, R193) -/

/-- A switch is armed or disarmed (R188). -/
def Dev.switchArm (d : Dev) (r : Nat) (l : List Byte) : Dev :=
  let c := coachCycle l
  let x := d.trn r
  if coachSwp l then
    let n := (c + (coachSwcyc l + 2 ^ 24 - c % 2 ^ 24) % 2 ^ 24) % 2 ^ 32
    ((d.setTrn r { x with arm := some (n, coachNmode l) }).put (TRN_STAT_ARMED r) true).wr (TRN_STAT_AMODE r) (coachNmode l)
  else
    match x.arm with
    | some (n, _) => if cycleFrom c n then d else (d.setTrn r { x with arm := none }).put (TRN_STAT_ARMED r) false
    | none => d

/-- The header names another mode than the one that runs: marks and cycle time follow the header (R188). -/
def Dev.modeFollow (d : Dev) (r : Nat) (l : List Byte) : Dev :=
  match (d.trn r).cur with
  | some y =>
    let m := coachCmode l
    if y.mode = m then d
    else
      let d := d.modTrn r (fun x => { x with cur := some { y with mode := m, tab := d.modeTab r m } })
      ((d.wr (TRN_STAT_CMODE r) m).put (TRN_STAT_MISMATCH r) true).ringEvent 0x0C11 r m
  | none => d

/-- A derailed node that a survey has given a position and delays rejoins (R193). -/
def Dev.rejoin (d : Dev) (r : Nat) : Dev :=
  if d.on (TRN_STAT_DERAIL r) && (d.trn r).rejoin then
    let d := (d.put (TRN_STAT_DERAIL r) false).derailEnds r
    (d.clr (TRN_MISS_MISS r)).ringEvent 0x0C0E r (d.rd (TRN_STAT_POS r))
  else d

/-- The first good coach 0 of kind train or survey of a cycle; `stamp` is the receive stamp of its start of frame. It is looked at for time
only at the first arrival (R174, R182): with a damaged one before it no time is taken in the cycle, but it arms, disarms and corrects the
mode (R188), ends lateness (R191) and lets a derailed node rejoin (R193) all the same. Reverse trains are those of break mode (R191). -/
def Dev.coachZero (d : Dev) (r : Nat) (l : List Byte) (fwd first : Bool) (stamp : Stamp) : Dev :=
  let c := coachCycle l
  let rx := d.stampIn (d.rd (TRN_CFG_TDOM r)) stamp
  let dep := resolveStamp rx (coachDep l)
  let d := d.modTrn r (fun x => { (x.note l 48) with
    lastRev := if coachKind l = 1 && first then !fwd else x.lastRev, due := x.due.filter (fun e => !cycleFrom c e.1) })
  let d := d.when first (fun d => d.takeCycle r c (dep - dep % d.trnGrid r) (coachCmode l))
  let d := (d.switchArm r l).modeFollow r l
  let d := (d.put (TRN_STAT_LATE r) false).clr (TRN_MISS_MISS r)
  if coachKind l = 1 then
    let d := d.rejoin r
    match d.trnDelay r (!fwd) with
    | some δ =>
      if d.derailed r || !first then d
      else d.offerOffset (d.rd (TRN_CFG_TDOM r)) 3 (Int.ofNat rx - (Int.ofNat dep + δ))
    | none => d
  else d

/-! ### Surveys (R168–R171) -/

/-- The PHASE and TOPO of a measurement coach, where its payload is long enough and they are not reserved. -/
def surveyPhase (l : List Byte) : Option (Nat × Nat) :=
  let b := fieldAt l 38 1
  if 32 ≤ coachP l ∧ b / 16 ≤ 1 ∧ b % 16 ≤ 2 then some (b / 16, b % 16) else none

/-- A signed 32-bit field of a coach. -/
def fieldS32 (l : List Byte) (o : Nat) : Int := toSigned 32 (fieldAt l o 4)

/-- A node passes a MEASURE coach (R168–R170): the coach as it is forwarded, and what the node does when it is good. `turns` says that
the coach goes back out of the port it came in by. -/
def Dev.surveyMeasure (d : Dev) (r : Nat) (topo : Nat) (l : List Byte) (fwd turns good : Bool) (stamp : Stamp) : Dev × List Byte :=
  let x := d.trn r
  let c := coachCycle l
  let sseq := fieldAt l 39 1
  let dep := Int.ofNat (resolveStamp (d.stampIn (d.rd (TRN_CFG_TDOM r)) stamp) (coachDep l))
  let held : TrnSurvey := match x.surv with
    | some v => if v.sseq = sseq ∧ v.cycle = c then v else { sseq := sseq, cycle := c }
    | none => { sseq := sseq, cycle := c }
  if topo ≤ 1 ∧ fwd then
    if x.fresh l 16 then
      let ovf := bit (fieldAt l 40 1) 7 || fieldAt l 40 2 % 4096 == 0xFFF
      let a := toSigned 32 (ofSigned 32 (fieldS32 l 42 + d.rdS (TB_Pp_ASYM_ASYM (inPort r))))
      let w := fieldAt l 40 2
      let pos := w % 4096 + 1
      let l' := putAt (putAt l 40 2 (if ovf then setBits w 15 1 1 else setBits w 0 12 pos)) 42 4 (ofSigned 32 a)
      let d := d.modTrn r (fun x => x.note l 16)
      if good then
        let d := d.when ovf (fun d => d.postEvent 0x0C06 0x0E0 sseq)
        let v := { held with
          cand := if ovf then none else some pos, asym := a, tF := some stamp.lt, depF := dep
          turn := if turns then some (Int.ofNat (d.trnLatency r)) else held.turn }
        (d.modTrn r (fun x => { x with surv := some v }), l')
      else (d, l')
    else (d, l)
  else if topo = 0 then
    match held.tF with
    | some t =>
      if good && held.turn.isNone then
        (d.modTrn r (fun x => { x with surv := some { held with turn := some (stamp.lt + Int.ofNat (d.trnLatency r) - t) } }), l)
      else (d, l)
    | none => (d, l)
  else if topo = 2 ∧ !fwd ∧ x.fresh l 32 then
    let d := d.modTrn r (fun x => x.note l 32)
    if good then (d.modTrn r (fun x => { x with surv := some { held with tR := some stamp.lt, depR := dep } }), l) else (d, l)
  else (d, l)

/-- A good RESULT coach gives the node its position (R184); the delays follow (R170). -/
def Dev.surveyResult (d : Dev) (r topo : Nat) (l : List Byte) : Dev :=
  let x := d.trn r
  let sseq := fieldAt l 39 1
  let cand := match x.surv with
    | some v => if v.sseq = sseq then v.cand else none
    | none => none
  let d := d.setTrn r { x with result := some {
    sseq := sseq, topo := topo, time := fieldAt l 46 8, atot := fieldS32 l 54 } }
  match cand with
  | some p => (d.wr (TRN_STAT_POS r) p).put (TRN_STAT_POSV r) true
  | none => (d.clr (TRN_STAT_POS r)).put (TRN_STAT_POSV r) false

/-- The delays of a survey (R169, R170), in units of 2^-16 ns: DLYF, and DLYR in a closed ring. -/
def TrnSurvey.delays (v : TrnSurvey) (q : TrnResult) (latency : Int) : Option (Int × Option Int) :=
  let T := Int.ofNat q.time
  if v.sseq ≠ q.sseq then none
  else
    match q.topo, v.tF, v.tR, v.turn with
    | 0, some _, _, some u => some ((T - u) / 2 + v.asym, none)
    | 1, some f, some b, _ =>
      let δ := ((f - b) - (v.depF - v.depR) + T - latency + 2 * v.asym - q.atot) / 2
      some (δ, some (T - δ - latency - q.atot + 2 * v.asym))
    | _, _, _, _ => none

/-- The node computes DLYF and DLYR after a RESULT coach (R169, R170). -/
def Dev.surveyDelays (d : Dev) (r : Nat) : Dev :=
  let x := d.trn r
  match x.result with
  | none => d
  | some q =>
    let d := d.setTrn r { x with result := none }
    match x.surv.bind (fun v => v.delays q (Int.ofNat (d.trnLatency r))) with
    | some (f, b) =>
      let d := (d.wr (TRN_DLYF_DLYF r) (ofSigned 64 f)).put (TRN_STAT_DLYFV r) true
      let d := match b with
        | some b => (d.wr (TRN_DLYR_DLYR r) (ofSigned 64 b)).put (TRN_STAT_DLYRV r) true
        | none => d.put (TRN_STAT_DLYRV r) false
      d.modTrn r (fun x => { x with rejoin := d.on (TRN_STAT_DERAIL r) && d.on (TRN_STAT_POSV r) })
    | none => ((d.put (TRN_STAT_DLYFV r) false).put (TRN_STAT_DLYRV r) false).inc (TRN_CNT_SURVEYMISS_CNT r)

/-- A roster coach passes on the forward MEASURE pass (R171): the node writes its entry where its position falls into this coach. -/
def Dev.rosterEntry (d : Dev) (r : Nat) (l : List Byte) (fwd : Bool) : Dev × List Byte :=
  let x := d.trn r
  let c := coachCycle l
  let i := coachIndex l
  if fwd && x.fresh l (64 + i) then
    let d := d.setTrn r (x.note l (64 + i))
    match x.surv with
    | some v =>
      match v.cand with
      | some p =>
        if v.cycle = c ∧ 1 + (p - 1) / 734 = i then
          let o := 2 * ((p - 1) % 734)
          if o + 2 ≤ coachP l then
            (d, putAt l (38 + o) 2 (2 ^ 15 + b01 (d.rd (TRN_CFG_PRIO r) != 0) * 2 ^ 14 + d.rd (TRN_CFG_STA r)))
          else (d, l)
        else (d, l)
      | none => (d, l)
    | none => (d, l)
  else (d, l)

/-! ### Start coaches (R172, R178–R180) -/

/-- A rank (R177): priority, station address, EUI-64. -/
structure Rank where
  prio : Nat
  sta : Nat
  eui : Nat
deriving DecidableEq, Repr

/-- Rank `a` is better than rank `b`. -/
def Rank.better (a b : Rank) : Bool :=
  decide (b.prio < a.prio)
    || (a.prio == b.prio && (decide (a.sta < b.sta) || (a.sta == b.sta && decide (a.eui < b.eui))))

/-- A node's own rank. -/
def Dev.ownRank (d : Dev) (r : Nat) : Rank := ⟨d.rd (TRN_CFG_PRIO r), d.rd (TRN_CFG_STA r), d.rd (TRN_EUI_EUI r)⟩

/-- The rank in a start coach. -/
def coachRank (l : List Byte) : Rank := ⟨fieldAt l 38 1 % 16, fieldAt l 40 2 % 4096, fieldAt l 42 8⟩

/-- The first 12 payload bytes of a start coach, as a rank has them. -/
def rankBytes (k : Rank) : List Byte := toBe 1 k.prio ++ toBe 1 0 ++ toBe 2 k.sta ++ toBe 8 k.eui

/-- A claim begins (R176, R178). -/
def Dev.claimStart (d : Dev) (r : Nat) : Dev := (d.setRole r roleClaiming false).modTrn r (fun x => { x with claim := {} })

/-- The rank of a passing start coach is overwritten (R179): the coach, and whether it was. In a device fault, in which the device does not
claim, it is not (R440). -/
def Dev.startOverwrite (d : Dev) (r : Nat) (l : List Byte) : List Byte × Bool :=
  let own := d.ownRank r
  if !d.on SUP_STAT_FAULT ∧ (d.role r = roleMaster ∨ (own.prio ≠ 0 ∧ own.better (coachRank l))) then (spliceAt l 38 (rankBytes own), true) else (l, false)

/-- A claimant's own start coach has come back good (R178): with a foreign rank the claimant yields, whichever window it is of. -/
def Dev.startReturned (d : Dev) (r : Nat) (l : List Byte) : Dev :=
  let x := d.trn r
  let q := fieldAt l 58 4
  if d.role r ≠ roleClaiming then d
  else if coachRank l ≠ d.ownRank r then (d.setRole r roleNode true).modTrn r (fun x => { x with claim := {} })
  else if x.claim.wait.any (fun v => v.1 == q) then
    d.setTrn r { x with claim := { x.claim with back := x.claim.back + 1, wait := x.claim.wait.filter (fun v => v.1 != q) } }
  else d

/-- A start coach passes a node: the coach as it is forwarded, none where it is removed, good or not (R178–R180). -/
def Dev.startCoach (d : Dev) (r : Nat) (l : List Byte) (fwd good : Bool) : Dev × Option (List Byte) :=
  if coachP l < 24 then (d, some l)
  else
    let key := (fieldAt l 50 8, fieldAt l 58 4, fwd)
    if key.1 = d.rd (TRN_EUI_EUI r) ∨ srcMac l = ringMac r then (d.when good (fun d => d.startReturned r l), none)
    else if (d.trn r).starts.contains key then (d, none)
    else
      let q := d.startOverwrite r l
      let d := d.modTrn r (fun x => { x with starts := (key :: x.starts).take 8 })
      (d.when (good && q.2 && d.role r == roleNode) (fun d => d.claimStart r), some q.1)

/-! ### Command coaches (R173, R200) -/

/-- A USER entry reaches the command FIFO (R200). -/
def Dev.commandPush (d : Dev) (r cyc arg : Nat) : Dev :=
  let x := d.trn r
  if 16 ≤ x.fifo.length then (d.inc (TRN_CNT_CMDLOST_CNT r)).postEvent 0x0C16 0x0E0 r
  else
    let d := d.setTrn r { x with fifo := x.fifo ++ [(cyc % 2 ^ 24, arg)] }
    d.when (d.on (TRN_CMDDB_DBEN r)) (fun d => d.ring (d.rd (TRN_CMDDB_DB r)))

/-- A ring's status word (TRN_STAT) as software reads it. -/
def Dev.trnStat (d : Dev) (r : Nat) : Nat :=
  let looping := d.on (TRN_CFG_EN r) && d.on (PRT_STAT_LINK (outPort r)) != d.on (PRT_STAT_LINK (inPort r))
  d.role r + d.rd (TRN_STAT_LATE r) * 2 ^ 2 + d.rd (TRN_STAT_DERAIL r) * 2 ^ 3 + d.rd (TRN_STAT_BREAK r) * 2 ^ 4 + b01 looping * 2 ^ 5
    + d.rd (TRN_STAT_CMODE r) * 2 ^ 6 + d.rd (TRN_STAT_AMODE r) * 2 ^ 9 + d.rd (TRN_STAT_ARMED r) * 2 ^ 12
    + d.rd (TRN_STAT_SWCANCEL r) * 2 ^ 13 + d.rd (TRN_STAT_MISMATCH r) * 2 ^ 14 + d.rd (TRN_STAT_REFUSED r) * 2 ^ 15
    + d.rd (TRN_STAT_POS r) * 2 ^ 16 + d.rd (TRN_STAT_POSV r) * 2 ^ 28 + d.rd (TRN_STAT_DLYFV r) * 2 ^ 29
    + d.rd (TRN_STAT_DLYRV r) * 2 ^ 30 + d.rd (TRN_STAT_SURVPEND r) * 2 ^ 31

/-- The entry of a command coach at an offset passes a node that takes it: the coach, and what is done when the coach is good. -/
def Dev.commandEntry (d : Dev) (r : Nat) (l : List Byte) (o : Nat) : List Byte × (Dev → Dev) :=
  let target := fieldAt l o 2
  let op := fieldAt l (o + 2) 1
  let arg := fieldAt l (o + 4) 8
  let all := bit target 15
  if (all || target % 4096 == d.rd (TRN_CFG_STA r)) && decide (op ≤ 4) then
    let l := tallyUp l (o + 20)
    match op with
    | 1 => (if all then l else putAt l (o + 12) 8 (d.rd (TRN_EUI_EUI r)), id)
    | 2 => (putAt l (o + 12) 8 (d.trnStat r + d.rd (TRN_MVALID_VALID r) * 2 ^ 32), id)
    | 3 => (l, fun d => (d.put (TRN_STAT_SURVPEND r) true).modTrn r (fun x => { x with survCyc := some (arg % 2 ^ 32) }))
    | _ => (l, fun d => d.commandPush r (coachCycle l) arg)
  else (l, id)

/-- The entries of a command coach from a number on; an OP of 0 ends the list. -/
def Dev.commandEntries (d : Dev) (r : Nat) : Nat → Nat → List Byte → List Byte × (Dev → Dev)
  | 0, _, l => (l, id)
  | k + 1, i, l =>
    let o := 38 + 24 * i
    if 24 * (i + 1) ≤ coachP l ∧ fieldAt l (o + 2) 1 ≠ 0 then
      let q := d.commandEntry r l o
      let w := d.commandEntries r k (i + 1) q.1
      (w.1, fun d => w.2 (q.2 d))
    else (l, id)

/-- A command coach passes a node, which takes its entries at the first arrival. -/
def Dev.commandCoach (d : Dev) (r : Nat) (l : List Byte) (good : Bool) : Dev × List Byte :=
  if (d.trn r).fresh l (coachIndex l) then
    let d := d.modTrn r (fun x => x.note l (coachIndex l))
    let q := d.commandEntries r 61 0 l
    (d.when good q.2, q.1)
  else (d, l)

/-- A command entry is read, which removes it (R200). -/
def Dev.commandPop (d : Dev) (r : Nat) : Dev := d.modTrn r (fun x => { x with fifo := x.fifo.drop 1 })

/-- What TRN_CMDFIFO reads: word 0, then ARG. -/
def Dev.commandHead (d : Dev) (r : Nat) : Nat :=
  match (d.trn r).fifo with
  | [] => 0
  | (c, a) :: _ => 2 ^ 31 + c + a * 2 ^ 32

end Sys2Proof.Machine
end

