-- ==== Sys2Proof/Machine/TrainMaster.lean ====
section
/-! DEFINITION. The master of a Ripiost ring (spec/07): claiming, cycles and departures (R178, R181), returning coaches (R194–R197),
surveys (R183), mode switches (R187); and the whole handling of a coach that arrives (R148, R155–R159), of a link that changes, of a
device fault and of a reset (R174, R201, R440). -/

namespace Sys2Proof.Machine

/-- Change a master's state. -/
def Dev.modMaster (d : Dev) (r : Nat) (f : TrnMaster → TrnMaster) : Dev :=
  d.modTrn r (fun x => { x with master := x.master.map f })

/-- A master's first cycle (R181), and its survey (R183): once the table of IMODE is valid. -/
def Dev.masterInit (d : Dev) (r : Nat) : Dev :=
  match (d.trn r).master with
  | some m =>
    let im := d.rd (TRN_MCFG_IMODE r)
    if m.next.isNone && d.modeValid r im then
      let base := ofTs96 (d.rd (TRN_BASE_BASE r))
      let ct := (d.modeTab r im).ct * unit8
      let now := d.trnNow r
      let k := if now < base then 0 else (now - base) / ct + 1
      d.modMaster r (fun m => { m with next := some (k % 2 ^ 32, base + k * ct), taken := false, plan := some (k % 2 ^ 32) })
    else d
  | none => d

/-- A node becomes master (R178). A master is never late nor derailed (R194), so that ends with it, and no break is detected yet (DEDUCED,
notes/assumptions/70). -/
def Dev.becomeMaster (d : Dev) (r : Nat) : Dev :=
  let d := ((d.setRole r roleMaster false).derailEnds r).modTrn r (fun x => {
    x with master := some {}, cur := none, arm := none, due := [], owed := [], claim := {}, rejoin := false })
  let d := ((d.put (TRN_STAT_DERAIL r) false).put (TRN_STAT_LATE r) false).clr (TRN_MISS_MISS r)
  ((d.put (TRN_STAT_BREAK r) false).put (TRN_STAT_ARMED r) false).masterInit r

/-! ### Claiming (R176, R178) -/

/-- Whether a ring's controller may claim (R176, R440): its PRIO is not 0, and the device is in no fault. -/
def Dev.mayClaim (d : Dev) (r : Nat) : Bool := d.rd (TRN_CFG_PRIO r) != 0 && !d.on SUP_STAT_FAULT

/-- No good coach of kind train or survey for TRN_SILENCE, in units of 10 µs (R176). -/
def Dev.silence (d : Dev) (r : Nat) : Dev :=
  if d.on (TRN_CFG_EN r) && d.role r == roleNode && d.mayClaim r
      && decide ((d.trn r).heard + d.rd (TRN_SILENCE_SILENCE r) * (10000 * 65536) ≤ d.tb.lt) then d.claimStart r
  else d

/-- TRN_MAXRT, in units of 2^-16 ns. -/
def Dev.maxRt (d : Dev) (r : Nat) : Nat := d.rd (TRN_MAXRT_MAXRT r) * unit8

/-- A start coach has not come back in MAXRT after it left (R178): a new window. -/
def Dev.startTimeout (d : Dev) (r : Nat) : Dev :=
  let x := d.trn r
  if d.role r = roleClaiming ∧ d.mayClaim r ∧ x.claim.wait.any (fun w => decide (w.2 + d.maxRt r ≤ d.tb.lt)) then
    d.setTrn r { x with claim := { count := (x.claim.count + 1) % 2 ^ 32 } }
  else d

/-- A claim window of 3 × MAXRT has ended (R178): a start coach that arrives in the tick in which it ends is processed first (R202). -/
def Dev.windowEnd (d : Dev) (r : Nat) : Dev :=
  if d.role r = roleClaiming ∧ d.mayClaim r ∧ (d.trn r).claim.back = 3 ∧ (d.trn r).claim.start + 3 * d.maxRt r < d.tb.lt then d.becomeMaster r
  else d

/-- A write of TRN_CFG leaves PRIO 0: a claim ends (R176). -/
def Dev.prioWritten (d : Dev) (r : Nat) : Dev :=
  if d.role r = roleClaiming ∧ d.rd (TRN_CFG_PRIO r) = 0 then (d.setRole r roleNode false).modTrn r (fun x => { x with claim := {} }) else d

/-- A coach of this ring up to its header's end (R151–R153), with its fields from DEP on zero but for DEP itself. -/
def Dev.coachHead (d : Dev) (r kind idx : Nat) (last rev : Bool) (c cmode nmode : Nat) (swp : Bool) (swcyc dep : Nat) : List Byte :=
  toBe 2 (d.rd (TRN_DMAC_H_DMAC r)) ++ toBe 4 (d.rd (TRN_DMAC_L_DMAC r)) ++ toBe 6 (ringMac r) ++ toBe 2 (d.coachType r)
    ++ toBe 1 (16 + kind) ++ toBe 1 (idx * 16 + b01 last * 8 + b01 rev * 4)
    ++ toBe 2 (d.rd (TRN_CFG_RINGID r) * 4096 + d.rd (TRN_CFG_STA r)) ++ toBe 4 c
    ++ toBe 1 (cmode * 32 + nmode * 4 + b01 swp * 2) ++ toBe 3 (if swp then swcyc % 2 ^ 24 else 0) ++ toBe 8 dep ++ toBe 4 0

/-- The stamp and DEP of a coach that leaves a port now (R166). -/
def Dev.depNow (d : Dev) (r e sub : Nat) : Stamp × Nat :=
  let t := d.stampLt e true sub
  (t, compact (d.stampIn (d.rd (TRN_CFG_TDOM r)) t))

/-- A claimant sends a start coach on its out-port, one every MAXRT from the window's beginning on (R178, R172). -/
def Dev.startSend (d : Dev) (r sub : Nat) : Dev :=
  let x := d.trn r
  let start := if x.claim.sent = 0 then d.tb.lt else x.claim.start
  if d.role r ≠ roleClaiming ∨ !d.mayClaim r ∨ 3 ≤ x.claim.sent ∨ d.tb.lt < start + x.claim.sent * d.maxRt r then d
  else
    let q := (x.oseq + 1) % 2 ^ 32
    let k := d.ownRank r
    let e := outPort r
    let dep := (d.depNow r e sub).2
    let l := d.coachHead r 3 0 true false x.claim.count 0 0 false 0 dep ++ rankBytes k ++ toBe 8 k.eui ++ toBe 4 q ++ toBe 4 0
    let claim := { x.claim with start := start, sent := x.claim.sent + 1, wait := x.claim.wait ++ [(q, d.tb.lt)] }
    (d.setTrn r { x with oseq := q, claim := claim }).coachSend e l (d.instant 0 sub)

/-! ### Mode switches (R187) -/

/-- A request that a ring refuses (R203, 0x0C15), with the register's offset. -/
def Dev.trnRefuse (d : Dev) (r off : Nat) : Dev := (d.put (TRN_STAT_REFUSED r) true).postEvent 0x0C15 0x0E0 (0x400000 + 0x4000 * r + off)

/-- SWGO (R187). -/
def Dev.swGo (d : Dev) (r : Nat) : Dev :=
  let now := d.rd (TRN_CYCLE_CYCLE r)
  let n := if d.rd (TRN_SWCYC_N r) = 0 then (now + 4) % 2 ^ 32 else d.rd (TRN_SWCYC_N r)
  let m := d.rd (TRN_SWITCH_NMODE r)
  let ahead := (n + 2 ^ 32 - now) % 2 ^ 32
  match (d.trn r).master with
  | some x =>
    if x.switch.isNone && decide (4 ≤ ahead) && decide (ahead ≤ 2 ^ 23) && d.modeValid r m then
      ((d.modMaster r (fun x => { x with switch := some { n := n, m := m } })).put (TRN_STAT_ARMED r) true).wr (TRN_STAT_AMODE r) m
    else d.trnRefuse r 0x30
  | none => d.trnRefuse r 0x30

/-- A pending switch is cancelled. -/
def Dev.swCancel (d : Dev) (r consent : Nat) : Dev :=
  let d := (d.modMaster r (fun x => { x with switch := none })).put (TRN_STAT_ARMED r) false
  ((d.put (TRN_STAT_SWCANCEL r) true).inc (TRN_CNT_SWCANCEL_CNT r)).ringEvent 0x0C0B r consent

/-- The tallies of the returns of a train's coach 0: those of the one train, or the sums of the two (R196). -/
def TrnTrain.tallies (t : TrnTrain) : Option (Nat × Nat) :=
  match t.fw, t.rv with
  | some a, some b => some (min 0xFFFF (a.1 + b.1), min 0xFFFF (a.2 + b.2))
  | some a, none => some a
  | none, b => b

/-- Whether a coach 0 of a train is still out. -/
def TrnTrain.out (t : TrnTrain) : Bool := t.fwOut || t.rvOut

/-- A master's train of a cycle that is not wholly back. -/
def TrnMaster.train (m : TrnMaster) (c : Nat) : Option TrnTrain := m.trains.find? (fun t => t.c == c)

/-- The consent that a train's returns show is enough for a switch (R187): a good coach 0 with CONSENT ≥ NODES. -/
def Dev.consentGiven (d : Dev) (r : Nat) (t : TrnTrain) : Bool := t.tallies.any (fun k => decide (d.rd (TRN_NODES_NODES r) ≤ k.2))

/-- A pending switch is decided by the returns of the train of cycle N − 2 (R187). -/
def Dev.decideSwitch (d : Dev) (r : Nat) (t : TrnTrain) : Dev :=
  if d.consentGiven r t then d.modMaster r (fun m => { m with switch := m.switch.map (fun s => { s with go := true }) })
  else d.swCancel r ((t.tallies.map (·.2)).getD 0)

/-- The consent of cycle N − 2 is evaluated on its train (R187): once it is given, or no coach 0 of the train is waited for. -/
def Dev.consent (d : Dev) (r : Nat) (t : TrnTrain) : Dev :=
  match (d.trn r).master.bind (fun m => m.switch) with
  | some s => if !s.go && (t.c + 2) % 2 ^ 32 == s.n % 2 ^ 32 && (!t.out || d.consentGiven r t) then d.decideSwitch r t else d
  | none => d

/-! ### Ring break (R195–R197) -/

/-- The master detects a break (R195). -/
def Dev.breakEnter (d : Dev) (r : Nat) : Dev :=
  if d.role r = roleMaster ∧ !d.on (TRN_CFG_TOPO r) ∧ !d.on (TRN_STAT_BREAK r) then
    let d := (d.put (TRN_STAT_BREAK r) true).inc (TRN_CNT_BREAKS_CNT r)
    (d.ringEvent 0x0C0F r (d.rd (TRN_CYCLE_CYCLE r) % 2 ^ 24)).modMaster r (fun m => { m with whole := false })
  else d

/-- The master leaves break mode in the cycle it has begun, where no switch is pending in it (R197). -/
def Dev.breakLeave (d : Dev) (r c : Nat) : Dev :=
  match (d.trn r).master with
  | some m =>
    if d.on (TRN_STAT_BREAK r) && m.whole && m.switch.isNone then
      let d := (d.put (TRN_STAT_BREAK r) false).ringEvent 0x0C10 r (c % 2 ^ 24)
      d.modMaster r (fun m => { m with whole := false, survReq := m.survReq || d.on (TRN_CFG_AUTOSURV r) })
    else d
  | none => d

/-- The position of a station address by the roster; the master's own is 0 (R185). -/
def Dev.staPosition (d : Dev) (r sta : Nat) : Option Nat :=
  if sta = d.rd (TRN_CFG_STA r) then some 0
  else ((d.trn r).roster.find? (fun e => e.2 == sta)).map (·.1)

/-- One returning coach merged from the forward and the reverse return (R196). -/
def Dev.mergeReturns (d : Dev) (r idx : Nat) (t : ModeTab) (fw rv : Option (List Byte)) : List Byte :=
  let a := fw.getD (rv.getD [])
  let b := rv.getD a
  t.merges.foldl (fun l e =>
    if mergeOn e && mergeCoach e == idx then
      let forward := match d.staPosition r (mergeSta e) with
        | some p => decide (p ≤ d.rd (TRN_BREAKPOS_J r))
        | none => false
      let src := if forward then a else b
      if mergeOff e + mergeLen e ≤ src.length ∧ mergeOff e + mergeLen e ≤ l.length then
        spliceAt l (mergeOff e) ((src.drop (mergeOff e)).take (mergeLen e))
      else l
    else l) a

/-- The returning coach that the master uses (R162, R196): none when no good one came back. -/
def Dev.returned (d : Dev) (r idx : Nat) : Option (List Byte) :=
  match (d.trn r).master with
  | some m =>
    let fw := tget m.fwd idx
    let rv := tget m.rev idx
    if fw.isNone && rv.isNone then none
    else if rv.isNone then fw else some (d.mergeReturns r idx (d.modeTab r m.retMode) fw rv)
  | none => none

/-- The port on which a master's forward coaches come back: the in-port, or on a line the out-port. -/
def Dev.backPort (d : Dev) (r : Nat) : Nat := if d.on (TRN_CFG_TOPO r) then outPort r else inPort r

/-- The master's own IN seats of a returned coach are served, once, where the coach's mode has a valid table (R162, R196); DMGF where one of
the returns that fill it carried DMG. -/
def Dev.masterIn (d : Dev) (r idx : Nat) : Dev :=
  match (d.trn r).master with
  | some m =>
    if m.done.contains idx || !d.modeValid r m.retMode then d
    else
      match d.returned r idx with
      | some pay =>
        let l := List.replicate 15 (0 : Byte) ++ toBe 1 (idx * 16) ++ List.replicate 22 0 ++ pay ++ List.replicate 4 0
        let w := d.serveSeats r m.retMode true false l
        let d := w.d.when w.past (fun d => d.badLength r (d.backPort r) (l.length + 4))
        (d.seatsDone r m.retMode (m.retCyc.getD 0) (m.dmgs.contains idx) true false w.seats).modMaster r (fun m => { m with done := m.done ++ [idx] })
      | none => d
  | none => d

/-! ### Returning coaches (R194) -/

/-- Note the return of a coach of a train of seats in a mode, with its payload and DMG where it is good; an older train's are dropped, and a
train older than the one noted is not looked at (R162, R196). -/
def TrnMaster.keep (m : TrnMaster) (cyc mode idx : Nat) (rev good dmg : Bool) (pay : List Byte) : TrnMaster :=
  let put (m : TrnMaster) : TrnMaster :=
    let m := { m with dmgs := if good && dmg then idx :: m.dmgs else m.dmgs }
    if good then if rev then { m with rev := tput m.rev idx pay } else { m with fwd := tput m.fwd idx pay } else m
  let new : TrnMaster := { m with retCyc := some cyc, retMode := mode, fwd := [], rev := [], dmgs := [], done := [] }
  match m.retCyc with
  | none => put new
  | some c => if c = cyc then put m else if cycleFrom cyc c then put new else m

/-- A coach 0 that a master originated is back, good or not (R194, R195, R197): the ring is broken where the forward train's is back on the
out-port, and whole again where it is back good on the in-port. -/
def Dev.zeroBack (d : Dev) (r p cyc : Nat) (rev good : Bool) : Dev :=
  let here (t : TrnTrain) : TrnTrain := if t.c = cyc then (if rev then { t with rvOut := false } else { t with fwOut := false }) else t
  let d := d.modMaster r (fun m => { m with trains := m.trains.map here })
  let d := d.when (p == outPort r && !rev) (fun d => d.breakEnter r)
  d.when (good && p == inPort r && !rev && d.on (TRN_STAT_BREAK r)) (fun d => d.modMaster r (fun m => { m with whole := true }))

/-- Trains whose coach 0 is back are no longer out. -/
def Dev.trainsDone (d : Dev) (r : Nat) : Dev := d.modMaster r (fun m => { m with trains := m.trains.filter TrnTrain.out })

/-- The tallies of a train that is back are judged (R183, R187, R194), and in break mode J is noted (R196). -/
def Dev.judgeTallies (d : Dev) (r : Nat) (t : TrnTrain) : Dev :=
  let d := match t.fw with
    | some a => if d.on (TRN_STAT_BREAK r) then d.wr (TRN_BREAKPOS_J r) a.1 else d
    | none => d
  let d := match t.tallies with
    | some (p, k) =>
      let d := (d.wr (TRN_RET_PRESENCE r) p).wr (TRN_RET_CONSENT r) k
      if t.out then d
      else
        let n := d.rd (TRN_NODES_NODES r)
        let d := d.when (decide (p < n)) (fun d => d.inc (TRN_CNT_PRESSHORT_CNT r))
        d.when (decide (n < p) && d.on (TRN_CFG_AUTOSURV r)) (fun d => d.modMaster r (fun m => { m with survReq := true }))
    | none => d
  d.consent r t

/-- The tallies of a good coach 0 are noted with its train, or stand alone where the train was given up. -/
def TrnMaster.tally (m : TrnMaster) (cyc : Nat) (rev : Bool) (t : Nat × Nat) : TrnMaster × TrnTrain :=
  let put (x : TrnTrain) : TrnTrain := if rev then { x with rv := some t } else { x with fw := some t }
  match m.train cyc with
  | some x => ({ m with trains := m.trains.map (fun y => if y.c = cyc then put y else y) }, put x)
  | none => (m, put { c := cyc, s := 0, seats := true, fwOut := false })

/-- Coach 0 of a train of seats is back (R187, R194, R196): its tallies are taken where it is good. -/
def Dev.seatsZeroBack (d : Dev) (r p : Nat) (l : List Byte) (good : Bool) : Dev :=
  let cyc := coachCycle l
  let d := d.zeroBack r p cyc (coachRev l) good
  match (d.trn r).master with
  | some m =>
    let q := m.tally cyc (coachRev l) (coachPresence l, coachConsent l)
    if good then ((d.modMaster r (fun _ => q.1)).judgeTallies r q.2).trainsDone r
    else
      match m.train cyc with
      | some t => (d.judgeTallies r t).trainsDone r
      | none => d
  | none => d

/-- The mode that a train of seats was sent in: as noted with it, or as a good coach of it says. -/
def TrnMaster.modeOf (m : TrnMaster) (cyc said : Nat) : Nat := ((m.train cyc).map (fun t => t.mode)).getD said

/-- Whether a coach's cycle is that of a train of seats that is out or the last one back. -/
def TrnMaster.knows (m : TrnMaster) (cyc : Nat) : Bool := m.retCyc == some cyc || m.trains.any (fun t => t.c == cyc && t.seats)

/-- A coach of kind train that the master originated has come back (R194–R197) on port p. Of a damaged one only that it is back is used. -/
def Dev.trainBack (d : Dev) (r p : Nat) (l : List Byte) (good : Bool) : Dev :=
  let idx := coachIndex l
  let cyc := coachCycle l
  let rev := coachRev l
  let d := d.modMaster r (fun m => if good || m.knows cyc then m.keep cyc (m.modeOf cyc (coachCmode l)) idx rev good (coachDmg l) (coachPayload l) else m)
  let d := d.when (idx == 0) (fun d => d.seatsZeroBack r p l good)
  match (d.trn r).master with
  | some m =>
    if good && (!d.on (TRN_STAT_BREAK r) || ((tget m.fwd idx).isSome && (tget m.rev idx).isSome)) then d.masterIn r idx else d
  | none => d

/-- The roster entries of a returned roster coach (R171, R185): those of the survey in progress. -/
def Dev.rosterBack (d : Dev) (r : Nat) (l : List Byte) : Dev :=
  let i := coachIndex l
  let es := (List.range (coachP l / 2)).map (fun k => (734 * (i - 1) + k + 1, fieldAt l (38 + 2 * k) 2))
  let add (t : Tab Nat) : Tab Nat := (es.filter (fun e => bit e.2 15)).foldl (fun t e => tput t e.1 (e.2 % 4096)) t
  d.modMaster r (fun m => { m with meas := m.meas.map (fun q => { q with roster := add q.roster }) })

/-- The station addresses that a roster shows at two positions. -/
def rosterDoubles (own : Nat) (t : Tab Nat) : List Nat :=
  let all := own :: t.map (·.2)
  (all.filter (fun a => decide (2 ≤ all.countP (· == a)))).eraseDups

/-- A good RESULT has come back, and the survey is complete (R184, R185): its roster is the master's. -/
def Dev.surveyComplete (d : Dev) (r nodes : Nat) : Dev :=
  let d := match (d.trn r).master.bind (fun m => m.meas) with
    | some q => d.modTrn r (fun x => { x with roster := q.roster })
    | none => d
  let d := ((d.wr (TRN_NODES_NODES r) nodes).clr (TRN_STAT_POS r)).put (TRN_STAT_POSV r) true
  let d := d.ringEvent 0x0C13 r (nodes % 2 ^ 16 * 2 ^ 8)
  let ds := rosterDoubles (d.rd (TRN_CFG_STA r)) (d.trn r).roster
  let d := ds.foldl (fun d a => d.postEvent 0x0C14 0x0E0 a) d
  d.modMaster r (fun m => { m with plan := none, meas := none })

/-- A survey coach that the master originated has come back on port p at a stamp (R169–R171, R194, R195). -/
def Dev.surveyBack (d : Dev) (r p : Nat) (l : List Byte) (good : Bool) (stamp : Stamp) : Dev :=
  let d := if coachIndex l = 0 then (d.zeroBack r p (coachCycle l) (coachRev l) good).trainsDone r else d
  if !good then d
  else if coachIndex l ≠ 0 then d.rosterBack r l
  else
    match (d.trn r).master.bind (fun m => m.meas), surveyPhase l with
    | some q, some (0, topo) =>
      if fieldAt l 39 1 ≠ q.sseq then d
      else
        let w := fieldAt l 40 2
        let fw (asum : Int) : TrnMeasure := { q with
          tF := some (stamp.lt - q.depF), atot := toSigned 32 (ofSigned 32 asum), nodes := w % 4096 }
        let q' := if topo = 0 ∧ p = outPort r then fw (fieldS32 l 42)
          else if topo = 1 ∧ p = inPort r then fw (fieldS32 l 42 + d.rdS (TB_Pp_ASYM_ASYM (inPort r)))
          else if topo = 2 ∧ p = outPort r then { q with tR := some (stamp.lt - q.depR) }
          else q
        d.modMaster r (fun m => { m with meas := some q' })
    | some q, some (1, _) => if fieldAt l 39 1 = q.sseq then d.surveyComplete r (fieldAt l 58 2) else d
    | _, _ => d

/-- Coach 0 of the oldest train out has not come back by S_c + MAXRT (R194, R195): a break, where it is the forward train's; and where
neither return of a train of seats is good its bytes are zero (R196). -/
def Dev.returnTimeout (d : Dev) (r : Nat) : Dev :=
  match (d.trn r).master.bind (fun m => m.trains.find? (fun t => t.out && decide (t.s + d.maxRt r ≤ d.trnNow r))) with
  | some t =>
    let d := (d.inc (TRN_CNT_RETMISS_CNT r)).ringEvent 0x0C12 r 0
    let d := d.when t.fwOut (fun d => d.breakEnter r)
    let d := d.modMaster r (fun m =>
      { (if t.seats then m.keep t.c t.mode 0 false false false [] else m) with trains := m.trains.filter (fun x => x != t) })
    d.judgeTallies r { t with fwOut := false, rvOut := false }
  | none => d

/-! ### Departures (R181) -/

/-- Whether the measurement of a survey is whole. -/
def TrnMeasure.whole (q : TrnMeasure) (line : Bool) : Bool := q.tF.isSome && (line || q.tR.isSome)

/-- The survey in progress is abandoned, where its MEASURE coach has not come back 1,024 ns before the RESULT cycle (R183). -/
def Dev.surveyAbandon (d : Dev) (r : Nat) : Dev :=
  match (d.trn r).master with
  | some m =>
    match m.meas, m.next, m.plan with
    | some q, some (c, s), some k =>
      if c == (k + 1) % 2 ^ 32 && !q.whole (d.on (TRN_CFG_TOPO r)) && decide (s ≤ d.trnNow r + lead16) then
        (d.ringEvent 0x0C13 r 1).modMaster r (fun m => { m with plan := none, meas := none })
      else d
    | _, _, _ => d
  | none => d

/-- The master takes its OUT copies for the next train (R165). -/
def Dev.outTake (d : Dev) (r : Nat) : Dev :=
  match (d.trn r).master with
  | some m =>
    match m.next with
    | some (c, s) =>
      if !m.taken && decide (s ≤ d.trnNow r + lead16) then
        let d := d.modMaster r (fun m => { m with taken := true })
        if inSurvey m.plan c then d else d.outFlips r
      else d
    | none => d
  | none => d

/-- The payload length of coach `i` of a mode: to the end of the furthest region that its seats and merge entries name, and at least 18. -/
def ModeTab.length (t : ModeTab) (i : Nat) : Nat :=
  let a := t.seats.foldl (fun n v => if seatDir v != 0 && seatCoach v == i then max n (seatOff v + seatLen v) else n) 18
  t.merges.foldl (fun n v => if mergeOn v && mergeCoach v == i then max n (mergeOff v + mergeLen v) else n) a

/-- Send the coaches of one train on a port (R152, R166): DEP in coach 0, and each coach behind the one before it, as that one's TRANSMIT_END
comes, with the preamble and the inter-frame gap of 12 bytes between. -/
def Dev.sendCoaches (d : Dev) (r e sub : Nat) (rev : Bool) (cs : List (Nat × List Byte)) (c cmode nmode : Nat) (swp : Bool)
    (swcyc : Nat) : Dev :=
  let dep := (d.depNow r e sub).2
  (((List.range cs.length).zip cs).foldl (fun (acc : Dev × Int) x =>
    let h := acc.1.coachHead r x.2.1 x.1 (x.1 + 1 == cs.length) rev c cmode nmode swp swcyc (if x.1 = 0 then dep else 0)
    let l := h ++ x.2.2 ++ toBe 4 0
    (acc.1.coachSend e l acc.2, acc.2 + Int.ofNat ((l.length + 24) * acc.1.byteTime e * 65536 / 10))) (d, d.instant 0 sub)).1

/-- A train of cycle `c` leaves, coach 0 of it forward, and reverse where it has a reverse train. A coach 0 that a port whose link is down
does not send is not waited for beside one that leaves (R187, R194). -/
def Dev.trainLeaves (d : Dev) (r c : Nat) (seats reverse : Bool) : Dev :=
  let s := match (d.trn r).cur with
    | some y => (y.s, y.mode)
    | none => (0, 0)
  let rv := reverse && d.on (PRT_STAT_LINK (inPort r))
  d.modMaster r (fun m => { m with trains := m.trains ++ [{
    c := c, s := s.1, mode := s.2, seats := seats, fwOut := d.on (PRT_STAT_LINK (outPort r)) || !rv, rvOut := rv }] })

/-- The payload of a seat coach (R162): the returned coach's bytes, and the master's own OUT seats, where its table is valid; the seats it
gave. -/
def Dev.seatPayload (d : Dev) (r mode idx : Nat) (old : Option (List Byte)) : Dev × List Byte × List Nat :=
  let n := (d.modeTab r mode).length idx
  let pay := (old.getD [] ++ List.replicate n 0).take n
  let l := List.replicate 15 (0 : Byte) ++ toBe 1 (idx * 16) ++ List.replicate 22 0 ++ pay ++ List.replicate 4 0
  if d.modeValid r mode then
    let w := d.serveSeats r mode false true l
    (w.d, coachPayload w.l, w.seats)
  else (d, pay, [])

/-- The payloads of every seat coach of a train. -/
def Dev.seatPayloads (d : Dev) (r mode cyc : Nat) : Nat → Nat → Dev × List (List Byte)
  | 0, _ => (d, [])
  | k + 1, i =>
    let d := d.when (!d.modeValid r mode) (fun d => d.noTable r mode cyc)
    let q := d.seatPayload r mode i (d.returned r i)
    let d := q.1.seatsDone r mode cyc false false true q.2.2
    let w := d.seatPayloads r mode cyc k (i + 1)
    (w.1, q.2.1 :: w.2)

/-- The MEASURE payload (R168). -/
def measurePayload (topo sseq : Nat) : List Byte := toBe 1 topo ++ toBe 1 sseq ++ List.replicate 30 0

/-- The RESULT payload (R168–R170). -/
def resultPayload (line : Bool) (q : TrnMeasure) : List Byte :=
  let t : Int := if line then q.tF.getD 0 else (q.tF.getD 0 + q.tR.getD 0) / 2
  toBe 1 (16 + b01 (!line)) ++ toBe 1 q.sseq ++ List.replicate 6 0 ++ toBe 8 (ofSigned 64 t)
    ++ toBe 4 (if line then 0 else ofSigned 32 q.atot) ++ toBe 2 q.nodes ++ List.replicate 10 0

/-- The command payload that announces a survey in cycle s (R183): one broadcast SURVEY entry. -/
def surveyCommand (s : Nat) : List Byte := toBe 2 0x8000 ++ toBe 1 3 ++ toBe 1 0 ++ toBe 8 (s % 2 ^ 32) ++ List.replicate 12 0

/-- The MEASURE trains leave (R168, R170, R171). -/
def Dev.sendMeasure (d : Dev) (r sub c cmode nmode : Nat) (swp : Bool) (swcyc : Nat) : Dev :=
  let line := d.on (TRN_CFG_TOPO r)
  let q := ((d.trn r).sseq + 1) % 256
  let rosters := (d.rd (TRN_MCFG_MAXN r) + 733) / 734
  let cs := (2, measurePayload (b01 (!line)) q) :: List.replicate rosters (2, List.replicate 1468 0)
  let tf := (d.depNow r (outPort r) sub).1.lt
  let tr := (d.depNow r (inPort r) sub).1.lt
  let d := d.modTrn r (fun x => { (x.noteSurvey c) with sseq := q })
  let d := (d.modMaster r (fun m => { m with meas := some { sseq := q, depF := tf, depR := tr } })).trainLeaves r c false (!line)
  let d := d.sendCoaches r (outPort r) sub false cs c cmode nmode swp swcyc
  if line then d else d.sendCoaches r (inPort r) sub true [(2, measurePayload 2 q)] c cmode nmode swp swcyc

/-- A train leaves forward, and in break mode with identical content in reverse too (R195). -/
def Dev.sendTrain (d : Dev) (r sub : Nat) (cs : List (Nat × List Byte)) (c mode nmode : Nat) (swp : Bool) (swcyc : Nat) (seats : Bool) : Dev :=
  let broken := d.on (TRN_STAT_BREAK r)
  let d := (d.trainLeaves r c seats broken).sendCoaches r (outPort r) sub false cs c mode nmode swp swcyc
  if broken then d.sendCoaches r (inPort r) sub true cs c mode nmode swp swcyc else d

/-- The seat train of a cycle leaves, with the command coach that announces a survey, and in break mode both ways (R181, R183, R195). -/
def Dev.sendSeats (d : Dev) (r sub c mode nmode : Nat) (swp : Bool) (swcyc : Nat) (announce : Option Nat) : Dev :=
  let n := (d.modeTab r mode).nc + 1
  let q := d.seatPayloads r mode c n 0
  let cs := q.2.map (fun l => (1, l)) ++ (match announce with | some k => [(4, surveyCommand k)] | none => [])
  q.1.sendTrain r sub cs c mode nmode swp swcyc true

/-- A survey whose RESULT has not come back ends with its second cycle (R183). -/
def Dev.surveyOver (d : Dev) (r c : Nat) : Dev :=
  d.modMaster r (fun m => match m.plan with
    | some k => if cycleFrom c (k + 2) then { m with plan := none } else m
    | none => m)

/-- The master's cycle c begins: IN seats whose second return never came are served, the consent that is still open is decided, OUT
copies not yet taken are taken. -/
def Dev.departPrepare (d : Dev) (r c : Nat) : Dev :=
  let d := forNums 16 (fun i d => d.masterIn r i) d
  let late := match (d.trn r).master with
    | some m => (match m.switch with | some s => !s.go && cycleFrom c (s.n + 2 ^ 32 - 1) | none => false)
    | none => false
  let seen := (d.trn r).master.bind (fun m => m.train ((c + 2 ^ 32 - 1) % 2 ^ 32))
  let d := if late then d.decideSwitch r (seen.getD { c := c, s := 0, seats := true }) else d
  ((d.surveyAbandon r).outTake r).surveyOver r c

/-- At S_c the master sends the cycle's coaches (R181); `sub` is the TDC's count at the start of frame. -/
def Dev.trainDeparture (d : Dev) (r sub : Nat) : Dev :=
  match (d.trn r).master.bind (fun m => m.next) with
  | none => d
  | some (c, s) =>
    if d.role r ≠ roleMaster ∨ d.derailed r ∨ d.trnNow r < s then d
    else
      let d := ((d.departPrepare r c).enterCycle r c s (d.rd (TRN_MCFG_IMODE r))).breakLeave r c
      match (d.trn r).master, (d.trn r).cur with
      | some m, some y =>
        let sw := m.switch.filter (fun w => !cycleFrom c w.n)
        let nmode := match sw with
          | some w => w.m
          | none => y.mode
        let swcyc := match sw with
          | some w => w.n
          | none => 0
        let announce := if m.survReq && m.plan.isNone && m.switch.isNone && decide ((d.modeTab r y.mode).nc < 15) then some ((c + 2) % 2 ^ 32)
          else none
        let next := if y.tab.ct = 0 then none else some ((c + 1) % 2 ^ 32, s + y.tab.ct * unit8)
        let d := d.modMaster r (fun m => {
          m with next := next, taken := false, survReq := m.survReq && announce.isNone
                 plan := if announce.isSome then announce else m.plan })
        if m.plan = some c then d.sendMeasure r sub c y.mode nmode sw.isSome swcyc
        else
          match m.meas, inSurvey m.plan c with
          | some q, true =>
            (d.modTrn r (fun x => x.noteSurvey c)).sendTrain r sub [(2, resultPayload (d.on (TRN_CFG_TOPO r)) q)] c y.mode nmode sw.isSome swcyc
              false
          | _, _ => d.sendSeats r sub c y.mode nmode sw.isSome swcyc announce
      | _, _ => d

/-! ### A coach arrives (R147–R159) -/

/-- A frame on this port goes to an enabled train controller (R85). -/
def Dev.takenByTrain (d : Dev) (p : Nat) (l : List Byte) : Bool :=
  decide (p < 4) && d.on (TRN_CFG_EN (p / 2)) && d.isCoachOf (p / 2) l

/-- Why a coach is forwarded untouched (R155), by those of its header bytes that are there. -/
def Dev.untouched (d : Dev) (r p : Nat) (l : List Byte) (lenBad : Bool) : Dev × Bool :=
  if 15 ≤ l.length ∧ (coachVer l ≠ 1 ∨ coachKind l = 0 ∨ 5 ≤ coachKind l) then
    ((d.inc (TRN_CNT_UNKNOWN_CNT r)).postEvent 0x0C02 0x0E0 (p * 2 ^ 16 + fieldAt l 14 1), true)
  else if 17 ≤ l.length ∧ coachRing l ≠ d.rd (TRN_CFG_RINGID r) then
    ((d.inc (TRN_CNT_FOREIGN_CNT r)).postEvent 0x0C07 0x0E0 (p * 2 ^ 16 + coachRing l), true)
  else (d, lenBad || decide (l.length < 38))

/-- Whether an earlier coach of the train in passing was damaged, by direction (R159). -/
def Dev.trainDamaged (d : Dev) (r : Nat) (fwd : Bool) : Bool := if fwd then (d.trn r).dmgF else (d.trn r).dmgR

/-- Note whether the train in passing has a damaged coach. -/
def Dev.setDamaged (d : Dev) (r : Nat) (fwd b : Bool) : Dev :=
  d.modTrn r (fun x => if fwd then { x with dmgF := b } else { x with dmgR := b })

/-- What a node does with a coach by its kind (R154): the coach as it is forwarded, none where it is removed. -/
def Dev.nodeCoach (d : Dev) (r p : Nat) (l : List Byte) (fwd turns good : Bool) (stamp : Stamp) : Dev × Option (List Byte) :=
  let first := (d.trn r).fresh l 49
  let d := d.when (coachIndex l == 0 && decide (coachKind l ≤ 2)) (fun d => d.modTrn r (fun x => x.note l 49))
  let zero (d : Dev) : Dev :=
    if good && coachIndex l == 0 && (d.trn r).fresh l 48 then d.coachZero r l fwd first stamp else d
  match coachKind l with
  | 1 =>
    if (d.trn r).fresh l (coachIndex l) then
      let q := (d.modTrn r (fun x => x.note l (coachIndex l))).trainServe r p l
      let d := if good then zero (q.1.seatsDone r (coachCmode l) (coachCycle l) (coachDmg l) true true q.2.2) else q.1
      (d, some q.2.1)
    else (zero d, some l)
  | 2 =>
    if coachIndex l = 0 then
      match surveyPhase l with
      | some (0, topo) => let q := (zero d).surveyMeasure r topo l fwd turns good stamp; (q.1, some q.2)
      | some (_, topo) =>
        if good && decide (topo ≤ 1) && (d.trn r).fresh l 17 then
          ((zero (d.modTrn r (fun x => x.note l 17))).surveyResult r topo l, some l)
        else (d, some l)
      | none => (d, some l)
    else let q := d.rosterEntry r l fwd; (q.1, some q.2)
  | 3 => d.startCoach r l fwd good
  | _ => let q := d.commandCoach r l good; (q.1, some q.2)

/-- What a master does with a coach (R148, R178, R179): its own is taken back; a start coach gets its rank; another passes. -/
def Dev.masterCoach (d : Dev) (r p : Nat) (l : List Byte) (fwd good : Bool) (stamp : Stamp) : Dev × Option (List Byte) :=
  if srcMac l = ringMac r then
    match coachKind l with
    | 1 => (d.trainBack r p l good, none)
    | 2 => (d.surveyBack r p l good stamp, none)
    | _ => (d, none)
  else if coachKind l = 3 then d.startCoach r l fwd good
  else (d, some l)

/-- A ring port whose link a function reset took down while a coach was in progress on it (R81, R174). -/
def Dev.resetUnder (d : Dev) (p ago : Nat) : Bool := !d.on (PRT_STAT_LINK p) && d.cameAfter (d.port p).rstAt ago

/-- The port that a coach leaves by (R148): the other one of the ring, or the one it came in by where the link of the other is down. -/
def Dev.coachExit (d : Dev) (r p ago : Nat) : Nat :=
  let other := if p = inPort r then outPort r else inPort r
  if d.on (PRT_STAT_LINK other) || d.resetUnder other ago then other else p

/-- What the handling of a coach is to know: its ring and port, whether it travels forward, where and when it leaves, whether it arrived
good, its length and whether that is out of range, and its receive stamp. -/
structure Passing where
  r : Nat
  p : Nat
  fwd : Bool
  e : Nat
  start : Int
  good : Bool
  len : Nat
  lenBad : Bool
  stamp : Stamp

/-- A coach leaves, with a stomped FCS where it did not arrive good; one that its port's reset met is cut there. -/
def Dev.coachLeaves (d : Dev) (c : Passing) (ago : Nat) (l : List Byte) : Dev :=
  if d.resetUnder c.e ago then d.coachCut c.e l c.start else d.coachOut c.e l (!c.good || c.lenBad) c.start

/-- A master takes a coach of its own back and never forwards it (R148). -/
def Dev.ownCoach (d : Dev) (r : Nat) (l : List Byte) : Bool := d.role r == roleMaster && srcMac l == ringMac r

/-- A coach that arrived passes a ring's controller (R148, R155, R158, R159). -/
def Dev.coachPass (d : Dev) (c : Passing) (ago : Nat) (l : List Byte) : Dev :=
  let r := c.r
  let idx := coachIndex l
  let d := d.when c.lenBad (fun d => d.badLength r c.p c.len)
  let (d, untouched) := d.untouched r c.p l c.lenBad
  let d := d.when (idx == 0 && decide (16 ≤ l.length)) (fun d =>
    (d.setDamaged r c.fwd false).modTrn r (fun x => { x with untilC0 := false }))
  let dmg := d.trainDamaged r c.fwd
  let d := if c.good then d
    else ((d.inc (TRN_CNT_DAMAGED_CNT r)).postEvent 0x0C01 0x0E0 (c.p * 2 ^ 16 + idx)).setDamaged r c.fwd true
  let d := d.when (c.good && !untouched && decide (coachKind l ≤ 2)) (fun d => d.modTrn r (fun x => { x with heard := d.tb.lt }))
  if untouched || (d.trn r).untilC0 then if d.ownCoach r l then d else d.coachLeaves c ago l
  else
    let q := if d.role r = roleMaster then d.masterCoach r c.p l c.fwd c.good c.stamp
      else d.nodeCoach r c.p l c.fwd (c.e == c.p) c.good c.stamp
    match q.2 with
    | some l => q.1.coachLeaves c ago (if dmg then putAt l 22 1 (setBits (fieldAt l 22 1) 0 1 1) else l)
    | none => q.1

/-- A Ripiost coach is processed on the fly and forwarded or turned (R148, R156–R159). One that was in progress when the controller was
reset leaves stomped (R174); one that its own port's reset met ends there. -/
def Dev.coach (d : Dev) (p : Nat) (f : RxFrame) : Dev :=
  let r := p / 2
  let under := d.resetUnder p f.ago
  if !d.takenByTrain p f.bytes || !(d.on (PRT_STAT_LINK p) || under) || (d.on SUP_STAT_FAULT && !d.on SUP_FAULT_RINGKEEP) then d
  else if d.rd (PRT_CFG_MODE (outPort r)) ≠ d.rd (PRT_CFG_MODE (inPort r)) then d.postEvent 0x0C08 0x0E0 r
  else
    let met := d.bytesIn p (Int.ofNat (d.port p).rstAt - d.instant f.ago f.sub)
    let bytes := if under then f.bytes.take met else f.bytes
    let whole := !f.trunc && !under
    let l := if whole then bytes.take (bytes.length - 4) else bytes
    let e := d.coachExit r p f.ago
    let c : Passing := {
      r := r, p := p, fwd := p == inPort r, e := e
      start := d.rxMedium p f.ago f.sub + Int.ofNat (d.trnLatency r) - d.rdS (TB_Pp_TXLAT_TXLAT e)
      good := whole && !f.codeErr && fcsOf l == bytes.drop (bytes.length - 4)
      len := bytes.length, lenBad := decide (bytes.length < 64) || decide (1514 < bytes.length), stamp := d.rxStamp p f.ago f.sub }
    if d.cameAfter (d.trn r).rstAt f.ago then d.coachLeaves { c with good := false } f.ago l else d.coachPass c f.ago l

/-! ### Software, links, faults and resets -/

/-- A ring's EN changes (R176): with EN = 0 a switch armed or pending, break mode and a survey announced end, and a coach that has not begun
does not leave. -/
def Dev.ringEnable (d : Dev) (r : Nat) (on : Bool) : Dev :=
  if on then (d.setRole r roleNode false).modTrn r (fun x => { x with heard := d.tb.lt })
  else
    let d := ((d.put (TRN_STAT_BREAK r) false).put (TRN_STAT_ARMED r) false).put (TRN_STAT_SURVPEND r) false
    let d := [outPort r, inPort r].foldl (fun d e => d.setPort e { d.port e with coaches := [] }) d
    (d.setRole r roleOff false).modTrn r (fun x => {
      x with cur := none, arm := none, due := [], owed := [], claim := {}, surv := none, result := none, survCyc := none, master := none })

/-- SURVEY (R183). -/
def Dev.surveyAsk (d : Dev) (r : Nat) : Dev := d.modMaster r (fun m => { m with survReq := true })

/-- A mode command (R186): commit starts, invalidate and read back are done at once; one in progress refuses another. -/
def Dev.modeCommand (d : Dev) (r m op : Nat) : Dev :=
  if d.on (TRN_MCMD_BUSY r) then d.trnRefuse r 0x80
  else
    let d := (d.wr (TRN_MCMD_MODE r) m).wr (TRN_MCMD_OP r) op
    match op with
    | 0 => d.put (TRN_MCMD_BUSY r) true
    | 1 => d.wr (TRN_MVALID_VALID r) (setBits (d.rd (TRN_MVALID_VALID r)) m 1 0)
    | 2 => d.stage r (d.modeTab r m)
    | _ => d

/-- The committed table takes effect between two coaches (R186): its seats have no data since the load (R165). -/
def Dev.commitApply (d : Dev) (r : Nat) : Dev :=
  if d.on (TRN_MCMD_BUSY r) && d.rd (TRN_MCMD_OP r) == 0 then
    let m := d.rd (TRN_MCMD_MODE r)
    let t := d.staging r
    let ok := t.ok (d.ring10G r)
    let before := if d.modeValid r m then tput (d.trn r).older m (d.trnNow r, d.modeTab r m) else tdel (d.trn r).older m
    let had := (d.trn r).filled.filter (fun k => !(ok && k / 32 == m && seatIn (t.seats.getD (k % 32) 0)))
    let d := d.modTrn r (fun x => { x with modes := tput x.modes m t, older := before, filled := had })
    let d := d.wr (TRN_MVALID_VALID r) (setBits (d.rd (TRN_MVALID_VALID r)) m 1 (b01 ok))
    let d := (d.put (TRN_MCMD_BUSY r) false).when (!ok) (fun d => d.put (TRN_MCMD_INVALID r) true)
    d.masterInit r
  else d

/-- A ring port's link goes down: a master on a closed ring detects a break (R195). -/
def Dev.trnLinkDown (d : Dev) (p : Nat) : Dev := if p < 4 then d.breakEnter (p / 2) else d

/-- A ring's controller gives up what it runs: role, claim, switch, break mode, survey. -/
def Ring.stop (x : Ring) : Ring :=
  { x with cur := none, arm := none, due := [], owed := [], claim := {}, surv := none, result := none, survCyc := none, master := none, rejoin := false }

/-- What a device fault does to the rings (R440, R441): an enabled ring is derailed, so that it rejoins under R193 after the clear; on a ring
whose master the device is its role is NODE. The derailment of a fault is not one of MISS: it counts nothing and posts no 0x0C0D (DEDUCED,
notes/assumptions/70). -/
def Dev.trnFault (d : Dev) : Dev :=
  forNums 2 (fun r d =>
    let d := if d.role r = roleMaster then
        let d := (d.setRole r roleNode false).modTrn r Ring.stop
        (d.put (TRN_STAT_BREAK r) false).put (TRN_STAT_ARMED r) false
      else d
    if d.role r = roleOff ∨ d.on (TRN_STAT_DERAIL r) then d else d.derailBegins r) d

/-- A function reset of the train controller (R174, R201): a coach that it is sending leaves stomped, the rest of its train not at all; committed tables stay, though VALID is cleared as the FN fields are (DEDUCED,
notes/assumptions/70), and the present cycle's IN seats get STALE. -/
def Dev.trainReset (d : Dev) : Dev :=
  let d := forNums 2 (fun r d =>
    let x := d.trn r
    let d := (d.coachStomp (outPort r)).coachStomp (inPort r)
    let d := match x.cur with
      | some y => d.staleMarks r y.mode false (fun _ => true)
      | none => d
    let d := (d.clrs (fnFields_TRN r)).derailEnds r
    let d := (d.put (TRN_MCMD_BUSY r) false).wr (TRN_STAT_ROLE r) (b01 (d.on (TRN_CFG_EN r)))
    d.setTrn r {
      modes := x.modes, untilC0 := true, oseq := x.oseq, sseq := x.sseq, starts := x.starts, filled := x.filled, heard := x.heard
      rstAt := d.tb.lt }) d
  d.resetReport 0x0C 0x0E0 0

end Sys2Proof.Machine
end

