-- ==== Sys2Proof/Machine/WriteNet.lean ====
section
/-! DEFINITION. What a write of a register does beside storing its fields, for the timebase, the ports, the fabric, the schedulers,
the train controller and the Sample Alignment Unit. `v` is the whole value written, already judged for reserved values and with
locked fields at their present values (R9, R534). -/

namespace Sys2Proof.Machine

/-- A write rejected for a reserved value that depends on more than its field (R9). -/
def Dev.rangeReject (d : Dev) (a : RegAt) : Dev := d.ignoredWrite 3 a.off

/-- The estimates or states of the domains have changed: muting and the rows' time are judged anew (R133, R221). -/
def Dev.timeChanged (d : Dev) : Dev := d.muteAll.sauTimes

/-- Writes of the timebase's registers (R28, R35, R36, R52, R536). -/
def Dev.writeTb (d : Dev) (a : RegAt) (k : TbKind) (v : Nat) : Dev :=
  let i := a.i
  match k with
  | .snapCtrl => d.when (bit v 0) (fun d => d.capture i)
  | .tdCfg =>
    let old := d.on (TB_TDn_CFG_SERVO i)
    let d := d.regStore a v
    if old && !bit v 4 then (d.servoOff i).timeChanged else d
  | .incrNom => if d.on (TB_TDn_CFG_SERVO i) then d.servoRefuse i a.off else (d.regStore a v).setEff i
  | .tdSet => d.softStep i a.off (.goTo (ofTs96 v * 2 ^ 16))
  | .tdStep => d.softStep i a.off (.adv (toSigned 64 v * 2 ^ 16))
  | .tdOffs =>
    if d.on (TB_TDn_CFG_SERVO i) && d.rd (TB_TDn_CFG_PSRC i) == 1 then d.offerOffset i 1 (toSigned 64 v) else d.servoRefuse i a.off
  | .portCfg => d.regStore a (if 20 ≤ i then setBits v 8 1 0 else v)
  | .ppsIn =>
    let d := d.when (!d.on TB_PPSIN_CFG_EN && bit v 0) (fun d => { d with tb := { d.tb with ppsLast := none, ppsCount := 0 } })
    d.regStore a v
  | .freqIn =>
    let d := d.when (!d.on TB_FREQIN_CFG_EN && bit v 0) (fun d => { d with tb := { d.tb with freqGood := 0, freqBad := false } })
    d.regStore a v
  | .ppsoCfg => (d.regStore a v).when (!bit v 0) (fun d => d.put (TB_PPSOk_STAT_ACTIVE i) false)
  | .ppsoPeriod =>
    if 1000 ≤ v ∧ v ≤ 1000000000 ∧ d.rd (TB_PPSOk_WIDTH_WIDTH i) + 8 ≤ v then d.regStore a v else d.rangeReject a
  | .ppsoWidth => if 8 ≤ v ∧ v + 8 ≤ d.rd (TB_PPSOk_PERIOD_PERIOD i) then d.regStore a v else d.rangeReject a
  | .stat => d
  | .tdStat => d.regStore a v
  | .drq => d
  | .drDepth => d
  | .ppsoStat => d.regStore a v

/-- An effect after which the train controller learns of the ring ports whose links it took down (R195). -/
def Dev.watchLinks (d : Dev) (f : Dev → Dev) : Dev :=
  forNums 4 (fun p x => if d.on (PRT_STAT_LINK p) && !x.on (PRT_STAT_LINK p) then x.trnLinkDown p else x) (f d)

/-- Whether a port supports a type (R59). -/
def modeOk (p mode : Nat) : Bool :=
  if p < 4 then decide (mode ≤ 1) else if p < 20 then decide (1 ≤ mode) && decide (mode ≤ 3) else mode == 4

/-- Writes of a port's registers (R61, R69, R76, R80). A PRT_CFG write that carries a reserved MODE or MAXLEN is rejected as R9 states
also while EN = 1 (DESIGN CHOICE, notes/assumptions/68). -/
def Dev.writePrt (d : Dev) (a : RegAt) (k : PrtKind) (v : Nat) : Dev :=
  let p := a.i
  match k with
  | .ctrl =>
    let old := d.on (PRT_CTRL_PWRDN p)
    d.watchLinks (fun d => (d.regStore a v).pwrdnWritten p old (bit v 1))
  | .cfg =>
    let len := bits v 16 14
    if !modeOk p (bits v 0 3) || decide (len < 64) || decide ((if p < 20 then 9728 else 1536) < len) then d.rangeReject a
    else if d.on (PRT_CTRL_EN p) && (bits v 0 3 != d.rd (PRT_CFG_MODE p) || bits v 3 1 != d.rd (PRT_CFG_ANEN p)
        || len != d.rd (PRT_CFG_MAXLEN p)) then
      (d.put (PRT_STAT_CFGREF p) true).postEvent 0x0806 (prtUid p) a.off
    else d.regStore a v
  | .preempt => (d.regStore a v).preemptWritten p
  | .plca => (d.regStore a v).when (bits v 0 8 == 255) (fun d => d.plca p false)
  | .hdx => d.regStore a v

/-- A refused configuration write of the fabric (R102, R116). -/
def Dev.fabRefuse (d : Dev) (off : Nat) : Dev := (d.put FAB_STAT_REFUSED true).postEvent 0x0909 0x0A0 off

/-- A key is committed to a key slot; the one before it stands for the frames whose first byte came earlier (R109). -/
def Dev.keyCommit (d : Dev) (s v : Nat) : Dev :=
  { d with fab := { d.fab with
      keys := tput d.fab.keys s (v % 2 ^ 256), oldKeys := (s, d.tb.lt, tgetD d.fab.keys s 0) :: d.fab.oldKeys } }

/-- Writes of the fabric's registers (R93, R102, R109, R116). -/
def Dev.writeFab (d : Dev) (a : RegAt) (k : FabKind) (v : Nat) : Dev :=
  match k with
  | .tblCmd => d.tableCommand v
  | .redCfg => if d.redCfgBad a.i v then d.fabRefuse a.off else d.regStore a v
  | .ksKey => d.keyCommit a.i v
  | .clRule => if d.on (CL_CFG_EN a.i) then d.fabRefuse a.off else d.regStore a v
  | .xrRule => if d.on (XR_CFG_EN a.i) then d.fabRefuse a.off else d.regStore a v
  | .buf => d.regStore a v
  | .ksStat => d
  | .xrLastSt => if d.on (XR_CFG_EN a.i) then d.fabRefuse a.off else d
  | .xrLastV => if d.on (XR_CFG_EN a.i) then d.fabRefuse a.off else d

/-- Writes of a scheduler's registers and of the mordants (R127, R128, R133, R139). -/
def Dev.writeSch (d : Dev) (a : RegAt) (k : SchKind) (v : Nat) : Dev :=
  let p := a.i
  match k with
  | .ctrl =>
    let old := d.on (SCH_CTRL_GATEEN p)
    let d := (d.regStore a v).when (bit v 2) (fun d => d.schChange p)
    let d := d.when (bit v 3) (fun d => d.schCancel p)
    let d := (d.when (bit v 0 && !old) (fun d => d.setPos p)).holdJudge p
    (d.preemptClosed p).settlePort p
  | .muting =>
    let old := d.rd (SCH_CFG_DOM p)
    let sec := d.on (SCH_CFG_SECALIGN p)
    let d := d.regStore a v
    let d := d.when (d.rd (SCH_CFG_DOM p) != old) (fun d => d.setPort p { d.port p with mutes := [] })
    let d := d.when (d.rd (SCH_CFG_DOM p) != old || d.on (SCH_CFG_SECALIGN p) != sec) (fun d => (d.setPos p).preemptClosed p)
    (d.muteEval p).settlePort p
  | .adm =>
    if d.on (SCH_STAT_PENDING p) then d.schRefuse p (a.off - (0x300000 + 0x8000 * p)) else (d.regStore a v).preemptClosed p
  | .admList =>
    if d.on (SCH_STAT_PENDING p) then d.schRefuse p (a.off - (0x300000 + 0x8000 * p)) else d.regStore a (setBits v 11 21 0)
  | .mordant => if d.on (XR_CFG_EN p) then (d.put SCH_GSTAT_REFUSED true).postEvent 0x0A04 0x0A3 a.off else d.regStore a v
  | .qDepth => d
  | .pos => d

/-- Writes of the train controller's registers (R176, R183, R186, R187). -/
def Dev.writeTrn (d : Dev) (a : RegAt) (k : TrnKind) (v : Nat) : Dev :=
  let r := a.i
  match k with
  | .cfg =>
    let old := d.on (TRN_CFG_EN r)
    ((d.regStore a v).prioWritten r).when (bit v 0 != old) (fun d => d.ringEnable r (bit v 0))
  | .mctrl => (d.when (bit v 0) (fun d => d.surveyAsk r)).when (bit v 1) (fun d => d.swGo r)
  | .mcmd => (d.when (bit v 30) (fun d => d.clr (TRN_MCMD_INVALID r))).modeCommand r (bits v 0 3) (bits v 3 2)
  | .stat => d.regStore a v
  | .cmdFifo => d

/-- Writes of the Sample Alignment Unit's registers (R210, R214, R230). -/
def Dev.writeSau (d : Dev) (a : RegAt) (k : SauKind) (v : Nat) : Dev :=
  let i := a.i
  match k with
  | .matrixCfg => d.matrixCfgWrite i v
  | .matrixReg => if d.on (SAU_Mm_CFG_EN i) then d.sauRefuse a.off else d.regStore a v
  | .hostAddr => if d.on (SAU_Mm_CFG_EN i) then d.sauRefuse a.off else d.regStore a v
  | .timeLimit => (d.regStore a v).sauTime i
  | .streamCfg => d.streamCfgWrite i v
  | .rowSize => d.when (d.on (SAU_Mm_CFG_EN i)) (fun d => d.sauRefuse a.off)
  | .streamRate => if d.streamLocked i (decide (bits v 0 17 ≠ d.regStored a)) then d.sauRefuse a.off else d.regStore a v
  | .streamReg => if d.on (SAU_S_CFG_EN i) then d.sauRefuse a.off else d.regStore a v
  | .member => if d.memberLocked i then d.sauRefuse a.off else d.regStore a v

end Sys2Proof.Machine
end

