-- ==== Sys2Proof/Machine/Can.lean ====
section
/-! DEFINITION. The CAN FD controllers (spec/14): configuration, transmit buffers, the bus's events, the receive ring, errors and
bus-off, rate detection and reset. `p` is 0 for P22 and 1 for P23. -/

namespace Sys2Proof.Machine

/-- A controller's state. -/
def Dev.canOf (d : Dev) (p : Nat) : Can := tgetD d.can p {}

/-- Replace a controller's state. -/
def Dev.setCan (d : Dev) (p : Nat) (x : Can) : Dev := { d with can := tput d.can p x }

/-- A controller's unit identifier (R374). -/
def canUid (p : Nat) : Nat := 0x096 + p

/-- The BAR0 offset of a controller's block (R394). -/
def canBase (p : Nat) : Nat := 0x700000 + 0x8000 * p

/-- A refused write or request (R375): CAN_STAT.CFGREF and event 0x0F07 with the register's offset. -/
def Dev.canRefuse (d : Dev) (p off : Nat) : Dev :=
  (d.put (CAN_STAT_CFGREF p) true).postEvent 0x0F07 (canUid p) (canBase p + off)

/-! ### Bit timing (R376–R378) -/

/-- The clocks of a nominal bit of a timing word in the layout of `CAN_NBT`. -/
def nominalClocks (t : Nat) : Nat := (bits t 0 5 + 1) * (1 + (bits t 5 8 + 1) + (bits t 13 7 + 1))

/-- The clocks of a data bit of a timing word in the layout of `CAN_DBT`. -/
def dataClocks (t : Nat) : Nat := (bits t 0 5 + 1) * (1 + (bits t 5 5 + 1) + (bits t 10 4 + 1))

/-- Whether R376 allows a nominal timing. -/
def nominalOk (t : Nat) : Bool :=
  decide (1 ≤ bits t 5 8) && decide (bits t 20 7 ≤ bits t 13 7) && decide (80 ≤ nominalClocks t) && decide (nominalClocks t ≤ 8000)

/-- Whether R376–R378 allow a configuration, a nominal timing and a data timing together. -/
def canTimingOk (cfg nbt dbt : Nat) : Bool :=
  nominalOk nbt && decide (bits dbt 14 4 ≤ bits dbt 10 4) && decide (10 ≤ dataClocks dbt)
    && decide (dataClocks dbt ≤ nominalClocks nbt)
    && (!bit cfg 2 || decide (bits dbt 0 5 ≤ 1))
    && (!bit cfg 1 || (decide (640 ≤ nominalClocks nbt) && decide (2 ≤ bits nbt 5 8)))

/-- The value of `CAN_CFG`. -/
def Dev.canCfg (d : Dev) (p : Nat) : Nat :=
  d.rd (CAN_CFG_FDEN p) + d.rd (CAN_CFG_TRIPLE p) * 2 + d.rd (CAN_CFG_TDCEN p) * 4 + d.rd (CAN_CFG_AUTOBO p) * 8
    + d.rd (CAN_CFG_SELFRX p) * 16 + d.rd (CAN_CFG_PXDIS p) * 32 + d.rd (CAN_CFG_DOM p) * 64

/-- The value of `CAN_NBT`. -/
def Dev.canNbt (d : Dev) (p : Nat) : Nat :=
  d.rd (CAN_NBT_NBRP p) + d.rd (CAN_NBT_NTSEG1 p) * 2 ^ 5 + d.rd (CAN_NBT_NTSEG2 p) * 2 ^ 13 + d.rd (CAN_NBT_NSJW p) * 2 ^ 20

/-- The value of `CAN_DBT`. -/
def Dev.canDbt (d : Dev) (p : Nat) : Nat :=
  d.rd (CAN_DBT_DBRP p) + d.rd (CAN_DBT_DTSEG1 p) * 2 ^ 5 + d.rd (CAN_DBT_DTSEG2 p) * 2 ^ 10 + d.rd (CAN_DBT_DSJW p) * 2 ^ 14
    + d.rd (CAN_DBT_TDCO p) * 2 ^ 18

/-- Store a nominal timing. -/
def Dev.setNbt (d : Dev) (p t : Nat) : Dev :=
  (((d.wr (CAN_NBT_NBRP p) t).wr (CAN_NBT_NTSEG1 p) (t / 2 ^ 5)).wr (CAN_NBT_NTSEG2 p) (t / 2 ^ 13)).wr (CAN_NBT_NSJW p) (t / 2 ^ 20)

/-- A write of `CAN_CFG` (R375). -/
def Dev.canCfgWrite (d : Dev) (p v : Nat) : Dev :=
  let v := v % 2 ^ 9
  if (d.on (CAN_CTRL_EN p) && v != d.canCfg p) || !canTimingOk v (d.canNbt p) (d.canDbt p) then d.canRefuse p 0x004
  else
    (((((((d.wr (CAN_CFG_FDEN p) v).wr (CAN_CFG_TRIPLE p) (v / 2)).wr (CAN_CFG_TDCEN p) (v / 4)).wr (CAN_CFG_AUTOBO p) (v / 8)).wr
      (CAN_CFG_SELFRX p) (v / 16)).wr (CAN_CFG_PXDIS p) (v / 32)).wr (CAN_CFG_DOM p) (v / 64))

/-- A write of `CAN_NBT` (R375). -/
def Dev.canNbtWrite (d : Dev) (p v : Nat) : Dev :=
  let v := v % 2 ^ 27
  if (d.on (CAN_CTRL_EN p) && v != d.canNbt p) || !canTimingOk (d.canCfg p) v (d.canDbt p) then d.canRefuse p 0x008
  else d.setNbt p v

/-- A write of `CAN_DBT` (R375). -/
def Dev.canDbtWrite (d : Dev) (p v : Nat) : Dev :=
  let v := v % 2 ^ 25
  if (d.on (CAN_CTRL_EN p) && v != d.canDbt p) || !canTimingOk (d.canCfg p) (d.canNbt p) v then d.canRefuse p 0x00C
  else
    (((((d.wr (CAN_DBT_DBRP p) v).wr (CAN_DBT_DTSEG1 p) (v / 2 ^ 5)).wr (CAN_DBT_DTSEG2 p) (v / 2 ^ 10)).wr
      (CAN_DBT_DSJW p) (v / 2 ^ 14)).wr (CAN_DBT_TDCO p) (v / 2 ^ 18))

/-- A write of `CAN_ABRCFG` (R375). -/
def Dev.canAbrCfgWrite (d : Dev) (p v : Nat) : Dev :=
  let old := d.rd (CAN_ABRCFG_MASK p) + d.rd (CAN_ABRCFG_DWELL p) * 2 ^ 8 + d.rd (CAN_ABRCFG_ROUNDS p) * 2 ^ 24
  if d.on (CAN_CTRL_EN p) && v % 2 ^ 32 != old then d.canRefuse p 0x018
  else ((d.wr (CAN_ABRCFG_MASK p) v).wr (CAN_ABRCFG_DWELL p) (v / 2 ^ 8)).wr (CAN_ABRCFG_ROUNDS p) (v / 2 ^ 24)

/-- A write of `CAN_ABRr` (R375, R381). -/
def Dev.canAbrWrite (d : Dev) (p r v : Nat) : Dev :=
  let v := v % 2 ^ 27
  if (d.on (CAN_CTRL_EN p) && v != d.rd (CAN_ABRr_TIMING p r)) || !nominalOk v then d.canRefuse p (0x020 + 4 * r)
  else d.wr (CAN_ABRr_TIMING p r) v

/-! ### Error states (R389) -/

/-- CAN_STAT.STATE of the counters: 0 active, 1 passive, 2 bus-off. -/
def Can.errState (x : Can) : Nat := if 256 ≤ x.txErr then 2 else if 128 ≤ x.txErr ∨ 128 ≤ x.rxErr then 1 else 0

/-- Set the error counters, with CAN_ERR, the state, and the events of a change (R389). -/
def Dev.canCounters (d : Dev) (p tec rx : Nat) : Dev :=
  let x := d.canOf p
  let y := { x with txErr := tec, rxErr := min rx 255 }
  let d := d.setCan p y
  let d := ((d.wr (CAN_ERR_TEC p) (min tec 255)).wr (CAN_ERR_REC p) y.rxErr).put (CAN_ERR_RP p) (decide (128 ≤ y.rxErr))
  if y.errState = x.errState then d
  else
    let d := d.wr (CAN_STAT_STATE p) y.errState
    let d := d.postEvent 0x0F01 (canUid p) (y.errState * 2 ^ 24 + y.rxErr * 2 ^ 16 + tec % 2 ^ 9)
    d.when (y.errState == 2) (fun d =>
      let d := (d.postEvent 0x0F02 (canUid p) tec).inc (CAN_BUSOFF_CNT p)
      d.setCan p { d.canOf p with recovering := d.on (CAN_CFG_AUTOBO p) })

/-- Recovery from bus-off completes (R389). -/
def Dev.canRecovered (d : Dev) (p : Nat) : Dev :=
  let x := d.canOf p
  if x.on = true ∧ x.errState = 2 ∧ x.recovering = true then
    let d := (d.setCan p { x with recovering := false }).canCounters p 0 0
    d.postEvent 0x0F03 (canUid p) 0
  else d

/-- Start bus-off recovery (R389). -/
def Dev.canBorec (d : Dev) (p : Nat) : Dev :=
  let x := d.canOf p
  if x.errState = 2 then d.setCan p { x with recovering := true } else d

/-! ### Rate detection (R381) -/

/-- The candidate after `r` in the mask, in this pass. -/
def Dev.canNextCand (d : Dev) (p from_ : Nat) : Option Nat :=
  (List.range 8).find? (fun r => decide (from_ ≤ r) && bit (d.rd (CAN_ABRCFG_MASK p)) r)

/-- Detection fails: EN cleared, ABRFAIL, event 0x0F06. -/
def Dev.canAbrFail (d : Dev) (p : Nat) : Dev :=
  let d := d.setCan p { d.canOf p with on := false }
  let d := ((d.put (CAN_CTRL_EN p) false).clr (CAN_STAT_ABRBUSY p)).put (CAN_STAT_ABRFAIL p) true
  (d.wr (CAN_STAT_STATE p) 3).postEvent 0x0F06 (canUid p) 0

/-- The detection goes on to the next candidate, the next pass, or its end. -/
def Dev.canAbrNext (d : Dev) (p : Nat) : Dev :=
  let x := d.canOf p
  match d.canNextCand p (x.cand + 1) with
  | some r => d.setCan p { x with cand := r, taken := d.tb.lt }
  | none =>
    if d.rd (CAN_ABRCFG_ROUNDS p) ≤ x.round + 1 then d.canAbrFail p
    else d.setCan p { x with cand := (d.canNextCand p 0).getD 0, round := x.round + 1, taken := d.tb.lt }

/-- Start rate detection in listen-only mode. -/
def Dev.canAbrStart (d : Dev) (p : Nat) : Dev :=
  let d := ((d.put (CAN_CTRL_EN p) true).wr (CAN_CTRL_MODE p) 1).put (CAN_STAT_ABRBUSY p) true
  let d := d.wr (CAN_STAT_STATE p) (d.canOf p).errState
  match d.canNextCand p 0 with
  | some r => d.setCan p { d.canOf p with on := true, cand := r, round := 0, taken := d.tb.lt }
  | none => d.canAbrFail p

/-- Whether DWELL ms have passed since the candidate was taken. -/
def Dev.dwellOver (d : Dev) (p : Nat) : Bool :=
  decide ((d.canOf p).taken + d.rd (CAN_ABRCFG_DWELL p) * (1000000 * 65536) ≤ d.tb.lt)

/-- A dwell ends without confirmation. -/
def Dev.canDwell (d : Dev) (p : Nat) : Dev := if d.on (CAN_STAT_ABRBUSY p) && d.dwellOver p then d.canAbrNext p else d

/-! ### Control -/

/-- TXST codes (R384). -/
abbrev txIdle : Nat := 0
abbrev txPending : Nat := 1
abbrev txActive : Nat := 2

/-- The controller leaves the bus at once: a buffer in transmission goes back to PENDING (notes/assumptions/16). -/
def Dev.canLeave (d : Dev) (p : Nat) : Dev :=
  let x := d.canOf p
  let d := match x.cur with
    | some b => d.wr (CAN_TXBb_STAT_TXST p b) txPending
    | none => d
  d.setCan p { x with on := false, cur := none, abort := false, waiting := false, idle := false, next := none }

/-- A write of `CAN_CTRL` (R375, R380, R381, R389, R392). -/
def Dev.canCtrl (d : Dev) (p v : Nat) : Dev :=
  let en := d.on (CAN_CTRL_EN p)
  let mode := bits v 1 2
  if (bit v 3 && (bit v 0 || en)) || (en && mode != d.rd (CAN_CTRL_MODE p)) then d.canRefuse p 0x000
  else
    let d := d.wr (CAN_CTRL_MODE p) mode
    let d := if bit v 3 then d.canAbrStart p
      else if bit v 0 then
        let d := (d.put (CAN_CTRL_EN p) true).setCan p { d.canOf p with on := true }
        d.wr (CAN_STAT_STATE p) (d.canOf p).errState
      else if en then
        ((d.canLeave p).put (CAN_CTRL_EN p) false).clr (CAN_STAT_ABRBUSY p) |>.wr (CAN_STAT_STATE p) 3
      else d
    d.when (bit v 4) (fun d => d.canBorec p)

/-! ### Transmit buffers -/

/-- A buffer's state. -/
def Dev.txst (d : Dev) (p b : Nat) : Nat := d.rd (CAN_TXBb_STAT_TXST p b)

/-- A notification's doorbell (R384, R394). -/
def Dev.canNotify (d : Dev) (p : Nat) : Dev := d.when (d.on (CAN_NOTIFY_DBEN p)) (fun d => d.ring (d.rd (CAN_NOTIFY_DB p)))

/-- A buffer enters a final state (R384). -/
def Dev.txFinal (d : Dev) (p b st : Nat) : Dev :=
  let d := d.wr (CAN_TXBb_STAT_TXST p b) st
  (d.wr (CAN_TXDONE_DONE p) (setBits (d.rd (CAN_TXDONE_DONE p)) b 1 1)).canNotify p

/-- A request of one buffer (R382). -/
def Dev.txRequest1 (d : Dev) (p b : Nat) : Dev :=
  if d.txst p b = txPending ∨ d.txst p b = txActive then d
  else if (d.on (CAN_TXBb_CTL_FDF p b) && !d.on (CAN_CFG_FDEN p)) || (d.on (CAN_TXBb_ID_RTR p b) && d.on (CAN_TXBb_CTL_FDF p b))
      || (d.on (CAN_TXBb_CTL_BRS p b) && !d.on (CAN_TXBb_CTL_FDF p b)) then d.canRefuse p 0x040
  else (d.wr (CAN_TXBb_STAT_TXST p b) txPending).clr (CAN_TXBb_STAT_ATTEMPTS p b)

/-- A write of `CAN_TXABT` (R385, R392). -/
def Dev.txAbort (d : Dev) (p v : Nat) : Dev :=
  forNums 32 (fun b d =>
    if !bit v b then d
    else if d.txst p b = txPending then (d.setCan p { d.canOf p with next := (d.canOf p).next.filter (· != b) }).txFinal p b 5
    else if d.txst p b = txActive then d.setCan p { d.canOf p with abort := true }
    else d) d

/-- `CAN_TXPEND`: the buffers PENDING or ACTIVE. -/
def Dev.txPend (d : Dev) (p : Nat) : Nat :=
  (List.range 32).foldl (fun n b => if d.txst p b = txPending ∨ d.txst p b = txActive then n + 2 ^ b else n) 0

/-- What a buffer's frame shows to arbitration (R383), as numbers that are compared in order. -/
def Dev.txKey (d : Dev) (p b : Nat) : List Nat :=
  let id := d.rd (CAN_TXBb_ID_ID p b)
  let ide := d.on (CAN_TXBb_ID_IDE p b)
  [id / 2 ^ 18, b01 ide, if ide then id % 2 ^ 18 else 0, d.rd (CAN_TXBb_ID_RTR p b), b]

/-- Whether a key comes before another. -/
def keyLt : List Nat → List Nat → Bool
  | a :: r, b :: s => decide (a < b) || (a == b && keyLt r s)
  | _, _ => false

/-- The pending buffer whose frame would win arbitration (R383). -/
def Dev.txChoice (d : Dev) (p : Nat) : Option Nat :=
  (List.range 32).foldl (fun best b =>
    if d.txst p b = txPending then
      match best with
      | none => some b
      | some c => if keyLt (d.txKey p b) (d.txKey p c) then some b else best
    else best) none

/-- Whether a controller takes part in the bus now. -/
def Can.joins (x : Can) : Bool := x.on && !x.waiting && x.errState != 2

/-- Whether a controller may send now: a listen-only controller sends none (R380), and in a device fault no frame starts (R440). -/
def Dev.maySend (d : Dev) (p : Nat) : Bool :=
  (d.canOf p).joins && (d.canOf p).cur.isNone && d.rd (CAN_CTRL_MODE p) != 1 && !d.on SUP_STAT_FAULT

/-- While the bus is idle the choice for the next attempt is made at once as a request arrives, and stands (R383). -/
def Dev.idleChoice (d : Dev) (p : Nat) : Dev :=
  let x := d.canOf p
  d.when (x.idle && x.next.isNone && d.maySend p) (fun d => d.setCan p { x with next := d.txChoice p })

/-- A write of `CAN_TXREQ` (R382, R383). -/
def Dev.txRequest (d : Dev) (p v : Nat) : Dev :=
  (forNums 32 (fun b d => if bit v b then d.txRequest1 p b else d) d).idleChoice p

/-- The bus is busy: with another node's frame, which takes the place of the attempt chosen, or with this controller's. -/
def Dev.canBusy (d : Dev) (p : Nat) : Dev := d.setCan p { d.canOf p with idle := false, next := none }

/-- An attempt starts (R383), with the frame chosen while the bus was idle, or else chosen now, at the last bit of intermission; with none
to send the bus is idle from here on. -/
def Dev.attemptStart (d : Dev) (p : Nat) : Dev :=
  let x := d.canOf p
  if !d.maySend p then d
  else match x.next.or (d.txChoice p) with
    | some b =>
      let d := (d.wr (CAN_TXBb_STAT_TXST p b) txActive).inc (CAN_TXBb_STAT_ATTEMPTS p b)
      d.setCan p { x with cur := some b, abort := false, idle := false, next := none }
    | none => d.setCan p { x with idle := true }

/-- The attempt loses arbitration (R382, R385). -/
def Dev.arbitrationLost (d : Dev) (p : Nat) : Dev :=
  let x := d.canOf p
  match x.cur with
  | none => d
  | some b =>
    let d := (d.setCan p { x with cur := none, abort := false }).inc (CAN_ARBLOST_CNT p)
    if x.abort then d.txFinal p b 5
    else if d.on (CAN_TXBb_ID_ONESHOT p b) then d.txFinal p b 7
    else d.wr (CAN_TXBb_STAT_TXST p b) txPending

/-! ### Frames -/

/-- A stamp of a start of frame, 12.5 ns units of LT, in the domain of `CAN_CFG.DOM` (R388), by the relation of the tick it lies in (R40). -/
def Dev.canStamp (d : Dev) (p sof : Nat) : Nat :=
  let t := sof * 819200
  compact (d.ltToDomAt (d.rd (CAN_CFG_DOM p)) (Int.ofNat (t / tick16 * tick16)) (Int.ofNat t)).toNat

/-- Store a frame in the receive ring (R386, R387); the data bytes past the frame's are free (notes/assumptions/3). -/
def Dev.canStore (d : Dev) (p : Nat) (f : CanFrame) (own : Bool) (sof : Nat) : Dev :=
  let e := d.rd (CAN_RXWIDX_WIDX p)
  let d := d.when (d.on (CAN_RXe_HDR_ND p e)) (fun d => (d.inc (CAN_RXOVW_CNT p)).postEvent 0x0F08 (canUid p) 0)
  let free := d.takeFree
  let data := leNat (f.data ++ toLe (64 - f.data.length) free.1)
  let d := ((free.2.wr (CAN_RXe_HDR_DLC p e) f.dlc).wr (CAN_RXe_HDR_LEN p e) f.data.length).put (CAN_RXe_HDR_IDE p e) f.ide
  let d := ((d.put (CAN_RXe_HDR_RTR p e) f.rtr).put (CAN_RXe_HDR_FDF p e) f.fdf).put (CAN_RXe_HDR_BRS p e) f.brs
  let d := ((d.put (CAN_RXe_HDR_ESI p e) f.esi).put (CAN_RXe_HDR_OWN p e) own).put (CAN_RXe_HDR_ND p e) true
  let d := (d.wr (CAN_RXe_ID_ID p e) f.id).wr (CAN_RXe_STAMP_STAMP p e) (d.canStamp p sof)
  let d := d.wr (CAN_RXe_DATA_DATA p e) data
  (d.wr (CAN_RXWIDX_WIDX p) (e + 1)).canNotify p

/-- The frame of a transmit buffer; ESI is sent from the error state (R374). -/
def Dev.txFrame (d : Dev) (p b : Nat) : CanFrame :=
  let fdf := d.on (CAN_TXBb_CTL_FDF p b)
  let rtr := d.on (CAN_TXBb_ID_RTR p b)
  let ide := d.on (CAN_TXBb_ID_IDE p b)
  let id := d.rd (CAN_TXBb_ID_ID p b)
  let dlc := d.rd (CAN_TXBb_CTL_DLC p b)
  let data := (List.range 16).flatMap (fun k => toLe 4 (d.rd (CAN_TXBb_DATAw_DATA p b k)))
  { id := if ide then id else id / 2 ^ 18 * 2 ^ 18, ide := ide, rtr := rtr, fdf := fdf, brs := d.on (CAN_TXBb_CTL_BRS p b)
    esi := fdf && (d.canOf p).errState == 1, dlc := dlc, data := data.take (canLen fdf rtr dlc) }

/-- Record the measured loop delay (R377). -/
def Dev.canTdc (d : Dev) (p : Nat) (tdcv : Option Nat) : Dev :=
  match tdcv with
  | some v => if d.on (CAN_CFG_TDCEN p) then d.wr (CAN_STAT_TDCV p) (min v 127) else d
  | none => d

/-- REC after a reception (ISO 11898-1): one less, or, from above 127, a value in 119–127 that the standard leaves open. -/
def Dev.canReceivedOk (d : Dev) (p : Nat) : Dev :=
  let x := d.canOf p
  if x.rxErr ≤ 127 then d.canCounters p x.txErr (x.rxErr - 1)
  else let f := d.takeFree; f.2.canCounters p x.txErr (119 + f.1 % 9)

/-- Whether the measured loop delay of a frame with a rate switch saturates, which ends the frame in a bit error (R377). -/
def Dev.canTdcOver (d : Dev) (p b tdcv : Nat) : Bool := d.on (CAN_CFG_TDCEN p) && (d.txFrame p b).brs && decide (127 < tdcv)

/-- The error flag that a controller sends (R380): active or passive by its state; none in listen-only mode or in loopback. -/
def Dev.canFlag (d : Dev) (p : Nat) : Dev :=
  d.when (d.rd (CAN_CTRL_MODE p) == 0) (fun d => d.emit (.canFlag (22 + p) ((d.canOf p).errState == 0)))

/-- The code of an error met while sending: a frame whose loop delay saturates ends in a bit error, which of the two being free (R377). -/
def Dev.canLec (d : Dev) (p b : Nat) (e : CanErr) : Nat × Dev :=
  if e.tdcv.any (d.canTdcOver p b) && !(e.lec == 4 || e.lec == 5) then (4 + d.takeFree.1 % 2, d.takeFree.2) else (e.lec, d)

/-- Whether ISO 11898-1 leaves TEC as it is at a transmitter's error: a stuff error during arbitration, or an ACK error of an error-passive
node with no dominant bit during its error flag (R390). -/
def canExempt (e : CanErr) (state lec : Nat) : Bool := e.exempt && (lec == 1 || (lec == 3 && state == 1))

/-- The attempt to send buffer `b` meets an error (R389, R390). -/
def Dev.canTxError (d : Dev) (p b : Nat) (e : CanErr) : Dev :=
  let x := d.canOf p
  let (lec, d) := d.canLec p b e
  let d := (d.wr (CAN_ERR_LEC p) lec).when (d.txFrame p b).brs (fun d => d.canTdc p e.tdcv)
  let d := (d.inc (if lec = 3 then CAN_ACKERR_CNT p else CAN_TXERR_CNT p)).canFlag p
  let d := d.when (lec == 3 && x.errState == 1) (fun d => (d.put (CAN_STAT_NOACK p) true).postEvent 0x0F04 (canUid p) b)
  let d := d.setCan p { x with cur := none, abort := false }
  let d := d.canCounters p (if canExempt e x.errState lec then x.txErr else x.txErr + 8) x.rxErr
  if x.abort then d.txFinal p b 6
  else if d.on (CAN_TXBb_ID_ONESHOT p b) then
    d.txFinal p b (if lec = 3 ∧ (d.canOf p).errState ≠ 2 then 9 else 8)
  else d.wr (CAN_TXBb_STAT_TXST p b) txPending

/-- A bus error (R389, R390). An ACK error is met by a transmitter alone, and by none in loopback, which acknowledges itself (R380). -/
def Dev.canError (d : Dev) (p : Nat) (e : CanErr) : Dev :=
  let x := d.canOf p
  if !x.joins || (e.lec == 3 && (!e.tx || d.rd (CAN_CTRL_MODE p) == 2)) then d
  else if d.on (CAN_STAT_ABRBUSY p) then ((d.wr (CAN_ERR_LEC p) e.lec).inc (CAN_RXERR_CNT p)).canAbrNext p
  else match e.tx, x.cur with
    | true, some b => d.canTxError p b e
    | false, none =>
      let d := (((d.canBusy p).wr (CAN_ERR_LEC p) e.lec).inc (CAN_RXERR_CNT p)).canFlag p
      d.canCounters p x.txErr (x.rxErr + (if e.primary then 8 else 1))
    | _, _ => d

/-- A transmit attempt succeeds (R384–R386, R390); one whose loop delay saturates meets a bit error (R377). -/
def Dev.canSent (d : Dev) (p sof tdcv : Nat) : Dev :=
  let x := d.canOf p
  match x.cur with
  | none => d
  | some b =>
    if d.canTdcOver p b tdcv then d.canTxError p b ⟨0, true, false, false, some tdcv⟩
    else
    let f := d.txFrame p b
    let loop := d.rd (CAN_CTRL_MODE p) == 2
    let d := d.setCan p { x with cur := none, abort := false }
    let d := d.when f.brs (fun d => d.canTdc p (some tdcv))
    let d := (d.wr (CAN_TXBb_STAMP_STAMP p b) (d.canStamp p sof)).inc (CAN_TXOK_CNT p)
    let d := (d.clr (CAN_STAT_NOACK p)).canCounters p (x.txErr - 1) x.rxErr
    let d := d.when (!loop) (fun d => d.emit (.canFrame (22 + p) f))
    let d := d.txFinal p b (if x.abort then 4 else 3)
    let d := d.when loop (fun d => d.inc (CAN_RXOK_CNT p))
    d.when (loop || d.on (CAN_CFG_SELFRX p)) (fun d => d.canStore p f true sof)

/-- A recessive FDF or res bit where R379 makes it a protocol exception, or a form error with PXDIS. -/
def Dev.canException (d : Dev) (p : Nat) : Dev :=
  let x := d.canOf p
  let abr := d.on (CAN_STAT_ABRBUSY p)
  if !x.joins then d
  else if d.on (CAN_CFG_PXDIS p) && !abr then d.canError p ⟨2, false, false, false, none⟩
  else
    let d := (d.inc (CAN_PXCNT_CNT p)).postEvent 0x0F09 (canUid p) 0
    let d := d.setCan p { d.canOf p with waiting := true, idle := false, next := none }
    d.when abr (fun d => d.canAbrNext p)

/-- The controller has seen 11 recessive bits (R379): the bus is idle. -/
def Dev.canWaitEnd (d : Dev) (p : Nat) : Dev := d.setCan p { d.canOf p with waiting := false, idle := (d.canOf p).on }

/-- A frame received is acknowledged in normal mode alone (R380) and stored (R386). -/
def Dev.canAcked (d : Dev) (p : Nat) (f : CanFrame) (sof : Nat) : Dev :=
  (d.when (d.rd (CAN_CTRL_MODE p) == 0) (fun d => d.emit (.canAck (22 + p)))).canStore p f false sof

/-- A frame is received without error (R386, R381, R390), and acknowledged in normal mode (R380). An FD frame is a protocol exception during rate detection, and where FD
frames are not allowed. -/
def Dev.canReceived (d : Dev) (p : Nat) (f : CanFrame) (sof : Nat) : Dev :=
  let x := d.canOf p
  let abr := d.on (CAN_STAT_ABRBUSY p)
  if !x.joins || x.cur.isSome then d
  else if f.fdf && (abr || !d.on (CAN_CFG_FDEN p)) then d.canException p
  else
    let d := (((d.canBusy p).inc (CAN_RXOK_CNT p)).clr (CAN_STAT_NOACK p)).canReceivedOk p
    let d := d.when (abr && decide (d.tb.lt < x.taken + d.rd (CAN_ABRCFG_DWELL p) * (1000000 * 65536))) (fun d =>
      let d := (d.setNbt p (d.rd (CAN_ABRr_TIMING p x.cand))).wr (CAN_STAT_ABRRATE p) x.cand
      ((d.put (CAN_STAT_ABRDONE p) true).clr (CAN_STAT_ABRBUSY p)).postEvent 0x0F05 (canUid p) x.cand)
    d.canAcked p f sof

/-- Whether a buffer is PENDING or ACTIVE, which refuses writes to its configuration or data with event 0x0F07 (R382). -/
def Dev.txbBusy (d : Dev) (p b : Nat) : Bool := d.txst p b == txPending || d.txst p b == txActive

/-- A write to a transmit buffer that is PENDING or ACTIVE (R382): event 0x0F07. -/
def Dev.txbRefuse (d : Dev) (p off : Nat) : Dev := d.postEvent 0x0F07 (canUid p) off

/-- A function reset of a CAN port (R391): out of error passive or bus-off the state changes to error active, which is recorded (R389). -/
def Dev.canReset (d : Dev) (p : Nat) : Dev :=
  let held := (List.range 32).filter (fun b => d.txbBusy p b)
  let state := (d.canOf p).errState
  let unread := ((List.range 128).filter (fun e => d.on (CAN_RXe_HDR_ND p e))).length
  let d := (((d.clrs (fnFields_CAN p)).clrs (fnFields_CANTB p)).clrs (fnFields_CANRX p)).setCan p {}
  let d := held.foldl (fun d b => d.txFinal p b 10) d
  let d := d.when (state != 0) (fun d => d.postEvent 0x0F01 (canUid p) 0)
  d.resetReport 0x0F (canUid p) (held.length * 2 ^ 16 + unread)

end Sys2Proof.Machine
end

