-- ==== Sys2Proof/Machine/Assemble.lean ====
section
/-! DEFINITION. Reception of preempted frames (R75, R77): mPackets are assembled into frames, which enter as any frame does. -/

namespace Sys2Proof.Machine


/-- An assembled frame enters (R77): stamped at its first fragment, and counted in PRT_ASSOK where it came in fragments without error. -/
def Dev.assembled (d : Dev) (p : Nat) (a : Assembly) (frags : Bool) : Dev :=
  let d := d.setPort p { d.port p with asm := none }
  let n := a.bytes.length
  let good := fcsOf (a.bytes.take (n - 4)) == a.bytes.drop (n - 4) && !a.codeErr
  let d := d.when (frags && good) (fun d => d.inc (PRT_ASSOK_CNT p))
  let ago := (d.tb.lt - a.lt) / tick16
  d.frameIn p { bytes := a.bytes, ago := ago, sub := a.sub, codeErr := a.codeErr, trunc := false }

/-- An mPacket is received on a port (R77, R78). -/
def Dev.mpacket (d : Dev) (p : Nat) (m : MPacket) : Dev :=
  if !d.portUp p then d.portDrop p 1
  else
    match m.smd, (d.port p).asm with
    | .unknown, _ => d.portDrop p (if m.codeErr then 2 else 6)
    | .cont _, none => d.portDrop p (if m.codeErr then 2 else 6)
    | .start n, old =>
      let d := match old with
        | some a => d.dropAsm p a false
        | none => d
      let a : Assembly := {
        num := n, next := 0, bytes := m.data, sub := m.sub, lt := d.tb.lt - m.ago * tick16, codeErr := m.codeErr }
      if m.last then d.assembled p a false
      else (d.setPort p { d.port p with asm := some a }).inc (PRT_FRAG_RX_CNT p)
    | .cont n, some a =>
      let d := d.inc (PRT_FRAG_RX_CNT p)
      if n % 4 ≠ a.num % 4 ∨ m.frag % 4 ≠ a.next then d.dropAsm p { a with codeErr := a.codeErr || m.codeErr } false
      else
        let a := { a with next := (a.next + 1) % 4, bytes := a.bytes ++ m.data, codeErr := a.codeErr || m.codeErr }
        if m.last then d.assembled p a true else d.setPort p { d.port p with asm := some a }

end Sys2Proof.Machine
end

