-- ==== Sys2Proof/Machine/Recorder.lean ====
section
/-! DEFINITION. The event recorder's writer and log (spec/17): records and their CRC (R457), the MRAM log with its pointers and bad
sectors (R463–R467), the fallback buffer (R468), the commands (R470, R471) and the recorder's start and reset (R460, R472). -/

namespace Sys2Proof.Machine

/-- The number of slots of the log, and of slots in a sector (R465). -/
abbrev logSlots : Nat := 131072
abbrev sectorSlots : Nat := 128

/-- Words 0–6 of a record (R457). -/
def EvRec.words7 (r : EvRec) : List Nat :=
  [r.typ % 2 ^ 16 * 2 ^ 16 + r.src % 2 ^ 12 * 2 ^ 4 + b01 r.test * 4 + b01 r.loss * 2 + b01 r.fb,
    r.opsec % 2 ^ 32, r.pwrcyc % 2 ^ 32, r.time % 2 ^ 32, bits r.time 32 32, bits r.time 64 32, r.detail % 2 ^ 32]

/-- The CRC of a record, over bytes 0–29. -/
def EvRec.crc (r : EvRec) : Nat := crc16 0xFFFF ((r.words7.map (toLe 4)).flatten ++ toLe 2 r.rep)

/-- The eight words of a record as the log holds it. -/
def EvRec.words (r : EvRec) : List Nat := r.words7 ++ [r.rep % 2 ^ 16 + r.crc * 2 ^ 16]

/-- Whether a sector is marked bad. -/
def Evr.isBad (e : Evr) (sec : Nat) : Bool := bit e.badMap.val sec

/-- The number of sectors marked bad. -/
def Evr.badCount (e : Evr) : Nat := (numsWhere 1024 e.isBad).length

/-- The first good sector at or after a sector, going round once; none when every sector is bad. -/
def Evr.goodFrom (e : Evr) (sec : Nat) : Option Nat :=
  ((List.range 1024).map (fun i => (sec + i) % 1024)).find? (fun s => !e.isBad s)

/-- Records held in `n` slots from one on, going round. -/
def Evr.heldIn (e : Evr) (slot n : Nat) : Nat := (numsWhere n (fun i => (tget e.log ((slot + i) % logSlots)).isSome)).length

/-- OLDEST moves to a slot (R465): the records before it are retired. -/
def Evr.retire (e : Evr) (slot : Nat) : Evr :=
  let old := e.oldest.val
  let n := (slot + logSlots - old) % logSlots
  { e with oldest := Trip.of slot, count := Trip.of (e.count.val - e.heldIn old (if n = 0 then logSlots else n)) }

/-- The writer enters the sector of a slot (R465): the records held in it are retired, and OLDEST moves to the next good sector if
it lay there. -/
def Evr.enterSector (e : Evr) (slot : Nat) : Evr :=
  let sec := slot / sectorSlots
  if slot % sectorSlots = 0 ∧ 0 < e.count.val ∧ e.oldest.val / sectorSlots = sec then
    e.retire ((e.goodFrom ((sec + 1) % 1024)).getD sec * sectorSlots)
  else e

/-- The writer goes on from one sector to another, passing over the bad ones between; OLDEST does not stay in one of those
(notes/assumptions/54). -/
def Evr.moveOn (e : Evr) (sec next : Nat) : Evr :=
  let k := (e.oldest.val / sectorSlots + 1024 - sec) % 1024
  let e := if 0 < e.count.val ∧ 0 < k ∧ k < (next + 1023 - sec) % 1024 + 1 then e.retire (next * sectorSlots) else e
  { e with widx := Trip.of (next * sectorSlots) }

/-- The writer goes on to the slot after the one it has written, passing over bad sectors. -/
def Evr.advance (e : Evr) : Evr :=
  let slot := e.widx.val
  let sec := slot / sectorSlots
  if slot % sectorSlots + 1 = sectorSlots then e.moveOn sec ((e.goodFrom ((sec + 1) % 1024)).getD sec)
  else { e with widx := Trip.of (slot + 1) }

/-- Put a record into the slot the writer is at. -/
def Evr.store (e : Evr) (r : EvRec) : Evr :=
  let slot := e.widx.val
  let e := e.enterSector slot
  { e with
    log := tput e.log slot r, spoilt := tdel e.spoilt slot, last := some (slot, r), dirty := false, whole := false, held := false
    count := Trip.of (e.count.val + 1) }.advance

/-- The words of a slot whose write did not end well: an unknown number, that holds no record (R464, R522). -/
def spoiltWords (x : Nat) : List Nat :=
  let ws := (List.range 8).map (fun i => bits x (32 * i) 32)
  if bits x 16 16 ≠ 0 ∧ crc16 0xFFFF (toLe 30 x) = bits x 240 16 then (bits x 0 16) :: ws.tail else ws

/-- A write into a slot has not ended well: what the slot holds is not known, and is no record (R464). -/
def Dev.spoil (d : Dev) (slot : Nat) : Dev :=
  let (x, d) := d.takeFree
  let e := d.evr
  { d with evr := { e with log := tdel e.log slot, spoilt := tput e.spoilt slot x } }

/-- The log has failed with its last good sector (R467, R473): LOGFAIL; 0x1001 and 0x1002 are the first entries of the fallback buffer,
before any that it holds, and what they push out is discarded. -/
def Dev.logFails (d : Dev) (sec : Nat) : Dev :=
  let mark := d.newRec 0x1001 0x0F8 sec false
  let fail : EvRec := { d.newRec 0x1002 0x0F8 d.evr.badCount false with loss := false }
  let d := d.lossGiven
  let e := d.evr
  let fb := { mark with fb := true } :: { fail with fb := true } :: e.fb
  let d := { d with evr := { e with
    logFail := true, fb := fb.take 16, tailOk := if e.fifo.isEmpty then e.first.isNone && e.fb.isEmpty else e.tailOk } }
  (d.incBy EVR_ACCEPT_CNT 2).evrDiscard (fb.length - 16)

/-- A record enters the fallback buffer directly; a full buffer discards it. -/
def Dev.fbPost (d : Dev) (typ src detail : Nat) : Dev :=
  let r : EvRec := { d.newRec typ src detail false with fb := true }
  if 16 ≤ d.evr.fb.length then d.evrDiscard 1
  else
    let d := d.lossGiven
    let e := d.evr
    { d with evr := { e with fb := e.fb ++ [r], tailOk := e.tailOk || (e.fifo.isEmpty && e.first.isNone) } }.inc EVR_ACCEPT_CNT

/-- A record that is written before those of the fallback buffer (R472, R473). -/
def Dev.postFirst (d : Dev) (typ src detail : Nat) : Dev :=
  let r := d.newRec typ src detail false
  let d := d.lossGiven
  let e := d.evr
  { d with evr := { e with first := some r, tailOk := e.tailOk || e.fifo.isEmpty } }.inc EVR_ACCEPT_CNT

/-- A read-back fails in the sector of a slot (R466): it is marked bad, event 0x1001, and the writer goes to the next good sector;
when there is none, the log has failed. -/
def Dev.sectorFails (d : Dev) (slot : Nat) : Dev :=
  let sec := slot / sectorSlots
  let e := { d.evr with badMap := Trip.of (setBits d.evr.badMap.val sec 1 1) }
  match e.goodFrom ((sec + 1) % 1024) with
  | some s => { d with evr := e.moveOn sec s }.postEvent 0x1001 0x0F8 sec
  | none => { d with evr := e }.logFails sec

/-- The record that the writer writes next (R463, R468): one that goes first, the fallback buffer's oldest, the FIFO's oldest. -/
def Evr.next (e : Evr) : Option EvRec :=
  match e.first, e.fb with
  | some r, _ => some r
  | none, r :: _ => some r
  | none, [] => e.fifo.head?

/-- That record leaves where it waited. -/
def Evr.taken (e : Evr) : Evr :=
  match e.first, e.fb with
  | some _, _ => { e with first := none }
  | none, _ :: rest => { e with fb := rest }
  | none, [] => { e with fifo := e.fifo.tail }

/-- The write of a new record into the slot the writer is at does not end well (R464): the slot's sector is entered, and the slot holds no
record. -/
def Dev.slotLost (d : Dev) : Dev := ({ d with evr := d.evr.enterSector d.evr.widx.val } : Dev).spoil d.evr.widx.val

/-- The writer writes a new record (R463, R464, R468): after a read-back that does not match it goes on in the next good sector; a write
that is cut leaves its slot so (R522). A pending word-7 rewrite comes first. -/
def Dev.recordWrite (d : Dev) (w : WriteEnd) : Dev :=
  if d.inhibit || d.evr.logFail || d.evr.dirty then d
  else
    match d.evr.next, w with
    | none, _ => d
    | some r, .good => { d with evr := d.evr.taken.store r }
    | some _, .bad => d.slotLost.sectorFails d.evr.widx.val
    | some _, .cut => d.slotLost

/-- The writer rewrites word 7 of the last stored record (R463); after a failed read-back it writes the whole record in the next good
sector (R466). -/
def Dev.word7Write (d : Dev) (w : WriteEnd) : Dev :=
  match d.evr.last with
  | some (i, r) =>
    if d.inhibit || d.evr.logFail || !d.evr.dirty then d
    else if d.evr.whole then
      match w with
      | .good => { d with evr := d.evr.store r }
      | .bad => d.slotLost.sectorFails d.evr.widx.val
      | .cut => d.slotLost
    else
      match w with
      | .good => { d with evr := { d.evr with log := tput d.evr.log i r, spoilt := tdel d.evr.spoilt i, dirty := false, held := false } }
      | .bad =>
        let d := { d with evr := { d.evr with whole := true, count := Trip.of (d.evr.count.val - 1) } }
        (d.spoil i).sectorFails i
      | .cut => d.spoil i
  | none => d

/-- The writer moves a record from the FIFO into the fallback buffer (R467, R468). With the log failed and the buffer full the
record is discarded, and the next carries LOSS (R461). -/
def Dev.fallbackWrite (d : Dev) : Dev :=
  let full := decide (16 ≤ d.evr.fb.length)
  if !(d.inhibit || d.evr.logFail) || (full && !d.evr.logFail) then d
  else
    match d.evr.first, d.evr.fifo with
    | some r, _ =>
      if full then { d with evr := { d.evr with first := none } }.evrDiscard 1
      else { d with evr := { d.evr with first := none, fb := { r with fb := true } :: d.evr.fb } }
    | none, [] => d
    | none, r :: rest =>
      if !full then { d with evr := { d.evr with fifo := rest, fb := d.evr.fb ++ [{ r with fb := true }] } }
      else
        match rest with
        | [] => { d with evr := { d.evr with fifo := [] } }.evrDiscard 1
        | n :: more =>
          ({ d with evr := { d.evr with fifo := { n with loss := true } :: more } }.incBy EVR_LOST_CNT 1).put EVR_STAT_LOSS true

/-- MRAM follows the island's OPSEC, unless write inhibit or a reset holds (R460). -/
def Dev.opsecStore (d : Dev) : Dev :=
  { d with evr := { d.evr with opsec := if d.inhibit || d.sup.causes != 0 then d.evr.opsec else Trip.of d.evr.island } }

/-- One second of powered core time (R460): the island counts, and MRAM follows. -/
def Dev.opsecTick (d : Dev) : Dev := { d with evr := { d.evr with island := (d.evr.island + 1) % 2 ^ 32 } }.opsecStore

/-- CLEAR takes effect (R470), during a flush of the fallback buffer with its record among the flushed ones (R473). -/
def Dev.clearNow (d : Dev) : Dev :=
  let n := d.evr.count.val
  let d := { d with evr := { d.evr with oldest := Trip.of d.evr.widx.val, count := Trip.of 0, clearDue := false } }
  if !d.evr.logFail && !d.evr.fb.isEmpty && d.evr.first.isNone then d.postFirst 0x1004 0x0F8 n else d.postEvent 0x1004 0x0F8 n

/-- RETEST takes effect (R470). -/
def Dev.retestNow (d : Dev) : Dev :=
  { d with evr := { d.evr with badMap := Trip.of 0, logFail := false, retestDue := false } }

/-- CLEAR (R470): between two operations of the writer, so after write inhibit (R444). -/
def Dev.logClear (d : Dev) : Dev := if d.inhibit then { d with evr := { d.evr with clearDue := true } } else d.clearNow

/-- RETEST (R470), after write inhibit (R444). -/
def Dev.logRetest (d : Dev) : Dev := if d.inhibit then { d with evr := { d.evr with retestDue := true } } else d.retestNow

/-- A write of EVR_CTRL (R470): ignored and recorded without its key. -/
def Dev.evrCtrl (d : Dev) (v : Nat) : Dev :=
  if bits v 24 8 = 0xE5 then (d.when (bit v 0) Dev.logClear).when (bit v 1) Dev.logRetest
  else d.ignoredWrite 1 0x30008

/-- A software record (R471), with the master's staged detail word. -/
def Dev.inject (d : Dev) (w : Master) (v : Nat) : Dev :=
  d.postEvent (0x10F0 + v % 16) w.uid (tgetD d.evr.injdata w.uid 0) true

/-- A master stages the detail word of its software records. -/
def Dev.injectStage (d : Dev) (w : Master) (v : Nat) : Dev :=
  { d with evr := { d.evr with injdata := tput d.evr.injdata w.uid (v % 2 ^ 32) } }

/-- A function reset of the recorder (R472): its report is written before the fallback buffer's records. -/
def Dev.recorderReset (d : Dev) : Dev :=
  let n := d.evr.fifo.length + d.evr.first.toList.length
  let d := d.clrs fnFields_EVR
  let d := { d with evr := { d.evr with
    fifo := [], first := none, dirty := false, whole := false, held := false, last := none, tailOk := false, clearDue := false, retestDue := false } }
  let d := d.evrDiscard n
  if d.evr.logFail then d.resetReport 0x10 0x0F8 n else d.postFirst 0x1000 0x0F8 n

/-- Word `w` of the sector window (R469): a slot that holds nothing reads TYPE 0, and one whose write did not end well what it left. -/
def Dev.winWord (d : Dev) (w : Nat) : Nat :=
  let slot := d.rd EVR_WIN_SEC * sectorSlots + w / 8
  match tget d.evr.log slot, tget d.evr.spoilt slot with
  | some r, _ => r.words.getD (w % 8) 0
  | none, some x => (spoiltWords x).getD (w % 8) 0
  | none, none => 0

/-- Entry `e` of the fallback buffer as a number of 256 bits. -/
def Dev.fbEntry (d : Dev) (e : Nat) : Nat :=
  match d.evr.fb[e]? with
  | some r => leNat ((r.words.map (toLe 4)).flatten)
  | none => 0

/-- Repair one triplicated value (R460): `kind` 0 OPSEC, 1 PWRCYC, 2 pointers. At a start a value without a majority is reported; the
copies are rewritten once no write inhibit holds (R444). -/
def Dev.repair (d : Dev) (start : Bool) (kind : Nat) (t : Trip) : Dev × Trip :=
  let fixed := if d.inhibit then t else Trip.of t.val
  if t.a = t.b ∧ t.b = t.c then (d, t)
  else if t.a = t.b ∨ t.a = t.c ∨ t.b = t.c then
    let copy := if t.b = t.c then 0 else if t.a = t.c then 1 else 2
    (d.when (!d.inhibit) (fun d => (d.inc EVR_CTRFIX_FIX).postEvent 0x1005 0x0F8 (kind + copy * 2 ^ 8)), fixed)
  else
    let (x, d) := d.takeFree
    (d.when start (fun d => (d.put EVR_STAT_CTRBAD true).postEvent 0x1006 0x0F8 (kind + x % 4 * 2 ^ 8)), fixed)

/-- Every triplicated value is repaired. -/
def Dev.repairs (d : Dev) (start : Bool) : Dev :=
  let (d, a) := d.repair start 0 d.evr.opsec
  let (d, b) := d.repair start 1 d.evr.pwrcyc
  let (d, c) := d.repair start 2 d.evr.widx
  let (d, e) := d.repair start 2 d.evr.oldest
  let (d, f) := d.repair start 2 d.evr.count
  let (d, g) := d.repair start 2 d.evr.badMap
  { d with evr := { d.evr with opsec := a, pwrcyc := b, widx := c, oldest := e, count := f, badMap := g } }

/-- MRAM follows the power-cycle count in use, unless write inhibit holds (R444). -/
def Dev.cycleStore (d : Dev) : Dev :=
  { d with evr := { d.evr with pwrcyc := if d.inhibit then d.evr.pwrcyc else Trip.of d.evr.cycle } }

/-- A start that counts (R433). -/
def Dev.cycleCount (d : Dev) : Dev := { d with evr := { d.evr with cycle := (d.evr.cycle + 1) % 2 ^ 32 } }.cycleStore

/-- The recorder at a start, after POR or WARM (R460, R462, R467): copies repaired, no tail, and a log that has failed stays failed, with
0x1002 the first new entry of the fallback buffer. -/
def Dev.recorderStart (d : Dev) : Dev :=
  let d := { d with evr := { d.evr with tailOk := false } }.repairs true
  let d := { d with evr := { d.evr with cycle := d.evr.pwrcyc.val } }.opsecStore
  let failed := d.evr.badCount == 1024
  let d := { d with evr := { d.evr with logFail := failed } }
  d.when failed (fun d => d.fbPost 0x1002 0x0F8 d.evr.badCount)

/-- The recorder as write inhibit begins (R462, R468): no tail, and a pending word-7 rewrite is held with the buffer. -/
def Evr.inhibited (e : Evr) : Evr := { e with tailOk := false, held := e.dirty }

/-- The recorder once write inhibit has ended (R444, R460): what waited reaches MRAM. -/
def Dev.mramFree (d : Dev) : Dev :=
  let d := ((d.repairs false).cycleStore).opsecStore
  let d := d.when d.evr.clearDue Dev.clearNow
  d.when d.evr.retestDue Dev.retestNow

/-- EVT_N is asserted (R467): the log has failed, or EVTFB = 1 and the fallback buffer is not empty. -/
def Dev.evtN (d : Dev) : Bool := d.evr.logFail || (d.on EVR_CFG_EVTFB && !d.evr.fb.isEmpty)

end Sys2Proof.Machine
end

