-- ==== Sys2Proof/Machine/Supervisor.lean ====
section
/-! DEFINITION. The supervisor and the always-on island (spec/16): POR and WARM resets (R428–R433), the start they lead to (R395), the
request of a per-function reset (R430), device faults (R439–R441), write inhibit (R443, R444, R424), the watchdog (R446, R447), the
temperature sensor (R448), Standby (R451, R452) and clock gates (R453). -/

namespace Sys2Proof.Machine

/-- Change the supervisor's state. -/
def Dev.modSup (d : Dev) (f : Sup → Sup) : Dev := { d with sup := f d.sup }

/-- Change the loader's state. -/
def Dev.modLdr (d : Dev) (f : Ldr → Ldr) : Dev := { d with ldr := f d.ldr }

/-- Whether the core is held in reset or is without power: POR, a WARM cause, or Standby. -/
def Dev.inReset (d : Dev) : Bool := d.sup.por || d.sup.causes != 0 || d.sup.phase == .standby

/-- The meaning of a command of the core: without effect while the core is held in reset. -/
def State.core (s : State) (ok : Bool) (f : Dev → Dev) : Host.Outcome State Fault Refusal :=
  s.act ok (fun d => if d.inReset then d else f d)

/-! ### POR and WARM -/

/-- The frames on the wires end cut, with nothing completed or counted (R79, R432, R442). -/
def Dev.cutWires (d : Dev) : Dev :=
  forNums 22 (fun p d =>
    match (d.port p).tx with
    | some t =>
      if t.waits then d else d.emitFrame p (withFcs (t.wire.take (d.sentBytes p t)) true) true
    | none => d) d

/-- The keys of the fields that a WARM reset keeps (R7, R432). -/
def keptKeys : List Nat := (porFields ++ neverFields).map (fun f => f.key)

/-- A command that the NOR itself has begun goes on to its end there (R425); what it writes, the NOR holds. Bytes are kept inverted. -/
def Ldr.norEffect (x : Ldr) : Ldr :=
  match x.cmd with
  | none => x
  | some c =>
    match c.op with
    | 1 => { x with nor := (c.data.zip (List.range c.len)).foldl (fun m e =>
        cellPut m (c.addr / 256 * 256 + (c.addr + e.2) % 256) (~~~e.1)) x.nor }
    | 2 => { x with nor := cellsDrop x.nor (c.addr / 4096 * 4096) (c.addr / 4096 * 4096 + 4096) }
    | 3 => { x with nor := cellsDrop x.nor (c.addr / 65536 * 65536) (c.addr / 65536 * 65536 + 65536) }
    | _ => x

/-- The NOR as a reset leaves it: a command begun ends there, a command held is lost. -/
def Dev.norLeft (d : Dev) : Ldr :=
  { nor := (if d.on LDR_NORSTAT_INHIB then d.ldr.nor else d.ldr.norEffect.nor) }

/-- The recorder as WARM leaves it (R461, R462): no tail; its FIFO and a pending rewrite stand, unless VDD has fallen; what write inhibit or
Standby moved to VAON stands in any case. -/
def Dev.evrWarm (d : Dev) (vddLost : Bool) : Evr :=
  let e := { d.evr with tailOk := false, clearDue := false, retestDue := false }
  if vddLost then
    { e with
      fifo := [], first := none, dirty := e.dirty && e.held, whole := e.whole && e.held, last := if e.held then e.last else none
      lossDue := false }
  else e

/-- The core is reset by WARM (R432): every field but those of the island and the fixed ones returns to its reset value, every memory is
cleared, LT and the domains return to zero (R25, R27), and every pin is forced to the safe state that its latch holds (R244). -/
def Dev.coreReset (d : Dev) (vddLost : Bool) : Dev :=
  let d := d.cutWires
  let filts := d.pin.pins.map (fun e => (e.1, ({ filt := e.2.filt, shown := e.2.shown } : Pin)))
  let ports := (List.range 22).map (fun p => (p, ({ lfsr := Config.lfsrSeed (Config.portMac p) d.tb.lt % 2 ^ 32 } : Port)))
  let d : Dev := {
    regs := d.regs.filter (fun e => keptKeys.contains e.1)
    pin := { pins := filts }
    ports := ports
    evr := d.evrWarm vddLost
    ldr := d.norLeft
    sup := { d.sup with begun := false, wdFrom := 0, wdKick := none, wdOut := false, grace := false, graceAt := 0, supBack := true, tMaxOf := false }
    jtag := d.jtag
    out := d.out
    free := d.free }
  let d := (d.put EVR_STAT_INHIB d.sup.inhibit).put SUP_STAT_WINHIB d.sup.inhibit
  d.forcePins 0 allPins

/-- A WARM reset begins with a cause, as AON_RSTCAUSE numbers them (R429). -/
def Dev.warm (d : Dev) (cause : Nat) (vddLost : Bool := false) : Dev :=
  if d.sup.por then d
  else
    let d := d.wr AON_RSTCAUSE_CAUSE (setBits (d.rd AON_RSTCAUSE_CAUSE) cause 1 1)
    (d.coreReset vddLost).modSup (fun x => { x with causes := setBits x.causes cause 1 1, phase := .on })

/-- VAON falls (R428): everything volatile is cleared, and only the MRAM (the log and its control region), the OTP and the external NOR
keep what they hold. -/
def Dev.powerOnReset (d : Dev) : Dev :=
  let e := d.evr
  let d := d.cutWires
  { evr := {
      log := e.log, spoilt := e.spoilt, opsec := e.opsec, pwrcyc := e.pwrcyc, widx := e.widx, oldest := e.oldest, count := e.count
      badMap := e.badMap, island := e.opsec.val, cycle := e.pwrcyc.val }
    ldr := d.norLeft
    sup := { por := true, ioA := d.sup.ioA, ioB := d.sup.ioB }
    out := d.out
    free := d.free }

/-- Start-up begins (R395): the reset has ended, and with it its cause of force on the pins. After a WARM the coarse check is skipped
where REFCLK has not failed since the last one. -/
def Dev.startUp (d : Dev) (causes : Nat) : Dev :=
  let d := (d.endForce 0 allPins).put AON_SUPPLY_VDDOK true
  let d := d.put LDR_CLKSTAT_REFOK d.sup.refGood
  d.modSup (fun x => { x with por := false, causes := 0, begun := true, start := causes })

/-- POR ends (R428), and start-up begins; where VDD is late, the start waits for it with cause CORE (R509). -/
def Dev.porEnd (d : Dev) : Dev :=
  if d.sup.por && d.sup.vddLate then
    (d.wr AON_RSTCAUSE_CAUSE 3).modSup (fun x => { x with por := false, vddLate := false, causes := 2 })
  else if d.sup.por || !d.sup.begun && d.sup.causes == 0 && d.sup.phase == .on then d.startUp 1 else d

/-- Every WARM cause has ended (R429); the loss of REFCLK ends with a coarse check that REFCLK passes. -/
def Dev.warmEnd (d : Dev) : Dev :=
  if d.sup.por || d.sup.causes == 0 || d.sup.phase != .on || (bit d.sup.causes 8 && !d.sup.refGood) then d else d.startUp d.sup.causes

/-- No edge of REFCLK for 10 µs (R449): a WARM with cause REFCLK, except in Standby, where the core is in reset already. -/
def Dev.refclkLoss (d : Dev) : Dev :=
  if d.sup.por then d
  else
    let d := (d.put LDR_CLKSTAT_REFOK false).modSup (fun x => { x with refGood := false })
    if d.sup.phase = .standby then d else d.warm 8

/-- RST_N is low (R429): a WARM with cause RSTN, or what ends Standby (R452). -/
def Dev.holdReset (d : Dev) (wakes : Dev → Dev) : Dev := if d.sup.phase = .on then d.warm 2 else wakes d

/-- TESTEN is high (R506): the core is held in reset with cause RSTN; in Standby it is in reset already. -/
def Dev.testen (d : Dev) : Dev :=
  d.holdReset (fun d =>
    (d.wr AON_RSTCAUSE_CAUSE (setBits (d.rd AON_RSTCAUSE_CAUSE) 2 1 1)).modSup (fun x => { x with causes := setBits x.causes 2 1 1 }))

/-- VDD falls below 0.72 V while VAON is present (R429, R443), or, while POR is asserted, is not there in time (R509); in Standby the board
may take VDD away. -/
def Dev.brownOut (d : Dev) : Dev :=
  if d.sup.por then d.modSup (fun x => { x with vddLate := true })
  else
    let d := (d.put AON_SUPPLY_VDDOK false).put AON_SUPPLY_BOSEEN true
    if d.sup.phase = .standby then { d with evr := d.evrWarm true } else d.warm 1 true

/-! ### Clock checks (R397, R398) and the core PLL (R395) -/

/-- A coarse check of REFCLK (R397): the cycles counted during 976.5 µs of the RC oscillator; made in CLKCHK until REFCLK passes, and
while its loss holds the core in reset (R429). -/
def Dev.coarseCheck (d : Dev) (count : Nat) : Dev :=
  let held := bit d.sup.causes 8 && !d.sup.refGood
  if d.sup.por || !(held || (!d.inReset && d.rd LDR_STAT_STATE == 0 && !d.on LDR_CLKSTAT_REFOK)) then d
  else if 24414 * 95 ≤ count * 100 ∧ count * 100 ≤ 24414 * 105 then
    (d.put LDR_CLKSTAT_REFOK (!held)).modSup (fun x => { x with refGood := true })
  else (d.inc LDR_CLKFAIL_FAILS).modSup (fun x => { x with coarseDue := true })

/-- The core PLL locks (R395): PROBE. The recorder starts, the power-cycle count increments after POR, CORE or STBY (R433), a coarse
failure is reported, and event 0x0101 is recorded. -/
def Dev.pllLock (d : Dev) : Dev :=
  if d.rd LDR_STAT_STATE ≠ 0 ∨ !d.on LDR_CLKSTAT_REFOK then d
  else
    let d := (if d.sup.begun then d else d.startUp 1).wr LDR_STAT_STATE 1
    let d := d.recorderStart
    let d := d.when (bit d.sup.start 0 || bit d.sup.start 1 || bit d.sup.start 9) Dev.cycleCount
    let d := d.when d.sup.coarseDue (fun d => (d.postEvent 0x0208 0x0F9 1).modSup (fun x => { x with coarseDue := false }))
    d.postEvent 0x0101 0x000 (d.rd AON_RSTCAUSE_CAUSE)

/-- A fine check of REFCLK (R397): the cycles counted over 1,024 of XTAL32. -/
def Dev.fineCheck (d : Dev) (count : Nat) : Dev :=
  if d.on LDR_CLKSTAT_RCFALL || !d.on LDR_CLKSTAT_X32OK then d
  else
    let d := d.wr LDR_REFMEAS_COUNT count
    if 781094 ≤ count ∧ count ≤ 781406 then d.put LDR_CLKSTAT_REFFINE true
    else ((d.put LDR_CLKSTAT_REFFINE false).put LDR_CLKSTAT_REFDIS true).postEvent 0x0208 0x0F9 2

/-- XTAL32 is judged (R398) by the island; a failure is recorded while the core runs. -/
def Dev.xtalCheck (d : Dev) (good : Bool) : Dev :=
  let d := (d.put LDR_CLKSTAT_X32OK good).put LDR_CLKSTAT_RCFALL (!good)
  d.when (!good && !d.inReset) (fun d => d.postEvent 0x0208 0x0F9 4)

/-! ### Device faults -/

/-- A device fault is entered (R440). -/
def Dev.faultEnter (d : Dev) : Dev :=
  let d := (d.put SUP_STAT_FAULT true).postEvent 0x0103 0x000 (d.rd SUP_FAULT_CAUSE)
  let d := d.forcePins 3 allPins
  let d := forNums 22 (fun p d => (d.cutFrames p .fault).1.offIfDue p) d
  let d := forNums 4 (fun k d => d.put (TB_PPSOk_STAT_ACTIVE k) false) d
  d.trnFault

/-- A fault cause becomes set (R439); in a fault it is only added. -/
def Dev.faultSet (d : Dev) (cause : Nat) : Dev :=
  let d := d.wr SUP_FAULT_CAUSE (setBits (d.rd SUP_FAULT_CAUSE) cause 1 1)
  let d := d.when (cause == 4) (fun d => d.modSup (fun x => { x with supBack := false }))
  if d.on SUP_STAT_FAULT then d else d.faultEnter

/-- A fault cause ends. -/
def Dev.faultDrop (d : Dev) (cause : Nat) : Dev := d.wr SUP_FAULT_CAUSE (setBits (d.rd SUP_FAULT_CAUSE) cause 1 0)

/-- The fault is cleared (R441); refused in the cycle in which a cause is set (R454). -/
def Dev.faultClear (d : Dev) : Dev :=
  if d.rd SUP_FAULT_CAUSE ≠ 0 then d.ignoredWrite 0 0x10020
  else if d.on SUP_STAT_FAULT then
    let d := (d.put SUP_STAT_FAULT false).endForce 3 allPins
    let d := forNums 22 (fun p d => d.settlePort p) d
    d.postEvent 0x0104 0x000 0
  else d

/-- A write of `SUP_FAULT`: RINGKEEP; W1C of causes 0, 1 and 4 by the supervisor, cause 4 once it has restarted; SET by any master
(R439). CLR is the supervisor's, and accepted only when every cause bit is 0: otherwise the write is refused, with event 0x0107 (R441,
R454; notes/assumptions/65). -/
def Dev.faultWrite (d : Dev) (w : Master) (v : Nat) : Dev :=
  let sup := w == .supervisor
  if bit v 9 && (!sup || d.rd SUP_FAULT_CAUSE != 0) then d.ignoredWrite 0 0x10020
  else
    let d := d.put SUP_FAULT_RINGKEEP (bit v 16)
    let d := d.when (sup && bit v 0) (fun d => d.faultDrop 0)
    let d := d.when (sup && bit v 1) (fun d => d.faultDrop 1)
    let d := d.when (sup && bit v 4 && d.sup.supBack) (fun d => d.faultDrop 4)
    let d := d.when (bit v 8) (fun d => d.faultSet 0)
    d.when (bit v 9) Dev.faultClear

/-! ### Write inhibit -/

/-- What the monitors of the supplies show as write inhibit starts (R443, R522). -/
def Dev.sagged (d : Dev) : Sag → Dev
  | .powerfail => (d.put AON_SUPPLY_PFAIL true).put AON_SUPPLY_PFSEEN true
  | .low => d.put AON_SUPPLY_IOLOW true
  | .lost => (d.put AON_SUPPLY_IOLOW true).modSup (fun x => { x with ioA := false })

/-- POWERFAIL_N is accepted, or VDDIO_A falls below its threshold or is lost (R444, R522). NOR programs and erases are held: an erase in
progress is suspended (R424). While the core is held in reset the record enters the fallback buffer directly. -/
def Dev.inhibitStart (d : Dev) (why : Sag) : Dev :=
  let d := d.sagged why
  if d.sup.inhibit then d
  else
    let d := d.modSup (fun x => { x with inhibit := true })
    let d := (d.put EVR_STAT_INHIB true).put SUP_STAT_WINHIB true
    let d := { d with evr := d.evr.inhibited }
    if d.inReset then d.fbPost 0x0106 0x000 1
    else
      let d := d.postEvent 0x0106 0x000 1
      let erasing := match d.ldr.cmd with
        | some c => (c.op == 2 || c.op == 3) && !d.on LDR_NORSTAT_INHIB
        | none => false
      (d.when erasing (fun d => d.put LDR_NORSTAT_SUSP true)).postEvent 0x020B 0x0F9 1

/-- The supplies have been good for 1 ms (R444, R424). -/
def Dev.inhibitEnd (d : Dev) : Dev :=
  let was := d.sup.inhibit
  let d := (d.put AON_SUPPLY_PFAIL false).put AON_SUPPLY_IOLOW false
  let d := d.modSup (fun x => { x with inhibit := false, ioA := true })
  let d := (d.put EVR_STAT_INHIB false).put SUP_STAT_WINHIB false
  if !was then d
  else if d.inReset then d.fbPost 0x0106 0x000 0
  else
    let d := d.when (d.rd LDR_STAT_STATE != 0) Dev.mramFree
    let d := d.postEvent 0x0106 0x000 0
    ((d.put LDR_NORSTAT_SUSP false).put LDR_NORSTAT_INHIB false).postEvent 0x020B 0x0F9 0

/-! ### Watchdog -/

/-- Whole units of 1/1,024 s between an instant of LT and now. -/
def Dev.wdUnits (d : Dev) (t : Nat) : Nat := (d.tb.lt - t) * 1024 / sec16

/-- The units left (R446): what `SUP_WDSTAT.REMAIN` shows. -/
def Dev.wdRemain (d : Dev) : Nat :=
  if d.on SUP_WDCFG_EN && !d.sup.wdOut then d.rd SUP_WDCFG_TIMEOUT - d.wdUnits d.sup.wdFrom else 0

/-- The watchdog expires, or a kick comes early (R447). -/
def Dev.wdExpire (d : Dev) (early : Bool) : Dev :=
  let a := d.rd SUP_WDCFG_ACTION
  let d := (d.postEvent 0x0102 0x000 (a + 256 * b01 early)).modSup (fun x => { x with wdOut := true })
  match a with
  | 0 => d.warm 5
  | 1 => (d.faultSet 1).modSup (fun x => { x with grace := true, graceAt := if x.grace then x.graceAt else d.tb.lt })
  | _ => d.faultSet 1

/-- Whether the watchdog has counted down from TIMEOUT (R446). -/
def Dev.wdDone (d : Dev) : Bool := d.on SUP_WDCFG_EN && !d.sup.wdOut && d.wdRemain == 0

/-- The watchdog expires once it has counted down. -/
def Dev.watchdog (d : Dev) : Dev := if d.wdDone then d.wdExpire false else d

/-- The grace time of `SUP_WDGRACE` ms ends (R447). -/
def Dev.graceEnd (d : Dev) : Dev :=
  if d.sup.grace && decide (d.sup.graceAt + d.rd SUP_WDGRACE_GRACE * (1000000 * 65536) ≤ d.tb.lt) then d.warm 6 else d

/-- A write of `SUP_WDKICK` (R446). -/
def Dev.wdKickWrite (d : Dev) (v : Nat) : Dev :=
  if bits v 24 8 ≠ 0x96 then d.ignoredWrite 1 0x10038
  else if !d.on SUP_WDCFG_EN then d
  else
    let early := match d.sup.wdKick with
      | some t => decide (d.wdUnits t < d.rd SUP_WDCFG_EARLY)
      | none => false
    let d := d.modSup (fun x => { x with wdKick := some d.tb.lt })
    if early then (d.put SUP_WDSTAT_EARLYV true).wdExpire true
    else d.modSup (fun x => { x with wdFrom := d.tb.lt, wdOut := false })

/-- EN has been written: from 0 to 1 the count begins (R446). -/
def Dev.wdEnabled (d : Dev) (old : Bool) : Dev :=
  if d.on SUP_WDCFG_EN && !old then d.modSup (fun x => { x with wdFrom := d.tb.lt, wdKick := none, wdOut := false }) else d

/-! ### Temperature -/

/-- A sample of the junction sensor (R448), in units of 0.25 °C as a signed number. -/
def Dev.temperature (d : Dev) (tj : Int) : Dev :=
  let d := d.wr SUP_TEMP_TJ (ofSigned 12 tj)
  let top := if d.sup.tMaxOf then max tj (toSigned 12 (d.rd SUP_TMAX_TMAX)) else tj
  let d := (d.wr SUP_TMAX_TMAX (ofSigned 12 top)).modSup (fun x => { x with tMaxOf := true })
  let warn := toSigned 12 (d.rd SUP_TLIM_TWARN)
  let crit := toSigned 12 (d.rd SUP_TLIM_TCRIT)
  let d :=
    if d.on SUP_STAT_TWARN then
      if tj ≤ warn - 8 then (d.put SUP_STAT_TWARN false).postEvent 0x0105 0x000 (ofSigned 12 tj * 2 ^ 16) else d
    else if warn ≤ tj then (d.put SUP_STAT_TWARN true).postEvent 0x0105 0x000 (ofSigned 12 tj * 2 ^ 16 + 1) else d
  let d := if crit ≤ tj then (if bit (d.rd SUP_FAULT_CAUSE) 2 then d else d.faultSet 2)
    else if tj < crit - 8 then d.faultDrop 2 else d
  if 560 ≤ tj then d.warm 7 else d

/-- Whether TWARN and TCRIT are in range (R448). -/
def tlimOk (v : Nat) : Bool := decide (toSigned 12 (bits v 0 12) < toSigned 12 (bits v 16 12)) && decide (toSigned 12 (bits v 16 12) ≤ 520)

/-! ### Standby -/

/-- The records that wait move to the fallback buffer (R451, R468); what does not fit stays. -/
def Evr.toFallback (e : Evr) : Evr :=
  let e := match e.first with
    | some r => if e.fb.length < 16 then { e with first := none, fb := { r with fb := true } :: e.fb } else e
    | none => e
  let n := 16 - e.fb.length
  { e with fb := e.fb ++ (e.fifo.take n).map (fun r => { r with fb := true }), fifo := e.fifo.drop n, tailOk := false, held := e.dirty }

/-- Whether a NOR program or erase is busy. -/
def Dev.norWriting (d : Dev) : Bool := d.ldr.cmd.any (fun c => decide (1 ≤ c.op) && decide (c.op ≤ 3))

/-- The entry into Standby begins (R451): event 0x0109, the pins at their safe states, frames cut, the records that wait moved. -/
def Dev.standbyBegins (d : Dev) : Dev :=
  let d := d.postEvent 0x0109 0x000 0
  let d := d.forcePins 0 allPins
  let d := forNums 22 (fun p d => (d.cutFrames p .fault).1.offIfDue p) d
  { d with evr := d.evr.toFallback }.modSup (fun x => { x with phase := .entering none })

/-- A write of `SUP_PWR` (R451): without its key nothing happens; while a NOR program or erase is busy it is refused. -/
def Dev.standbyWrite (d : Dev) (v : Nat) : Dev :=
  if bits v 24 8 ≠ 0x5A ∨ !bit v 0 ∨ d.sup.phase ≠ .on then d
  else if d.norWriting then d.ignoredWrite 0 0x10060
  else d.standbyBegins

/-- A wake source acts in Standby (R452): CORE_EN rises, and the WARM's cause is STBY (and RSTN for RST_N). -/
def Dev.wakeNow (d : Dev) (src : WakeSrc) : Dev :=
  let d := match src with
    | .wakeN => d.put AON_WAKE_WAKENW true
    | .rtc => d.put AON_WAKE_RTCW true
    | .rstN => d.warm 2
  d.warm 9

/-- The core enters reset and CORE_EN goes low (R451); a wake source that came meanwhile applies at once (R454). -/
def Dev.coreOff (d : Dev) : Dev :=
  match d.sup.phase with
  | .entering wake =>
    let d := (d.coreReset false).modSup (fun x => { x with phase := .standby })
    match wake with
    | some src => d.wakeNow src
    | none => d
  | _ => d

/-- Whether a wake source is enabled (R452), and the RTC has reached its alarm. -/
def Dev.wakeArmed (d : Dev) (src : WakeSrc) : Bool :=
  match src with
  | .wakeN => d.on AON_WAKE_WAKENEN
  | .rtc => d.on AON_RTCALM_EN && decide (d.rd AON_RTCALM_SEC ≤ d.rd AON_RTC_SEC)
  | .rstN => true

/-- A wake source becomes active (R452). -/
def Dev.wake (d : Dev) (src : WakeSrc) : Dev :=
  if !d.wakeArmed src then d
  else
    match d.sup.phase with
    | .standby => d.wakeNow src
    | .entering none => d.modSup (fun x => { x with phase := .entering (some src) })
    | _ => d

/-! ### Clock gates -/

/-- Whether a block that `SUP_CGATE` gates is in use (R453). -/
def Dev.gateInUse (d : Dev) (b : Nat) : Bool :=
  match b with
  | 0 => (List.range 256).any (fun s => d.on (SAU_S_CFG_EN s)) || (List.range 4).any (fun m => d.on (SAU_Mm_CFG_EN m))
  | 1 => d.on (TRN_CFG_EN 0) || d.on (TRN_CFG_EN 1)
  | 2 => d.on (CAN_CTRL_EN 0)
  | 3 => d.on (CAN_CTRL_EN 1)
  | 4 => d.grpBusy 0
  | _ => d.grpBusy 1

/-- A write of `SUP_CGATE`: refused where it would gate a block in use. -/
def Dev.gateWrite (d : Dev) (v : Nat) : Dev :=
  if (List.range 6).any (fun b => bit v b && !bit (d.rd SUP_CGATE_GATE) b && d.gateInUse b) then d.ignoredWrite 0 0x10050
  else d.wr SUP_CGATE_GATE v

/-- The gate that an offset lies behind. -/
def gateOf (off : Nat) : Option Nat :=
  if 0x500000 ≤ off ∧ off < 0x600000 then some 0
  else if 0x400000 ≤ off ∧ off < 0x500000 then some 1
  else if 0x700000 ≤ off ∧ off < 0x708000 then some 2
  else if 0x708000 ≤ off ∧ off < 0x710000 then some 3
  else if 0x602000 ≤ off ∧ off < 0x603000 then some 4
  else if 0x603000 ≤ off ∧ off < 0x604000 then some 5
  else none

/-! ### Per-function resets -/

/-- Whether a UID names a unit that can be reset by function (R430, R529). -/
def resettable (u : Nat) : Bool := unitUid u && u != 0x0FD

/-- A write of `SUP_FNRST` (R430). The SPI port has nothing but its request to lose: its reset is made at once. -/
def Dev.fnResetWrite (d : Dev) (w : Master) (v : Nat) : Dev :=
  let u := bits v 0 12
  if bits v 24 8 ≠ 0xC3 then d.ignoredWrite 1 0x10010
  else if !resettable u then d.ignoredWrite 3 0x10010
  else if d.on SUP_FNLAST_BUSY then d.ignoredWrite 0 0x10010
  else
    let d := (d.wr SUP_FNRST_UID u).wr SUP_FNLAST_TARGET u
    let d := d.wr SUP_FNLAST_REQ w.uid
    if u = 0x002 then (d.bumpEpoch 0x002).resetReport 0x03 0x002 0 else d.put SUP_FNLAST_BUSY true

/-- The reset of a unit takes effect where it is the target of the accepted request, and BUSY clears (R430). -/
def Dev.fnReset (d : Dev) (uid : Nat) (f : Dev → Dev) : Dev :=
  if d.on SUP_FNLAST_BUSY && d.rd SUP_FNLAST_TARGET == uid then (f d).put SUP_FNLAST_BUSY false else d

/-- The supervisor engine restarts at its ROM health entry (R431); its epoch never increments (R362). -/
def Dev.supervisorReset (d : Dev) : Dev := (d.modSup (fun x => { x with supBack := true })).resetReport 0x01 0x000 0

/-- A write of `SUP_LOCK` (R534). -/
def Dev.lockWrite (d : Dev) (v : Nat) : Dev := if bit v 0 then (d.put SUP_LOCK_LOCK true).put SUP_STAT_LOCK true else d

/-- Whether the device is Active (R450): an engine runs, or a matrix or a ring is enabled. -/
def Dev.active (d : Dev) : Bool :=
  (List.range 64).any (fun e => d.engState e == engRunning) || (List.range 4).any (fun m => d.on (SAU_Mm_CFG_EN m))
    || d.on (TRN_CFG_EN 0) || d.on (TRN_CFG_EN 1)

/-- The depots that are ON, as a mask. -/
def Dev.depotsOn (d : Dev) : Nat := (numsWhere 8 d.depotOn).foldl (fun n i => n + 2 ^ i) 0

end Sys2Proof.Machine
end

