-- ==== Sys2Proof/Machine/Nor.lean ====
section
/-! DEFINITION. The NOR and what the loader reads in it (spec/15): slots and headers (R400–R405), records' form (R406), signatures
(R415), slot failure, rollback and the state without an image (R418, R419), reads (R402), and the NOR commands (R423, R424). -/

namespace Sys2Proof.Machine

/-! ### The capability list (R492, R528) -/

/-- An entry of the capability list: ID, instances, and the three words of its body. -/
structure Cap where
  id : Nat
  count : Nat
  base : Nat
  stride : Nat
  uid : Nat

/-- No UID (R528). -/
abbrev noUid : Nat := 0xFFFFFFFF

/-- The list's entries (R528); bases and strides are those of the register maps. -/
def capList : List Cap :=
  [⟨0x0001, 1, 0x0, 0, noUid⟩, ⟨0x0010, 1, 0x10000, 0, 0x000⟩, ⟨0x0020, 1, 0x20000, 0, 0x0F9⟩, ⟨0x0030, 1, 0x8000, 0, 0x001⟩,
    ⟨0x0031, 1, 0x8000, 0, 0x002⟩, ⟨0x0032, 8, 0x9000, 0x100, 0x008⟩, ⟨0x0040, 64, 0x810000, 0x1000, 0x040⟩,
    ⟨0x0041, 8, 0x800000, 0x100000, 0x010⟩, ⟨0x0050, 64, 0x1000000, 0x40000, noUid⟩, ⟨0x0051, 1, 0x68000, 0, 0x0FA⟩,
    ⟨0x0060, 1024, 0x54000, 0x10, 0x100⟩, ⟨0x0070, 256, 0x44000, 0x40, 0x600⟩, ⟨0x0071, 512, 0x41000, 0x8, noUid⟩]
  ++ [⟨0x0072, 64, 0x42000, 0x10, noUid⟩, ⟨0x0080, 22, 0x100000, 0x8000, 0x080⟩, ⟨0x0081, 20, 0x100000, 0x8000, 0x080⟩,
    ⟨0x0082, 2, 0x1A0000, 0x8000, 0x094⟩, ⟨0x0090, 1, 0x200000, 0, 0x0A0⟩, ⟨0x0091, 4, 0x220000, 0x100, noUid⟩,
    ⟨0x0092, 256, 0x230000, 0x40, noUid⟩, ⟨0x0093, 64, 0x240000, 0x80, noUid⟩, ⟨0x00A0, 22, 0x300000, 0x8000, 0x0B0⟩,
    ⟨0x00B0, 4, 0x81000, 0x100, 0x0D0⟩, ⟨0x00B1, 20, 0x90000, 0x100, noUid⟩, ⟨0x00B2, 4, 0xA1000, 0x40, noUid⟩]
  ++ [⟨0x00C0, 2, 0x400000, 0x4000, noUid⟩, ⟨0x00D0, 4, 0x501000, 0x100, noUid⟩, ⟨0x00D1, 256, 0x510000, 0x80, noUid⟩,
    ⟨0x00E0, 48, 0x601000, 0x10, noUid⟩, ⟨0x00E1, 2, 0x602000, 0x1000, 0x0F0⟩, ⟨0x00F0, 2, 0x700000, 0x8000, 0x096⟩,
    ⟨0x00F1, 2, 0x700000, 0x8000, 0x096⟩, ⟨0x0100, 1, 0x30000, 0, 0x0F8⟩]

/-- Every capability's version: major 1, minor 0 (R528). -/
abbrev capVersion : Nat := 0x10

/-- Whether the places that the silicon gives the entries and bodies make a list as R492 has it: each within 0x100–0x7FFF and at whole
words, no two sharing a byte. -/
def capPlaced (n : Nat) : Bool :=
  let places := (0x100, 16) :: (List.range (n - 1)).map (fun i => (Config.capEntryAt (i + 1), 16))
    ++ (List.range n).map (fun i => (Config.capBodyAt i, 12))
  places.all (fun a => decide (0x100 ≤ a.1) && decide (a.1 + a.2 ≤ 0x8000) && a.1 % 4 == 0)
    && (List.range places.length).all (fun i => ((places.drop (i + 1)).all (fun b =>
      let a := places.getD i (0, 0)
      decide (a.1 + a.2 ≤ b.1) || decide (b.1 + b.2 ≤ a.1))))

/-- Where an entry stands: the first at 0x100, the others where the silicon has them (R492; notes/assumptions/58). -/
def capEntry (i : Nat) : Nat :=
  if i = 0 then 0x100 else if capPlaced capList.length then Config.capEntryAt i else 0x100 + 16 * i

/-- Where the body of an entry stands. -/
def capBody (i : Nat) : Nat := if capPlaced capList.length then Config.capBodyAt i else 0x1000 + 12 * i

/-- The four words of an entry (R492). -/
def Cap.entry (c : Cap) (i n : Nat) : List Nat :=
  [c.id + capVersion * 2 ^ 16 + (if c.count < 256 then c.count else Config.capCount c.id % 256) * 2 ^ 24,
    if i + 1 < n then capEntry (i + 1) else 0, capBody i, 12]

/-- The word of the capability list at an offset; what is in no entry and no body reads 0. -/
def capWord (off : Nat) : Nat :=
  let n := capList.length
  ((capList.zip (List.range n)).findSome? (fun e =>
    let a := capEntry e.2
    let b := capBody e.2
    if a ≤ off ∧ off < a + 16 then (e.1.entry e.2 n)[(off - a) / 4]?
    else if b ≤ off ∧ off < b + 12 then [e.1.base, e.1.stride, e.1.uid][(off - b) / 4]?
    else none)).getD 0

/-- How a capability requirement is met (R404, R416): none met, else 0x10 absent or 0x11 too low. -/
def capReason (req : Nat) : Option Nat :=
  if !capList.any (fun c => c.id == bits req 0 16) then some 0x10
  else if capVersion < bits req 16 8 then some 0x11
  else none

/-! ### Bytes and headers -/

/-- Bytes of the NOR. -/
def Dev.norBytes (d : Dev) (a n : Nat) : List Byte := (cellsGet d.ldr.nor a n).map (fun b => ~~~b)

/-- A little-endian field of a byte sequence (R403). -/
def leAt (l : List Byte) (o n : Nat) : Nat := leNat ((l.drop o).take n)

/-- The CRC-32C of a byte sequence as images hold it (R403). -/
def imageCrc (l : List Byte) : Nat := crc32c 0xFFFFFFFF l ^^^ 0xFFFFFFFF

/-- Bytes of a slot: half the NOR (R401). -/
def Dev.slotSize (d : Dev) : Nat := 2 ^ d.rd LDR_NORINFO_DENSITY / 2

/-- Where a slot begins (R401). -/
def Dev.slotBase (d : Dev) (s : Nat) : Nat := if s = 0 then 0 else d.slotSize

/-- A slot's header (R403). -/
def Dev.slotHdr (d : Dev) (s : Nat) : List Byte := d.norBytes (d.slotBase s) 128

/-- LENGTH, NREC, GEN and SIGNED of a header. -/
def hdrLength (h : List Byte) : Nat := leAt h 12 4
def hdrNrec (h : List Byte) : Nat := leAt h 16 4
def hdrGen (h : List Byte) : Nat := leAt h 8 4
def hdrSigned (h : List Byte) : Bool := bit (leAt h 25 1) 0

/-- Whether a header's lengths, counts and reserved bits are consistent (R403, R404, R420). -/
def hdrConsistent (h : List Byte) (size : Nat) : Bool :=
  leAt h 6 2 == 128 && decide (hdrLength h + 128 ≤ size) && decide (128 ≤ hdrLength h) && hdrLength h % 8 == 0
    && decide (1 ≤ hdrNrec h) && decide (hdrNrec h ≤ 65535) && decide (leAt h 24 1 ≤ 12) && leAt h 25 1 / 2 == 0 && leAt h 26 2 == 0

/-- The check of R404 that a slot's header fails, as its reason. -/
def Dev.hdrReason (d : Dev) (s : Nat) : Option Nat :=
  let h := d.slotHdr s
  if d.rd LDR_NORINFO_DENSITY = 0 then some 0x06
  else if leAt h 0 4 ≠ 0x54554D4C then some 0x01
  else if imageCrc (h.take 124) ≠ leAt h 124 4 then some 0x02
  else if leAt h 5 1 ≠ 1 then some 0x03
  else if !hdrConsistent h d.slotSize then some 0x04
  else if (List.range (leAt h 24 1)).any (fun i => (capReason (leAt h (28 + 4 * i) 4)).isSome) then some 0x05
  else none

/-! ### Records (R406) -/

/-- A record as the loader meets it: its index and offset in the slot, and its header of 16 bytes. -/
structure Rec where
  idx : Nat
  off : Nat
  hdr : List Byte

/-- Fields of a record's header. -/
def Rec.typ (r : Rec) : Nat := leAt r.hdr 0 2
def Rec.essential (r : Rec) : Bool := bit (leAt r.hdr 2 2) 0
def Rec.len (r : Rec) : Nat := leAt r.hdr 4 4
def Rec.nreq (r : Rec) : Nat := leAt r.hdr 12 1

/-- The record at an offset of a slot. -/
def Dev.recAt (d : Dev) (s idx off : Nat) : Rec := ⟨idx, off, d.norBytes (d.slotBase s + off) 16⟩

/-- A record's whole bytes. -/
def Dev.recBytes (d : Dev) (s : Nat) (r : Rec) : List Byte := d.norBytes (d.slotBase s + r.off) r.len

/-- Whether a record's lengths and reserved bits are consistent with its slot (R406). -/
def Rec.consistent (r : Rec) (length nrec : Nat) : Bool :=
  decide (r.off + 20 ≤ length) && r.len % 8 == 0 && decide (20 + 4 * r.nreq ≤ r.len) && decide (r.off + r.len ≤ length)
    && (r.idx + 1 != nrec || r.off + r.len == length) && leAt r.hdr 2 2 / 2 == 0 && leAt r.hdr 13 3 == 0 && decide (r.nreq ≤ 16)

/-- Whether a record's CRC is right. -/
def recCrcOk (l : List Byte) : Bool := imageCrc (l.take (l.length - 4)) == leAt l (l.length - 4) 4

/-- The first record of a slot that fails R406, as its reason and index. -/
def Dev.recordsReason (d : Dev) (s length nrec : Nat) : Nat → Nat → Nat → Option (Nat × Nat)
  | 0, _, _ => none
  | n + 1, idx, off =>
    let r := d.recAt s idx off
    if !r.consistent length nrec then some (0x04, idx)
    else if !recCrcOk (d.recBytes s r) then some (0x07, idx)
    else d.recordsReason s length nrec n (idx + 1) (off + r.len)

/-! ### Signatures (R415) -/

/-- The signature check of a slot: whether it was made, and the reason where the slot fails. -/
def Dev.sigCheck (d : Dev) (s : Nat) : Bool × Option Nat :=
  let h := d.slotHdr s
  let n := hdrLength h
  let secure := Config.otpSecure % 2 == 1
  let key := d.norBytes (d.slotBase s + n) 64
  let made : Bool × Option Nat :=
    if Config.sha256 key ≠ Config.otpKeyHash then (true, some 0x09)
    else if !Config.ecdsaOk key (Config.sha256 (d.norBytes (d.slotBase s) (n + 64))) (d.norBytes (d.slotBase s + n + 64) 64) then
      (true, some 0x0A)
    else (true, none)
  if !hdrSigned h then (false, if secure then some 0x08 else none)
  else if Config.otpKeyHash = 0 then (false, if secure then some 0x09 else none)
  else made

/-! ### Slots: choice, failure, rollback -/

/-- The device's stepping and ROM version (R416). -/
def Dev.tested (d : Dev) (smin smax rmin rmax : Nat) : Bool :=
  decide (smin ≤ d.rd LDR_DEVVER_STEPPING) && decide (d.rd LDR_DEVVER_STEPPING ≤ smax)
    && decide (rmin ≤ d.rd LDR_DEVVER_ROMVER) && decide (d.rd LDR_DEVVER_ROMVER ≤ rmax)

/-- Outside a tested range (R416): UNTESTED and event 0x0204. -/
def Dev.untested (d : Dev) (idx : Nat) : Dev :=
  (d.put SUP_STAT_UNTESTED true).postEvent 0x0204 0x0F9 (idx % 65536 * 2 ^ 16 + d.rd LDR_DEVVER_STEPPING * 256 + d.rd LDR_DEVVER_ROMVER)

/-- LOAD of a slot begins, its header read (R395), the failed reads of its header among those of the slot (R402). -/
def Dev.loadStart (d : Dev) (s : Nat) : Dev :=
  let h := d.slotHdr s
  let d := (d.wr LDR_STAT_STATE 2).wr LDR_STAT_SLOT s
  let d := d.modLdr (fun x => {
    nor := x.nor, cmd := x.cmd, tried := setBits x.tried s 1 1, got := 128, off := 128, probed := x.probed, fails := tgetD x.probed s 0 })
  if d.tested (leAt h 20 1) (leAt h 21 1) (leAt h 22 1) (leAt h 23 1) then d else d.untested 0xFFFF

/-- No slot can be used (R419). -/
def Dev.noImage (d : Dev) : Dev := (d.wr LDR_STAT_STATE 6).postEvent 0x020A 0x0F9 0

/-- A slot has failed, at a record or not: `LDR_SLOTs` and event 0x0202. -/
def Dev.slotFailed (d : Dev) (s reason idx : Nat) : Dev :=
  ((d.wr (LDR_SLOTs_REASON s) reason).wr (LDR_SLOTs_RECIDX s) idx).postEvent 0x0202 0x0F9 (s * 2 ^ 30 + idx % 65536 * 256 + reason)

/-- The slot that loads fails during LOAD or VERIFY (R418): its rollback is due. -/
def Dev.slotFail (d : Dev) (reason idx : Nat) : Dev :=
  (d.slotFailed (d.rd LDR_STAT_SLOT) reason idx).modLdr (fun x => { x with rollback := true, wait := none })

/-- The first slot to try, by BOOTSEL or by GEN, and whether BOOTSEL named it (R405). -/
def Dev.firstSlot (d : Dev) (sel : Nat) : Nat × Bool :=
  if sel = 1 then (0, true)
  else if sel = 2 then (1, true)
  else
    let a := d.on (LDR_SLOTs_VALID 0)
    let b := d.on (LDR_SLOTs_VALID 1)
    (if b && (!a || decide (d.rd (LDR_SLOTs_GEN 0) < d.rd (LDR_SLOTs_GEN 1))) then 1 else 0, false)

/-- The slot is chosen (R405, R425). -/
def Dev.slotChoice (d : Dev) : Dev :=
  let sel := d.rd LDR_BOOTSEL_SEL
  let d := d.wr LDR_BOOTSEL_SEL 0
  let (s, named) := d.firstSlot sel
  if d.on (LDR_SLOTs_VALID s) then d.loadStart s
  else
    let d := if named then
        (d.slotFailed s (d.rd (LDR_SLOTs_REASON s)) 0xFFFF).modLdr (fun x => { x with tried := setBits x.tried s 1 1 })
      else d
    if d.on (LDR_SLOTs_VALID (1 - s)) then d.loadStart (1 - s) else d.noImage

/-- Failed reads at an address of the NOR (R402). -/
def Dev.readsFail (d : Dev) (addr n : Nat) : Dev := iter n (fun d => (d.inc LDR_NORERR_ERRS).postEvent 0x0207 0x0F9 addr) d

/-- The NOR is probed (R400) with the density that its SFDP tables give, both headers are read, with the failed reads of each, and
checked, and a slot is chosen. -/
def Dev.norProbe (d : Dev) (density : Option Nat) (failsA failsB : Nat) : Dev :=
  if d.rd LDR_STAT_STATE ≠ 1 then d
  else
    let good := match density with
      | some n => decide (24 ≤ n) && decide (n ≤ 28)
      | none => false
    let d := if good then
        let d := d.wr LDR_NORINFO_DENSITY (density.getD 0)
        d.wr LDR_SLOTBOFS_OFS d.slotSize
      else d
    let d := forNums 2 (fun s d =>
      let n := if good then min 3 (if s = 0 then failsA else failsB) else 0
      let d := (d.readsFail (d.slotBase s) n).modLdr (fun x => { x with probed := tput x.probed s n })
      match (if n = 3 then some 0x06 else d.hdrReason s) with
      | some r => d.wr (LDR_SLOTs_REASON s) r
      | none => (d.put (LDR_SLOTs_VALID s) true).wr (LDR_SLOTs_GEN s) (hdrGen (d.slotHdr s))) d
    d.slotChoice

/-- Whether the loader is loading or verifying a slot that has not failed. -/
def Dev.loading (d : Dev) : Bool := (d.rd LDR_STAT_STATE == 2 || d.rd LDR_STAT_STATE == 3) && !d.ldr.rollback

/-- The record that holds a byte of a slot, by the lengths that the records give; 0xFFFF past the last. -/
def Dev.recHolding (d : Dev) (s g : Nat) : Nat → Nat → Nat → Nat
  | 0, _, _ => 0xFFFF
  | n + 1, idx, off =>
    let next := off + (d.recAt s idx off).len
    if g < next then idx else d.recHolding s g n (idx + 1) next

/-- A CHECK that reads no further than a byte of its slot (R402, R423): reason 0x06, unless the header that was read fails it. -/
def Dev.norUnread (d : Dev) (s g : Nat) : Dev :=
  let h := d.slotHdr s
  let d := ((d.put (LDR_SLOTs_CHECKED s) false).put (LDR_SLOTs_VALID s) false).wr (LDR_SLOTs_RECIDX s) 0xFFFF
  if g < 128 then (d.wr (LDR_SLOTs_GEN s) 0).wr (LDR_SLOTs_REASON s) 0x06
  else match d.hdrReason s with
    | some r => (d.wr (LDR_SLOTs_GEN s) 0).wr (LDR_SLOTs_REASON s) r
    | none => (((d.put (LDR_SLOTs_VALID s) true).wr (LDR_SLOTs_GEN s) (hdrGen h)).wr (LDR_SLOTs_REASON s) 0x06).wr (LDR_SLOTs_RECIDX s)
        (d.recHolding s g (hdrNrec h) 0 128)

/-- Whether a NOR command reads. -/
def NorCmd.reads (c : NorCmd) : Bool := c.op == 0 || c.op == 4

/-- A NOR command ends, with DONE or with ERR. -/
def Dev.norEnds (d : Dev) : Dev := (d.put LDR_NORCMD_BUSY false).modLdr (fun x => { x with cmd := none })

/-- A read burst of a NOR command fails (R402): it is issued again; the third in a CHECK fails its slot there. -/
def Dev.cmdBurstFails (d : Dev) (c : NorCmd) : Dev :=
  let d := d.readsFail (if c.op = 4 then d.slotBase c.slot + c.got else c.addr) 1
  if c.op = 4 ∧ 2 ≤ c.fails then ((d.norUnread c.slot c.got).put LDR_NORSTAT_DONE true).norEnds
  else d.modLdr (fun x => { x with cmd := some { c with fails := c.fails + 1 } })

/-- A read burst of the slot that loads fails (R402): the third failure in a slot fails it. -/
def Dev.loadBurstFails (d : Dev) : Dev :=
  let d := d.readsFail (d.slotBase (d.rd LDR_STAT_SLOT) + d.ldr.got) 1
  let d := d.modLdr (fun x => { x with fails := x.fails + 1 })
  if d.ldr.fails < 3 then d else d.slotFail 0x06 d.ldr.idx

/-- The NOR command that reads, where the loader loads no slot. -/
def Dev.cmdReading (d : Dev) : Option NorCmd := if d.loading then none else d.ldr.cmd.filter NorCmd.reads

/-- A read burst fails, or does not end within 1 ms (R402). -/
def Dev.burstFails (d : Dev) : Dev :=
  match d.cmdReading with
  | some c => d.cmdBurstFails c
  | none => d.when d.loading Dev.loadBurstFails

/-- A read burst of at most 4 KiB completes (R402). -/
def Dev.burstDone (d : Dev) (n : Nat) : Dev :=
  match d.cmdReading with
  | some c => d.modLdr (fun x => { x with cmd := some { c with got := c.got + min n 4096 } })
  | none =>
    let all := hdrLength (d.slotHdr (d.rd LDR_STAT_SLOT)) + 128
    d.when d.loading (fun d => d.modLdr (fun x => { x with got := min all (x.got + min n 4096) }))

/-- What a rollback resets (R418): every unit but the island, the supervisor, the recorder, the memory system and the loader, as by WARM;
the banks return to the supervisor, cleared; the pins stay forced. LT runs on (R25). -/
def Dev.rollbackReset (d : Dev) : Dev :=
  let keep (k : Nat) : Bool :=
    keptKeys.contains k || (decide (0x10000 * 8 ≤ k) && decide (k < 0x40000 * 8)) || (decide (0x60400 * 8 ≤ k) && decide (k < 0x68000 * 8))
  let filts := d.pin.pins.map (fun e => (e.1, ({ filt := e.2.filt } : Pin)))
  let ports := (List.range 22).map (fun p => (p, ({ lfsr := Config.lfsrSeed (Config.portMac p) d.tb.lt % 2 ^ 32 } : Port)))
  let d : Dev := { d with
    regs := d.regs.filter (fun e => keep e.1)
    staged := []
    latched := []
    tb := { lt := d.tb.lt }
    pin := { pins := filts }
    mem := { scrub := d.mem.scrub }
    engs := []
    deps := []
    can := []
    ports := ports
    fab := {}
    rings := []
    sau := {}
    mbx := {}
    hif := {} }
  ((d.forcePins 0 allPins).endForce 0 allPins).modLdr (fun x => {
    nor := x.nor, cmd := x.cmd, tried := x.tried, got := x.got, off := x.off, idx := x.idx, probed := x.probed })

/-- The rollback completes (R418): the other slot is tried, or there is no image. -/
def Dev.rollback (d : Dev) : Dev :=
  if !d.ldr.rollback then d
  else
    let d := d.rollbackReset
    match (List.range 2).find? (fun s => !bit d.ldr.tried s && d.on (LDR_SLOTs_VALID s)) with
    | some s => d.loadStart s
    | none => d.noImage

/-- The signature check of the slot completes (R415): COMMIT follows, or the slot fails. -/
def Dev.signature (d : Dev) : Dev :=
  let s := d.rd LDR_STAT_SLOT
  if d.rd LDR_STAT_STATE ≠ 3 ∨ d.ldr.rollback ∨ d.ldr.got < hdrLength (d.slotHdr s) + 128 then d
  else
    let (made, bad) := d.sigCheck s
    match bad with
    | some r => d.slotFail r 0xFFFF
    | none =>
      let d := (d.put LDR_STAT_SIGCHK made).put LDR_STAT_SIGOK made
      ((d.put (LDR_SLOTs_CHECKED s) true).wr (LDR_SLOTs_REASON s) 0).wr LDR_STAT_STATE 4

/-! ### NOR commands (R423) -/

/-- Whether a program or an erase touches a slot. -/
def Dev.touchesSlot (d : Dev) (op addr len s : Nat) : Bool :=
  let lo := match op with
    | 2 => addr / 4096 * 4096
    | 3 => addr / 65536 * 65536
    | _ => addr
  let hi := match op with
    | 2 => lo + 4096
    | 3 => lo + 65536
    | _ => addr + len
  decide (lo < d.slotBase s + d.slotSize) && decide (d.slotBase s < hi)

/-- The bytes of `LDR_NORBUF`. -/
def Dev.norBuf (d : Dev) : List Byte := ((List.range 64).map (fun w => toLe 4 (d.rd (LDR_NORBUFw_DATA w)))).flatten

/-- Bytes read from the NOR go into `LDR_NORBUF` from its first byte. -/
def Dev.norBufPut (d : Dev) (l : List Byte) : Dev :=
  let b := l ++ d.norBuf.drop l.length
  forNums 64 (fun w d => d.wr (LDR_NORBUFw_DATA w) (leAt b (4 * w) 4)) d

/-- A NOR command starts, or is held under write inhibit (R423, R424). -/
def Dev.norStarts (d : Dev) (v : Nat) : Dev :=
  let op := bits v 0 3
  let held := decide (1 ≤ op) && decide (op ≤ 3) && d.sup.inhibit
  let cmd : NorCmd := ⟨op, bits v 3 1, d.rd LDR_NORADDR_ADDR, bits v 8 8 + 1, d.norBuf.take (bits v 8 8 + 1), 0, 0⟩
  let d := ((d.wr LDR_NORCMD_OP op).put LDR_NORCMD_CSLOT (bit v 3)).wr LDR_NORCMD_LENM1 (bits v 8 8)
  ((d.put LDR_NORCMD_BUSY true).put LDR_NORSTAT_INHIB held).modLdr (fun x => { x with cmd := some cmd })

/-- A write of `LDR_NORCMD` (R423): the command starts, is held under write inhibit (R424), or is refused. -/
def Dev.norCommand (d : Dev) (v : Nat) : Dev :=
  let op := bits v 0 3
  let addr := d.rd LDR_NORADDR_ADDR
  let len := bits v 8 8 + 1
  let st := d.rd LDR_STAT_STATE
  let writes := decide (1 ≤ op) && decide (op ≤ 3)
  if st < 5 ∨ d.on LDR_NORCMD_BUSY ∨ (writes ∧ st = 5 ∧ d.touchesSlot op addr len (d.rd LDR_STAT_SLOT)) then
    (d.put LDR_NORSTAT_REFUSED true).postEvent 0x0209 0x0F9 addr
  else d.norStarts v

/-- CHECK of a slot (R423): R404, R406 and R415 without applying anything, the result in `LDR_SLOTs`. -/
def Dev.norCheck (d : Dev) (s : Nat) : Dev :=
  let h := d.slotHdr s
  let d := ((d.put (LDR_SLOTs_CHECKED s) false).put (LDR_SLOTs_VALID s) false).wr (LDR_SLOTs_RECIDX s) 0xFFFF
  match d.hdrReason s with
  | some r => (d.wr (LDR_SLOTs_GEN s) 0).wr (LDR_SLOTs_REASON s) r
  | none =>
    let d := (d.put (LDR_SLOTs_VALID s) true).wr (LDR_SLOTs_GEN s) (hdrGen h)
    match d.recordsReason s (hdrLength h) (hdrNrec h) (hdrNrec h) 0 128, (d.sigCheck s).2 with
    | some (r, i), _ => (d.wr (LDR_SLOTs_REASON s) r).wr (LDR_SLOTs_RECIDX s) i
    | none, some r => d.wr (LDR_SLOTs_REASON s) r
    | none, none => (d.wr (LDR_SLOTs_REASON s) 0).put (LDR_SLOTs_CHECKED s) true

/-- Where the bytes of a program or an erase begin, and how many there are. -/
def NorCmd.range (c : NorCmd) : Nat × Nat :=
  match c.op with
  | 1 => (c.addr, c.len)
  | 2 => (c.addr / 4096 * 4096, 4096)
  | 3 => (c.addr / 65536 * 65536, 65536)
  | _ => (0, 0)

/-- A NOR command ends (R423): well, or in error, and then `left` is what the NOR holds over the bytes of a program or an erase. A command
held or suspended does not end. -/
def Dev.norDone (d : Dev) (left : Option (List Byte)) : Dev :=
  match d.ldr.cmd with
  | none => d
  | some c =>
    if d.on LDR_NORSTAT_INHIB || d.on LDR_NORSTAT_SUSP then d
    else
      let d := match left with
        | some l => (d.modLdr (fun x => { x with nor := cellsPut x.nor c.range.1 ((l.take c.range.2).map (fun b => ~~~b)) })).put LDR_NORSTAT_ERR true
        | none =>
          let d := d.modLdr Ldr.norEffect
          let d := match c.op with
            | 0 => d.norBufPut (d.norBytes c.addr c.len)
            | 4 => d.norCheck c.slot
            | _ => d
          d.put LDR_NORSTAT_DONE true
      d.norEnds

/-- A function reset of the loader (R425): the NOR finishes its operation, the result is lost, the buffer clears. -/
def Dev.loaderReset (d : Dev) : Dev :=
  let d := { d with ldr := { (if d.on LDR_NORSTAT_INHIB then d.ldr else d.ldr.norEffect) with cmd := none } }
  (d.clrs fnFields_LDR).resetReport 0x02 0x0F9 0

end Sys2Proof.Machine
end

