-- ==== Sys2Proof/Machine/WriteSys.lean ====
section
/-! DEFINITION. What a write of a register does beside storing its fields, for the pins and sequencers, the depots and engines, the
memory system and queues, the mailboxes, the CAN ports, the loader, the supervisor, the recorder and the host interface. `v` is the
whole value written, already judged for reserved values and with locked fields at their present values (R9, R534). -/

namespace Sys2Proof.Machine

/-- Whether an enabled rule's mordant drives a pin (R247). -/
def Dev.pinBound (d : Dev) (n : Nat) : Bool :=
  decide (n < 16) && (List.range 64).any (fun x =>
    d.on (SCH_MORDx_DDEN x) && d.rd (SCH_MORDx_DDPIN x) == n && d.on (XR_CFG_EN x))

/-- A write of `PIN_IOn_CFG` (R236, R247): a GPIO owner sets the latch. -/
def Dev.ioCfgWrite (d : Dev) (a : RegAt) (v : Nat) : Dev :=
  let n := a.i
  if d.pinBound n && (bits v 0 1 != d.rd (PIN_IOn_CFG_FUNC n) || bits v 4 2 != d.rd (PIN_IOn_CFG_MODE n)) then d.pinRefuse a.off
  else (d.regStore a v).when (!bit v 0) (fun d => d.latch n (bit v 8) (bit v 9))

/-- A write of `PIN_IOn_XDRV` (R246, R247). -/
def Dev.ioXdrvWrite (d : Dev) (a : RegAt) (v : Nat) : Dev :=
  let n := a.i
  if 16 ≤ n then d
  else if d.pinBound n then (if bit v 3 then d.xclr n else d.pinRefuse a.off)
  else (d.regStore a v).when (bit v 3) (fun d => d.xclr n)

/-- Writes of the pin bank's and the sequencers' registers. -/
def Dev.writePin (d : Dev) (a : RegAt) (k : PinKind) (v : Nat) : Dev :=
  match k with
  | .ioCfg => d.ioCfgWrite a v
  | .ioXdrv => d.ioXdrvWrite a v
  | .ioSafe => ((d.regStore a v).safeFollow a.i).when (bit v 2) (fun d => d.pinRelease a.i)
  | .grpClk => d.grpClock a.i v
  | .grpStart => d.grpStartWrite a.i v
  | .grpHalt => d.grpHalt a.i (bits v 0 4)
  | .grpStat => d.regStore a v
  | .flagSet => d.flagSet a.i v
  | .imem => d.imemWrite a.i a.j (bits v 0 24)
  | .filtClk => { d.regStore a v with pin := { (d.regStore a v).pin with fps := tput d.pin.fps a.i d.tb.lt } }
  | .seqSide => if d.seqState a.seq = 0 then d.regStore a v else d.pinRefuse a.off
  | .seqCfg => if d.seqState a.seq = 0 then d.regStore a v else d.pinRefuse a.off
  | .seqCtrl => (d.when (bit v 0) (fun d => d.clrShift a.seq)).when (bit v 1) (fun d => d.kick a.seq)
  | .seqStat => d.regStore a v
  | .txf => (d.txfWrite a.seq v).1
  | .esq => d
  | .esDepth => d
  | .inLow => d
  | .inHigh => d
  | .rxf => d
  | .fDepth => d

/-- The number of values INDEX may take for a line's KIND (R281). -/
def irqRange (kind : Nat) : Nat :=
  match kind with
  | 1 => 512
  | 2 => 4
  | 3 => 2
  | 4 => 2
  | 5 => 256
  | 6 => 8
  | _ => 1

/-- Writes of the depots' and the engines' registers. -/
def Dev.writeDep (d : Dev) (a : RegAt) (k : DepKind) (v : Nat) : Dev :=
  match k with
  | .ctrl => d.depCtrl a.i v
  | .swap => d.depotSwapWrite a.i v
  | .rxRing => d.rxRingWrite a.i a.j v
  | .txCfg => d.regStore a v
  | .tcmpValue => d.compareCommit a.i a.j v
  | .tcmpStat => d.regStore a v
  | .engCtrl => d.engCtrl a.engine v
  | .irqSel => if bits v 3 9 < irqRange (bits v 0 3) then d.regStore a v else d.ignoredWrite 3 a.off
  | .irq => d.regStore a v
  | .engSwap => d.swapWrite a.engine v
  | .dbgReg => d.dbgWrite a.engine a.k v
  | .dStack => d.dbgStackWrite a.engine false a.k v
  | .rStack => d.dbgStackWrite a.engine true a.k v

/-- Writes of the memory system's and the queue manager's registers. -/
def Dev.writeMem (d : Dev) (w : Master) (a : RegAt) (k : MemKind) (v : Nat) : Dev :=
  match k with
  | .bank => d.bankWrite w a.i v
  | .queueCfg => if queueLog2Ok (bit v 1) (bits v 2 5) then d.queueCfgWrite a.i v else d.ignoredWrite 3 a.off
  | .push => d
  | .pop => d
  | .ptr => d
  | .depth => d

/-- A refused configuration of a mailbox (R364). -/
def Dev.mbCfgRefuse (d : Dev) (off : Nat) : Dev := (d.put MBX_STAT_REFUSED true).postEvent 0x0705 0x0FC off

/-- Writes of the mailbox unit's registers. -/
def Dev.writeMbx (d : Dev) (w : Master) (a : RegAt) (k : MbxKind) (v : Nat) : Dev :=
  match k with
  | .dbRing => d.ring (bits v 0 9)
  | .lock => (d.lockRelease w a.i).1
  | .force => d.when (bit v 0 || w != .supervisor) (fun d => d.lockForce w a.i)
  | .boxCfg => if d.mbCfgLocked a.i v then d.mbCfgRefuse a.off else d.regStore a v
  | .peek => d
  | .boxStat => d
  | .word => d

/-- Writes of a CAN port's registers. -/
def Dev.writeCan (d : Dev) (a : RegAt) (k : CanKind) (v : Nat) : Dev :=
  match k with
  | .ctrl => d.canCtrl a.i v
  | .cfg => d.canCfgWrite a.i v
  | .nbt => d.canNbtWrite a.i v
  | .dbt => d.canDbtWrite a.i v
  | .abrCfg => d.canAbrCfgWrite a.i v
  | .abr => d.canAbrWrite a.i a.j v
  | .txReq => d.txRequest a.i v
  | .txAbt => d.txAbort a.i v
  | .txb => if d.txbBusy a.i a.j then d.txbRefuse a.i a.off else d.regStore a v
  | .txPend => d

/-- Writes of the supervisor's registers (R429, R430, R439, R446, R451, R453). -/
def Dev.writeSup (d : Dev) (w : Master) (a : RegAt) (k : SupKind) (v : Nat) : Dev :=
  match k with
  | .lock => d.lockWrite v
  | .fnRst => d.fnResetWrite w v
  | .rst => if bits v 24 8 = 0x3C ∧ bit v 0 then d.warm 3 else d.ignoredWrite 1 a.off
  | .fault => d.faultWrite w v
  | .wdCfg => let old := d.on SUP_WDCFG_EN; (d.regStore a v).wdEnabled old
  | .wdKick => d.wdKickWrite v
  | .tLim => if tlimOk v then d.regStore a v else d.ignoredWrite 3 a.off
  | .cGate => d.gateWrite v
  | .pwr => d.standbyWrite v
  | .wdStat => d.regStore a v
  | .pwrStat => d
  | .tMax => d

/-- Writes of the recorder's registers. -/
def Dev.writeEvr (d : Dev) (w : Master) (a : RegAt) (k : EvrKind) (v : Nat) : Dev :=
  match k with
  | .ctrl => d.evrCtrl v
  | .inject => d.inject w v
  | .injData => d.injectStage w v
  | .stat => d.regStore a v
  | _ => d

/-- Writes of the host interface's registers (R483). -/
def Dev.writeHif (d : Dev) (a : RegAt) (k : HifKind) (v : Nat) : Dev :=
  match k with
  | .cTail => d.tailWrite a.i false v
  | .rTail => d.tailWrite a.i true v

end Sys2Proof.Machine
end

