-- ==== Sys2Proof/Machine/Bus.lean ====
section
/-! DEFINITION. Reads and writes of BAR0 by a master (R6–R10, R422, R453, R477, R523, R524, R533–R535): one 32-bit word at an aligned
offset, which is how every register, window and data area is reached. -/

namespace Sys2Proof.Machine

/-! ### What registers show that they do not store -/

/-- A register's value with a field shown at a value. -/
def RegAt.show_ (a : RegAt) (v : Nat) (f : Fld) (x : Nat) : Nat := setBits v (f.key - 8 * a.off) f.width x

/-- The registers of the timebase as they read. -/
def Dev.viewTb (d : Dev) (a : RegAt) (k : TbKind) (v : Nat) : Nat :=
  let i := a.i
  match k with
  | .stat =>
    let sync := (numsWhere 4 d.synced).foldl (fun n i => n + 2 ^ i) 0
    let hold := (numsWhere 4 (fun n => d.rd (TB_TDn_STAT_STATE n) == 3)).foldl (fun n i => n + 2 ^ i) 0
    let ok := (List.range 22).all (fun p => d.on (PRT_CTRL_PWRDN p) || (d.tdcOk p false && d.tdcOk p true))
    a.show_ (a.show_ (a.show_ v TB_STAT_SYNC sync) TB_STAT_HOLD hold) TB_STAT_TDCOK (b01 ok)
  | .tdStat => a.show_ v (TB_TDn_STAT_SYNC i) (b01 (d.synced i))
  | .drq => (d.depQ i).recs.headD 0
  | .drDepth => a.show_ v (TB_Pp_DRDEPTH_DEPTH i) (d.depQ i).recs.length
  | .ppsoStat => a.show_ v (TB_PPSOk_STAT_SUPPRESSED i) (b01 (d.on (TB_PPSOk_CFG_EN i) && d.ppsoGated i))
  | _ => v

/-- The registers of the fabric as they read. -/
def Dev.viewFab (d : Dev) (a : RegAt) (k : FabKind) (v : Nat) : Nat :=
  let i := a.i
  let last := d.lastSt i (d.rd (XR_LASTSEL_PORT i))
  match k with
  | .buf => a.show_ v FAB_BUF_FREE d.cellsFree
  | .ksStat => a.show_ v (KS_STAT_LOADED i) (b01 (tget d.fab.keys i).isSome)
  | .xrLastSt => last.getD 0
  | .xrLastV => b01 last.isSome
  | _ => v

/-- The registers of the pin bank as they read. -/
def Dev.viewPin (d : Dev) (a : RegAt) (k : PinKind) (v : Nat) : Nat :=
  let levels (lo n : Nat) : Nat := (numsWhere n (fun i => (d.pn (lo + i)).filt)).foldl (fun n i => n + 2 ^ i) 0
  let x := d.seq a.seq
  match k with
  | .esq => d.pin.stamps.headD 0
  | .esDepth => d.pin.stamps.length
  | .inLow => levels 0 32
  | .inHigh => levels 32 16
  | .ioSafe => a.show_ v (PIN_IOn_SAFE_LEVEL a.i) (b01 (d.ballLevel a.i))
  | .grpStat =>
    let run := (numsWhere 4 (fun s => d.seqState (4 * a.i + s) != 0)).foldl (fun n s => n + 2 ^ s) 0
    a.show_ (a.show_ v (PIN_GRP_STAT_RUN a.i) run) (PIN_GRP_STAT_ARMED a.i) (b01 (d.grp a.i).armed.isSome)
  | .seqStat =>
    a.show_ (a.show_ v (PIN_SEQ_STAT_SPFV a.i a.j) (b01 x.spf.isSome)) (PIN_SEQ_STAT_THDV a.i a.j) (b01 x.thd.isSome)
  | .fDepth =>
    a.show_ (a.show_ v (PIN_SEQ_FDEPTH_TXD a.i a.j) x.txf.length) (PIN_SEQ_FDEPTH_RXD a.i a.j) x.rxf.length
  | _ => v

/-- The registers of the depots and engines as they read. -/
def Dev.viewDep (d : Dev) (a : RegAt) (k : DepKind) (v : Nat) : Nat :=
  match k with
  | .tcmpStat => a.show_ v (DEP_TCMPS_ARMED a.i a.j) (d.rd (DEP_TCMPk_EN a.i a.j))
  | .irq => a.show_ v (ENG_IRQ_PEND a.engine) (d.linesPending a.engine)
  | .dbgReg => d.dbgRead a.engine a.k
  | .dStack => d.dbgStack a.engine false a.k
  | .rStack => d.dbgStack a.engine true a.k
  | _ => v

/-- The registers of the queue manager as they read. -/
def Dev.viewMem (d : Dev) (a : RegAt) (k : MemKind) (v : Nat) : Nat :=
  let x := d.queue a.i
  match k with
  | .ptr =>
    let m := 2 * d.queueSize a.i
    a.show_ (a.show_ v (QM_Qn_PTR_HEAD a.i) x.hd) (QM_Qn_PTR_TAIL a.i) ((x.hd + x.depth) % m)
  | .depth => a.show_ (a.show_ v (QM_Qn_DEPTH_DEPTH a.i) x.depth) (QM_Qn_DEPTH_STATE a.i) (d.queueState a.i)
  | _ => v

/-- The recorder's registers as they read. -/
def Dev.viewEvr (d : Dev) (a : RegAt) (k : EvrKind) (v : Nat) : Nat :=
  match k with
  | .stat =>
    a.show_ (a.show_ (a.show_ v EVR_STAT_LOGFAIL (b01 d.evr.logFail)) EVR_STAT_DIRTY (b01 d.evr.dirty)) EVR_STAT_FBCNT d.evr.fb.length
  | .wIdx => d.evr.widx.val
  | .oldest => d.evr.oldest.val
  | .count => d.evr.count.val
  | .opsec => d.evr.island
  | .pwrCyc => d.evr.cycle
  | .badCnt => d.evr.badCount
  | .fifo => a.show_ v EVR_FIFO_DEPTH d.evr.fifo.length
  | .badMap => bits d.evr.badMap.val (32 * a.i) 32
  | .fallback => d.fbEntry a.i
  | .winData => d.winWord a.i
  | _ => v

/-- The whole value that a register reads. -/
def Dev.view (d : Dev) (a : RegAt) : Nat :=
  let v := if a.absent then 0 else d.regStored a
  match a.row.kind with
  | .tb k => d.viewTb a k v
  | .fab k => d.viewFab a k v
  | .sch .qDepth => (d.classQ a.i a.j).length
  | .sch .pos => a.show_ v (SCH_POS_GATES a.i) (d.gatesNow a.i)
  | .trn .stat => d.trnStat a.i
  | .trn .cmdFifo => d.commandHead a.i
  | .pin k => d.viewPin a k v
  | .dep k => d.viewDep a k v
  | .mem k => d.viewMem a k v
  | .mbx .peek => d.lockPeek a.i
  | .mbx .boxStat => a.show_ v (MBX_MBm_STAT_FULL a.i) (b01 (d.box a.i).msg.isSome)
  | .can .txPend => d.txPend a.i
  | .sau .rowSize => rowSize (d.rd (SAU_Mm_MEMB_MCOUNT a.i))
  | .sup .wdStat => a.show_ v SUP_WDSTAT_REMAIN d.wdRemain
  | .sup .pwrStat => a.show_ (a.show_ v SUP_PWRSTAT_STATE (2 + b01 d.active)) SUP_PWRSTAT_DEPOTS d.depotsOn
  | .evr k => d.viewEvr a k v
  | _ => v

/-- A register's present value, which the words not written take at a commit (R535): what it reads, and of a key slot the key present
there, although `KS_KEY` reads 0 (R109). `TB_TDn_SET`, `TB_TDn_STEP` and `TB_TDn_OFFS` store nothing and have no present value: a word
of theirs not written is taken as the 0 that it reads (DESIGN CHOICE, notes/assumptions/66). -/
def Dev.presentValue (d : Dev) (a : RegAt) : Nat :=
  match a.row.kind with
  | .fab .ksKey => tgetD d.fab.keys a.i 0
  | _ => d.view a

/-! ### Reading a register -/

/-- A read clears the RC fields that lie in the word read (R6). -/
def Dev.readClears (d : Dev) (a : RegAt) : Dev :=
  a.row.fields.foldl (fun d f => if f.acc = .rc ∧ f.lo / 32 = a.word then d.wr (a.fld f) 0 else d) d

/-- A read of a word of a value: the low word latches the words above it for this master, and a word above reads as it was latched
(R535). -/
def Dev.readWord (d : Dev) (w : Master) (a : RegAt) (v : Nat) : Dev × Nat :=
  if a.word = 0 then
    (forNums (a.row.words - 1) (fun k d => d.latchWord w (a.off + 4 * (k + 1)) (bits v (32 * (k + 1)) 32)) d, bits v 0 32)
  else d.takeLatched w (a.off + 4 * a.word) (bits v (32 * a.word) 32)

/-- What a read of a register's last word removes: a departure record (R47), an edge stamp (R242), a command entry (R200), and the samples
of Tj that TMAX stands for (R456); and a PEEK that returns HELD counts in CONT (R373). -/
def Dev.readRemoves (d : Dev) (a : RegAt) : Dev :=
  if a.word + 1 = a.row.words then
    match a.row.kind with
    | .tb .drq => d.setDepQ a.i { d.depQ a.i with recs := (d.depQ a.i).recs.drop 1 }
    | .pin .esq => { d with pin := { d.pin with stamps := d.pin.stamps.drop 1 } }
    | .trn .cmdFifo => d.commandPop a.i
    | .mbx .peek => d.when ((d.lock a.i).holder.isSome) (fun d => d.inc (MBX_LKn_CNT_CONT a.i))
    | .sup .tMax => d.modSup (fun x => { x with tMaxOf := false })
    | _ => d
  else d

/-- A pop through two words (R253, R341): the low word pops and latches the high one; nothing else changes at a read of the high
word. -/
def Dev.popWord (d : Dev) (w : Master) (a : RegAt) (pop : Dev → Dev × IoRes) : Dev × IoRes :=
  if a.word = 0 then
    let r := pop d
    match r.2 with
    | .done v => (r.1.latchWord w (a.off + 4) (v / 2 ^ 32), .done (v % 2 ^ 32))
    | x => (r.1, x)
  else
    let r := d.takeLatched w (a.off + 4) 0
    (r.1, .done r.2)

/-- A master reads a word of a register. An engine reaches the mailboxes' data windows through its I/O ports alone (R356). -/
def Dev.regRead (d : Dev) (w : Master) (a : RegAt) : Dev × IoRes :=
  match a.row.kind with
  | .mbx .word => if w.isEngine then (d, .trap 0x07) else d.mbRead w a.i a.j
  | .mbx .lock => let r := d.lockAcquire w a.i; (r.1, .done r.2)
  | .mem .pop => d.popWord w a (fun d => d.queuePopBy w a.i)
  | .pin .rxf => d.popWord w a (fun d => let r := d.rxfRead a.seq; (r.1, .done r.2))
  | _ =>
    let r := d.readWord w a (d.view a)
    ((r.1.readClears a).readRemoves a, .done r.2)

/-! ### Writing a register -/

/-- The effect of an accepted write, by the register's kind. -/
def Dev.regApply (d : Dev) (w : Master) (a : RegAt) (v : Nat) : Dev :=
  match a.row.kind with
  | .plain => d.regStore a v
  | .tb k => d.writeTb a k v
  | .prt k => d.writePrt a k v
  | .fab k => d.writeFab a k v
  | .sch k => d.writeSch a k v
  | .trn k => d.writeTrn a k v
  | .sau k => d.writeSau a k v
  | .pin k => d.writePin a k v
  | .dep k => d.writeDep a k v
  | .mem k => d.writeMem w a k v
  | .mbx k => d.writeMbx w a k v
  | .can k => d.writeCan a k v
  | .ldr .norCmd => d.norCommand v
  | .sup k => d.writeSup w a k v
  | .evr k => d.writeEvr w a k v
  | .hif k => d.writeHif a k v

/-- Whether a write is accepted whatever it carries: XCLR = 1 to the XDRV of a pin that an enabled rule's mordant drives (R247). -/
def Dev.lenient (d : Dev) (a : RegAt) (v : Nat) : Bool :=
  match a.row.kind with
  | .pin .ioXdrv => bit v 3 && d.pinBound a.i
  | _ => false

/-- The write of a register as one value (R6, R9, R534): a reserved value rejects it whole; once `SUP_LOCK` is set the RWL fields
keep their values, and a write that would have changed one is recorded. Where the register does not exist the write is ignored. -/
def Dev.regWriteWhole (d : Dev) (w : Master) (a : RegAt) (v : Nat) : Dev :=
  if !a.row.judged || a.absent then d
  else if d.lenient a v then d.regApply w a v
  else if a.row.reservedIn v then d.ignoredWrite 3 a.off
  else if d.on SUP_LOCK_LOCK then
    let x := d.lockedValue a v
    (d.when (decide (x ≠ v)) (fun d => d.ignoredWrite 2 a.off)).regApply w a x
  else d.regApply w a v

/-- A master writes a word of a register: a word below the highest is staged, the highest commits (R535). -/
def Dev.regWrite (d : Dev) (w : Master) (a : RegAt) (v : Nat) : Dev × IoRes :=
  match a.row.kind with
  | .mbx .word => if w.isEngine then (d, .trap 0x07) else d.mbWrite w a.i a.j v
  | .mbx .lock => d.lockRelease w a.i
  | .pin .txf => let r := d.txfWrite a.seq v; (r.1, if r.2 then .done 0 else .refused)
  | .mem .push =>
    if a.word = 0 then
      let hi := (wordOf d.staged w.uid (a.off + 4)).getD 0
      (d.dropStaged w a).queuePushBy w a.i (hi * 2 ^ 32 + v % 2 ^ 32)
    else if d.queueRight a.i true w then (d.stageWord w (a.off + 4) v, .done 0)
    else d.queueNoRight w a.i
  | _ =>
    if a.word + 1 < a.row.words then (d.stageWord w (a.off + 4 * a.word) v, .done 0)
    else ((d.dropStaged w a).regWriteWhole w a (d.committed w a (d.presentValue a) v), .done 0)

/-! ### The address map -/

/-- The reserved ranges of BAR0 (R524), and what lies above it. -/
def offReserved (off : Nat) : Bool :=
  (decide (0x1C ≤ off) && decide (off < 0x100)) || (decide (0x70000 ≤ off) && decide (off < 0x80000))
    || (decide (0x1B0000 ≤ off) && decide (off < 0x200000)) || decide (0x2000000 ≤ off)

/-- Whether an offset lies in a block that R422 does not list: the host interface (R523 gives it a block of its own;
notes/assumptions/11), and all from the mailboxes up. -/
def unlistedAtStart (off : Nat) : Bool := (decide (0x8000 ≤ off) && decide (off < 0x10000)) || decide (0x40000 ≤ off)

/-- Whether a host is kept from a block before RUN or NOIMAGE (R422). -/
def Dev.hostShutOut (d : Dev) (w : Master) (off : Nat) : Bool :=
  w.isHost && d.rd LDR_STAT_STATE != 5 && d.rd LDR_STAT_STATE != 6 && unlistedAtStart off

/-- Whether an offset lies in a gated block (R453). -/
def Dev.gatedAt (d : Dev) (off : Nat) : Bool :=
  match gateOf off with
  | some g => bit (d.rd SUP_CGATE_GATE) g
  | none => false

/-- An access to a gated block (R453), which the supervisor records (R455). -/
def Dev.gatedAccess (d : Dev) (off : Nat) : Dev := (d.put SUP_STAT_GATEACC true).postEvent 0x0108 0x000 (off % 2 ^ 26)

/-- What an access that ends as a bus error answers: a host's shows as R477 states, an engine's traps (R524). -/
def Dev.busErrorAt (d : Dev) (w : Master) (off : Nat) : Dev × IoRes :=
  if w.isEngine then (d, .trap 0x07) else (d.when w.isHost (fun d => d.hostBusError w off), .bus)

/-- A word of the shared-memory window (R523). -/
def Dev.sharedWord (d : Dev) (w : Master) (off : Nat) (write : Option Nat) : Dev × IoRes :=
  if w.isEngine then (d, .trap 0x07)
  else
    let r := d.memAccess w (off - 0x1000000) (write.map (toLe 4)) 4
    (r.1, if r.2.good then .done (leNat r.2.data) else .bus)

/-- The windows of the map that hold no registers. -/
inductive WinAt where
  | cap
  | mirror (r a : Nat)
  | engine (e a : Nat)
  | active (e a : Nat)

/-- The window that an offset lies in. -/
def winAt (off : Nat) : Option WinAt :=
  if 0x100 ≤ off ∧ off < 0x8000 then some .cap
  else if 0x480000 ≤ off ∧ off < 0x500000 then some (.mirror ((off - 0x480000) / 0x40000) (off % 0x40000))
  else if 0x800000 ≤ off ∧ off < 0x1000000 then
    let n := (off - 0x800000) / 0x100000
    let x := off % 0x100000
    if 0x20000 ≤ x ∧ x < 0xA0000 then some (.engine (8 * n + (x - 0x20000) / 0x10000) (x % 0x10000))
    else if 0xA0000 ≤ x ∧ x < 0xE0000 then some (.active (8 * n + (x - 0xA0000) / 0x8000) (x % 0x8000))
    else none
  else none

/-- Whether an offset lies in the windows of an engine whose depot is OFF: its registers and its memories read 0 and ignore writes (R268). -/
def Dev.darkAt (d : Dev) (off : Nat) : Bool :=
  decide (0x800000 ≤ off) && decide (off < 0x1000000) && decide (0x10000 ≤ off % 0x100000) && decide (off % 0x100000 < 0xE0000)
    && d.depotDark ((off - 0x800000) / 0x100000)

/-- What a word of an OFF engine's windows reads: 0, but for `ENG_STAT`, whose STATE shows OFF (R268, R295; notes/assumptions/71). -/
def darkWord (off : Nat) : Nat := if off % 0x100000 < 0x18000 ∧ off % 0x1000 = 4 then 4 else 0

/-- A write in the windows of an engine whose depot is OFF is ignored (R268), but that a REQ in its `ENG_SWAP` is refused as a request to an
engine whose depot is not ON (R288). -/
def Dev.darkWrite (d : Dev) (off v : Nat) : Dev :=
  if off % 0x100000 < 0x18000 ∧ off % 0x1000 = 0x50 ∧ bit v 0 = true then
    d.engRefuse (8 * ((off - 0x800000) / 0x100000) + (off % 0x100000 - 0x10000) / 0x1000) off
  else d

/-- A read of a word of a window. -/
def Dev.winRead (d : Dev) (off : Nat) : WinAt → Dev × Nat
  | .cap => (d, capWord off)
  | .mirror r a => d.mirrorRead r a
  | .engine e a => if a < 0x8000 then d.windowRead e .dm a else d.windowRead e .sh (a - 0x8000)
  | .active e a => d.windowRead e .im a

/-- A write of a word of a window: the capability list and the active memories are read-only; in a status word of a mirror bank only
COMMIT is written (R165). -/
def Dev.winWrite (d : Dev) (v : Nat) : WinAt → Dev
  | .cap => d
  | .mirror r a => if a < 0x800 then d.mirrorWord r a v else d.mirWrite r a (toLe 4 v)
  | .engine e a => d.windowWrite e a v
  | .active _ _ => d

/-- A master reads the word at an aligned offset of BAR0. -/
def Dev.busRead (d : Dev) (w : Master) (off : Nat) : Dev × IoRes :=
  if d.hostShutOut w off then (d.inc LDR_HOSTREF_REFS, .done 0)
  else if 0x1000000 ≤ off ∧ off < 0x2000000 then d.sharedWord w off none
  else if offReserved off then d.busErrorAt w off
  else if d.gatedAt off then (d.gatedAccess off, .done 0)
  else if d.darkAt off then (d, .done (darkWord off))
  else match winAt off with
    | some x => let r := d.winRead off x; (r.1, .done r.2)
    | none => match findReg off with
      | some a => d.regRead w a
      | none => (d, .done 0)

/-- A master writes the word at an aligned offset of BAR0. -/
def Dev.busWrite (d : Dev) (w : Master) (off v : Nat) : Dev × IoRes :=
  if d.hostShutOut w off then (d.inc LDR_HOSTREF_REFS, .done 0)
  else if 0x1000000 ≤ off ∧ off < 0x2000000 then d.sharedWord w off (some v)
  else if offReserved off then d.busErrorAt w off
  else if d.gatedAt off then (d.gatedAccess off, .done 0)
  else if d.darkAt off then (d.darkWrite off v, .done 0)
  else match winAt off with
    | some x => (d.winWrite v x, .done 0)
    | none => match findReg off with
      | some a => d.regWrite w a v
      | none => (d, .done 0)

/-- A write, where what it answers does not matter. -/
def Dev.put32 (d : Dev) (w : Master) (off v : Nat) : Dev := (d.busWrite w off v).1

/-- Words written from an offset on, the lowest first: a 64-bit access, or a wide register with its commit. -/
def Dev.putWords (d : Dev) (w : Master) (off : Nat) : List Nat → Dev
  | [] => d
  | v :: r => (d.put32 w off v).putWords w (off + 4) r

/-- A read by a master, whose answer leaves the device's state (notes/assumptions/2). -/
def Dev.get32 (d : Dev) (w : Master) (off : Nat) : Dev :=
  let r := d.busRead w off
  r.1.emit (.read w.uid r.2.val)

end Sys2Proof.Machine
end

