-- ==== Sys2Proof/Machine/HostOps.lean ====
section
/-! DEFINITION. The host interface beside its registers: the PCIe link and configuration space (R476–R480), FLR (R435, R479), the SPI
management port (R489–R491) and the JTAG port (R516–R518). -/

namespace Sys2Proof.Machine

/-! ### PCIe -/

/-- Change the host interface's state. -/
def Dev.modHif (d : Dev) (f : Hif → Hif) : Dev := { d with hif := f d.hif }

/-- A PCIe write whose byte enables cover less than a word, outside the shared-memory window (R477): shut out during start (R422), a bus
error in a reserved range (R524), else discarded. -/
def Dev.narrowWrite (d : Dev) (off : Nat) : Dev :=
  if d.hostShutOut .pcie off then d.inc LDR_HOSTREF_REFS
  else if offReserved off then (d.busErrorAt .pcie off).1
  else (d.put HIF_STAT_REFUSED true).postEvent 0x0305 0x001 (off % 2 ^ 26)

/-- The PCIe link trains up, with its rate and width as HIF_STAT codes them, or goes down (R476, R494). -/
def Dev.linkChange (d : Dev) (up : Bool) (rate width : Nat) : Dev :=
  let d := ((d.put HIF_STAT_LINK up).wr HIF_STAT_RATE (if up then rate else 0)).wr HIF_STAT_WIDTH (if up then width else 0)
  (d.postEvent 0x0306 0x001 (b01 up + d.rd HIF_STAT_RATE * 2 + d.rd HIF_STAT_WIDTH * 2 ^ 4)).flushVecs

/-- Whether the PCIe core is held in reset: PERST_N is low, or reads so without VDDIO_B (R476, R522). -/
def Dev.perstHeld (d : Dev) : Bool := d.sup.perst || !d.sup.ioB

/-- The PCIe configuration space returns to its reset values; the MSI-X table is BAR2's and the channels are the interface's. -/
def Hif.configReset (h : Hif) : Hif := { vectors := h.vectors, posted := h.posted, chans := h.chans }

/-- The PCIe core is reset where PERST_N is low (R476): the configuration space, and the link goes down. -/
def Dev.perstActs (d : Dev) : Dev :=
  if !d.perstHeld || d.inReset then d
  else
    let d := d.modHif Hif.configReset
    if d.on HIF_STAT_LINK then d.linkChange false 0 0 else d

/-- What the PCIe link or its reset ball does (R476, R522): a link trains only while the PCIe core is not held in reset. With VDDIO_B gone
TRST_N reads low, so that the TAP selects IDCODE (R516). -/
def Dev.pcieChange (d : Dev) (rate width : Nat) : PcieChange → Dev
  | .up => if d.perstHeld || d.inReset then d else d.linkChange true rate width
  | .down => if d.inReset then d else d.linkChange false 0 0
  | .perst low => (d.modSup (fun x => { x with perst := low })).perstActs
  | .ioB there =>
    let d := d.modSup (fun x => { x with ioB := there })
    ({ d with jtag := if there then d.jtag else { d.jtag with ir := 2 } } : Dev).perstActs

/-- A 32-bit word of the MSI-X table and PBA of BAR2 (R480), at an offset of it. -/
def Dev.bar2Word (d : Dev) (off : Nat) : Nat :=
  let x := d.vector (off / 16)
  if off < 0x1000 then
    match off / 4 % 4 with
    | 0 => bits x.addr 0 32
    | 1 => bits x.addr 32 32
    | 2 => bits x.data 0 32
    | _ => b01 x.masked
  else if off < 0x1020 then d.rd (HIF_PENDi_PEND (off / 4 % 8)) else 0

/-- A write of a 32-bit word of BAR2: the MSI-X table takes it, the PBA does not. -/
def Dev.bar2Write (d : Dev) (off v : Nat) : Dev :=
  if 0x1000 ≤ off then d
  else
    let x := d.vector (off / 16)
    let x : Vector := match off / 4 % 4 with
      | 0 => { x with addr := setBits x.addr 0 32 v }
      | 1 => { x with addr := setBits x.addr 32 32 v }
      | 2 => { x with data := v }
      | _ => { x with masked := bit v 0 }
    d.modHif (fun h => { h with vectors := tput h.vectors (off / 16) x })

/-- A register of the PCIe configuration space (R476, R527; notes/assumptions/51). -/
def Dev.cfgWord (d : Dev) : CfgReg → Nat
  | .ids => 0x64241F3A
  | .command => b01 d.hif.busMaster * 4
  | .classRev => 0x02800002
  | .bar0 hi => if hi then bits d.hif.bar0 32 32 else bits d.hif.bar0 0 32 + 4
  | .bar2 hi => if hi then bits d.hif.bar2 32 32 else bits d.hif.bar2 0 32 + 4
  | .subsystem => 0x64241F3A
  | .power => if d.hif.d3 then 3 else 0
  | .devControl => d.hif.mps * 2 ^ 5 + d.hif.mrrs * 2 ^ 12
  | .msix => 255 + b01 d.hif.fnMask * 2 ^ 14 + 2 ^ 15
  | .serial hi => if hi then bits Config.otpEui 32 32 else bits Config.otpEui 0 32
  | .aerMask => d.hif.aerMask
  | .aerSeverity => d.hif.aerSev
  | .aerCorMask => d.hif.aerCorMask

/-- What the host does in BAR2 or in the PCIe configuration space (R476, R478, R480, R527; notes/assumptions/51). -/
def Dev.hostConfig (d : Dev) (c : HostCfg) : Dev :=
  match c with
  | .read r => d.emit (.read 0x001 (d.cfgWord r))
  | .bar2Read off => d.emit (.read 0x001 (d.bar2Word off))
  | .bar2Write off v => (d.bar2Write off v).flushVecs
  | .entry v addr data masked => (d.modHif (fun h => { h with vectors := tput h.vectors v ⟨addr, data, masked⟩ })).flushVecs
  | .fnMask b => (d.modHif (fun h => { h with fnMask := b })).flushVecs
  | .busMaster b => (d.modHif (fun h => { h with busMaster := b })).flushVecs
  | .d3hot b => (d.modHif (fun h => { h with d3 := b })).flushVecs
  | .bases bar0 bar2 => d.modHif (fun h => { h with bar0 := bar0 / 2 ^ 26 * 2 ^ 26, bar2 := bar2 / 2 ^ 14 * 2 ^ 14 })
  | .sizes mps mrrs => d.modHif (fun h => { h with mps := mps, mrrs := mrrs })
  | .aer mask sev cor => d.modHif (fun h => { h with aerMask := mask, aerSev := sev, aerCorMask := cor })

/-- A descriptor that came from a DMA channel completes no more (R435). -/
def Desc.orphaned (x : Desc) : Desc :=
  match x.origin with
  | .dma _ _ _ => { x with origin := .orphan }
  | _ => x

/-- The frames that DMA channels have handed to the schedulers are sent, but complete no descriptor (R435). -/
def Dev.orphanFrames (d : Dev) : Dev :=
  let tx (t : Option Tx) : Option Tx := t.map (fun t => { t with desc := t.desc.orphaned })
  { d with ports := d.ports.map (fun e => (e.1, { e.2 with
      tx := tx e.2.tx, pre := tx e.2.pre, queues := e.2.queues.map (fun q => (q.1, q.2.map Desc.orphaned)), hand := e.2.hand.map Desc.orphaned })) }

/-- The fields of a channel that R495 marks WARM, which a reset of the host interface resets as well (R432; notes/assumptions/51). -/
def warmFields_CH (c : Nat) : List Fld :=
  [HIF_CHc_CBASE_BASE c, HIF_CHc_CCFG_LOG2 c, HIF_CHc_CCFG_VEC c, HIF_CHc_RBASE_BASE c, HIF_CHc_RCFG_LOG2 c, HIF_CHc_RCFG_VEC c]

/-- The host interface and its channels are reset (R432, R435, R479): no completion word is written, not for a frame already handed to a
scheduler either; vectors masked, nothing pending, the configuration space reset but for the link; locks held by the host released
broken. -/
def Dev.hostReset (d : Dev) : Dev :=
  let drop (c : Nat) (d : Dev) : Dev := (d.chan c).deliver.foldl (fun d e => d.releaseHeld e.2.2) d
  let d := (forNums 8 (fun c d => ((drop c d).setChan c {}).clrs (fnFields_CH c ++ warmFields_CH c)) d).orphanFrames
  let link := (d.rd HIF_STAT_LINK, d.rd HIF_STAT_RATE, d.rd HIF_STAT_WIDTH)
  let d := d.clrs fnFields_HIF
  let d := ((d.wr HIF_STAT_LINK link.1).wr HIF_STAT_RATE link.2.1).wr HIF_STAT_WIDTH link.2.2
  (d.modHif (fun h => { chans := h.chans })).bumpEpoch 0x001

/-- An FLR, or with `byFn` the reset of UID 0x001 by function; either leaves the reset report of 0x001 (R431, R432, R434). -/
def Dev.flr (d : Dev) (byFn : Bool) : Dev :=
  let done (d : Dev) : Dev := d.hostReset.resetReport 0x03 0x001 0
  if byFn then d.fnReset 0x001 done else done d

/-! ### The SPI management port -/

/-- Status codes of a request (R490). -/
abbrev spiOk : Nat := 0
abbrev spiCrc : Nat := 1
abbrev spiReserved : Nat := 2
abbrev spiFailed : Nat := 3
abbrev spiStart : Nat := 4

/-- The BAR0 offset that a request names (R490). -/
def spiOff (l : List Byte) : Nat := 4 * fieldAt l 1 3

/-- Whether a request's CRC byte is right (R490). -/
def spiCrcOk (l : List Byte) : Bool := crc8 0 (l.take (spiLen l - 1)) == (l.getD (spiLen l - 1) 0).toNat

/-- The CRC-8 of an answer: over the status byte and the data words, each most significant byte first (R489, R490). -/
def spiAnswerCrc (status : Nat) (words : List Nat) : Nat :=
  crc8 0 (toLe 1 status ++ (words.map (fun v => (toLe 4 v).reverse)).flatten)

/-- A request ends with a status (R490, R491): the answer, its counter, and event 0x0304 when it failed. -/
def Dev.spiEnd (d : Dev) (status : Nat) (words : List Nat) : Dev :=
  let d := (d.inc (HIF_SPICNT_CNT status)).emit (.spi status words (spiAnswerCrc status words))
  d.when (status != spiOk) (fun d => d.postEvent 0x0304 0x002 status)

/-- Whether a word of a request may not be reached during start (R422). -/
def Dev.spiShut (d : Dev) (off n : Nat) : Bool := (List.range n).any (fun i => d.hostShutOut .spi (off + 4 * i))

/-- Whether an access of the SPI port failed: a bus error, or a refusal of any kind (R490). -/
def spiFails (r : Dev × IoRes) : Bool := r.1.refused || r.2 == .bus || r.2 == .refused

/-- Read words until one fails. -/
def Dev.spiReads (d : Dev) (off : Nat) : Nat → Dev × Option (List Nat)
  | 0 => (d, some [])
  | n + 1 =>
    let r := { d with refused := false }.busRead .spi off
    if spiFails r then (r.1, none)
    else let q := r.1.spiReads (off + 4) n; (q.1, q.2.map (r.2.val :: ·))

/-- Write words until one fails. -/
def Dev.spiWrites (d : Dev) (off : Nat) : List Nat → Dev × Bool
  | [] => (d, true)
  | v :: vs =>
    let r := { d with refused := false }.busWrite .spi off v
    if spiFails r then (r.1, false) else r.1.spiWrites (off + 4) vs

/-- A complete READ request (R490). -/
def Dev.spiRead (d : Dev) (l : List Byte) : Dev :=
  let n := spiField l + 1
  let none_ := List.replicate n 0
  if !spiCrcOk l then d.spiEnd spiCrc none_
  else if d.spiShut (spiOff l) n then (d.inc LDR_HOSTREF_REFS).spiEnd spiStart none_
  else
    let r := d.spiReads (spiOff l) n
    match r.2 with
    | some ws => r.1.spiEnd spiOk ws
    | none => r.1.spiEnd spiFailed none_

/-- A complete WRITE request (R490, R491). -/
def Dev.spiWrite (d : Dev) (l : List Byte) : Dev :=
  let n := spiField l + 1
  if !spiCrcOk l then d.spiEnd spiCrc []
  else if d.spiShut (spiOff l) n then (d.inc LDR_HOSTREF_REFS).spiEnd spiStart []
  else
    let r := d.spiWrites (spiOff l) ((List.range n).map (fun i => fieldAt l (4 + 4 * i) 4))
    r.1.spiEnd (if r.2 then spiOk else spiFailed) []

/-- A complete RESET request, and CS_N rising after it (R490, R491): with status OK a WARM starts with cause SPI. -/
def Dev.spiReset (d : Dev) (l : List Byte) : Dev :=
  if !spiCrcOk l then d.spiEnd spiCrc []
  else if spiField l ≠ 0 ∨ fieldAt l 1 3 ≠ 0x00003C then d.spiEnd spiReserved []
  else (d.spiEnd spiOk []).warm 4

/-- A request that does not come to its CRC byte is discarded (R491); one with a reserved command is answered with its status. -/
def Dev.spiDiscard (d : Dev) (l : List Byte) : Dev :=
  if 5 ≤ l.length ∧ !(spiCmd l == 1 || spiCmd l == 2 || spiCmd l == 4) then d.spiEnd spiReserved []
  else (d.inc (HIF_SPICNT_CNT 5)).postEvent 0x0304 0x002 0x10

/-! ### JTAG -/

/-- Change the JTAG port's state. -/
def Dev.modJtag (d : Dev) (f : Jtag → Jtag) : Dev := { d with jtag := f d.jtag }

/-- Whether the core has its supply: not in Standby, and not while VDD is awaited (R429, R442). -/
def Dev.powered (d : Dev) : Bool := !d.sup.por && d.sup.phase != .standby && !bit d.sup.causes 1 && !bit d.sup.causes 9

/-- What a controller drives on its CAN_TX ball (R442): recessive where it sends nothing; a frame's levels are not modelled. -/
def Dev.canTx (d : Dev) (e : Nat) : Option Bool := if d.powered && !(d.canOf e).cur.isSome then some true else none

/-- What the device's own functions drive on a scanned ball other than IO0–IO47. The cells of the boundary scan (R516) are, in the order
of notes/assumptions/56: IO0–IO47; from 48 MII of P20 and P21, MDC, MDIO, CAN_TX and CAN_RX of P22 and of P23, and NVM; from 98 PERST_N,
SPI (SPI_IRQ_N last), the TAP, FREQ_IN, PPS_IN, PPSO0–PPSO3, EVT_N and TESTEN; from 117 RST_N, POWERFAIL_N, WAKE_N and CORE_EN. PPSO and CAN_TX without power, open drains, inputs and
what is not modelled bit by bit are hi-Z here. -/
def Dev.ownDrive (d : Dev) (c : Nat) : Option Bool :=
  if c = 82 ∨ c = 84 then d.canTx ((c - 82) / 2)
  else if 111 ≤ c ∧ c < 115 then (if d.powered then some (d.ppsoLevel (c - 111)) else none)
  else if c = 115 then (if d.evtN then some false else none)
  else if c = 103 then (if d.spiIrq then some false else none)
  else if c = 120 then some (!d.sup.por && d.sup.phase != .standby)
  else none

/-- What drives a scanned ball (R509, R518, R522): nothing without its pads' supply; the cells under EXTEST and CLAMP; nothing under HIGHZ;
else the device's own function. -/
def Dev.scanBall (d : Dev) (c : Nat) : Option Bool :=
  if c < 48 then d.ball c
  else if !(if c < 98 then d.padsA else if c < 117 then d.padsB else true) then none
  else if d.jtag.ir = 0 ∨ d.jtag.ir = 3 then tgetD d.jtag.scan c none
  else if d.jtag.ir = 4 then none
  else d.ownDrive c

/-- The levels of the scanned balls as a boundary scan captures them; a ball that the device does not drive shows the board's level. -/
def Dev.captured (d : Dev) : Nat :=
  (numsWhere scanCells (fun c => if c < 48 then d.ballLevel c else (d.scanBall c).getD (Config.ballFloat d.tb.lt c))).foldl (fun n i => n + 2 ^ i) 0

/-- A scan of the boundary-scan register under an instruction (R516, R518): what was captured leaves at TDO, and the cells take what
was shifted in. -/
def Dev.boundaryScan (d : Dev) (ir : Nat) (cells : Tab (Option Bool)) : Dev :=
  let d := d.modJtag (fun j => { j with ir := ir })
  (d.emit (.tdo d.captured)).modJtag (fun j => { j with scan := cells })

/-- An instruction that selects a register with a fixed content, which leaves at TDO. -/
def Dev.jtagSelect (d : Dev) (ir v : Nat) : Dev := (d.modJtag (fun j => { j with ir := ir })).emit (.tdo v)

/-- A scan of DBGACC (R517): the last access's answer leaves at TDO, then Update-DR makes the access named, unless the core is held in
reset. -/
def Dev.dbgAcc (d : Dev) (v : Nat) : Dev :=
  let d := d.jtagSelect 0x1C (d.jtag.data + b01 d.jtag.done * 2 ^ 32 + b01 d.jtag.err * 2 ^ 33)
  if !d.jtag.done || d.inReset then d
  else
    let off := bits v 34 24 * 4
    let r := if bit v 63 then d.busWrite .spi off (bits v 0 32) else d.busRead .spi off
    r.1.modJtag (fun j => { j with data := if bit v 63 then j.data else r.2.val, done := true, err := r.2 == .bus })

end Sys2Proof.Machine
end

