-- ==== Sys2Proof/Machine/Cmd.lean ====
section
/-! DEFINITION. The commands that are accesses to registers: a master reads or writes a word of BAR0 (R6, R10), and the four commands
that are such accesses in general (R6, R477, R535). -/

namespace Sys2Proof.Machine

/-- The meaning of a command that writes a 32-bit word. -/
def State.busW (s : State) (ok : Bool) (m : Master) (off : Nat) (v : BitVec 32) : Host.Outcome State Fault Refusal :=
  s.core (m.ok && ok) (fun d => d.put32 m off v.toNat)

/-- The meaning of a command that reads a 32-bit word. -/
def State.busR (s : State) (ok : Bool) (m : Master) (off : Nat) : Host.Outcome State Fault Refusal :=
  s.core (m.ok && ok) (fun d => d.get32 m off)

/-- A written word with a field of it at a value: commands that are named after what one field of a register is written to. -/
def withField (v : BitVec 32) (lo w x : Nat) : BitVec 32 := BitVec.ofNat 32 (setBits v.toNat lo w x)

/-- The register whose word an offset names, where a test holds of it. -/
def regThere (off : Nat) (p : RegAt → Bool) : Bool :=
  match findReg off with
  | some a => p a
  | none => false

/-- REGISTER_WRITE (R6): `whole` false is a PCIe write whose byte enables cover less than the word, outside the shared-memory window
(R477). -/
def execRegisterWrite (m : Master) (off : Nat) (v : BitVec 32) (whole : Bool) (s : State) : Host.Outcome State Fault Refusal :=
  s.core (m.ok && offOk off && (whole || (m == .pcie && !inShared off))) (fun d => if whole then d.put32 m off v.toNat else d.narrowWrite off)

/-- WIDE_REGISTER_STAGE (R535): acts where the offset is that of a word below a register's highest. -/
def execWideRegisterStage (m : Master) (off : Nat) (v : BitVec 32) (s : State) : Host.Outcome State Fault Refusal :=
  s.core (m.ok && offOk off) (fun d =>
    if regThere off (fun a => decide (a.word + 1 < a.row.words)) then d.put32 m off v.toNat else d)

/-- LATCHING_READ (R535): a read of a word of BAR0, which latches the words above where it is the low word of a wide register. -/
def execLatchingRead (m : Master) (off : Nat) (s : State) : Host.Outcome State Fault Refusal :=
  s.busR (offOk off) m off

/-- READ_CLEAR (R6): a read of a word of BAR0, which clears the RC fields that lie in it. -/
def execReadClear (m : Master) (off : Nat) (s : State) : Host.Outcome State Fault Refusal :=
  s.busR (offOk off) m off

end Sys2Proof.Machine
end

