-- ==== Sys2Proof/Machine/CmdCan.lean ====
section
/-! DEFINITION. The commands of the CAN ports (spec/14). What happens on a bus is an operand: who wins arbitration, which frame is
received, which error is met. `sof` is the instant of a start of frame in units of 12.5 ns of LT (R388). -/

namespace Sys2Proof.Machine

/-- TX_REQUEST (R382): a write of `CAN_TXREQ`. -/
def execTxRequest (m : Master) (p : Nat) (v : BitVec 32) (s : State) : Host.Outcome State Fault Refusal :=
  s.busW (decide (p < 2)) m (0x700040 + 0x8000 * p) v

/-- TX_ABORT (R385): a write of `CAN_TXABT`. -/
def execTxAbort (m : Master) (p : Nat) (v : BitVec 32) (s : State) : Host.Outcome State Fault Refusal :=
  s.busW (decide (p < 2)) m (0x700048 + 0x8000 * p) v

/-- ATTEMPT_START (R383). -/
def execAttemptStart (p : Nat) (s : State) : Host.Outcome State Fault Refusal := s.core (decide (p < 2)) (fun d => d.attemptStart p)

/-- ARBITRATION_LOST (R382). -/
def execArbitrationLost (p : Nat) (s : State) : Host.Outcome State Fault Refusal := s.core (decide (p < 2)) (fun d => d.arbitrationLost p)

/-- CAN_FRAME_SENT (R384): `tdcv` is the loop delay measured in a frame with a rate switch (R377). -/
def execCanFrameSent (p sof tdcv : Nat) (s : State) : Host.Outcome State Fault Refusal :=
  s.core (decide (p < 2)) (fun d => d.canSent p sof tdcv)

/-- CAN_FRAME_RECEIVED (R386). -/
def execCanFrameReceived (p : Nat) (f : CanFrame) (sof : Nat) (s : State) : Host.Outcome State Fault Refusal :=
  s.core (decide (p < 2) && f.ok) (fun d => d.canReceived p f sof)

/-- CAN_ERROR (R389). -/
def execCanError (p : Nat) (e : CanErr) (s : State) : Host.Outcome State Fault Refusal :=
  s.core (decide (p < 2) && decide (0 < e.lec) && decide (e.lec < 7)) (fun d => d.canError p e)

/-- PROTOCOL_EXCEPTION (R379). -/
def execProtocolException (p : Nat) (s : State) : Host.Outcome State Fault Refusal := s.core (decide (p < 2)) (fun d => d.canException p)

/-- CAN_RECESSIVE_WAIT_END (R379). -/
def execCanRecessiveWaitEnd (p : Nat) (s : State) : Host.Outcome State Fault Refusal := s.core (decide (p < 2)) (fun d => d.canWaitEnd p)

/-- BOREC (R389): a write of `CAN_CTRL` with BOREC = 1. -/
def execBorec (m : Master) (p : Nat) (v : BitVec 32) (s : State) : Host.Outcome State Fault Refusal :=
  s.busW (decide (p < 2)) m (0x700000 + 0x8000 * p) (withField v 4 1 1)

/-- BUS_OFF_RECOVERED (R389). -/
def execBusOffRecovered (p : Nat) (s : State) : Host.Outcome State Fault Refusal := s.core (decide (p < 2)) (fun d => d.canRecovered p)

/-- ABR (R381): a write of `CAN_CTRL` with ABR = 1. -/
def execAbr (m : Master) (p : Nat) (v : BitVec 32) (s : State) : Host.Outcome State Fault Refusal :=
  s.busW (decide (p < 2)) m (0x700000 + 0x8000 * p) (withField v 3 1 1)

/-- DWELL_EXPIRY (R381). -/
def execDwellExpiry (p : Nat) (s : State) : Host.Outcome State Fault Refusal := s.core (decide (p < 2)) (fun d => d.canDwell p)

/-- CAN_PORT_RESET (R391). -/
def execCanPortReset (p : Nat) (s : State) : Host.Outcome State Fault Refusal :=
  s.core (decide (p < 2)) (fun d => d.fnReset (0x096 + p) (fun d => d.canReset p))

end Sys2Proof.Machine
end

