-- ==== Sys2Proof/Machine/DepotTx.lean ====
section
/-! DEFINITION. A depot's frame interface on the way out (R272, R273): descriptors taken, frames copied, descriptors handed over. -/

namespace Sys2Proof.Machine

/-- Whether a transmit descriptor is one that the frame interface completes as BADDESC (R272, R273). -/
def Dev.txDescBad (d : Dev) (n : Nat) (ws : List Nat) : Bool :=
  bits (descWord ws 0) 24 8 != 0 || bits (descWord ws 1) 29 3 != 0 || bits (descWord ws 2) 24 8 != 0 || bits (descWord ws 3) 10 22 != 0
    || decide (21 < bits (descWord ws 1) 14 5) || bits (descWord ws 0) 0 3 != 0
    || !d.depotOwns n (bits (descWord ws 0) 0 24) (bits (descWord ws 1) 0 14)

/-- The frame interface takes a descriptor from its egress queues in turn, checks it and copies its frame (R273). Bytes that an uncorrectable
error leaves unread are a free value. -/
def Dev.frameFetch (d : Dev) (n : Nat) : Dev :=
  let x := d.depot n
  let j := if (tgetD x.tx x.turn []).isEmpty then 1 - x.turn else x.turn
  match x.copying, tgetD x.tx j [] with
  | none, ws :: rest =>
    let d := d.setDepot n { x with tx := tput x.tx j rest, turn := 1 - j }
    if d.txDescBad n ws then
      (d.inc (DEP_TXBAD_CNT n)).when (bit (descWord ws 1) 28) (fun d =>
        d.depComplete n (bits (descWord ws 3) 0 10) stDone rsBadDesc (bits (descWord ws 2) 0 16) 0)
    else
      let len := bits (descWord ws 1) 0 14
      let q := d.memRead (0x010 + n) (0x010 + n) (bits (descWord ws 0) 0 24) len
      let (l, d) := match q.2 with
        | .ok l => (l, q.1)
        | _ => (toLe len q.1.takeFree.1, q.1.takeFree.2)
      d.setDepot n { d.depot n with copying := some (ws, l) }
  | _, _ => d

/-- A depot's descriptor as a scheduler takes it (R121, R272). -/
def depotDesc (n : Nat) (ws : List Nat) (l : List Byte) : Desc :=
  let w1 := descWord ws 1
  { bytes := l, tc := bits w1 19 3, ltv := bit w1 22, launch := descWord ws 4 + descWord ws 5 * 2 ^ 32, latepol := bits w1 23 2
    ksv := bit w1 25, kslot := bits (descWord ws 2) 16 8, osreq := bit w1 26, drreq := bit w1 27, tag := bits (descWord ws 2) 0 16
    origin := .depot n (bits (descWord ws 3) 0 10) (bit w1 28) }

/-- The copy is complete (R273): the completion reads FETCHED, and the descriptor goes to the scheduler of PORT. -/
def Dev.copyComplete (d : Dev) (n : Nat) : Dev :=
  match (d.depot n).copying with
  | some (ws, l) =>
    let d := (d.setDepot n { d.depot n with copying := none }).inc (DEP_TXFRM_CNT n)
    let d := d.when (bit (descWord ws 1) 28) (fun d =>
      d.depComplete n (bits (descWord ws 3) 0 10) stFetched rsOk (bits (descWord ws 2) 0 16) 0)
    d.handTo (bits (descWord ws 1) 14 5) (depotDesc n ws l)
  | none => d

end Sys2Proof.Machine
end

