-- ==== Sys2Proof/Machine/Flags.lean ====
section
/-! DEFINITION. What the engine operations compute (R299, R300, R305–R307, R311–R315, R320–R322): the result words and the flags of
each, as plain functions of the operand words and the flags. -/

namespace Sys2Proof.Machine

/-- The flags an operation writes; `none` leaves a flag unchanged. -/
structure FlagUpd where
  z : Option Bool := none
  n : Option Bool := none
  c : Option Bool := none
  v : Option Bool := none
  dz : Option Bool := none
deriving DecidableEq, Repr

/-- Apply a flag update. -/
def Flags.upd (f : Flags) (u : FlagUpd) : Flags :=
  { f with z := u.z.getD f.z, n := u.n.getD f.n, c := u.c.getD f.c, v := u.v.getD f.v, dz := u.dz.getD f.dz }

/-- The updates of a pair (R298): each flag that slot B writes takes slot B's value. -/
def FlagUpd.merge (a b : FlagUpd) : FlagUpd :=
  ⟨b.z.or a.z, b.n.or a.n, b.c.or a.c, b.v.or a.v, b.dz.or a.dz⟩

/-- What an operation gives: its result word, the high word of a pair, and the flags. -/
structure AluOut where
  lo : Option Word := none
  hi : Option Word := none
  fl : FlagUpd := {}
deriving DecidableEq, Repr

/-- Whether a branch condition holds (R300). -/
def Flags.cond (f : Flags) : Nat → Bool
  | 0 => true
  | 1 => f.z
  | 2 => !f.z
  | 3 => f.c
  | 4 => !f.c
  | 5 => f.n
  | 6 => !f.n
  | 7 => f.v
  | 8 => !f.v
  | 9 => f.c && !f.z
  | 10 => !f.c || f.z
  | 11 => f.n == f.v
  | 12 => f.n != f.v
  | 13 => !f.z && f.n == f.v
  | 14 => f.z || f.n != f.v
  | _ => f.ioe

/-- Z and N of a word. -/
def zn (r : Word) : FlagUpd := { z := some (r == 0), n := some r.msb }

/-- A sum with a carry in, with its flags (R305, R312). -/
def aluAdd (a b : Word) (cin : Nat) : AluOut :=
  let r := a + b + BitVec.ofNat 32 cin
  let s := a.toInt + b.toInt + Int.ofNat cin
  { lo := some r
    fl := { zn r with c := some (decide (2 ^ 32 ≤ a.toNat + b.toNat + cin)), v := some (decide (s ≠ r.toInt)) } }

/-- A difference with a borrow in, with its flags (R305, R312): C is 1 when no borrow occurs. -/
def aluSub (a b : Word) (bin : Nat) : AluOut :=
  let r := a - b - BitVec.ofNat 32 bin
  let s := a.toInt - b.toInt - Int.ofNat bin
  { lo := some r
    fl := { zn r with c := some (decide (b.toNat + bin ≤ a.toNat)), v := some (decide (s ≠ r.toInt)) } }

/-- A logical result. -/
def aluLogic (r : Word) : AluOut := { lo := some r, fl := zn r }

/-- A saturating result: the exact value clamped to a range (R314). -/
def aluClamp (x lo hi : Int) : AluOut :=
  let y := max lo (min hi x)
  let r := BitVec.ofInt 32 y
  { lo := some r, fl := { zn r with v := some (decide (x ≠ y)) } }

/-- The kinds of shift and rotate, as the KIND field of SHI numbers them (R306). -/
inductive ShiftKind where
  | shl | shr | sar | rol | ror
deriving DecidableEq, Repr

/-- A shift or rotate by `n` in 0–63 (R313). -/
def aluShift (k : ShiftKind) (a : Word) (n : Nat) : AluOut :=
  let out (r : Word) (c : Option Bool) : AluOut := { lo := some r, fl := { zn r with c := c } }
  match k with
  | .shl => if n = 0 then out a none else if n ≤ 32 then out (a <<< n) (some (a.getLsbD (32 - n))) else out 0 (some false)
  | .shr => if n = 0 then out a none else if n ≤ 32 then out (a >>> n) (some (a.getLsbD (n - 1))) else out 0 (some false)
  | .sar => if n = 0 then out a none else if n ≤ 31 then out (a.sshiftRight n) (some (a.getLsbD (n - 1)))
      else out (a.sshiftRight 32) (some a.msb)
  | .rol => let m := n % 32
      if m = 0 then out a none else let r := a.rotateLeft m; out r (some (r.getLsbD 0))
  | .ror => let m := n % 32
      if m = 0 then out a none else let r := a.rotateRight m; out r (some r.msb)

/-- A 64-bit product in a register pair (R305). -/
def aluProduct (p : BitVec 64) : AluOut :=
  { lo := some (p.truncate 32), hi := some ((p >>> 32).truncate 32)
    fl := { z := some (p == 0), n := some p.msb, v := some false } }

/-- A division's quotient and remainder in a register pair (R312); with a divisor of 0, quotient 0 and the dividend as
remainder, DZ set. -/
def aluDivide (signed : Bool) (a b : Word) : AluOut :=
  if b = 0 then { lo := some 0, hi := some a, fl := { z := some true, n := some false, v := some false, dz := some true } }
  else
    let q := if signed then BitVec.ofInt 32 (a.toInt.tdiv b.toInt) else a / b
    let r := if signed then BitVec.ofInt 32 (a.toInt.tmod b.toInt) else a % b
    let overrun := signed && a == 0x80000000 && b == 0xFFFFFFFF
    { lo := some q, hi := some r, fl := { zn q with v := some overrun } }

/-- The register operations (R305, R307). -/
inductive AluOp where
  | add | addc | sub | subb | and | or | xor | andn
  | shift (k : ShiftKind)
  | adds | subs | addus | subus | mulu | muls | divu | divs | cmp | tst
  | mov | not | neg
  | crcEthernet (bytes : Nat) | crcCastagnoli (bytes : Nat) | crcCcitt (bytes : Nat)
  | ocadd | bswap | bswap16 | clz | berlen
deriving DecidableEq, Repr

/-- The low `n` bytes of a word, lowest first. -/
def wordBytes (n : Nat) (w : Word) : List Byte := toLe n w.toNat

/-- Ones' complement sum of 16-bit halves (R321). -/
def onesSum (a b : Word) : Word :=
  let t := a.toNat % 65536 + b.toNat % 65536 + b.toNat / 65536
  let fold (t : Nat) : Nat := t % 65536 + t / 65536
  BitVec.ofNat 32 (fold (fold t))

/-- Count of leading zero bits (R307). -/
def leadingZeros (a : Word) : Nat := if a = 0 then 32 else 31 - Nat.log2 a.toNat

/-- A BER length's value and octets used, or the unsupported form (R322). -/
def berLength (a : Word) : Word × Word × Bool :=
  let o (i : Nat) : Nat := a.toNat / 256 ^ i % 256
  if o 0 < 0x80 then (BitVec.ofNat 32 (o 0), 1, false)
  else if o 0 = 0x81 then (BitVec.ofNat 32 (o 1), 2, false)
  else if o 0 = 0x82 then (BitVec.ofNat 32 (o 1 * 256 + o 2), 3, false)
  else if o 0 = 0x83 then (BitVec.ofNat 32 (o 1 * 65536 + o 2 * 256 + o 3), 4, false)
  else (0xFFFFFFFF, 0, true)

/-- What a register operation gives. -/
def AluOp.run (op : AluOp) (a b : Word) (f : Flags) : AluOut :=
  match op with
  | .add => aluAdd a b 0
  | .addc => aluAdd a b (b01 f.c)
  | .sub => aluSub a b 0
  | .subb => aluSub a b (1 - b01 f.c)
  | .and => aluLogic (a &&& b)
  | .or => aluLogic (a ||| b)
  | .xor => aluLogic (a ^^^ b)
  | .andn => aluLogic (a &&& ~~~b)
  | .shift k => aluShift k a (b.toNat % 64)
  | .adds => aluClamp (a.toInt + b.toInt) (-2147483648) 2147483647
  | .subs => aluClamp (a.toInt - b.toInt) (-2147483648) 2147483647
  | .addus => aluClamp (Int.ofNat a.toNat + Int.ofNat b.toNat) 0 4294967295
  | .subus => aluClamp (Int.ofNat a.toNat - Int.ofNat b.toNat) 0 4294967295
  | .mulu => aluProduct (a.zeroExtend 64 * b.zeroExtend 64)
  | .muls => aluProduct (a.signExtend 64 * b.signExtend 64)
  | .divu => aluDivide false a b
  | .divs => aluDivide true a b
  | .cmp => { aluSub a b 0 with lo := none }
  | .tst => { aluLogic (a &&& b) with lo := none }
  | .mov => { lo := some a }
  | .not => aluLogic (~~~a)
  | .neg => aluSub 0 a 0
  | .crcEthernet n => { lo := some (BitVec.ofNat 32 (crc32 a.toNat (wordBytes n b))) }
  | .crcCastagnoli n => { lo := some (BitVec.ofNat 32 (crc32c a.toNat (wordBytes n b))) }
  | .crcCcitt n => { lo := some (BitVec.ofNat 32 (crc16 (a.toNat % 65536) (wordBytes n b))) }
  | .ocadd => { lo := some (onesSum a b) }
  | .bswap => { lo := some (BitVec.ofNat 32 (beNat (wordBytes 4 a))) }
  | .bswap16 => { lo := some (((a &&& 0x00FF00FF) <<< 8) ||| ((a >>> 8) &&& 0x00FF00FF)) }
  | .clz => { lo := some (BitVec.ofNat 32 (leadingZeros a)) }
  | .berlen => let r := berLength a; { lo := some r.1, hi := some r.2.1, fl := { v := some r.2.2 } }

/-- Extract a bit field (R306). -/
def fieldExtract (a : Word) (pos len : Nat) (signed : Bool) : Word :=
  let v := a.toNat / 2 ^ pos % 2 ^ len
  if signed then BitVec.ofInt 32 (toSigned len v) else BitVec.ofNat 32 v

/-- Insert a bit field (R306). -/
def fieldInsert (d a : Word) (pos len : Nat) : Word := BitVec.ofNat 32 (setBits d.toNat pos len a.toNat)

end Sys2Proof.Machine
end

