-- ==== Sys2Proof/Machine/Operands.lean ====
section
/-! DEFINITION. The engine's instruction words (R296, R297, R301, R303–R311): every operand format, long and short, the undefined and
the reserved-nonzero words, and the row of the command table that a word belongs to. -/

namespace Sys2Proof.Machine

/-- The rows of the command table that an engine's word belongs to. -/
inductive EngRow where
  | pair | undefinedWord | fetchFault
  | add | addc | sub | subb | and | or | xor | andn | shl | shr | sar | rol | ror | adds | subs | addus | subus
  | mulu | muls | divu | divs | cmp | tst | addi | andi | ori | xori | shi | cmpi | movl | movh | bfx | bfi
  | crc32 | crc32c | crc16 | ocadd | bswap | bswap16 | clz | berlen | mov | not | neg
  | ldb | ldbs | ldh | ldhs | ldw | ldd | stb | sth | stw | std | ldi | ioIn | ioOut | br | call | jr
  | ret | reti | rft | wfe | safe | trap | brk | gets | puts | push | pop | peek | drop
deriving DecidableEq, Repr

/-- An operation with its operands: registers by number, immediates as words. -/
inductive Op where
  | alu (op : AluOp) (d a b : Nat)
  | aluImm (op : AluOp) (d a : Nat) (imm : Word)
  | move (d : Nat) (imm : Word)
  | moveHigh (d imm : Nat)
  | extract (d a pos len : Nat) (signed : Bool)
  | insert (d a pos len : Nat)
  | load (size : Nat) (signed : Bool) (d a : Nat) (off : Word)
  | store (size : Nat) (d a : Nat) (off : Word)
  | loadInstr (d a : Nat) (off : Word)
  | input (d : Nat) (a : Option Nat) (port : Nat)
  | output (d : Nat) (a : Option Nat) (port : Nat)
  | branch (cond : Nat) (off : Word)
  | call (off : Word)
  | jump (link : Bool) (a : Nat)
  | ret | reti | rft | wfe | safe
  | trap (n : Nat)
  | brk
  | gets (d sel : Nat)
  | puts (a sel : Nat)
  | push (a : Nat)
  | pop (d : Nat)
  | peek (d k : Nat)
  | drop
deriving DecidableEq, Repr

/-- A signed field of `w` bits as a word. -/
def signedWord (w v : Nat) : Word := BitVec.ofInt 32 (toSigned w v)

/-- A branch offset in words as a byte offset. -/
def branchOff (w v : Nat) : Word := BitVec.ofInt 32 (4 * toSigned w v)

/-- A decoded operation: its row, whether a reserved bit is 1, and the operation. Words without one are undefined (R301). -/
structure Decoded where
  row : EngRow
  bad : Bool
  op : Op
deriving DecidableEq, Repr

/-- The register operations of format L-RRR by opcode (R304, R305). -/
def rrrOp : Nat → Option (EngRow × AluOp)
  | 0x01 => some (.add, .add)
  | 0x02 => some (.addc, .addc)
  | 0x03 => some (.sub, .sub)
  | 0x04 => some (.subb, .subb)
  | 0x05 => some (.and, .and)
  | 0x06 => some (.or, .or)
  | 0x07 => some (.xor, .xor)
  | 0x08 => some (.andn, .andn)
  | 0x09 => some (.shl, .shift .shl)
  | 0x0A => some (.shr, .shift .shr)
  | 0x0B => some (.sar, .shift .sar)
  | 0x0C => some (.rol, .shift .rol)
  | 0x0D => some (.ror, .shift .ror)
  | 0x0E => some (.adds, .adds)
  | 0x0F => some (.subs, .subs)
  | 0x10 => some (.addus, .addus)
  | 0x11 => some (.subus, .subus)
  | 0x12 => some (.mulu, .mulu)
  | 0x13 => some (.muls, .muls)
  | 0x14 => some (.divu, .divu)
  | 0x15 => some (.divs, .divs)
  | 0x16 => some (.cmp, .cmp)
  | 0x17 => some (.tst, .tst)
  | _ => none

/-- Whether an operation writes a register pair, so that D[0] is reserved. -/
def AluOp.pairs : AluOp → Bool
  | .mulu => true
  | .muls => true
  | .divu => true
  | .divs => true
  | .berlen => true
  | _ => false

/-- The protocol helpers by FN and W (R307): row, operation, and whether B is used. -/
def helperOp (fn w : Nat) : Option (EngRow × AluOp × Bool) :=
  match fn with
  | 0 => if w = 3 then none else some (.crc32, .crcEthernet (2 ^ w), true)
  | 1 => if w = 3 then none else some (.crc32c, .crcCastagnoli (2 ^ w), true)
  | 2 => if w = 3 then none else some (.crc16, .crcCcitt (2 ^ w), true)
  | 3 => some (.ocadd, .ocadd, true)
  | 4 => some (.bswap, .bswap, false)
  | 5 => some (.bswap16, .bswap16, false)
  | 6 => some (.clz, .clz, false)
  | 7 => some (.berlen, .berlen, false)
  | _ => none

/-- The shift kinds by KIND (R306). -/
def shiftOf : Nat → Option ShiftKind
  | 0 => some .shl
  | 1 => some .shr
  | 2 => some .sar
  | 3 => some .rol
  | 4 => some .ror
  | _ => none

/-- The loads and stores by opcode (R308): row, store, size, signed. -/
def memOp : Nat → Option (EngRow × Bool × Nat × Bool)
  | 0x24 => some (.ldb, false, 1, false)
  | 0x25 => some (.ldbs, false, 1, true)
  | 0x26 => some (.ldh, false, 2, false)
  | 0x27 => some (.ldhs, false, 2, true)
  | 0x28 => some (.ldw, false, 4, false)
  | 0x29 => some (.ldd, false, 8, false)
  | 0x2A => some (.stb, true, 1, false)
  | 0x2B => some (.sth, true, 2, false)
  | 0x2C => some (.stw, true, 4, false)
  | 0x2D => some (.std, true, 8, false)
  | _ => none

/-- SYS (R309, R310). -/
def decodeSys (w : Nat) : Option Decoded :=
  let r := bits w 17 4
  let low := bits w 0 5
  let all := decide (bits w 0 21 ≠ 0)
  let mid := decide (bits w 5 12 ≠ 0)
  match bits w 21 4 with
  | 0 => some ⟨.ret, all, .ret⟩
  | 1 => some ⟨.reti, all, .reti⟩
  | 2 => some ⟨.rft, all, .rft⟩
  | 3 => some ⟨.wfe, all, .wfe⟩
  | 4 => some ⟨.safe, all, .safe⟩
  | 5 => some ⟨.trap, decide (bits w 4 17 ≠ 0), .trap (bits w 0 4)⟩
  | 6 => some ⟨.brk, all, .brk⟩
  | 7 => if low ≤ 7 then some ⟨.gets, mid, .gets r low⟩ else none
  | 8 => if low ≤ 3 then some ⟨.puts, mid, .puts r low⟩ else none
  | 9 => some ⟨.push, decide (bits w 0 17 ≠ 0), .push r⟩
  | 10 => some ⟨.pop, decide (bits w 0 17 ≠ 0), .pop r⟩
  | 11 => some ⟨.peek, mid, .peek r low⟩
  | 12 => some ⟨.drop, all, .drop⟩
  | _ => none

/-- A long operation (R303–R309). -/
def decodeLong (w : Nat) : Option Decoded :=
  let op := bits w 25 6
  let d := bits w 21 4
  let a := bits w 17 4
  let b := bits w 13 4
  let imm := signedWord 17 (bits w 0 17)
  let imm16 := BitVec.ofNat 32 (bits w 0 16)
  match rrrOp op with
  | some (row, f) =>
    let noD := f == .cmp || f == .tst
    some ⟨row, decide (bits w 0 13 ≠ 0) || (noD && d != 0) || (f.pairs && d % 2 == 1), .alu f d a b⟩
  | none =>
  match memOp op with
  | some (row, st, n, s) =>
    some ⟨row, n == 8 && d % 2 == 1, if st then .store n d a imm else .load n s d a imm⟩
  | none =>
  match op with
  | 0x18 => some ⟨.addi, false, .aluImm .add d a imm⟩
  | 0x19 => some ⟨.andi, bit w 16, .aluImm .and d a imm16⟩
  | 0x1A => some ⟨.ori, bit w 16, .aluImm .or d a imm16⟩
  | 0x1B => some ⟨.xori, bit w 16, .aluImm .xor d a imm16⟩
  | 0x1C => (shiftOf (bits w 14 3)).map (fun k =>
      ⟨.shi, decide (bits w 6 8 ≠ 0), .aluImm (.shift k) d a (BitVec.ofNat 32 (bits w 0 6))⟩)
  | 0x1D => some ⟨.cmpi, d != 0, .aluImm .cmp d a imm⟩
  | 0x1E => some ⟨.movl, decide (bits w 16 5 ≠ 0), .move d (signedWord 16 (bits w 0 16))⟩
  | 0x1F => some ⟨.movh, decide (bits w 16 5 ≠ 0), .moveHigh d (bits w 0 16)⟩
  | 0x20 =>
    if bits w 12 5 + bits w 7 5 + 1 ≤ 32 then
      some ⟨.bfx, decide (bits w 0 6 ≠ 0), .extract d a (bits w 12 5) (bits w 7 5 + 1) (bit w 6)⟩
    else none
  | 0x21 =>
    if bits w 12 5 + bits w 7 5 + 1 ≤ 32 then
      some ⟨.bfi, decide (bits w 0 7 ≠ 0), .insert d a (bits w 12 5) (bits w 7 5 + 1)⟩
    else none
  | 0x22 => (helperOp (bits w 9 4) (bits w 7 2)).map (fun (row, f, usesB) =>
      let width := decide (bits w 9 4 ≤ 2)
      ⟨row, decide (bits w 0 7 ≠ 0) || (!width && bits w 7 2 != 0) || (!usesB && b != 0) || (f.pairs && d % 2 == 1), .alu f d a b⟩)
  | 0x23 =>
    let bad := decide (bits w 0 9 ≠ 0) || b != 0
    match bits w 9 4 with
    | 0 => some ⟨.mov, bad, .alu .mov d a 0⟩
    | 1 => some ⟨.not, bad, .alu .not d a 0⟩
    | 2 => some ⟨.neg, bad, .alu .neg d a 0⟩
    | _ => none
  | 0x2E => some ⟨.ldi, false, .loadInstr d a imm⟩
  | 0x30 => some ⟨.ioIn, !bit w 16 && a != 0, .input d (if bit w 16 then some a else none) (bits w 0 16)⟩
  | 0x31 => some ⟨.ioOut, !bit w 16 && a != 0, .output d (if bit w 16 then some a else none) (bits w 0 16)⟩
  | 0x32 => some ⟨.br, false, .branch d (branchOff 21 (bits w 0 21))⟩
  | 0x33 => some ⟨.call, d != 0, .call (branchOff 21 (bits w 0 21))⟩
  | 0x34 => some ⟨.jr, decide (bits w 21 3 ≠ 0) || decide (bits w 0 17 ≠ 0), .jump (bit w 24) a⟩
  | 0x35 => decodeSys w
  | _ => none

/-- The register operations of the short class 0x01–0x0F (R311). -/
def shortAlu : Nat → Option AluOp
  | 0x01 => some .add
  | 0x02 => some .sub
  | 0x03 => some .and
  | 0x04 => some .or
  | 0x05 => some .xor
  | 0x06 => some .andn
  | 0x07 => some (.shift .shl)
  | 0x08 => some (.shift .shr)
  | 0x09 => some (.shift .sar)
  | 0x0A => some .adds
  | 0x0B => some .subs
  | 0x0C => some .mov
  | 0x0D => some .not
  | 0x0E => some .neg
  | 0x0F => some .cmp
  | _ => none

/-- A short operation (R297, R311): whether a reserved bit is 1, and the operation. Slot B holds only the class 0x01–0x0F. -/
def decodeShort (slotB : Bool) (s : Nat) : Option (Bool × Op) :=
  let op := bits s 10 5
  let d := bits s 7 3
  let a := bits s 4 3
  let b := bits s 1 3
  match shortAlu op with
  | some f =>
    let noB := decide (0x0C ≤ op) && decide (op ≤ 0x0E)
    some (bit s 0 || (noB && b != 0) || (op == 0x0F && d != 0), .alu f d a b)
  | none =>
  if slotB then none
  else match op with
  | 0x10 => some (false, .aluImm .add d d (signedWord 7 (bits s 0 7)))
  | 0x11 => some (false, .move d (signedWord 7 (bits s 0 7)))
  | 0x12 => some (bit s 6, .aluImm (.shift .shl) d d (BitVec.ofNat 32 (bits s 0 6)))
  | 0x13 => some (bit s 6, .aluImm (.shift .shr) d d (BitVec.ofNat 32 (bits s 0 6)))
  | 0x14 => some (bit s 6, .aluImm (.shift .sar) d d (BitVec.ofNat 32 (bits s 0 6)))
  | 0x15 => some (false, .load 4 false d a (BitVec.ofNat 32 (4 * bits s 0 4)))
  | 0x16 => some (false, .store 4 d a (BitVec.ofNat 32 (4 * bits s 0 4)))
  | 0x17 => some (false, .load 1 false d a (BitVec.ofNat 32 (bits s 0 4)))
  | 0x18 => some (false, .store 1 d a (BitVec.ofNat 32 (bits s 0 4)))
  | 0x19 => some (false, .branch (bits s 6 4) (branchOff 6 (bits s 0 6)))
  | 0x1A =>
    if bit s 3 then some (decide (bits s 0 3 ≠ 0) || a != 0, .pop d)
    else some (decide (bits s 0 3 ≠ 0) || d != 0, .push a)
  | 0x1B =>
    match b with
    | 0 => some (bit s 0, .alu .clz d a 0)
    | 1 => some (bit s 0, .alu .bswap d a 0)
    | 2 => some (bit s 0, .alu .bswap16 d a 0)
    | _ => none
  | _ => none

/-- What a word is to the engine (R302, checks 3–5): a trap with its cause, a long operation, or a pair. -/
inductive WordKind where
  | trap (row : EngRow) (cause : Nat)
  | long (row : EngRow) (op : Op)
  | pair (a b : Op)
deriving DecidableEq, Repr

/-- Decode a word. -/
def decodeWord (w : Nat) : WordKind :=
  if !bit w 31 then
    match decodeLong w with
    | none => .trap .undefinedWord 0x01
    | some x => if x.bad then .trap x.row 0x02 else .long x.row x.op
  else
    match decodeShort false (bits w 15 15) with
    | none => .trap .undefinedWord 0x01
    | some (badA, a) =>
      if badA || bit w 30 then .trap .pair 0x02
      else match decodeShort true (bits w 0 15) with
        | none => .trap .undefinedWord 0x41
        | some (badB, b) => if badB then .trap .pair 0x42 else .pair a b

/-- The row of the command table that a word belongs to. -/
def WordKind.row : WordKind → EngRow
  | .trap r _ => r
  | .long r _ => r
  | .pair _ _ => .pair

end Sys2Proof.Machine
end

