-- ==== Sys2Proof/Machine/EngStep.lean ====
section
/-! DEFINITION. An engine executes one instruction word (R276–R280, R283–R286, R296–R319, R323, R325): the fetch and its checks, the
data space, the I/O ports, each operation, and the word's effect as a whole. -/

namespace Sys2Proof.Machine

/-! ### The data space -/

/-- What a data access comes to: the bytes read, or the cause of a trap. -/
inductive DataRes where
  | ok (l : List Byte)
  | trap (cause : Nat)
deriving DecidableEq, Repr

/-- The rights bit of a BAR0 offset for an engine (R280); reserved ranges between the blocks have none. -/
def rightsBit (e off : Nat) : Option Nat :=
  if off < 0x70000 then some (off / 0x10000)
  else if off < 0x80000 then none
  else if off < 0x100000 then some 7
  else if off < 0x800000 then some (off / 0x100000 + 7)
  else if off < 0x1000000 then some (if (off - 0x800000) / 0x100000 = e / 8 then 15 else 16)
  else none

/-- Whether an engine may access an offset of the device map (R280). -/
def Dev.mapRight (d : Dev) (e : Nat) (write : Bool) (off : Nat) : Option Bool :=
  (rightsBit e off).map (fun b => bit (d.rd (if write then ENG_RIGHTS_W_REGIONS e else ENG_RIGHTS_R_REGIONS e)) b)

/-- Whether an offset lies in an engine's own active instruction memory, which it can never write (R277). -/
def ownActive (e off : Nat) : Bool :=
  match winAt off with
  | some (.active k _) => k == e
  | _ => false

/-- Whether the register at an offset denies an engine's access (R302: the access is judged before the alignment). -/
def Dev.mapDenies (d : Dev) (e off : Nat) (write : Bool) : Bool :=
  match (if write then d.busWrite (.engine e) off 0 else d.busRead (.engine e) off).2 with
  | .trap _ => true
  | _ => false

/-- An access of an engine to the device map (R278, R280, R524). -/
def Dev.mapAccess (d : Dev) (e size off : Nat) (write : Option (List Byte)) : Dev × DataRes :=
  if size ≠ 4 ∨ offReserved off = true ∨ 0x1000000 ≤ off then (d, .trap 0x07)
  else if d.mapRight e write.isSome off = some true then
    if write.isSome ∧ ownActive e off = true then (d, .trap 0x07)
    else if off % 4 ≠ 0 then (d, .trap (if d.mapDenies e (off / 4 * 4) write.isSome then 0x07 else 0x09))
    else
      let r := match write with
        | some l => d.busWrite (.engine e) off (leNat l)
        | none => d.busRead (.engine e) off
      match r.2 with
      | .trap c => (r.1, .trap c)
      | x => (r.1, .ok (toLe 4 x.val))
  else (d.postEvent 0x0406 (0x040 + e) off, .trap 0x07)

/-- An access of an engine to its data memory. -/
def Dev.dmAccess (d : Dev) (e size a : Nat) (write : Option (List Byte)) : Dev × DataRes :=
  match write with
  | some l => let r := d.localPut e .dm a l; (r.1, if r.2 then .ok [] else .trap 0x0B)
  | none =>
    let r := d.localWord e .dm a
    match r.2 with
    | some v => (r.1, .ok (((toLe 4 v.toNat).drop (a % 4)).take size))
    | none => (r.1, .trap 0x0B)

/-- What an engine's access of the shared memory comes to (R328, R334): a posted store that meets an uncorrectable error raises no
trap. -/
def MemRes.forEngine (r : MemRes) (write : Bool) : DataRes :=
  match r with
  | .ok l => .ok l
  | .bus => .trap 0x0A
  | .ecc => if write then .ok [] else .trap 0x0B

/-- A data access of an engine at a 32-bit address (R278, R308, R316): the region and size, then the alignment, then the access. -/
def Dev.dataAccess (d : Dev) (e size : Nat) (a : Word) (write : Option (List Byte)) : Dev × DataRes :=
  let n := a.toNat
  if n < 0x8000 then
    if size = 8 then (d, .trap 0x07) else if n % size ≠ 0 then (d, .trap 0x09) else d.dmAccess e size n write
  else if 0x10000000 ≤ n ∧ n < 0x11000000 then
    if n % size ≠ 0 then (d, .trap 0x09)
    else
      let r := d.memAccess (.engine e) (n - 0x10000000) write size
      (r.1, r.2.forEngine write.isSome)
  else if 0x80000000 ≤ n ∧ n < 0x84000000 then d.mapAccess e size (n - 0x80000000) write
  else (d, .trap 0x07)

/-! ### I/O ports (R279) -/

/-- The ports, as R279 lists them. -/
inductive IoPort where
  | number
  | cycles (hi : Bool)
  | faultAddr
  | time (k w : Nat)
  | compare (k w : Nat)
  | ingress (i : Nat) (hi : Bool)
  | rxRel (i : Nat)
  | egress (j w : Nat)
  | doorbell (n : Nat)
  | lock (n : Nat)
  | mailbox (m w : Nat)
  | pop (q : Nat) (hi : Bool)
  | push (q : Nat) (hi : Bool)
  | seqIn (q : Nat)
  | seqOut (q : Nat) (hi : Bool)
deriving DecidableEq, Repr

/-- The port of a port number; none where it is reserved. -/
def ioPortOf (p : Nat) : Option IoPort :=
  if p = 0 then some .number
  else if p = 1 then some (.cycles false)
  else if p = 2 then some (.cycles true)
  else if p = 3 then some .faultAddr
  else if 0x100 ≤ p ∧ p < 0x10F then some (.time ((p - 0x100) / 3) ((p - 0x100) % 3))
  else if 0x200 ≤ p ∧ p < 0x220 ∧ p % 8 < 6 then some (.compare ((p - 0x200) / 8) (p % 8))
  else if 0x300 ≤ p ∧ p < 0x304 then some (.ingress ((p - 0x300) / 2) (p % 2 == 1))
  else if 0x304 ≤ p ∧ p < 0x306 then some (.rxRel (p - 0x304))
  else if 0x320 ≤ p ∧ p < 0x330 ∧ p % 8 < 6 then some (.egress ((p - 0x320) / 8) (p % 8))
  else if 0x400 ≤ p ∧ p < 0x600 then some (.doorbell (p - 0x400))
  else if 0x600 ≤ p ∧ p < 0x640 then some (.lock (p - 0x600))
  else if 0x800 ≤ p ∧ p < 0x1000 then some (.mailbox ((p - 0x800) / 8) (p % 8))
  else if 0x1000 ≤ p ∧ p < 0x1800 then some (.pop ((p - 0x1000) / 2) (p % 2 == 1))
  else if 0x1800 ≤ p ∧ p < 0x2000 then some (.push ((p - 0x1800) / 2) (p % 2 == 1))
  else if 0x2000 ≤ p ∧ p < 0x2020 then
    match p % 4 with
    | 0 => some (.seqIn ((p - 0x2000) / 4))
    | 1 => none
    | 2 => some (.seqOut ((p - 0x2000) / 4) false)
    | _ => some (.seqOut ((p - 0x2000) / 4) true)
  else none

/-- The offset of a word of a timer compare of an engine's depot. -/
def compareOff (e k w : Nat) : Nat := 0x800100 + 0x100000 * (e / 8) + 0x20 * k + 4 * w

/-- Latch a word in an engine's I/O ports, by the port that reads it. -/
def Dev.ioLatch (d : Dev) (e port v : Nat) : Dev := d.modEng e (fun x => { x with latch := tput x.latch port (v % 2 ^ 32) })

/-- The word latched for a port. -/
def Dev.ioLatched (d : Dev) (e port : Nat) : Nat := tgetD (d.eng e).latch port 0

/-- The last I/O port of an engine and its direction (R291). -/
def Dev.ioNote (d : Dev) (e port : Nat) (out : Bool) : Dev := d.modEng e (fun x => { x with ioPort := port, ioOut := out })

/-- A two-word read: the low word of a value is answered, its high word latched for the next port. -/
def ioPair (e port : Nat) (r : Dev × Nat) : Dev × IoRes :=
  (r.1.ioLatch e (port + 1) (r.2 / 2 ^ 32), .done (r.2 % 2 ^ 32))

/-- A FIFO port of a sequencer whose group is gated reads 0 and ignores writes, as a register of it does (R453). -/
def Dev.seqPort (d : Dev) (q off : Nat) (f : Dev → Dev × IoRes) : Dev × IoRes :=
  if bit (d.rd SUP_CGATE_GATE) (4 + q / 4) then (d.gatedAccess off, .done 0) else f d

/-- IN (R279). A port that is not listed, or is listed for OUT alone, is an access violation. -/
def Dev.ioRead (d : Dev) (e port : Nat) : Dev × IoRes :=
  match ioPortOf port with
  | some .number => (d, .done e)
  | some (.cycles false) => ioPair e port (d, d.rd (ENG_CYC_CNT e))
  | some (.cycles true) => (d, .done (d.ioLatched e port))
  | some .faultAddr => (d, .done (d.eng e).addr.toNat)
  | some (.time k 0) =>
    let t := ts96 (d.domTime (if k = 0 then 4 else k - 1))
    ((d.ioLatch e (port + 1) (t / 2 ^ 32)).ioLatch e (port + 2) (t / 2 ^ 64), .done (t % 2 ^ 32))
  | some (.time _ _) => (d, .done (d.ioLatched e port))
  | some (.compare k w) => d.busRead (.engine e) (compareOff e k w)
  | some (.ingress i false) => ioPair e port (d.rxPop (e / 8) i)
  | some (.ingress _ true) => (d, .done (d.ioLatched e port))
  | some (.lock n) => let r := d.lockAcquire (.engine e) n; (r.1, .done r.2)
  | some (.mailbox m w) => d.mbRead (.engine e) m w
  | some (.pop q false) =>
    let r := d.queuePopBy (.engine e) q
    match r.2 with
    | .done v => ioPair e port (r.1, v)
    | x => (r.1, x)
  | some (.pop q true) => if d.queueRight q false (.engine e) then (d, .done (d.ioLatched e port)) else (d, .trap 0x07)
  | some (.seqOut q hi) => d.seqPort q ((⟨row_PIN_SEQ_RXF, [q / 4, q % 4], 0⟩ : RegAt).off + 4 * b01 hi) (fun d =>
      if hi then (d, .done (d.ioLatched e port)) else ioPair e port (d.rxfRead q))
  | _ => (d, .trap 0x07)

/-- A write of an egress queue's staging word; the last one pushes the descriptor (R272). -/
def Dev.egressWrite (d : Dev) (e j w v : Nat) : Dev × IoRes :=
  let old := (d.eng e).stage
  let words := (List.range 5).map (fun i => tgetD old (8 * j + i) 0) ++ [v]
  if w = 5 then
    let r := d.txPush (e / 8) j words
    if r.2 then (r.1.modEng e (fun x => { x with stage := tput x.stage (8 * j + 5) v }), .done 0) else (d, .refused)
  else (d.modEng e (fun x => { x with stage := tput x.stage (8 * j + w) v }), .done 0)

/-- OUT (R279). -/
def Dev.ioWrite (d : Dev) (e port v : Nat) : Dev × IoRes :=
  match ioPortOf port with
  | some (.compare k w) => d.busWrite (.engine e) (compareOff e k w) v
  | some (.rxRel i) => let r := d.rxRelease (e / 8) i v; (r.1, if r.2 then .done 0 else .refused)
  | some (.egress j w) => d.egressWrite e j w v
  | some (.doorbell n) => (d.ring n, .done 0)
  | some (.lock n) => d.lockRelease (.engine e) n
  | some (.mailbox m w) => d.mbWrite (.engine e) m w v
  | some (.push q true) =>
    if d.queueRight q true (.engine e) then (d.ioLatch e port v, .done 0) else (d, .trap 0x07)
  | some (.push q false) =>
    let r := d.queuePushBy (.engine e) q (d.ioLatched e (port + 1) * 2 ^ 32 + v)
    match r.2 with
    | .done x => (r.1.ioLatch e (port + 1) 0, .done x)
    | x => (r.1, x)
  | some (.seqIn q) => d.seqPort q (⟨row_PIN_SEQ_TXF, [q / 4, q % 4], 0⟩ : RegAt).off (fun d =>
      let r := d.txfWrite q v; (r.1, if r.2 then .done 0 else .refused))
  | _ => (d, .trap 0x07)

/-! ### Operations -/

/-- What follows a word: nothing, sleep (WFE), or a swap point (SAFE). -/
inductive After where
  | none
  | wfe
  | safe
deriving DecidableEq, Repr

/-- What an operation comes to: the device after its effects on memory, ports and stacks; the cause of its trap; the address of a
data access that traps; the registers and flags it writes at the end of the word; its branch target; and what follows. -/
structure OpRes where
  dev : Dev
  trap : Option Nat := none
  addr : Option Word := none
  regs : List (Nat × Word) := []
  fl : FlagUpd := {}
  target : Option Word := none
  after : After := .none

/-- A register operation's answer. -/
def aluRes (d : Dev) (dst : Nat) (r : AluOut) : OpRes :=
  { dev := d, fl := r.fl
    regs := (match r.lo with | some v => [(dst, v)] | none => []) ++ (match r.hi with | some v => [(dst + 1, v)] | none => []) }

/-- Whether a division traps (R312). -/
def AluOp.divTraps (op : AluOp) (b : Word) (f : Flags) : Bool := (op == .divu || op == .divs) && b == 0 && f.dzt

/-- The word that a load writes, from the bytes read. -/
def loadValue (size : Nat) (signed : Bool) (l : List Byte) : Word :=
  if signed then BitVec.ofInt 32 (toSigned (8 * size) (leNat l)) else BitVec.ofNat 32 (leNat l)

/-- LDI (R317). -/
def Dev.opLoadInstr (d : Dev) (e dst : Nat) (a : Word) : OpRes :=
  if 0x7FFC < a.toNat then { dev := d, trap := some 0x07 }
  else if a.toNat % 4 ≠ 0 then { dev := d, trap := some 0x09 }
  else
    let r := d.localWord e .im a.toNat
    match r.2 with
    | some v => { dev := r.1, regs := [(dst, v)] }
    | none => { dev := r.1, trap := some 0x0B }

/-- The effect of an operation of engine `e` whose state before the word is `x`, at address `pc` (R305–R311, R318, R319). -/
def Dev.opRun (d : Dev) (e : Nat) (x : Eng) (pc : Word) (op : Op) : OpRes :=
  let r (n : Nat) : Word := x.reg n
  let fault (c : Nat) : OpRes := { dev := d, trap := some c }
  match op with
  | .alu f dst a b =>
    if f.divTraps (r b) x.fl then fault 0x08 else aluRes d dst (f.run (r a) (r b) x.fl)
  | .aluImm f dst a imm => aluRes d dst (f.run (r a) imm x.fl)
  | .move dst imm => { dev := d, regs := [(dst, imm)] }
  | .moveHigh dst imm => { dev := d, regs := [(dst, BitVec.ofNat 32 (setBits (r dst).toNat 16 16 imm))] }
  | .extract dst a pos len s => { dev := d, regs := [(dst, fieldExtract (r a) pos len s)] }
  | .insert dst a pos len => { dev := d, regs := [(dst, fieldInsert (r dst) (r a) pos len)] }
  | .load size s dst a off =>
    let q := d.dataAccess e size (r a + off) none
    match q.2 with
    | .trap c => { dev := q.1, trap := some c, addr := some (r a + off) }
    | .ok l =>
      if size = 8 then { dev := q.1, regs := [(dst, loadValue 4 false (l.take 4)), (dst + 1, loadValue 4 false (l.drop 4))] }
      else { dev := q.1, regs := [(dst, loadValue size s l)] }
  | .store size src a off =>
    let v := (r src).toNat + (if size = 8 then (r (src + 1)).toNat * 2 ^ 32 else 0)
    let q := d.dataAccess e size (r a + off) (some (toLe size v))
    match q.2 with
    | .trap c => { dev := q.1, trap := some c, addr := some (r a + off) }
    | .ok _ => { dev := q.1 }
  | .loadInstr dst a off => d.opLoadInstr e dst (r a + off)
  | .input dst a port =>
    let p := (port + (a.map (fun n => (r n).toNat)).getD 0) % 65536
    let q := (d.ioNote e p false).ioRead e p
    match q.2 with
    | .trap c => { dev := q.1, trap := some c }
    | v => { dev := q.1, regs := [(dst, BitVec.ofNat 32 v.val)] }
  | .output src a port =>
    let p := (port + (a.map (fun n => (r n).toNat)).getD 0) % 65536
    let q := (d.ioNote e p true).ioWrite e p (r src).toNat
    match q.2 with
    | .trap c => { dev := q.1, trap := some c }
    | .done _ => { dev := q.1 }
    | _ => { dev := q.1.modEng e (fun y => { y with fl := { y.fl with ioe := true } }) }
  | .branch cond off => { dev := d, target := if x.fl.cond cond then some (pc + off) else none }
  | .call off =>
    if x.rsd = 32 then fault 0x05
    else { dev := d.modEng e (fun y => y.pushR (pc + 4)), target := some (pc + off) }
  | .jump link a =>
    if link && x.rsd == 32 then fault 0x05
    else { dev := d.when link (fun d => d.modEng e (fun y => y.pushR (pc + 4))), target := some (r a) }
  | .ret =>
    if x.rsd = 0 then fault 0x06
    else { dev := d.modEng e (fun y => { y with rsd := y.rsd - 1 }), target := some x.topR }
  | .reti =>
    if x.rsd = 0 then fault 0x06
    else if x.dsd = 0 then fault 0x04
    else
      let ins := d.rd (ENG_IRQ_INSVC e)
      let low := (List.range 8).find? (fun l => bit ins l)
      let d := match low with
        | some l => d.wr (ENG_IRQ_INSVC e) (setBits ins l 1 0)
        | none => d
      { dev := d.modEng e (fun y => { y with rsd := y.rsd - 1, dsd := y.dsd - 1, fl := Flags.of (x.topD 0).toNat })
        target := some x.topR }
  | .rft => { dev := d.clr (ENG_STAT_TACT e), target := some x.tpc }
  | .wfe => { dev := d, after := .wfe }
  | .safe => { dev := d, after := .safe }
  | .trap n => fault (0x10 + n)
  | .brk => fault 0x0C
  | .gets dst sel =>
    match sel with
    | 0 => { dev := d, regs := [(dst, BitVec.ofNat 32 x.fl.val)] }
    | 1 => { dev := d, regs := [(dst, x.tpc)] }
    | 2 => { dev := d, regs := [(dst, x.tiw)] }
    | 3 => { dev := d, regs := [(dst, BitVec.ofNat 32 x.tcause)] }
    | 4 => { dev := d, regs := [(dst, BitVec.ofNat 32 x.dsd)] }
    | 5 => { dev := d, regs := [(dst, BitVec.ofNat 32 x.rsd)] }
    | 6 => { dev := d, regs := [(dst, pc)] }
    | _ => if x.rsd = 0 then fault 0x06 else { dev := d, regs := [(dst, x.topR)] }
  | .puts a sel =>
    let v := r a
    { dev := d.modEng e (fun y => match sel with
        | 0 => { y with fl := Flags.of v.toNat }
        | 1 => { y with tpc := BitVec.ofNat 32 (v.toNat / 4 * 4) }
        | 2 => { y with tiw := v }
        | _ => { y with tcause := v.toNat % 256 }) }
  | .push a => if x.dsd = 32 then fault 0x03 else { dev := d.modEng e (fun y => y.pushD (r a)) }
  | .pop dst =>
    if x.dsd = 0 then fault 0x04
    else { dev := d.modEng e (fun y => { y with dsd := y.dsd - 1 }), regs := [(dst, x.topD 0)] }
  | .peek dst k => if x.dsd ≤ k then fault 0x04 else { dev := d, regs := [(dst, x.topD k)] }
  | .drop => if x.dsd = 0 then fault 0x04 else { dev := d.modEng e (fun y => { y with dsd := y.dsd - 1 }) }

/-! ### The word -/

/-- What a fetch comes to: a breakpoint at a word (unreadable words give none), a fault with its cause, or the word. -/
inductive Fetch where
  | brk (word : Option Word)
  | fault (cause : Nat)
  | word (w : Word)
deriving DecidableEq, Repr

/-- Whether a breakpoint is enabled at an address (R292). -/
def Dev.breakAt (d : Dev) (e : Nat) (pc : Word) : Bool :=
  (List.range 4).any (fun k => d.on (ENG_BPk_EN e k) && decide (4 * d.rd (ENG_BPk_ADDR e k) = pc.toNat))

/-- The fetch of the word at an engine's PC, with its checks in their order (R302). -/
def Dev.engFetch (d : Dev) (e : Nat) : Dev × Fetch :=
  let pc := (d.eng e).pc
  let a := pc.toNat
  let readable := decide (a ≤ 0x7FFC) && a % 4 == 0
  if d.breakAt e pc then (d, .brk (if readable && (d.eng e).eccOf .im (a / 4) < 2 then (d.localWord e .im a).2 else none))
  else if 0x7FFC < a then (d, .fault 0x07)
  else if a % 4 ≠ 0 then (d, .fault 0x09)
  else
    let r := d.localWord e .im a
    match r.2 with
    | some v => (r.1, .word v)
    | none => (r.1, .fault 0x0B)

/-- The row of the command table that what an engine would execute next belongs to. -/
def Fetch.row : Fetch → EngRow
  | .brk (some w) => if bit w.toNat 31 then .pair else .fetchFault
  | .brk none => .fetchFault
  | .fault _ => .fetchFault
  | .word w => (decodeWord w.toNat).row

/-- A word traps: the engine's own state is as it was before the word, but for the address that port 0x0003 holds. -/
def Dev.wordTraps (d : Dev) (e : Nat) (x : Eng) (pc w : Word) (cause : Nat) (addr : Option Word) : Dev :=
  (d.setEng e { x with addr := addr.getD x.addr, ioPort := (d.eng e).ioPort, ioOut := (d.eng e).ioOut }).engTrap e pc w cause

/-- What follows a word that has completed (R283, R286). -/
def Dev.wordAfter (d : Dev) (e : Nat) (a : After) : Dev :=
  match a with
  | .none => d
  | .wfe =>
    if d.engState e ≠ engRunning ∨ d.wakePending e = true then d
    else (d.wr (ENG_STAT_STATE e) engSleeping).swapPoint e true
  | .safe => if d.on (ENG_STAT_TACT e) || d.engState e != engRunning then d else d.swapPoint e false

/-- The effect of a word: its operations on the state before it, slot B's results kept where both write (R298), a taken branch, and
what follows it; or its trap. PC goes on before the operation, so that what the word itself does to its engine comes after. -/
def Dev.wordRun (d : Dev) (e : Nat) (pc w : Word) (a : Op) (b : Option Op) : Dev :=
  let x := d.eng e
  let ra := (d.modEng e (fun y => { y with pc := pc + 4 })).opRun e x pc a
  match ra.trap with
  | some c => ra.dev.wordTraps e x pc w c ra.addr
  | none =>
    let rb : OpRes := match b with
      | some op => ra.dev.opRun e x pc op
      | none => { dev := ra.dev }
    let d := rb.dev.modEng e (fun y =>
      { (ra.regs ++ rb.regs).foldl (fun y p => y.setReg p.1 p.2) y with fl := y.fl.upd (ra.fl.merge rb.fl) })
    let d := match ra.target with
      | some t => d.modEng e (fun y => { y with pc := t })
      | none => d
    d.wordAfter e ra.after

/-- An engine executes what its PC names: the word, its trap, or the fault of its fetch. -/
def Dev.wordStep (d : Dev) (e : Nat) : Dev :=
  let r := d.engFetch e
  let d := r.1
  let x := d.eng e
  match r.2 with
  | .fault c => d.engTrap e x.pc 0 c
  | .brk v =>
    if d.on (ENG_DBG_BKHALT e) then d.engHalt e
    else match v with
      | some w => d.engTrap e x.pc w 0x0C
      | none => let q := d.takeFree; q.2.engTrap e x.pc (BitVec.ofNat 32 q.1) 0x0C
  | .word w =>
    match decodeWord w.toNat with
    | .trap _ c => d.engTrap e x.pc w c
    | .long _ op => d.wordRun e x.pc w op none
    | .pair a b => d.wordRun e x.pc w a (some b)

/-- Whether an engine is to execute a word now: it runs and no interrupt line is to be taken first (R282), or it is to STEP. -/
def Dev.engReady (d : Dev) (e : Nat) : Bool :=
  (d.engState e == engRunning && (d.lineToTake e).isNone) || (d.engState e == engHalted && (d.eng e).stepping)

/-- An engine executes one word, and after a STEP it is halted (R292). -/
def Dev.engWord (d : Dev) (e : Nat) : Dev :=
  let stepping := (d.eng e).stepping
  (d.wordStep e).when stepping (fun d => d.engHalt e)

/-- An engine executes one word, where it is to execute one now and the word belongs to a row of the command table. -/
def Dev.engExec (d : Dev) (e : Nat) (row : EngRow) : Dev :=
  if d.engReady e && (d.engFetch e).2.row == row then d.engWord e else d

end Sys2Proof.Machine
end

