-- ==== Sys2Proof/Machine/CmdDepot.lean ====
section
/-! DEFINITION. The commands of the depots, and those of the engines that are no instruction (spec/10). -/

namespace Sys2Proof.Machine

/-! ### Power -/

/-- DEPOT_POWER_ON (R268): a write of `DEP_CTRL` with PWRON = 1. -/
def execDepotPowerOn (m : Master) (n : Nat) (v : BitVec 32) (s : State) : Host.Outcome State Fault Refusal :=
  s.busW (decide (n < 8)) m (0x800000 + 0x100000 * n) (withField v 0 1 1)

/-- DEPOT_WAKE_DONE (R268). -/
def execDepotWakeDone (n : Nat) (s : State) : Host.Outcome State Fault Refusal := s.core (decide (n < 8)) (fun d => d.depotWakeDone n)

/-- DEPOT_POWER_OFF (R268): a write of `DEP_CTRL` with PWRON = 0. -/
def execDepotPowerOff (m : Master) (n : Nat) (v : BitVec 32) (s : State) : Host.Outcome State Fault Refusal :=
  s.busW (decide (n < 8)) m (0x800000 + 0x100000 * n) (withField v 0 1 0)

/-- DEPOT_OFF_DONE (R268). -/
def execDepotOffDone (n : Nat) (s : State) : Host.Outcome State Fault Refusal := s.core (decide (n < 8)) (fun d => d.depotOffDone n)

/-! ### Receive rings and egress queues, through the ports of an engine (R279) -/

/-- An access of an engine that a command names, and not a word of its program, traps (R284): at its PC, the word left open. -/
def Dev.engAccessTrap (d : Dev) (e cause : Nat) : Dev :=
  let q := d.takeFree
  q.2.engTrap e (q.2.eng e).pc (BitVec.ofNat 32 q.1) cause

/-- What an engine's OUT does at a port; a refused one sets FL.IOE (R279), and one it may not do traps. It is the last I/O port
of the engine's report (R291). -/
def Dev.engOut (d : Dev) (e port v : Nat) : Dev :=
  if d.depotOn (e / 8) then
    let r := d.ioWrite e port v
    let d := r.1.ioNote e port true
    match r.2 with
    | .done _ => d
    | .trap c => d.engAccessTrap e c
    | _ => d.modEng e (fun x => { x with fl := { x.fl with ioe := true } })
  else d

/-- What an engine's IN does at a port, and the value it gets; one it may not do traps. -/
def Dev.engIn (d : Dev) (e port : Nat) : Dev :=
  if d.depotOn (e / 8) then
    let r := d.ioRead e port
    let d := r.1.ioNote e port false
    match r.2 with
    | .trap c => d.engAccessTrap e c
    | v => d.emit (.read (0x040 + e) v.val)
  else d

/-- A write that an engine makes at a port, and any other master at a register. -/
def Dev.portPut (d : Dev) (m : Master) (port off v : Nat) : Dev :=
  match m with
  | .engine e => d.engOut e port v
  | _ => d.put32 m off v

/-- A read that an engine makes at a port, and any other master at a register. -/
def Dev.portGet (d : Dev) (m : Master) (port off : Nat) : Dev :=
  match m with
  | .engine e => d.engIn e port
  | _ => d.get32 m off

/-- RX_RELEASE (R271): an engine's OUT to the RXREL port of ingress queue `i`. -/
def execRxRelease (e i : Nat) (v : BitVec 32) (s : State) : Host.Outcome State Fault Refusal :=
  s.core (decide (e < 64) && decide (i < 2)) (fun d => d.engOut e (0x304 + i) v.toNat)

/-- INGRESS_POP (R270, R279): an engine's IN from the low word of ingress queue `i`. -/
def execIngressPop (e i : Nat) (s : State) : Host.Outcome State Fault Refusal :=
  s.core (decide (e < 64) && decide (i < 2)) (fun d => d.engIn e (0x300 + 2 * i))

/-- EGRESS_STAGE (R272): an engine's OUT to staging word 0–4 of egress queue `j`. -/
def execEgressStage (e j w : Nat) (v : BitVec 32) (s : State) : Host.Outcome State Fault Refusal :=
  s.core (decide (e < 64) && decide (j < 2) && decide (w < 5)) (fun d => d.engOut e (0x320 + 8 * j + w) v.toNat)

/-- EGRESS_PUSH (R272): an engine's OUT to staging word 5 of egress queue `j`. -/
def execEgressPush (e j : Nat) (v : BitVec 32) (s : State) : Host.Outcome State Fault Refusal :=
  s.core (decide (e < 64) && decide (j < 2)) (fun d => d.engOut e (0x325 + 8 * j) v.toNat)

/-- FRAME_INTERFACE_FETCH (R273). -/
def execFrameInterfaceFetch (n : Nat) (s : State) : Host.Outcome State Fault Refusal := s.core (decide (n < 8)) (fun d => d.frameFetch n)

/-- COPY_COMPLETE (R273). -/
def execCopyComplete (n : Nat) (s : State) : Host.Outcome State Fault Refusal := s.core (decide (n < 8)) (fun d => d.copyComplete n)

/-- TIMER_COMPARE_FIRE (R275). -/
def execTimerCompareFire (n k : Nat) (s : State) : Host.Outcome State Fault Refusal :=
  s.core (decide (n < 8) && decide (k < 4)) (fun d => d.compareFire n k)

/-! ### Interrupts, swaps, run control -/

/-- INTERRUPT_ENTRY (R282). -/
def execInterruptEntry (e : Nat) (s : State) : Host.Outcome State Fault Refusal := s.core (decide (e < 64)) (fun d => d.interruptEntry e)

/-- WFE_WAKE (R283). -/
def execWfeWake (e : Nat) (s : State) : Host.Outcome State Fault Refusal := s.core (decide (e < 64)) (fun d => d.wfeWake e)

/-- SWAP_REQUEST (R286): a write of `ENG_SWAP` with REQ = 1. -/
def execSwapRequest (m : Master) (e : Nat) (v : BitVec 32) (s : State) : Host.Outcome State Fault Refusal :=
  s.busW (decide (e < 64)) m (engBase e + 0x50) (withField v 0 1 1)

/-- SWAP_CANCEL (R288): a write of `ENG_SWAP` with CANCEL = 1. -/
def execSwapCancel (m : Master) (e : Nat) (v : BitVec 32) (s : State) : Host.Outcome State Fault Refusal :=
  s.busW (decide (e < 64)) m (engBase e + 0x50) (withField v 1 1 1)

/-- Whether `DEP_SWTMO` has passed since a request of a swap (R288); 0 is no limit. -/
def Dev.swapOverdue (d : Dev) (n since : Nat) : Bool :=
  d.rd (DEP_SWTMO_SWTMO n) != 0 && decide (since + d.rd (DEP_SWTMO_SWTMO n) * (1000 * 65536) ≤ d.tb.lt)

/-- A swap that has been pending for `DEP_SWTMO` ends (R288). -/
def Dev.swapTimeout (d : Dev) : SwapTarget → Dev
  | .engine e => if d.swapOverdue (e / 8) (d.eng e).swapAt then d.swapFail e true else d
  | .depot n => if d.swapOverdue n (d.depot n).swapAt then d.depotSwapFail n true else d

/-- SWAP_TIMEOUT (R288). -/
def execSwapTimeout (t : SwapTarget) (s : State) : Host.Outcome State Fault Refusal := s.core t.ok (fun d => d.swapTimeout t)

/-- DEPOT_SWAP_GO (R287): a write of `DEP_SWAP` with GO = 1. -/
def execDepotSwapGo (m : Master) (n : Nat) (v : BitVec 32) (s : State) : Host.Outcome State Fault Refusal :=
  s.busW (decide (n < 8)) m (0x800008 + 0x100000 * n) (withField v 8 1 1)

/-- DEPOT_SWAP_CANCEL (R288): a write of `DEP_SWAP` with CANCEL = 1. -/
def execDepotSwapCancel (m : Master) (n : Nat) (v : BitVec 32) (s : State) : Host.Outcome State Fault Refusal :=
  s.busW (decide (n < 8)) m (0x800008 + 0x100000 * n) (withField v 9 1 1)

/-- RUN (R291): a write of `ENG_CTRL` with RUN = 1. -/
def execRun (m : Master) (e : Nat) (v : BitVec 32) (s : State) : Host.Outcome State Fault Refusal :=
  s.busW (decide (e < 64)) m (engBase e) (withField v 0 1 1)

/-- HALT (R280, R293): a write of `ENG_CTRL` with HALT = 1. -/
def execHalt (m : Master) (e : Nat) (v : BitVec 32) (s : State) : Host.Outcome State Fault Refusal :=
  s.busW (decide (e < 64)) m (engBase e) (withField v 1 1 1)

/-- STEP (R292): a write of `ENG_CTRL` with STEP = 1, and the word that the engine then executes. -/
def execStep (m : Master) (e : Nat) (v : BitVec 32) (s : State) : Host.Outcome State Fault Refusal :=
  s.core (m.ok && decide (e < 64)) (fun d =>
    let d := d.put32 m (engBase e) (setBits v.toNat 2 1 1)
    d.when (d.engReady e && (d.eng e).stepping) (fun d => d.engWord e))

/-- ENGINE_RESET (R289). -/
def execEngineReset (e : Nat) (s : State) : Host.Outcome State Fault Refusal :=
  s.core (decide (e < 64)) (fun d => d.fnReset (0x040 + e) (fun d => d.engResetAs e 1))

/-- DEPOT_RESET (R290). -/
def execDepotReset (n : Nat) (s : State) : Host.Outcome State Fault Refusal :=
  s.core (decide (n < 8)) (fun d => d.fnReset (0x010 + n) (fun d => d.depotReset n))

end Sys2Proof.Machine
end

