-- ==== Sys2Proof/Machine/CmdEngine.lean ====
section
/-! DEFINITION. The engines' instructions (spec/11): each executes the word at an engine's PC, where that word is of its row. -/

namespace Sys2Proof.Machine

/-- The meaning of an engine's instruction. -/
def State.engine (s : State) (e : Nat) (row : EngRow) : Host.Outcome State Fault Refusal :=
  s.core (decide (e < 64)) (fun d => d.engExec e row)

/-- INSTRUCTION_PAIR (R298). -/
def execInstructionPair (e : Nat) (s : State) : Host.Outcome State Fault Refusal := s.engine e .pair

/-- ADD (R305). -/
def execAdd (e : Nat) (s : State) : Host.Outcome State Fault Refusal := s.engine e .add

/-- ADDC (R305). -/
def execAddc (e : Nat) (s : State) : Host.Outcome State Fault Refusal := s.engine e .addc

/-- SUB (R305). -/
def execSub (e : Nat) (s : State) : Host.Outcome State Fault Refusal := s.engine e .sub

/-- SUBB (R305). -/
def execSubb (e : Nat) (s : State) : Host.Outcome State Fault Refusal := s.engine e .subb

/-- AND (R305). -/
def execAnd (e : Nat) (s : State) : Host.Outcome State Fault Refusal := s.engine e .and

/-- OR (R305). -/
def execOr (e : Nat) (s : State) : Host.Outcome State Fault Refusal := s.engine e .or

/-- XOR (R305). -/
def execXor (e : Nat) (s : State) : Host.Outcome State Fault Refusal := s.engine e .xor

/-- ANDN (R305). -/
def execAndn (e : Nat) (s : State) : Host.Outcome State Fault Refusal := s.engine e .andn

/-- SHL (R313). -/
def execShl (e : Nat) (s : State) : Host.Outcome State Fault Refusal := s.engine e .shl

/-- SHR (R313). -/
def execShr (e : Nat) (s : State) : Host.Outcome State Fault Refusal := s.engine e .shr

/-- SAR (R313). -/
def execSar (e : Nat) (s : State) : Host.Outcome State Fault Refusal := s.engine e .sar

/-- ROL (R313). -/
def execRol (e : Nat) (s : State) : Host.Outcome State Fault Refusal := s.engine e .rol

/-- ROR (R313). -/
def execRor (e : Nat) (s : State) : Host.Outcome State Fault Refusal := s.engine e .ror

/-- ADDS (R314). -/
def execAdds (e : Nat) (s : State) : Host.Outcome State Fault Refusal := s.engine e .adds

/-- SUBS (R314). -/
def execSubs (e : Nat) (s : State) : Host.Outcome State Fault Refusal := s.engine e .subs

/-- ADDUS (R314). -/
def execAddus (e : Nat) (s : State) : Host.Outcome State Fault Refusal := s.engine e .addus

/-- SUBUS (R314). -/
def execSubus (e : Nat) (s : State) : Host.Outcome State Fault Refusal := s.engine e .subus

/-- MULU (R305). -/
def execMulu (e : Nat) (s : State) : Host.Outcome State Fault Refusal := s.engine e .mulu

/-- MULS (R305). -/
def execMuls (e : Nat) (s : State) : Host.Outcome State Fault Refusal := s.engine e .muls

/-- DIVU (R312). -/
def execDivu (e : Nat) (s : State) : Host.Outcome State Fault Refusal := s.engine e .divu

/-- DIVS (R312). -/
def execDivs (e : Nat) (s : State) : Host.Outcome State Fault Refusal := s.engine e .divs

/-- CMP (R305). -/
def execCmp (e : Nat) (s : State) : Host.Outcome State Fault Refusal := s.engine e .cmp

/-- TST (R305). -/
def execTst (e : Nat) (s : State) : Host.Outcome State Fault Refusal := s.engine e .tst

/-- ADDI (R306). -/
def execAddi (e : Nat) (s : State) : Host.Outcome State Fault Refusal := s.engine e .addi

/-- ANDI (R306). -/
def execAndi (e : Nat) (s : State) : Host.Outcome State Fault Refusal := s.engine e .andi

/-- ORI (R306). -/
def execOri (e : Nat) (s : State) : Host.Outcome State Fault Refusal := s.engine e .ori

/-- XORI (R306). -/
def execXori (e : Nat) (s : State) : Host.Outcome State Fault Refusal := s.engine e .xori

/-- SHI (R306). -/
def execShi (e : Nat) (s : State) : Host.Outcome State Fault Refusal := s.engine e .shi

/-- CMPI (R306). -/
def execCmpi (e : Nat) (s : State) : Host.Outcome State Fault Refusal := s.engine e .cmpi

/-- MOVL (R306). -/
def execMovl (e : Nat) (s : State) : Host.Outcome State Fault Refusal := s.engine e .movl

/-- MOVH (R306). -/
def execMovh (e : Nat) (s : State) : Host.Outcome State Fault Refusal := s.engine e .movh

/-- BFX (R306). -/
def execBfx (e : Nat) (s : State) : Host.Outcome State Fault Refusal := s.engine e .bfx

/-- BFI (R306). -/
def execBfi (e : Nat) (s : State) : Host.Outcome State Fault Refusal := s.engine e .bfi

/-- CRC32 (R320). -/
def execCrc32 (e : Nat) (s : State) : Host.Outcome State Fault Refusal := s.engine e .crc32

/-- CRC32C (R320). -/
def execCrc32c (e : Nat) (s : State) : Host.Outcome State Fault Refusal := s.engine e .crc32c

/-- CRC16 (R320). -/
def execCrc16 (e : Nat) (s : State) : Host.Outcome State Fault Refusal := s.engine e .crc16

/-- OCADD (R321). -/
def execOcadd (e : Nat) (s : State) : Host.Outcome State Fault Refusal := s.engine e .ocadd

/-- BSWAP (R307). -/
def execBswap (e : Nat) (s : State) : Host.Outcome State Fault Refusal := s.engine e .bswap

/-- BSWAP16 (R307). -/
def execBswap16 (e : Nat) (s : State) : Host.Outcome State Fault Refusal := s.engine e .bswap16

/-- CLZ (R307). -/
def execClz (e : Nat) (s : State) : Host.Outcome State Fault Refusal := s.engine e .clz

/-- BERLEN (R322). -/
def execBerlen (e : Nat) (s : State) : Host.Outcome State Fault Refusal := s.engine e .berlen

/-- MOV (R305). -/
def execMov (e : Nat) (s : State) : Host.Outcome State Fault Refusal := s.engine e .mov

/-- NOT (R305). -/
def execNot (e : Nat) (s : State) : Host.Outcome State Fault Refusal := s.engine e .not

/-- NEG (R305). -/
def execNeg (e : Nat) (s : State) : Host.Outcome State Fault Refusal := s.engine e .neg

/-- LDB (R308). -/
def execLdb (e : Nat) (s : State) : Host.Outcome State Fault Refusal := s.engine e .ldb

/-- LDBS (R308). -/
def execLdbs (e : Nat) (s : State) : Host.Outcome State Fault Refusal := s.engine e .ldbs

/-- LDH (R308). -/
def execLdh (e : Nat) (s : State) : Host.Outcome State Fault Refusal := s.engine e .ldh

/-- LDHS (R308). -/
def execLdhs (e : Nat) (s : State) : Host.Outcome State Fault Refusal := s.engine e .ldhs

/-- LDW (R308). -/
def execLdw (e : Nat) (s : State) : Host.Outcome State Fault Refusal := s.engine e .ldw

/-- LDD (R308). -/
def execLdd (e : Nat) (s : State) : Host.Outcome State Fault Refusal := s.engine e .ldd

/-- STB (R308). -/
def execStb (e : Nat) (s : State) : Host.Outcome State Fault Refusal := s.engine e .stb

/-- STH (R308). -/
def execSth (e : Nat) (s : State) : Host.Outcome State Fault Refusal := s.engine e .sth

/-- STW (R308). -/
def execStw (e : Nat) (s : State) : Host.Outcome State Fault Refusal := s.engine e .stw

/-- STD (R308). -/
def execStd (e : Nat) (s : State) : Host.Outcome State Fault Refusal := s.engine e .std

/-- LDI (R317). -/
def execLdi (e : Nat) (s : State) : Host.Outcome State Fault Refusal := s.engine e .ldi

/-- IN (R279). -/
def execIoIn (e : Nat) (s : State) : Host.Outcome State Fault Refusal := s.engine e .ioIn

/-- OUT (R279). -/
def execIoOut (e : Nat) (s : State) : Host.Outcome State Fault Refusal := s.engine e .ioOut

/-- BR (R318). -/
def execBr (e : Nat) (s : State) : Host.Outcome State Fault Refusal := s.engine e .br

/-- CALL (R308). -/
def execCall (e : Nat) (s : State) : Host.Outcome State Fault Refusal := s.engine e .call

/-- JR (R308). -/
def execJr (e : Nat) (s : State) : Host.Outcome State Fault Refusal := s.engine e .jr

/-- RET (R309). -/
def execRet (e : Nat) (s : State) : Host.Outcome State Fault Refusal := s.engine e .ret

/-- RETI (R309). -/
def execReti (e : Nat) (s : State) : Host.Outcome State Fault Refusal := s.engine e .reti

/-- RFT (R309). -/
def execRft (e : Nat) (s : State) : Host.Outcome State Fault Refusal := s.engine e .rft

/-- WFE (R283). -/
def execWfe (e : Nat) (s : State) : Host.Outcome State Fault Refusal := s.engine e .wfe

/-- SAFE (R286). -/
def execSafe (e : Nat) (s : State) : Host.Outcome State Fault Refusal := s.engine e .safe

/-- TRAP (R309). -/
def execTrap (e : Nat) (s : State) : Host.Outcome State Fault Refusal := s.engine e .trap

/-- BRK (R309). -/
def execBrk (e : Nat) (s : State) : Host.Outcome State Fault Refusal := s.engine e .brk

/-- GETS (R310). -/
def execGets (e : Nat) (s : State) : Host.Outcome State Fault Refusal := s.engine e .gets

/-- PUTS (R310). -/
def execPuts (e : Nat) (s : State) : Host.Outcome State Fault Refusal := s.engine e .puts

/-- PUSH (R319). -/
def execPush (e : Nat) (s : State) : Host.Outcome State Fault Refusal := s.engine e .push

/-- POP (R319). -/
def execPop (e : Nat) (s : State) : Host.Outcome State Fault Refusal := s.engine e .pop

/-- PEEK (R319). -/
def execPeek (e : Nat) (s : State) : Host.Outcome State Fault Refusal := s.engine e .peek

/-- DROP (R319). -/
def execDrop (e : Nat) (s : State) : Host.Outcome State Fault Refusal := s.engine e .drop

/-- UNDEFINED_INSTRUCTION (R301). -/
def execUndefinedInstruction (e : Nat) (s : State) : Host.Outcome State Fault Refusal := s.engine e .undefinedWord

/-- INSTRUCTION_FETCH_FAULT (R302). -/
def execInstructionFetchFault (e : Nat) (s : State) : Host.Outcome State Fault Refusal := s.engine e .fetchFault

end Sys2Proof.Machine
end

