-- ==== Sys2Proof/Machine/CmdEvr.lean ====
section
/-! DEFINITION. The commands of the event recorder (spec/17). -/

namespace Sys2Proof.Machine

/-- A turn of the writer: it works once the start has brought the recorder up (R395, R461). -/
def Dev.writerTurn (d : Dev) (f : Dev → Dev) : Dev := if d.rd LDR_STAT_STATE = 0 then d else f d

/-- EVENT_POST (R461). -/
def execEventPost (typ src : Nat) (detail : BitVec 32) (s : State) : Host.Outcome State Fault Refusal :=
  s.core (eventType typ && unitUid src) (fun d => d.postEvent typ src detail.toNat)

/-- RECORD_WRITE (R464, R466, R522), with the way the write ends. -/
def execRecordWrite (w : WriteEnd) (s : State) : Host.Outcome State Fault Refusal :=
  s.core true (fun d => d.writerTurn (fun d => d.recordWrite w))

/-- WORD7_REWRITE (R463), with the way the write ends. -/
def execWord7Rewrite (w : WriteEnd) (s : State) : Host.Outcome State Fault Refusal :=
  s.core true (fun d => d.writerTurn (fun d => d.word7Write w))

/-- FALLBACK_BUFFER_WRITE (R468). -/
def execFallbackBufferWrite (s : State) : Host.Outcome State Fault Refusal := s.core true (fun d => d.writerTurn Dev.fallbackWrite)

/-- OPSEC_INCREMENT (R460): outside Standby, also while a WARM cause holds the core in reset. -/
def execOpsecIncrement (s : State) : Host.Outcome State Fault Refusal :=
  s.act true (fun d => if d.sup.por || d.sup.phase == .standby then d else d.opsecTick)

/-- CLEAR (R470): a write of `EVR_CTRL` with its key and CLEAR = 1. -/
def execClear (m : Master) (s : State) : Host.Outcome State Fault Refusal := s.busW true m 0x30008 0xE5000001

/-- RETEST (R470): a write of `EVR_CTRL` with its key and RETEST = 1. -/
def execRetest (m : Master) (s : State) : Host.Outcome State Fault Refusal := s.busW true m 0x30008 0xE5000002

/-- INJECT (R471): a write of `EVR_INJECT`. -/
def execInject (m : Master) (v : BitVec 32) (s : State) : Host.Outcome State Fault Refusal := s.busW true m 0x30060 v

/-- INJECT_DATA_STAGE (R471): a write of `EVR_INJDATA`. -/
def execInjectDataStage (m : Master) (v : BitVec 32) (s : State) : Host.Outcome State Fault Refusal := s.busW true m 0x30064 v

/-- RECORDER_RESET (R472). -/
def execRecorderReset (s : State) : Host.Outcome State Fault Refusal := s.core true (fun d => d.fnReset 0x0F8 Dev.recorderReset)

end Sys2Proof.Machine
end

