-- ==== Sys2Proof/Machine/CmdFabric.lean ====
section
/-! DEFINITION. The commands of the forwarding fabric: its tables, key slots and function resets (spec/04). -/

namespace Sys2Proof.Machine

/-- TABLE_READ (R93): a write of `FAB_TBLCMD` with OP = 0. -/
def execTableRead (m : Master) (v : BitVec 32) (s : State) : Host.Outcome State Fault Refusal :=
  s.busW true m 0x202000 (withField v 3 2 0)

/-- TABLE_WRITE (R93): OP = 1. -/
def execTableWrite (m : Master) (v : BitVec 32) (s : State) : Host.Outcome State Fault Refusal :=
  s.busW true m 0x202000 (withField v 3 2 1)

/-- TABLE_INVALIDATE (R93): OP = 2. -/
def execTableInvalidate (m : Master) (v : BitVec 32) (s : State) : Host.Outcome State Fault Refusal :=
  s.busW true m 0x202000 (withField v 3 2 2)

/-- TABLE_FLUSH (R93): OP = 3. -/
def execTableFlush (m : Master) (v : BitVec 32) (s : State) : Host.Outcome State Fault Refusal :=
  s.busW true m 0x202000 (withField v 3 2 3)

/-- TABLE_COMMAND_DONE (R93): BUSY clears. -/
def execTableCommandDone (s : State) : Host.Outcome State Fault Refusal := s.core true (fun d => d.put FAB_TBLCMD_BUSY false)

/-- FDB_AGEING (R94): of a learned entry, by its index. -/
def execFdbAgeing (k : Nat) (s : State) : Host.Outcome State Fault Refusal := s.core (decide (k < 16384)) (fun d => d.ageOut k)

/-- KEY_COMMIT (R109): the write of the highest word of `KS_KEY`. -/
def execKeyCommit (m : Master) (k : Nat) (v : BitVec 32) (s : State) : Host.Outcome State Fault Refusal :=
  s.busW (decide (k < 256)) m (0x23003C + 0x40 * k) v

/-- FABRIC_RESET (R117). -/
def execFabricReset (s : State) : Host.Outcome State Fault Refusal := s.core true (fun d => d.fnReset 0x0A0 Dev.fabricReset)

/-- REDUNDANCY_RESET (R117). -/
def execRedundancyReset (s : State) : Host.Outcome State Fault Refusal := s.core true (fun d => d.fnReset 0x0A1 Dev.redReset)

/-- AUTHENTICATION_RESET (R117). -/
def execAuthenticationReset (s : State) : Host.Outcome State Fault Refusal := s.core true (fun d => d.fnReset 0x0A2 Dev.authReset)

/-- EXPRESS_RULE_RESET (R117). -/
def execExpressRuleReset (s : State) : Host.Outcome State Fault Refusal := s.core true (fun d => d.fnReset 0x0A3 Dev.xrReset)

end Sys2Proof.Machine
end

