-- ==== Sys2Proof/Machine/CmdHost.lean ====
section
/-! DEFINITION. The commands of the host interface (spec/18) and of the JTAG port (spec/20). -/

namespace Sys2Proof.Machine

/-- The identification register (R516): stepping 2, part 0x6424, the manufacturer of R526, and bit 0. -/
abbrev jtagId : Nat := 0x264249CB

/-- PCIE_LINK_CHANGE (R476, R522): the link trains up, with a rate and a width as HIF_STAT codes them, or goes down, by itself
or by PERST_N or VDDIO_B. -/
def execPcieLinkChange (c : PcieChange) (rate width : Nat) (s : State) : Host.Outcome State Fault Refusal :=
  s.act (decide (rate < 3) && (width == 1 || width == 2 || width == 4)) (fun d => d.pcieChange rate width c)

/-- FLR (R479): an FLR, or with `byFn` the reset of UID 0x001 by function. -/
def execFlr (byFn : Bool) (s : State) : Host.Outcome State Fault Refusal := s.core true (fun d => d.flr byFn)

/-- MSIX_POST (R480). -/
def execMsixPost (v : Nat) (s : State) : Host.Outcome State Fault Refusal := s.core (decide (v < 256)) (fun d => d.postVec v)

/-- MSIX_UNMASK (R480): what the host does in BAR2 or the configuration space (notes/assumptions/51). -/
def execMsixUnmask (c : HostCfg) (s : State) : Host.Outcome State Fault Refusal := s.core (c.ok) (fun d => d.hostConfig c)

/-- RING_TAIL_WRITE (R483): a write of the TAIL of a channel's command ring or receive ring. -/
def execRingTailWrite (m : Master) (c : Nat) (rx : Bool) (v : BitVec 32) (s : State) : Host.Outcome State Fault Refusal :=
  s.busW (decide (c < 8)) m (tailOff c rx) v

/-- DESCRIPTOR_FETCH (R482): of the command or the receive ring, with the 32 bytes the host answers, or its error. -/
def execDescriptorFetch (c : Nat) (rx : Bool) (answer : Option (List (BitVec 8))) (s : State) : Host.Outcome State Fault Refusal :=
  s.core (decide (c < 8) && answer.all (fun l => l.length == 32)) (fun d => d.descFetch c rx answer)

/-- DMA_READ (R485): `err` is the number of bytes after which the host answers an error. -/
def execDmaRead (c : Nat) (err : Option Nat) (s : State) : Host.Outcome State Fault Refusal :=
  s.core (decide (c < 8)) (fun d => d.dmaRead c err)

/-- DMA_WRITE (R485): `data` is what the host answers, fewer bytes than asked for where it answers an error. -/
def execDmaWrite (c : Nat) (data : List (BitVec 8)) (s : State) : Host.Outcome State Fault Refusal :=
  s.core (decide (c < 8)) (fun d => d.dmaWrite c data)

/-- DMA_TX (R485): `data` is what the host answers, fewer bytes than asked for where it answers an error. -/
def execDmaTx (c : Nat) (data : List (BitVec 8)) (s : State) : Host.Outcome State Fault Refusal :=
  s.core (decide (c < 8)) (fun d => d.dmaTx c data)

/-- RXBUF (R485): `err` is the number of bytes after which the host answers an error. -/
def execRxbuf (c : Nat) (err : Option Nat) (s : State) : Host.Outcome State Fault Refusal :=
  s.core (decide (c < 8)) (fun d => d.rxbuf c err)

/-- ROW_TRANSFER (R226): `err` is the number of bytes after which the host answers an error. -/
def execRowTransfer (c : Nat) (err : Option Nat) (s : State) : Host.Outcome State Fault Refusal :=
  s.core (decide (c < 8)) (fun d => d.rowTransfer c err)

/-- DMA_TRANSFER_COMPLETE (R485, R486). -/
def execDmaTransferComplete (c : Nat) (s : State) : Host.Outcome State Fault Refusal :=
  s.core (decide (c < 8)) (fun d => d.transferComplete c)

/-- CHANNEL_RESET (R487). -/
def execChannelReset (c : Nat) (s : State) : Host.Outcome State Fault Refusal :=
  s.core (decide (c < 8)) (fun d => d.fnReset (0x008 + c) (fun d => d.channelReset c))

/-- SPI_READ (R490): a complete request. -/
def execSpiRead (l : List (BitVec 8)) (s : State) : Host.Outcome State Fault Refusal := s.core (spiWhole 1 l) (fun d => if d.sup.ioB then d.spiRead l else d)

/-- SPI_WRITE (R491): a complete request. -/
def execSpiWrite (l : List (BitVec 8)) (s : State) : Host.Outcome State Fault Refusal := s.core (spiWhole 2 l) (fun d => if d.sup.ioB then d.spiWrite l else d)

/-- SPI_RESET (R491): a complete request, and CS_N rising after it. -/
def execSpiReset (l : List (BitVec 8)) (s : State) : Host.Outcome State Fault Refusal := s.core (spiWhole 4 l) (fun d => if d.sup.ioB then d.spiReset l else d)

/-- SPI_FRAME_DISCARD (R491): the bytes that came. -/
def execSpiFrameDiscard (l : List (BitVec 8)) (s : State) : Host.Outcome State Fault Refusal :=
  s.core (spiBroken l) (fun d => if d.sup.ioB then d.spiDiscard l else d)

/-- The meaning of a command at the TAP, which is silent without its pads' supply (R509, R522). -/
def State.tap (s : State) (ok : Bool) (f : Dev → Dev) : Host.Outcome State Fault Refusal := s.act ok (fun d => if d.padsB then f d else d)

/-- EXTEST (R518): the cells of the scanned balls shifted in, a level or hi-Z. -/
def execExtest (cells : List (Option Bool)) (s : State) : Host.Outcome State Fault Refusal :=
  s.tap (cells.length == scanCells) (fun d => d.boundaryScan 0x00 ((List.range scanCells).zip cells))

/-- SAMPLE_PRELOAD (R516): the cells of the scanned balls shifted in. -/
def execSamplePreload (cells : List (Option Bool)) (s : State) : Host.Outcome State Fault Refusal :=
  s.tap (cells.length == scanCells) (fun d => d.boundaryScan 0x01 ((List.range scanCells).zip cells))

/-- IDCODE (R516). -/
def execIdcode (s : State) : Host.Outcome State Fault Refusal := s.tap true (fun d => d.jtagSelect 0x02 jtagId)

/-- CLAMP (R518). -/
def execClamp (s : State) : Host.Outcome State Fault Refusal := s.tap true (fun d => d.jtagSelect 0x03 0)

/-- HIGHZ (R518). -/
def execHighz (s : State) : Host.Outcome State Fault Refusal := s.tap true (fun d => d.jtagSelect 0x04 0)

/-- BYPASS (R516), and the codes that act as it. -/
def execBypass (code : Nat) (s : State) : Host.Outcome State Fault Refusal :=
  s.tap (decide (code < 32) && !([0, 1, 2, 3, 4, 0x1C].contains code)) (fun d => d.jtagSelect code 0)

/-- DBGACC (R517): the value shifted in; no access is made while the core is held in reset. -/
def execDbgacc (v : BitVec 64) (s : State) : Host.Outcome State Fault Refusal := s.tap true (fun d => d.dbgAcc v.toNat)

end Sys2Proof.Machine
end

