-- ==== Sys2Proof/Machine/CmdMbx.lean ====
section
/-! DEFINITION. The commands of the mailboxes, doorbells and locks (spec/13). -/

namespace Sys2Proof.Machine

/-- MAILBOX_STAGE (R356): a write of word 4–6. -/
def execMailboxStage (m : Master) (n w : Nat) (v : BitVec 32) (s : State) : Host.Outcome State Fault Refusal :=
  s.core (m.ok && decide (n < 256) && decide (4 ≤ w) && decide (w < 7)) (fun d => d.portPut m (0x0800 + 8 * n + w) (mbWordOff n w) v.toNat)

/-- MAILBOX_POST (R358): a write of word 7. -/
def execMailboxPost (m : Master) (n : Nat) (v : BitVec 32) (s : State) : Host.Outcome State Fault Refusal :=
  s.core (m.ok && decide (n < 256)) (fun d => d.portPut m (0x0800 + 8 * n + 7) (mbWordOff n 7) v.toNat)

/-- MAILBOX_HEADER_READ (R360): a read of word 0. -/
def execMailboxHeaderRead (m : Master) (n : Nat) (s : State) : Host.Outcome State Fault Refusal :=
  s.core (m.ok && decide (n < 256)) (fun d => d.portGet m (0x0800 + 8 * n + 0) (mbWordOff n 0))

/-- MAILBOX_TAKE (R360): a read of word 7. -/
def execMailboxTake (m : Master) (n : Nat) (s : State) : Host.Outcome State Fault Refusal :=
  s.core (m.ok && decide (n < 256)) (fun d => d.portGet m (0x0800 + 8 * n + 7) (mbWordOff n 7))

/-- MAILBOX_RESET (R363). -/
def execMailboxReset (n : Nat) (s : State) : Host.Outcome State Fault Refusal :=
  s.core (decide (n < 256)) (fun d => d.fnReset (0x600 + n) (fun d => d.mbReset n))

/-- MAILBOX_UNIT_RESET (R363). -/
def execMailboxUnitReset (s : State) : Host.Outcome State Fault Refusal := s.core true (fun d => d.fnReset 0x0FC Dev.mbUnitReset)

/-- DOORBELL_RING (R366): an engine's OUT to the doorbell's port, or any other master's write of `MBX_DBRING` (R365). -/
def execDoorbellRing (m : Master) (n : Nat) (s : State) : Host.Outcome State Fault Refusal :=
  s.core (m.ok && decide (n < 512)) (fun d => d.portPut m (0x0400 + n) 0x40400 n)

/-- LOCK_ACQUIRE (R368): an engine's IN from the lock's port, or any other master's read of `MBX_LKn`. -/
def execLockAcquire (m : Master) (n : Nat) (s : State) : Host.Outcome State Fault Refusal :=
  s.core (m.ok && decide (n < 64)) (fun d => d.portGet m (0x0600 + n) (0x42000 + 0x10 * n))

/-- LOCK_PEEK (R368): a read of `MBX_LKn_PEEK`. -/
def execLockPeek (m : Master) (n : Nat) (s : State) : Host.Outcome State Fault Refusal :=
  s.busR (decide (n < 64)) m (0x42004 + 0x10 * n)

/-- LOCK_RELEASE (R369): an engine's OUT to the lock's port, or any other master's write of `MBX_LKn`. -/
def execLockRelease (m : Master) (n : Nat) (v : BitVec 32) (s : State) : Host.Outcome State Fault Refusal :=
  s.core (m.ok && decide (n < 64)) (fun d => d.portPut m (0x0600 + n) (0x42000 + 0x10 * n) v.toNat)

/-- LOCK_FORCE (R370): a write of 1 to FORCE. -/
def execLockForce (m : Master) (n : Nat) (v : BitVec 32) (s : State) : Host.Outcome State Fault Refusal :=
  s.busW (decide (n < 64)) m (0x42008 + 0x10 * n) (withField v 0 1 1)

end Sys2Proof.Machine
end

