-- ==== Sys2Proof/Machine/CmdMem.lean ====
section
/-! DEFINITION. The commands of the memory system, the background test unit and the queue manager (spec/11, spec/12). -/

namespace Sys2Proof.Machine

/-! ### Shared memory -/

/-- An access of a host port, a DMA channel or the supervisor to `n` bytes of the shared memory (R326, R328, R422). -/
def Dev.sharedAccess (d : Dev) (m : Master) (a n : Nat) (w : Option (List Byte)) : Dev :=
  if d.hostShutOut m (0x1000000 + a) then d.inc LDR_HOSTREF_REFS
  else
    let r := d.memAccess m a w n
    if w.isSome then r.1 else r.1.emit (.read m.uid (leNat (if r.2.good then r.2.data else List.replicate n 0xFF#8)))

/-- Bits of a stored word flip (R334): one of a good word can be corrected; more, or one of a word that holds a flipped bit already, cannot.
An entry of queue RAM is corrected as it is popped, or lost (R350). -/
def Dev.upset (d : Dev) (u : EccPlace × Bool) : Dev :=
  let mark (t : Tab Nat) (w : Nat) : Tab Nat := tput t w (if u.2 || tgetD t w 0 != 0 then 2 else 1)
  match u.1 with
  | .bank w => { d with mem := { d.mem with ecc := mark d.mem.ecc w } }
  | .dm e w => d.setEng e { d.eng e with dmEcc := mark (d.eng e).dmEcc w }
  | .im e w => d.setEng e { d.eng e with imEcc := mark (d.eng e).imEcc w }
  | .sh e w => d.setEng e { d.eng e with shEcc := mark (d.eng e).shEcc w }
  | .entry q i =>
    let x := d.queue q
    if !u.2 then d
    else if i < x.win.length then d.setQueue q { x with win := x.win.set i none }
    else d.setQueue q { x with tail := x.tail.set (i - x.win.length) none }

/-- SHARED_MEMORY_ACCESS (R328): a read of `n` bytes at `a`, or a write. Engines reach the banks by their loads and stores. Upsets that have
come by then show to whatever reads their words next, this access, another requester or the scrubber (R334; notes/assumptions/75). -/
def execSharedMemoryAccess (m : Master) (a n : Nat) (w : BankAccess) (s : State) : Host.Outcome State Fault Refusal :=
  s.core (m.ok && !m.isEngine && decide (1 ≤ n) && decide (a + n ≤ 2 ^ 24) && w.ok n)
    (fun d => (w.upsets.foldl Dev.upset d).sharedAccess m a n w.write)

/-- BANK_CONFIG_WRITE (R330): a write of `MEM_BANKb` that leaves OWNER at its present value. -/
def execBankConfigWrite (m : Master) (b : Nat) (v : BitVec 32) (s : State) : Host.Outcome State Fault Refusal :=
  s.core (m.ok && decide (b < 64)) (fun d =>
    d.put32 m (0x60000 + 0x10 * b) (setBits v.toNat 0 12 (d.rd (MEM_BANKb_OWNER b))))

/-- BANK_HANDOVER (R330): a write of `MEM_BANKb` that changes OWNER; acts where the word does. -/
def execBankHandover (m : Master) (b : Nat) (v : BitVec 32) (s : State) : Host.Outcome State Fault Refusal :=
  s.core (m.ok && decide (b < 64)) (fun d =>
    if bits v.toNat 0 12 == d.rd (MEM_BANKb_OWNER b) then d else d.put32 m (0x60000 + 0x10 * b) v.toNat)

/-- HANDOVER_EFFECT (R330): the drain ends; a matrix whose ring loses the bank stops (R231), and a deep queue that spills into it
enters FAULT (R343). -/
def execHandoverEffect (b : Nat) (s : State) : Host.Outcome State Fault Refusal :=
  s.core (decide (b < 64)) (fun d => d.handoverEffect b)

/-- SCRUB_STEP (R335). -/
def execScrubStep (s : State) : Host.Outcome State Fault Refusal := s.core true Dev.scrubStep

/-! ### Background test -/

/-- BORROW_BEGIN (R337). -/
def execBorrowBegin (s : State) : Host.Outcome State Fault Refusal := s.core true Dev.borrowBegin

/-- BORROW_END (R337): `diff` is the word of the row that differed, with the bits that differed (R339). -/
def execBorrowEnd (diff : Option (Nat × Nat)) (s : State) : Host.Outcome State Fault Refusal :=
  s.core (diff.all (fun x => decide (x.1 < 64) && decide (x.2 < 2 ^ 64))) (fun d => d.borrowEnd diff)

/-- BORROW_ABORT (R338). -/
def execBorrowAbort (b : Nat) (s : State) : Host.Outcome State Fault Refusal := s.core (decide (b < 64)) (fun d => d.borrowAbort b)

/-- BTU_RESET (R351). -/
def execBtuReset (s : State) : Host.Outcome State Fault Refusal := s.core true (fun d => d.fnReset 0x0FA Dev.btuReset)

/-! ### Queues -/

/-- A write of a queue's push port or register: of its low word, or of all 64 bits, whose high word is staged for the low one (R340). -/
def Dev.pushWord (d : Dev) (m : Master) (q : Nat) : PushWord → Dev
  | .low v => d.portPut m (0x1800 + 2 * q) (0x54008 + 0x10 * q) v.toNat
  | .wide hi v =>
    (d.when (d.queueRight q true m && !d.hostShutOut m (0x54008 + 0x10 * q)) (fun d => d.stageWord m (0x5400C + 0x10 * q) hi.toNat)).portPut m
      (0x1800 + 2 * q) (0x54008 + 0x10 * q) v.toNat

/-- QUEUE_PUSH (R346): an engine's OUT to the queue's port, or any other master's write of its push register. -/
def execQueuePush (m : Master) (q : Nat) (v : PushWord) (s : State) : Host.Outcome State Fault Refusal :=
  s.core (m.ok && decide (q < 1024) && (!v.isWide || m == .pcie)) (fun d => d.pushWord m q v)

/-- QUEUE_STAGE (R340): the high word of an entry. -/
def execQueueStage (m : Master) (q : Nat) (v : BitVec 32) (s : State) : Host.Outcome State Fault Refusal :=
  s.core (m.ok && decide (q < 1024)) (fun d => d.portPut m (0x1801 + 2 * q) (0x5400C + 0x10 * q) v.toNat)

/-- QUEUE_POP (R345): an engine's IN from the queue's port, or any other master's read of its pop register; the host's
64-bit read answers the high word as well (R340). -/
def execQueuePop (m : Master) (r : PopReg) (s : State) : Host.Outcome State Fault Refusal :=
  s.core (m.ok && decide (r.q < 1024) && (!r.wide || m == .pcie)) (fun d =>
    (d.portGet m (0x1000 + 2 * r.q) (0x54000 + 0x10 * r.q)).when r.wide (fun d => d.get32 m (0x54004 + 0x10 * r.q)))

/-- QUEUE_REFILL (R343). -/
def execQueueRefill (q : Nat) (s : State) : Host.Outcome State Fault Refusal := s.core (decide (q < 1024)) (fun d => d.queueMove q)

/-- QUEUE_RESET (R349). -/
def execQueueReset (q : Nat) (s : State) : Host.Outcome State Fault Refusal :=
  s.core (decide (q < 1024)) (fun d => d.fnReset (0x100 + q) (fun d => d.queueReset q))

/-- QUEUE_MANAGER_RESET (R349). -/
def execQueueManagerReset (s : State) : Host.Outcome State Fault Refusal := s.core true (fun d => d.fnReset 0x0FB Dev.qmReset)

end Sys2Proof.Machine
end

