-- ==== Sys2Proof/Machine/CmdPin.lean ====
section
/-! DEFINITION. The commands of the pin bank and its sequencers (spec/09). -/

namespace Sys2Proof.Machine

/-! ### Pins -/

/-- FILTERED_EDGE (R240, R241): the new level, and the instant of the last raw transition as ticks before now and steps of 62.5 ps. -/
def execFilteredEdge (n : Nat) (level : Bool) (ago sub : Nat) (s : State) : Host.Outcome State Fault Refusal :=
  s.core (decide (n < 48) && decide (sub < 64)) (fun d => d.filteredEdge n level (d.tb.lt - ago * tick16 + sub * 4096))

/-- EDGE_STAMP_READ (R242): the read of the highest word of `PIN_ESQ`. -/
def execEdgeStampRead (m : Master) (s : State) : Host.Outcome State Fault Refusal := s.busR true m 0x60004C

/-- REL (R245): a write of `PIN_IOn_SAFE` with REL = 1. -/
def execRel (m : Master) (n : Nat) (v : BitVec 32) (s : State) : Host.Outcome State Fault Refusal :=
  s.busW (decide (n < 48)) m (0x60100C + 0x10 * n) (withField v 2 1 1)

/-- EXPRESS_HOLD_EXPIRY (R246). -/
def execExpressHoldExpiry (n : Nat) (s : State) : Host.Outcome State Fault Refusal := s.core (decide (n < 48)) (fun d => d.holdExpiry n)

/-- XCLR (R246): a write of `PIN_IOn_XDRV` with XCLR = 1. -/
def execXclr (m : Master) (n : Nat) (v : BitVec 32) (s : State) : Host.Outcome State Fault Refusal :=
  s.busW (decide (n < 48)) m (0x601008 + 0x10 * n) (withField v 3 1 1)

/-! ### Sequencer instructions: one group edge of a sequencer that is at such an instruction -/

/-- SEND (R250). -/
def execSend (q : Nat) (s : State) : Host.Outcome State Fault Refusal :=
  s.core (decide (q < 8)) (fun d => d.seqStep q (· == 1) (fun d w => d.seqSend q (bits (seqArg w) 0 4)))

/-- TAKE (R250). -/
def execTake (q : Nat) (s : State) : Host.Outcome State Fault Refusal :=
  s.core (decide (q < 8)) (fun d => d.seqStep q (· == 2) (fun d w => d.seqTake q (seqArg w)))

/-- LOAD (R256). -/
def execLoad (q : Nat) (s : State) : Host.Outcome State Fault Refusal :=
  s.core (decide (q < 8)) (fun d => d.seqStep q (· == 3) (fun d w => d.seqLoad q (seqArg w)))

/-- STORE (R256). -/
def execStore (q : Nat) (s : State) : Host.Outcome State Fault Refusal :=
  s.core (decide (q < 8)) (fun d => d.seqStep q (· == 4) (fun d w => d.seqStore q (seqArg w)))

/-- BRANCH (R257). -/
def execBranch (q : Nat) (s : State) : Host.Outcome State Fault Refusal :=
  s.core (decide (q < 8)) (fun d => d.seqStep q (· == 5) (fun d w => d.seqBranch q (seqArg w)))

/-- WAIT (R258): X is SIDE with SIDEMODE = 0, else 0. -/
def execWait (q : Nat) (s : State) : Host.Outcome State Fault Refusal :=
  s.core (decide (q < 8)) (fun d => d.seqStep q (· == 6) (fun d w =>
    d.seqWait q (if d.on (PIN_SEQ_CFG_SIDEMODE (q / 4) (q % 4)) then 0 else seqSide w) (seqArg w)))

/-- COUNT (R256). -/
def execCount (q : Nat) (s : State) : Host.Outcome State Fault Refusal :=
  s.core (decide (q < 8)) (fun d => d.seqStep q (· == 7) (fun d w => d.seqCount q (seqArg w)))

/-- DRIVE (R256). -/
def execDrive (q : Nat) (s : State) : Host.Outcome State Fault Refusal :=
  s.core (decide (q < 8)) (fun d => d.seqStep q (· == 8) (fun d w => d.seqDrive (seqArg w)))

/-- SIGNAL (R256). -/
def execSignal (q : Nat) (s : State) : Host.Outcome State Fault Refusal :=
  s.core (decide (q < 8)) (fun d => d.seqStep q (· == 9) (fun d w => d.seqSignal q (seqArg w)))

/-- NOP, or a word with a reserved OP, which halts the sequencer (R256, R259). `ecc` says that the word at PC, of whatever operation,
meets an uncorrectable error in the instruction memory: cause 0x08 (R259). -/
def execNop (q : Nat) (ecc : Bool) (s : State) : Host.Outcome State Fault Refusal :=
  s.core (decide (q < 8)) (fun d =>
    if ecc then (if d.seqState q = 0 then d else d.seqHalt q 0x08)
    else d.seqStep q (fun op => op == 0 || decide (9 < op)) (fun d _ => .go d none))

/-- SPF_FEED (R251). -/
def execSpfFeed (q : Nat) (s : State) : Host.Outcome State Fault Refusal := s.core (decide (q < 8)) (fun d => d.spfFeed q)

/-- THD_DELIVER (R251). -/
def execThdDeliver (q : Nat) (s : State) : Host.Outcome State Fault Refusal := s.core (decide (q < 8)) (fun d => d.thdDeliver q)

/-! ### Groups and the sequencers' registers -/

/-- GROUP_CLOCK_WRITE (R248): a write of `PIN_GRP_CLK`. -/
def execGroupClockWrite (m : Master) (g : Nat) (v : BitVec 32) (s : State) : Host.Outcome State Fault Refusal :=
  s.busW (decide (g < 2)) m (0x602000 + 0x1000 * g) v

/-- GROUP_START (R260): a write of `PIN_GRP_START`. -/
def execGroupStart (m : Master) (g : Nat) (v : BitVec 32) (s : State) : Host.Outcome State Fault Refusal :=
  s.busW (decide (g < 2)) m (0x602004 + 0x1000 * g) v

/-- TIMED_START_FIRE (R260). -/
def execTimedStartFire (g : Nat) (s : State) : Host.Outcome State Fault Refusal := s.core (decide (g < 2)) (fun d => d.timedStart g)

/-- GROUP_HALT (R261): a write of `PIN_GRP_HALT`. -/
def execGroupHalt (m : Master) (g : Nat) (v : BitVec 32) (s : State) : Host.Outcome State Fault Refusal :=
  s.busW (decide (g < 2)) m (0x602008 + 0x1000 * g) v

/-- INSTRUCTION_WRITE (R262): a write of `PIN_GRP_IMEMw`. -/
def execInstructionWrite (m : Master) (g w : Nat) (v : BitVec 32) (s : State) : Host.Outcome State Fault Refusal :=
  s.busW (decide (g < 2) && decide (w < 64)) m (0x602100 + 0x1000 * g + 4 * w) v

/-- FLAG_SET_WRITE (R254): a write of `PIN_GRP_FLAGSET`. -/
def execFlagSetWrite (m : Master) (g : Nat) (v : BitVec 32) (s : State) : Host.Outcome State Fault Refusal :=
  s.busW (decide (g < 2)) m (0x602024 + 0x1000 * g) v

/-- KICK (R254): a write of `PIN_SEQ_CTRL` with KICK = 1. -/
def execKick (m : Master) (q : Nat) (v : BitVec 32) (s : State) : Host.Outcome State Fault Refusal :=
  s.busW (decide (q < 8)) m (0x60242C + 0x1000 * (q / 4) + 0x80 * (q % 4)) (withField v 1 1 1)

/-- CLRSHIFT (R260): a write of `PIN_SEQ_CTRL` with CLRSHIFT = 1. -/
def execClrshift (m : Master) (q : Nat) (v : BitVec 32) (s : State) : Host.Outcome State Fault Refusal :=
  s.busW (decide (q < 8)) m (0x60242C + 0x1000 * (q / 4) + 0x80 * (q % 4)) (withField v 0 1 1)

/-- TX_FIFO_WRITE (R253): a write of `PIN_SEQ_TXF`. -/
def execTxFifoWrite (m : Master) (q : Nat) (v : BitVec 32) (s : State) : Host.Outcome State Fault Refusal :=
  s.busW (decide (q < 8)) m (0x602440 + 0x1000 * (q / 4) + 0x80 * (q % 4)) v

/-- RX_FIFO_READ (R253): the read of the low word of `PIN_SEQ_RXF`, which pops. -/
def execRxFifoRead (m : Master) (q : Nat) (s : State) : Host.Outcome State Fault Refusal :=
  s.busR (decide (q < 8)) m (0x602448 + 0x1000 * (q / 4) + 0x80 * (q % 4))

/-- GROUP_RESET (R263). -/
def execGroupReset (g : Nat) (s : State) : Host.Outcome State Fault Refusal :=
  s.core (decide (g < 2)) (fun d => d.fnReset (0x0F0 + g) (fun d => d.grpReset g))

/-- PIN_BANK_RESET (R263). -/
def execPinBankReset (s : State) : Host.Outcome State Fault Refusal := s.core true (fun d => d.fnReset 0x0F2 Dev.bankReset)

end Sys2Proof.Machine
end

