-- ==== Sys2Proof/Machine/CmdPort.lean ====
section
/-! DEFINITION. The commands of the Ethernet ports (spec/03), the frames they receive (spec/01, spec/04, spec/07) and the commands of
their egress schedulers (spec/05). -/

namespace Sys2Proof.Machine

/-! ### Reception -/

/-- A frame received on a port: a coach of a ring that the port belongs to, or any other (R14, R149). -/
def Dev.receive (d : Dev) (p : Nat) (f : RxFrame) : Dev :=
  let d := d.mediumIdle p false (d.tb.lt - f.ago * tick16)
  if d.takenByTrain p f.bytes then d.coach p f else d.frameIn p f

/-- The ticks that bytes take on a port's wire. -/
def Dev.wireTicks (d : Dev) (p n : Nat) : Nat := n * d.byteTime p * 65536 / 10 / tick16

/-- What has left a port comes back to its receiver through the loopback of the PCS (R84), as its last bit leaves: a frame, an mPacket, a
verify mPacket, which the port answers itself, or a respond mPacket. -/
def Dev.loopBack (d : Dev) (p : Nat) : Emit → Dev
  | .frame q l _ err =>
    if q = p then d.receive p { bytes := l, ago := d.wireTicks p l.length, sub := 0, codeErr := err, trunc := false } else d
  | .mpacket q num count l final _ err =>
    if q = p then d.mpacket p {
      smd := if count = 0 then .start num else .cont num, frag := (count + 3) % 4, data := l, last := final
      ago := d.wireTicks p l.length, sub := 0, codeErr := err }
    else d
  | .verify q => if q = p then (d.verifyReceived p).respondReceived p else d
  | .respond q => if q = p then d.respondReceived p else d
  | _ => d

/-- What a command sends on a port on the way from a device `d` to a device `r` comes back to the port where PRT_CFG.LOOP = 1 (R84); what the
receiving then sends does not come back in the same command (DESIGN CHOICE, notes/assumptions/68). -/
def Dev.looped (d : Dev) (p : Nat) (r : Dev) : Dev :=
  if d.on (PRT_CFG_LOOP p) then (r.out.drop d.out.length).foldl (fun d e => d.loopBack p e) r else r

/-- The same for both ports of the ring that a port belongs to. -/
def Dev.ringLooped (d : Dev) (p : Nat) (r : Dev) : Dev :=
  if p < 4 then d.looped (outPort (p / 2)) (d.looped (inPort (p / 2)) r) else r

/-- FRAME_RECEIVED (R14). -/
def execFrameReceived (p : Nat) (f : RxFrame) (s : State) : Host.Outcome State Fault Refusal :=
  s.core (decide (p < 22) && decide (f.sub < 64)) (fun d => d.ringLooped p (d.receive p f))

/-- MPACKET_RECEIVED (R77). -/
def execMpacketReceived (p : Nat) (f : MPacket) (s : State) : Host.Outcome State Fault Refusal :=
  s.core (decide (p < 20) && decide (f.sub < 64)) (fun d => d.mpacket p f)

/-- VERIFY_MPACKET_RECEIVED (R76). -/
def execVerifyMpacketReceived (p : Nat) (s : State) : Host.Outcome State Fault Refusal :=
  s.core (decide (p < 20)) (fun d => d.looped p (d.verifyReceived p))

/-- RESPOND_MPACKET_RECEIVED (R76). -/
def execRespondMpacketReceived (p : Nat) (s : State) : Host.Outcome State Fault Refusal :=
  s.core (decide (p < 20)) (fun d => d.respondReceived p)

/-- VERIFY_TIMER (R76). -/
def execVerifyTimer (p : Nat) (s : State) : Host.Outcome State Fault Refusal :=
  s.core (decide (p < 20)) (fun d => d.looped p (d.verifyTimer p))

/-! ### Links -/

/-- LINK_UP_CONDITION (R62, R64, R66), with what the line shows. -/
def execLinkUpCondition (p : Nat) (line : LineUp) (s : State) : Host.Outcome State Fault Refusal :=
  s.core (decide (p < 22)) (fun d => d.upWithAbility p line.ability line.remote)

/-- LINK_DOWN_CONDITION (R64), with what the line shows. -/
def execLinkDownCondition (p : Nat) (line : LineDown) (s : State) : Host.Outcome State Fault Refusal :=
  s.core (decide (p < 22) && decide (1 ≤ line.cause) && decide (line.cause ≤ 5)) (fun d => d.linkDownCondition p line.cause line.remote)

/-- LINK_UP (R65). -/
def execLinkUp (p : Nat) (s : State) : Host.Outcome State Fault Refusal :=
  s.core (decide (p < 22)) (fun d => d.looped p (d.linkUp p))

/-- LINK_DOWN (R65). -/
def execLinkDown (p : Nat) (s : State) : Host.Outcome State Fault Refusal :=
  s.core (decide (p < 22)) (fun d => d.watchLinks (fun d => d.linkDown p))

/-- MDIO_POLL (R64): whether the PHY reports link. -/
def execMdioPoll (p : Nat) (link : Bool) (s : State) : Host.Outcome State Fault Refusal :=
  s.core (decide (20 ≤ p) && decide (p < 22)) (fun d => d.mdioPoll p link)

/-! ### Half-duplex access -/

/-- COLLISION (R67). -/
def execCollision (p : Nat) (s : State) : Host.Outcome State Fault Refusal :=
  s.core (decide (20 ≤ p) && decide (p < 22)) (fun d => d.collision p)

/-- BACKOFF_EXPIRY (R67): the attempt's departure has `sub` steps of the TDC within its tick. -/
def execBackoffExpiry (p sub : Nat) (s : State) : Host.Outcome State Fault Refusal :=
  s.core (decide (20 ≤ p) && decide (p < 22) && decide (sub < 64)) (fun d => d.backoffExpiry p sub)

/-- LATE_COLLISION (R68), with its bit time. -/
def execLateCollision (p bitTime : Nat) (s : State) : Host.Outcome State Fault Refusal :=
  s.core (decide (20 ≤ p) && decide (p < 22)) (fun d => d.lateCollision p bitTime)

/-- PLCA_ACTIVE (R69). -/
def execPlcaActive (p : Nat) (s : State) : Host.Outcome State Fault Refusal :=
  s.core (decide (20 ≤ p) && decide (p < 22)) (fun d => d.plca p true)

/-- PLCA_INACTIVE (R69). -/
def execPlcaInactive (p : Nat) (s : State) : Host.Outcome State Fault Refusal :=
  s.core (decide (20 ≤ p) && decide (p < 22)) (fun d => d.plca p false)

/-! ### Pauses -/

/-- PAUSE_TAKES_EFFECT (R71). -/
def execPauseTakesEffect (p : Nat) (s : State) : Host.Outcome State Fault Refusal := s.core (decide (p < 20)) (fun d => d.pauseEffect p)

/-- PFC_TAKES_EFFECT (R71). -/
def execPfcTakesEffect (p : Nat) (s : State) : Host.Outcome State Fault Refusal := s.core (decide (p < 20)) (fun d => d.pfcEffect p)

/-- PAUSE_TIMER_EXPIRY (R71): the timer of class `t`, or the port's (8). -/
def execPauseTimerExpiry (p t : Nat) (s : State) : Host.Outcome State Fault Refusal :=
  s.core (decide (p < 20) && decide (t ≤ 8)) (fun d => d.pauseExpiry p t)

/-- PAUSE_REFRESH (R74). -/
def execPauseRefresh (p : Nat) (s : State) : Host.Outcome State Fault Refusal := s.core (decide (p < 20)) (fun d => d.pauseRefresh p)

/-! ### Lanes and the port's reset -/

/-- PORT_POWER_DOWN (R80): a write of `PRT_CTRL` with PWRDN = 1. -/
def execPortPowerDown (m : Master) (p : Nat) (v : BitVec 32) (s : State) : Host.Outcome State Fault Refusal :=
  s.busW (decide (p < 22)) m (0x100000 + 0x8000 * p) (withField v 1 1 1)

/-- LANE_POWER_UP (R80): a write of `PRT_CTRL` with PWRDN = 0. -/
def execLanePowerUp (m : Master) (p : Nat) (v : BitVec 32) (s : State) : Host.Outcome State Fault Refusal :=
  s.busW (decide (p < 22)) m (0x100000 + 0x8000 * p) (withField v 1 1 0)

/-- LANE_READY (R38, R80, R399): the check of SDREFCLK, and the taps that the two TDCs measured. -/
def execLaneReady (p : Nat) (sdOk : Bool) (rxTaps txTaps : Nat) (s : State) : Host.Outcome State Fault Refusal :=
  s.core (decide (p < 22)) (fun d => d.laneUp p sdOk rxTaps txTaps)

/-- PORT_RESET (R81). -/
def execPortReset (p : Nat) (s : State) : Host.Outcome State Fault Refusal :=
  s.core (decide (p < 22)) (fun d => d.watchLinks (fun d => d.fnReset (prtUid p) (fun d => d.portReset p)))

/-! ### Egress -/

/-- DESCRIPTOR_HANDOVER (R103, R120). -/
def execDescriptorHandover (p : Nat) (s : State) : Host.Outcome State Fault Refusal :=
  s.core (decide (p < 22)) (fun d => d.handoverNext p)

/-- TRANSMIT_START (R122): the start of frame has `sub` steps of the TDC within its tick. -/
def execTransmitStart (p sub : Nat) (s : State) : Host.Outcome State Fault Refusal :=
  s.core (decide (p < 22) && decide (sub < 64)) (fun d => d.looped p (d.transmitStart p sub))

/-- TRANSMIT_END (R123). -/
def execTransmitEnd (p : Nat) (s : State) : Host.Outcome State Fault Refusal :=
  s.core (decide (p < 22)) (fun d => d.looped p (d.watchLinks (fun d => d.transmitEnd p)))

/-- GATE_EVENT (R125). -/
def execGateEvent (p : Nat) (s : State) : Host.Outcome State Fault Refusal :=
  s.core (decide (p < 22)) (fun d => d.looped p (d.gateEvent p))

/-- CHANGE (R127): a write of `SCH_CTRL` with CHANGE = 1. -/
def execChange (m : Master) (p : Nat) (v : BitVec 32) (s : State) : Host.Outcome State Fault Refusal :=
  s.busW (decide (p < 22)) m (0x300000 + 0x8000 * p) (withField v 2 1 1)

/-- CANCEL (R128): a write of `SCH_CTRL` with CANCEL = 1. -/
def execCancel (m : Master) (p : Nat) (v : BitVec 32) (s : State) : Host.Outcome State Fault Refusal :=
  s.busW (decide (p < 22)) m (0x300000 + 0x8000 * p) (withField v 3 1 1)

/-- CONFIG_SWAP (R127). -/
def execConfigSwap (p : Nat) (s : State) : Host.Outcome State Fault Refusal :=
  s.core (decide (p < 22)) (fun d => d.looped p (d.configSwap p))

/-- The hold takes effect (R132): an entry with OP 1 begins HOLDADV from now; the preemptable frame in transmission is preempted. -/
def Dev.macHold (d : Dev) (p : Nat) : Dev :=
  if d.opAt p (d.schNow p + d.rd (SCH_PADV_HOLDADV p) * 2 ^ 16) = 1 ∧ !d.on (SCH_STAT_HOLD p) then
    let d := (d.put (SCH_STAT_HOLD p) true).inc (SCH_HOLDCNT_CNT p)
    match (d.port p).tx with
    | some t => d.when (d.preemptable p t.desc.tc) (fun d => d.preempt p)
    | none => d
  else d

/-- The hold ends (R132): an entry with OP 2 begins RELADV from now. -/
def Dev.macRelease (d : Dev) (p : Nat) : Dev :=
  if d.opAt p (d.schNow p + d.rd (SCH_PADV_RELADV p) * 2 ^ 16) = 2 then d.put (SCH_STAT_HOLD p) false else d

/-- MAC_HOLD (R132): an entry with OP 1 begins HOLDADV from now. -/
def execMacHold (p : Nat) (s : State) : Host.Outcome State Fault Refusal :=
  s.core (decide (p < 22)) (fun d => d.looped p (d.macHold p))

/-- MAC_RELEASE (R132): an entry with OP 2 begins RELADV from now. -/
def execMacRelease (p : Nat) (s : State) : Host.Outcome State Fault Refusal := s.core (decide (p < 22)) (fun d => d.macRelease p)

/-- LAUNCH_TIME_REACHED (R135): of the `i`-th frame of a class. -/
def execLaunchTimeReached (p c i : Nat) (s : State) : Host.Outcome State Fault Refusal :=
  s.core (decide (p < 22) && decide (c < 8)) (fun d => d.launchReached p c i)

/-- LATE_TOLERANCE_EXPIRY (R136): of the `i`-th frame of a class. -/
def execLateToleranceExpiry (p c i : Nat) (s : State) : Host.Outcome State Fault Refusal :=
  s.core (decide (p < 22) && decide (c < 8)) (fun d => d.lateExpiry p c i)

/-- SCHEDULER_RESET (R143). -/
def execSchedulerReset (p : Nat) (s : State) : Host.Outcome State Fault Refusal :=
  s.core (decide (p < 22)) (fun d => d.fnReset (schUid p) (fun d => d.schReset p))

end Sys2Proof.Machine
end

