-- ==== Sys2Proof/Machine/CmdSau.lean ====
section
/-! DEFINITION. The commands of the Sample Alignment Unit (spec/08). -/

namespace Sys2Proof.Machine

/-- SAMPLE_FRAME (R206): the oldest frame that waits; `ecc` says that the history of its stream meets an uncorrectable error (R231). -/
def execSampleFrame (ecc : Bool) (s : State) : Host.Outcome State Fault Refusal := s.core true (fun d => d.sampleFrame ecc)

/-- STREAM_TIMEOUT (R208). -/
def execStreamTimeout (i : Nat) (s : State) : Host.Outcome State Fault Refusal := s.core (decide (i < 256)) (fun d => d.streamTimeout i)

/-- STREAM_ENABLE (R208, R210): a write of `SAU_S_CFG` with EN = 1. -/
def execStreamEnable (m : Master) (i : Nat) (v : BitVec 32) (s : State) : Host.Outcome State Fault Refusal :=
  s.busW (decide (i < 256)) m (0x510000 + 0x80 * i) (withField v 0 1 1)

/-- STREAM_DISABLE (R230): a write of `SAU_S_CFG` with EN = 0. -/
def execStreamDisable (m : Master) (i : Nat) (v : BitVec 32) (s : State) : Host.Outcome State Fault Refusal :=
  s.busW (decide (i < 256)) m (0x510000 + 0x80 * i) (withField v 0 1 0)

/-- MATRIX_ENABLE (R214): a write of `SAU_Mm_CFG` with EN = 1. -/
def execMatrixEnable (m : Master) (i : Nat) (v : BitVec 32) (s : State) : Host.Outcome State Fault Refusal :=
  s.busW (decide (i < 4)) m (0x501000 + 0x100 * i) (withField v 0 1 1)

/-- MATRIX_DISABLE (R230): a write of `SAU_Mm_CFG` with EN = 0. -/
def execMatrixDisable (m : Master) (i : Nat) (v : BitVec 32) (s : State) : Host.Outcome State Fault Refusal :=
  s.busW (decide (i < 4)) m (0x501000 + 0x100 * i) (withField v 0 1 0)

/-- ROW_OPEN (R222). -/
def execRowOpen (i : Nat) (s : State) : Host.Outcome State Fault Refusal := s.core (decide (i < 4)) (fun d => d.rowOpen i)

/-- ROW_DEADLINE (R222). -/
def execRowDeadline (i : Nat) (s : State) : Host.Outcome State Fault Refusal := s.core (decide (i < 4)) (fun d => d.rowDeadline i)

/-- ROW_COMPLETE (R224). -/
def execRowComplete (i : Nat) (s : State) : Host.Outcome State Fault Refusal := s.core (decide (i < 4)) (fun d => (d.rowComplete i).ringsKept)

/-- SAU_RESET (R232). -/
def execSauReset (s : State) : Host.Outcome State Fault Refusal := s.core true (fun d => d.fnReset 0x0E8 Dev.sauReset)

end Sys2Proof.Machine
end

