-- ==== Sys2Proof/Machine/Loader.lean ====
section
/-! DEFINITION. The records of an image as the loader applies them (spec/15): what every record is checked for (R406, R416), register
writes and their deferral (R408, R414), memory loads (R409), engine images (R410, R417), tables (R411), pin safe states (R412), key
references (R413), and the commit (R414). -/

namespace Sys2Proof.Machine

/-- How the application of a record ends: applied; waiting at a POLL or DELAY entry; refused with a reason; the slot failed with one. -/
inductive RecRes where
  | applied
  | waits (i : Nat)
  | refused (reason : Nat)
  | failed (reason : Nat)

/-! ### Writes of an image -/

/-- The go fields of a register, by the offset of its first instance (R414). -/
def goBits : Nat → Nat
  | 0x810000 => 1
  | 0x100000 => 1
  | 0x200000 => 1
  | 0x400000 => 1
  | 0x510000 => 1
  | 0x501000 => 1
  | 0x240000 => 1
  | 0x700000 => 9
  | 0x0A1000 => 1
  | 0x602004 => 0xFFFFFFFF
  | 0x068000 => 1
  | _ => 0

/-- Whether every write of a register is deferred (R414): `PIN_IOn_SAFE` and `SUP_LOCK`. -/
def goWhole (base : Nat) : Bool := base == 0x60100C || base == 0x010004

/-- Whether a masked write is deferred to the commit (R414). -/
def Dev.deferred (d : Dev) (off v mask : Nat) : Bool :=
  let base := match findReg off with
    | some a => a.row.base
    | none => 0
  (v &&& mask &&& goBits base) != 0 || (goWhole base && mask != 0) || d.ldr.commit.any (fun e => e.1 == off)

/-- A masked write made by the loader as by the supervisor (R408), and whether the device refused it. -/
def Dev.maskedWrite (d : Dev) (off v mask : Nat) : Dev × Bool :=
  let r := if mask = 0xFFFFFFFF then (d, IoRes.done v)
    else let q := d.busRead .supervisor off
      (q.1, .done ((q.2.val &&& (0xFFFFFFFF - mask)) ||| (v &&& mask)))
  let q := ({ r.1 with refused := false }).busWrite .supervisor off r.2.val
  (q.1, q.1.refused || q.2 == .bus || q.2 == .refused)

/-- Event 0x0206: a write of an image that the device refused (R408, R414). -/
def Dev.writeRefused (d : Dev) (off : Nat) : Dev := d.postEvent 0x0206 0x0F9 off

/-- A write of an image during LOAD (R408, R414): deferred, or made at once. -/
def Dev.imageWrite (d : Dev) (off v mask : Nat) : Dev × RecRes :=
  if d.deferred off v mask then
    if 2048 ≤ d.ldr.commit.length then (d, .failed 0x0C)
    else (d.modLdr (fun x => { x with commit := x.commit ++ [(off, v &&& mask, mask)] }), .applied)
  else
    let q := d.maskedWrite off v mask
    if q.2 then (q.1.writeRefused off, .refused 0x14) else (q.1, .applied)

/-- Whole words written to consecutive offsets, up to the first that is refused (R411). -/
def Dev.imageWords (d : Dev) (off : Nat) : List Nat → Dev × RecRes
  | [] => (d, .applied)
  | v :: r =>
    match d.imageWrite off v 0xFFFFFFFF with
    | (d, .applied) => d.imageWords (off + 4) r
    | q => q

/-! ### REGWRITE (R408) -/

/-- An entry of a REGWRITE record. -/
structure RegEnt where
  word : Nat
  value : Nat
  mask : Nat

def RegEnt.op (e : RegEnt) : Nat := bits e.word 28 4
def RegEnt.off (e : RegEnt) : Nat := bits e.word 0 26

/-- The entries of a payload. -/
def regEnts (l : List Byte) : List RegEnt :=
  (List.range (l.length / 12)).map (fun i => ⟨leAt l (12 * i) 4, leAt l (12 * i + 4) 4, leAt l (12 * i + 8) 4⟩)

/-- Whether an entry is malformed: a reserved OP, bits that must be 0, an offset that is no multiple of 4, too long a delay. -/
def RegEnt.bad (e : RegEnt) : Bool :=
  decide (3 ≤ e.op) || bits e.word 26 2 != 0
    || (if e.op = 2 then e.off != 0 || e.mask != 0 || decide (1000000 < e.value) else e.off % 4 != 0)

/-- A POLL's condition is tried. -/
def Dev.pollTry (d : Dev) (e : RegEnt) : Dev × Bool :=
  let q := d.busRead .supervisor e.off
  (q.1, (q.2.val &&& e.mask) == e.value)

/-- The entries from one on, up to the first that waits, is refused or fails the slot. -/
def Dev.regEntries (d : Dev) (i : Nat) : List RegEnt → Dev × RecRes
  | [] => (d, .applied)
  | e :: r =>
    match e.op with
    | 0 =>
      match d.imageWrite e.off e.value e.mask with
      | (d, .applied) => d.regEntries (i + 1) r
      | q => q
    | 1 => let q := d.pollTry e
      if q.2 then q.1.regEntries (i + 1) r else (q.1, .waits i)
    | _ => (d, .waits i)

/-- A REGWRITE record begins. -/
def Dev.regWriteRecord (d : Dev) (l : List Byte) : Dev × RecRes :=
  let es := regEnts l
  if (l.length % 12 != 0 && l.length % 12 != 4) || es.any RegEnt.bad then (d, .refused 0x13) else d.regEntries 0 es

/-- Whether `us` microseconds have passed since the record began to wait. -/
def Dev.waitOver (d : Dev) (us : Nat) : Bool := decide (d.ldr.waitAt + us * (1000 * 65536) ≤ d.tb.lt)

/-- The POLL on which a record waits is tried again, or its 10 ms are over. -/
def Dev.pollAgain (d : Dev) (l : List Byte) (i : Nat) (expired : Bool) : Dev × RecRes :=
  match (regEnts l).drop i with
  | e :: r =>
    let q := d.pollTry e
    if q.2 then q.1.regEntries (i + 1) r
    else if expired && q.1.waitOver 10000 then (q.1, .refused 0x18)
    else (q.1, .waits i)
  | [] => (d, .applied)

/-- The DELAY on which a record waits is over. -/
def Dev.delayOver (d : Dev) (l : List Byte) (i : Nat) : Dev × RecRes :=
  match (regEnts l).drop i with
  | e :: r => if d.waitOver e.value then d.regEntries (i + 1) r else (d, .waits i)
  | [] => (d, .applied)

/-! ### MEMLOAD (R409) -/

/-- A pattern of bytes repeated over a length. -/
def repeatOver (p : List Byte) (n : Nat) : List Byte := (List.range n).map (fun i => p.getD (i % p.length) 0)

/-- A MEMLOAD record. -/
def Dev.memLoad (d : Dev) (l : List Byte) : Dev × RecRes :=
  let space := leAt l 0 1
  let e := leAt l 1 1
  let fill := bit (leAt l 2 1) 0
  let a := leAt l 4 4
  let n := leAt l 8 4
  let size := if space = 0 then 0x1000000 else 0x8000
  if 2 ≤ space ∨ (space = 1 ∧ 64 ≤ e) ∨ leAt l 2 2 / 2 ≠ 0 ∨ a % 8 ≠ 0 ∨ n % 8 ≠ 0 ∨ size < a + n ∨ l.length < 12 + (if fill then 8 else n) then
    (d, .refused 0x13)
  else
    let data := if fill then repeatOver ((l.drop 12).take 8) n else (l.drop 12).take n
    if space = 0 then
      if (unitsOf 0x40000 a n).all (fun b => d.rd (MEM_BANKb_OWNER b) == 0 && !d.on (MEM_BANKb_PEND b)) then
        ((d.memAccess .loader a (some data) n).1, .applied)
      else (d, .refused 0x15)
    else if d.depotOn (e / 8) && bit d.ldr.imaged (e / 8) && !bit d.ldr.dark (e / 8) then
      ((List.range (n / 4)).foldl (fun d i => (d.localPut e .dm (a + 4 * i) ((data.drop (4 * i)).take 4)).1) d, .applied)
    else (d, .refused 0x17)

/-! ### ENGIMAGE (R410, R417) -/

/-- The declarations of an engine image. -/
def imageDecls (l : List Byte) : List Decl :=
  (List.range (leAt l 3 1)).map (fun i =>
    let o := 32 + 8 * i
    ⟨leAt l o 1, leAt l (o + 2) 2, leAt l (o + 4) 2, leAt l (o + 6) 1, leAt l (o + 7) 1, leAt l 0 1⟩)

/-- The engines that an image names. -/
def imageEngines (l : List Byte) : List Nat := maskEngines (leAt l 0 1) (leAt l 1 1)

/-- Whether an engine image is malformed. -/
def imageBad (l : List Byte) : Bool :=
  let code := leAt l 24 4
  let dm := leAt l 28 4
  decide (8 ≤ leAt l 0 1) || leAt l 2 1 / 2 != 0 || decide (32 < leAt l 3 1) || code % 4 != 0 || dm % 4 != 0 || decide (0x8000 < code)
    || decide (0x8000 < dm) || decide (l.length < 32 + 8 * leAt l 3 1 + code + dm)
    || (List.range (leAt l 3 1)).any (fun i =>
      let k := leAt l (32 + 8 * i) 1
      decide (2 ≤ k) || leAt l (33 + 8 * i) 1 != 0 || decide ((if k = 0 then 256 else 1024) ≤ leAt l (34 + 8 * i) 2))

/-- The accepted declaration that a new one meets (R417). -/
def Dev.declMet (d : Dev) (x : Decl) : Option Decl := d.ldr.decls.find? (fun y => y.kind == x.kind && y.index == x.index)

/-- Whether a declaration is refused: another protocol, or another major version. -/
def Dev.declBad (d : Dev) (x : Decl) : Bool :=
  match d.declMet x with
  | some y => y.prot != x.prot || y.major != x.major
  | none => false

/-- A declaration is entered, with event 0x0205 where its minor version differs. -/
def Dev.declEnter (d : Dev) (x : Decl) : Dev :=
  match d.declMet x with
  | some y => d.when (y.minor != x.minor)
      (fun d => d.postEvent 0x0205 0x0F9 (x.kind * 2 ^ 31 + x.index % 1024 * 2 ^ 16 + x.prot))
  | none => d

/-- 32-bit words written into a local memory from its first byte. -/
def Dev.localFill (d : Dev) (e : Nat) (m : LocalMem) (l : List Byte) : Dev :=
  (List.range (l.length / 4)).foldl (fun d i => (d.localPut e m (4 * i) ((l.drop (4 * i)).take 4)).1) d

/-- An engine receives its image (R410): code by way of the shadow, data, the five registers; AUTORUN adds its RUN to the commit list. -/
def Dev.engineLoad (d : Dev) (e : Nat) (l : List Byte) : Dev × Bool :=
  let o := 32 + 8 * leAt l 3 1
  let code := leAt l 24 4
  let d := (d.localFill e .sh ((l.drop o).take code)).swapWrite e 1
  let d := d.localFill e .dm ((l.drop (o + code)).take (leAt l 28 4))
  let d := d.putWords .supervisor (engBase e + 0x08) ((List.range 5).map (fun i => leAt l (4 + 4 * i) 4))
  let d := d.modLdr (fun x => { x with loaded := x.loaded ++ [e] })
  if bit (leAt l 2 1) 0 then
    if 2048 ≤ d.ldr.commit.length then (d, false)
    else (d.modLdr (fun x => { x with commit := x.commit ++ [(engBase e, 1, 1)] }), true)
  else (d, true)

/-- An ENGIMAGE record. -/
def Dev.engImage (d : Dev) (l : List Byte) : Dev × RecRes :=
  let n := leAt l 0 1
  let ds := imageDecls l
  if imageBad l then (d, .refused 0x13)
  else if bit d.ldr.dark n then (d, .refused 0x17)
  else if (imageEngines l).any (fun e => d.ldr.loaded.contains e) then (d, .refused 0x13)
  else if ds.any (fun x => d.declBad x) then (d, .refused 0x16)
  else if 512 < d.ldr.decls.length + ds.length then (d, .refused 0x13)
  else
    let d := (ds.foldl (fun d x => d.declEnter x) d).modLdr (fun x => { x with decls := x.decls ++ ds, imaged := setBits x.imaged n 1 1 })
    let d := (d.depotOffDone n).when (!d.depotOn n) (fun d => ((d.put (DEP_CTRL_PWRON n) true).depotPowerOn n).depotWakeDone n)
    let r := (imageEngines l).foldl (fun (acc : Dev × Bool) e => if acc.2 then acc.1.engineLoad e l else acc) (d, true)
    (r.1, if r.2 then .applied else .failed 0x0C)

/-- A refused ENGIMAGE that is not essential leaves its depot dark (R416). -/
def Dev.goDark (d : Dev) (n : Nat) : Dev :=
  if 8 ≤ n then d
  else
    let d := (d.depotPowerOff n).depotOffDone n
    d.modLdr (fun x => { x with
      dark := setBits x.dark n 1 1
      loaded := x.loaded.filter (fun e => e / 8 != n)
      decls := x.decls.filter (fun y => y.depot != n) })

/-! ### TABLE (R411) -/

/-- A mode table goes through the staging registers and is committed; false where the commit sets INVALID. -/
def Dev.imageMode (d : Dev) (r m : Nat) (w : Nat → Nat) (count : Nat) : Dev × RecRes :=
  let base := 0x400000 + 0x4000 * r
  let d := d.commitApply r
  let d := { d with refused := false }
  let d := (d.put32 .supervisor (base + 0x1000) (w 0)).put32 .supervisor (base + 0x1004) (w 1)
  let two (v : Nat) : List Nat := [v % 2 ^ 32, v / 2 ^ 32]
  let d := forNums 8 (fun j d => d.putWords .supervisor (base + 0x1010 + 8 * j) (two (w (2 + j)))) d
  let d := forNums 32 (fun s d => d.putWords .supervisor (base + 0x1100 + 8 * s) (two (w (10 + s)))) d
  let d := forNums 256 (fun e d => d.putWords .supervisor (base + 0x1200 + 8 * e) (two (if e < count then w (42 + e) else 0))) d
  if d.refused then (d.writeRefused (base + 0x1000), .refused 0x14)
  else
    let ok := (d.staging r).ok (d.ring10G r)
    let d := (d.modeCommand r m 0).commitApply r
    if ok then (d, .applied) else (d.writeRefused (base + 0x80), .refused 0x14)

/-- Entries of a bridging table, each through `FAB_TBLCMD`. -/
def Dev.imageBridging (d : Dev) (table first : Nat) (w : Nat → Nat) : Nat → Nat → Dev × RecRes
  | 0, _ => (d, .applied)
  | n + 1, i =>
    let d := d.put FAB_TBLCMD_BUSY false
    let d := d.putWords .supervisor 0x202010 ((List.range 4).map (fun j => w (4 * i + j)))
    let q := d.maskedWrite 0x202000 (table + 8 + (first + i) * 256) 0xFFFFFFFF
    if q.2 then (q.1.writeRefused 0x202000, .refused 0x14)
    else (q.1.put FAB_TBLCMD_BUSY false).imageBridging table first w n (i + 1)

/-- A TABLE record. -/
def Dev.tableRecord (d : Dev) (l : List Byte) : Dev × RecRes :=
  let inst := leAt l 1 1
  let first := leAt l 4 4
  let count := leAt l 8 4
  let bad : Dev × RecRes := (d, .refused 0x13)
  if leAt l 2 2 ≠ 0 then bad
  else match leAt l 0 1 with
    | 1 =>
      if first % 4 ≠ 0 ∨ 2 ^ 26 < first + 4 * count ∨ l.length < 12 + 4 * count then bad
      else d.imageWords first ((List.range count).map (fun i => leAt l (12 + 4 * i) 4))
    | 2 =>
      if first ≠ 0 ∨ 256 < count ∨ inst / 16 ≠ 0 ∨ l.length < 12 + 8 * (42 + count)
          ∨ (List.range 2).any (fun i => leAt l (12 + 8 * i) 8 / 2 ^ 32 != 0) then bad
      else d.imageMode (inst % 2) (inst / 2) (fun i => leAt l (12 + 8 * i) 8) count
    | 3 =>
      if 8 ≤ inst ∨ 65536 < first + count ∨ l.length < 12 + 16 * count then bad
      else d.imageBridging inst first (fun i => leAt l (12 + 4 * i) 4) count 0
    | _ => bad

/-! ### PINSAFE and KEYREF (R412, R413) -/

/-- The entries of a PINSAFE payload; a last word of zeros is the padding that the record's length needs. -/
def pinEnts (l : List Byte) : List Nat :=
  let ws := (List.range (l.length / 4)).map (fun i => leAt l (4 * i) 4)
  if ws.getLast? = some 0 then ws.dropLast else ws

/-- Whether a PINSAFE entry is malformed. -/
def pinEntBad (v : Nat) : Bool := decide (47 < bits v 0 6) || bits v 6 2 == 3 || bits v 9 2 == 3 || decide (2 ^ 11 ≤ v)

/-- A PINSAFE record: its entries are held for the commit. -/
def Dev.pinSafe (d : Dev) (l : List Byte) : Dev × RecRes :=
  let es := pinEnts l
  if es.any pinEntBad || decide (48 < es.length) then (d, .refused 0x13)
  else (d.modLdr (fun x => { x with safes := x.safes ++ es }), .applied)

/-- Whether a KEYREF entry is malformed, or names a fused key that has not been programmed. -/
def keyEntBad (l : List Byte) : Bool :=
  decide (2 < leAt l 1 1) || decide (2 < leAt l 2 1) || decide (1 < leAt l 3 1) || decide (7 < leAt l 4 1) || leAt l 5 3 != 0
    || (leAt l 3 1 == 1 && !Config.fusedKeySet (leAt l 4 1))

/-- A key slot is configured by an entry. -/
def Dev.keyEntry (d : Dev) (l : List Byte) : Dev :=
  let s := leAt l 0 1
  let base := 0x230000 + 0x40 * s
  let d := d.put32 .supervisor base (leAt l 1 1 + 4 * leAt l 2 1)
  let d := d.putWords .supervisor (base + 4) ((List.range 6).map (fun i => leAt l (8 + 4 * i) 4))
  d.when (leAt l 3 1 == 1) (fun d => d.keyCommit s (Config.fusedKey (leAt l 4 1)))

/-- A KEYREF record. -/
def Dev.keyRef (d : Dev) (l : List Byte) : Dev × RecRes :=
  let es := (List.range (l.length / 32)).map (fun i => (l.drop (32 * i)).take 32)
  if (l.length % 32 != 0 && l.length % 32 != 4) || decide (256 < es.length) || es.any keyEntBad then (d, .refused 0x13)
  else (es.foldl (fun d e => d.keyEntry e) d, .applied)

/-! ### Every record (R406, R416) -/

/-- Record types that the loader checks whole in its buffer (R407). -/
def Rec.buffered (r : Rec) : Bool := r.typ == 1 || r.typ == 4 || r.typ == 5 || r.typ == 6

/-- The reason for which a record's requirements refuse it, absence before a low version (R416). -/
def recReq (l : List Byte) (n : Nat) : Option Nat :=
  let rs := (List.range n).filterMap (fun i => capReason (leAt l (16 + 4 * i) 4))
  if rs.contains 0x10 then some 0x10 else rs.head?

/-- The payload of a record. -/
def Rec.payload (r : Rec) (l : List Byte) : List Byte := (l.drop (16 + 4 * r.nreq)).take (r.len - 20 - 4 * r.nreq)

/-- The loader goes on to the next record; after the last it verifies (R395). -/
def Dev.nextRecord (d : Dev) (r : Rec) (nrec : Nat) : Dev :=
  let d := d.modLdr (fun x => { x with off := r.off + r.len, idx := r.idx + 1, wait := none })
  d.when (r.idx + 1 == nrec) (fun d => d.wr LDR_STAT_STATE 3)

/-- After a record whose data streamed, its CRC is judged (R406, R407). -/
def Dev.recordOver (d : Dev) (r : Rec) (nrec : Nat) (l : List Byte) : Dev :=
  if recCrcOk l then d.nextRecord r nrec else d.slotFail 0x07 r.idx

/-- A record is refused (R416). -/
def Dev.recordRefused (d : Dev) (r : Rec) (nrec : Nat) (l : List Byte) (reason : Nat) : Dev :=
  let d := (d.postEvent 0x0203 0x0F9 (r.idx % 65536 * 2 ^ 16 + reason)).inc LDR_STAT_RECREF
  let d := (d.wr LDR_LASTREF_INDEX r.idx).wr LDR_LASTREF_REASON reason
  if r.essential then d.slotFail 0x0B r.idx
  else (d.when (r.typ == 3) (fun d => d.goDark (leAt (r.payload l) 0 1))).recordOver r nrec l

/-- The application of a record has ended, waits, or has failed the slot. -/
def Dev.recordEnd (r : Rec) (nrec : Nat) (l : List Byte) : Dev × RecRes → Dev
  | (d, .applied) =>
    (if d.tested (leAt l 8 1) (leAt l 9 1) (leAt l 10 1) (leAt l 11 1) then d else d.untested r.idx).recordOver r nrec l
  | (d, .waits i) => d.modLdr (fun x => { x with wait := some i, waitAt := if x.wait = some i then x.waitAt else d.tb.lt })
  | (d, .refused reason) => d.recordRefused r nrec l reason
  | (d, .failed reason) => d.slotFail reason r.idx

/-- The record that comes next in the slot that loads, with the number of records, if a record comes next. -/
def Dev.nextRec (d : Dev) : Option (Rec × Nat) :=
  let s := d.rd LDR_STAT_SLOT
  let n := hdrNrec (d.slotHdr s)
  if d.rd LDR_STAT_STATE = 2 ∧ !d.ldr.rollback ∧ d.ldr.idx < n ∧ d.ldr.off + 16 ≤ d.ldr.got then
    some (d.recAt s d.ldr.idx d.ldr.off, n)
  else none

/-- The next record is met (R406, R416), where it is of a given type: its form, its CRC where it is buffered, its requirements, its
type, its own rules. -/
def Dev.record (d : Dev) (want : Nat → Bool) (apply : Dev → List Byte → Dev × RecRes) : Dev :=
  match d.nextRec with
  | none => d
  | some (r, n) =>
    let s := d.rd LDR_STAT_SLOT
    if !want r.typ || d.ldr.wait.isSome then d
    else if !r.consistent (hdrLength (d.slotHdr s)) n then d.slotFail 0x04 r.idx
    else if d.ldr.got < r.off + r.len then d
    else
      let l := d.recBytes s r
      if r.buffered && decide (r.len ≤ 65536) && !recCrcOk l then d.slotFail 0x07 r.idx
      else match recReq l r.nreq with
        | some reason => d.recordRefused r n l reason
        | none =>
          if r.buffered && decide (65536 < r.len) then d.recordRefused r n l 0x13
          else Dev.recordEnd r n l (apply d (r.payload l))

/-- A record that waits at an entry goes on, where that entry has a given OP. -/
def Dev.recordGoes (d : Dev) (op : Nat) (go : Dev → List Byte → Nat → Dev × RecRes) : Dev :=
  match d.nextRec, d.ldr.wait with
  | some (r, n), some i =>
    let l := d.recBytes (d.rd LDR_STAT_SLOT) r
    let p := r.payload l
    if ((regEnts p)[i]?).any (fun e => e.op == op) then
      Dev.recordEnd r n l (go d p i)
    else d
  | _, _ => d

/-! ### The commit (R414) -/

/-- A PINSAFE entry's safe state and binding are written. -/
def Dev.safeApply (d : Dev) (v : Nat) : Dev :=
  let n := bits v 0 6
  ((d.wr (PIN_IOn_SAFE_SAFE n) (bits v 6 2)).wr (PIN_IOn_CFG_DRBIND n) (bits v 9 2)).safeFollow n

/-- A write of the commit list; a refused one is recorded, and the commit goes on. -/
def Dev.commitWrite (d : Dev) (e : Nat × Nat × Nat) : Dev :=
  let q := d.maskedWrite e.1 e.2.1 e.2.2
  q.1.when q.2 (fun d => d.writeRefused e.1)

/-- The commit, and RUN (R395, R414). -/
def Dev.commit (d : Dev) : Dev :=
  if d.rd LDR_STAT_STATE ≠ 4 then d
  else
    let s := d.rd LDR_STAT_SLOT
    let safes := d.ldr.safes
    let list := d.ldr.commit
    let d := d.modLdr (fun x => { x with commit := [], safes := [] })
    let d := safes.foldl (fun d v => d.safeApply v) d
    let d := (safes.filter (fun v => bit v 8)).foldl (fun d v => d.pinRelease (bits v 0 6)) d
    let d := list.foldl (fun d e => d.commitWrite e) d
    let gen := d.rd (LDR_SLOTs_GEN s)
    let fb := bit d.ldr.tried 0 && bit d.ldr.tried 1
    let d := ((d.wr LDR_GEN_GEN gen).put LDR_STAT_FALLBACK fb).wr LDR_STAT_STATE 5
    d.postEvent 0x0201 0x0F9 (s * 2 ^ 30 + b01 fb * 2 ^ 29 + gen % 2 ^ 24)

end Sys2Proof.Machine
end

