-- ==== Sys2Proof/Machine/CmdStart.lean ====
section
/-! DEFINITION. The commands of the start, the image loader and the NOR (spec/15, spec/16): resets and clocks, the records of an image in their order
in the slot, and the NOR commands. -/

namespace Sys2Proof.Machine

/-- POR (R428). -/
def execPor (s : State) : Host.Outcome State Fault Refusal := s.act true Dev.powerOnReset

/-- POR_END (R428). -/
def execPorEnd (s : State) : Host.Outcome State Fault Refusal := s.act true Dev.porEnd

/-- VDD_BROWN_OUT (R429, R443). -/
def execVddBrownOut (s : State) : Host.Outcome State Fault Refusal := s.act true Dev.brownOut

/-- RST_N (R429, R452). -/
def execRstN (s : State) : Host.Outcome State Fault Refusal := s.act true (fun d => d.holdReset (fun d => d.wake .rstN))

/-- SUP_RST (R429): a write of `SUP_RST` with its key. -/
def execSupRst (m : Master) (s : State) : Host.Outcome State Fault Refusal := s.busW true m 0x10018 0x3C000001

/-- REFCLK_LOSS (R449, R429). -/
def execRefclkLoss (s : State) : Host.Outcome State Fault Refusal := s.act true Dev.refclkLoss

/-- TESTEN (R506). -/
def execTesten (s : State) : Host.Outcome State Fault Refusal := s.act true Dev.testen

/-- WARM_END (R429). -/
def execWarmEnd (s : State) : Host.Outcome State Fault Refusal := s.act true Dev.warmEnd

/-- COARSE_CLOCK_CHECK (R397): the cycles of REFCLK counted. -/
def execCoarseClockCheck (count : Nat) (s : State) : Host.Outcome State Fault Refusal := s.act true (fun d => d.coarseCheck count)

/-- PLL_LOCK (R395). -/
def execPllLock (s : State) : Host.Outcome State Fault Refusal := s.core true Dev.pllLock

/-- FINE_CLOCK_CHECK (R397): the cycles of REFCLK counted over 1,024 of XTAL32. -/
def execFineClockCheck (count : Nat) (s : State) : Host.Outcome State Fault Refusal :=
  s.core (decide (count < 2 ^ 20)) (fun d => d.fineCheck count)

/-- XTAL32_CHECK (R398). -/
def execXtal32Check (good : Bool) (s : State) : Host.Outcome State Fault Refusal := s.act true (fun d => d.xtalCheck good)

/-- NOR_PROBE (R400, R405): the density that the SFDP tables give, as the base-2 logarithm of the bytes, where they give one, and the failed reads of each slot's header (R402). -/
def execNorProbe (density : Option Nat) (failsA failsB : Nat) (s : State) : Host.Outcome State Fault Refusal :=
  s.core (density.all (fun n => decide (n < 256))) (fun d => d.norProbe density failsA failsB)

/-- NOR_BURST (R402): a read burst of `bytes`, at most 4 KiB, completes or is reported in error. -/
def execNorBurst (bytes : Nat) (good : Bool) (s : State) : Host.Outcome State Fault Refusal :=
  s.core true (fun d => if good then d.burstDone bytes else d.burstFails)

/-- NOR_BURST_TIMEOUT (R402). -/
def execNorBurstTimeout (s : State) : Host.Outcome State Fault Refusal := s.core true Dev.burstFails

/-- REGWRITE (R408): the record that comes next, where it is of TYPE 1. -/
def execRegwrite (s : State) : Host.Outcome State Fault Refusal := s.core true (fun d => d.record (· == 1) Dev.regWriteRecord)

/-- MEMLOAD (R409): the record that comes next, where it is of TYPE 2. -/
def execMemload (s : State) : Host.Outcome State Fault Refusal := s.core true (fun d => d.record (· == 2) Dev.memLoad)

/-- ENGIMAGE (R410): the record that comes next, where it is of TYPE 3. -/
def execEngimage (s : State) : Host.Outcome State Fault Refusal := s.core true (fun d => d.record (· == 3) Dev.engImage)

/-- TABLE (R411): the record that comes next, where it is of TYPE 4. -/
def execTable (s : State) : Host.Outcome State Fault Refusal := s.core true (fun d => d.record (· == 4) Dev.tableRecord)

/-- PINSAFE (R412): the record that comes next, where it is of TYPE 5. -/
def execPinsafe (s : State) : Host.Outcome State Fault Refusal := s.core true (fun d => d.record (· == 5) Dev.pinSafe)

/-- KEYREF (R413): the record that comes next, where it is of TYPE 6. -/
def execKeyref (s : State) : Host.Outcome State Fault Refusal := s.core true (fun d => d.record (· == 6) Dev.keyRef)

/-- POLL (R408): the register is read again, or the 10 ms are over. -/
def execPoll (expired : Bool) (s : State) : Host.Outcome State Fault Refusal :=
  s.core true (fun d => d.recordGoes 1 (fun d l i => d.pollAgain l i expired))

/-- DELAY (R408): the time of the entry is over. -/
def execDelay (s : State) : Host.Outcome State Fault Refusal := s.core true (fun d => d.recordGoes 2 Dev.delayOver)

/-- RESERVED_RECORD (R407): the record that comes next, where its TYPE is reserved. -/
def execReservedRecord (s : State) : Host.Outcome State Fault Refusal :=
  s.core true (fun d => d.record (fun t => t == 0 || decide (6 < t)) (fun d _ => (d, .refused 0x12)))

/-- ROLLBACK (R418). -/
def execRollback (s : State) : Host.Outcome State Fault Refusal := s.core true Dev.rollback

/-- SIGNATURE_CHECK (R415). -/
def execSignatureCheck (s : State) : Host.Outcome State Fault Refusal := s.core true Dev.signature

/-- COMMIT (R414). -/
def execCommit (s : State) : Host.Outcome State Fault Refusal := s.core true Dev.commit

/-- NOR_READ (R423): a write of `LDR_NORCMD` with OP = 0. -/
def execNorRead (m : Master) (v : BitVec 32) (s : State) : Host.Outcome State Fault Refusal := s.busW true m 0x20050 (withField v 0 3 0)

/-- NOR_PROGRAM (R423): a write of `LDR_NORCMD` with OP = 1. -/
def execNorProgram (m : Master) (v : BitVec 32) (s : State) : Host.Outcome State Fault Refusal := s.busW true m 0x20050 (withField v 0 3 1)

/-- NOR_ERASE4K (R423): a write of `LDR_NORCMD` with OP = 2. -/
def execNorErase4k (m : Master) (v : BitVec 32) (s : State) : Host.Outcome State Fault Refusal := s.busW true m 0x20050 (withField v 0 3 2)

/-- NOR_ERASE64K (R423): a write of `LDR_NORCMD` with OP = 3. -/
def execNorErase64k (m : Master) (v : BitVec 32) (s : State) : Host.Outcome State Fault Refusal := s.busW true m 0x20050 (withField v 0 3 3)

/-- NOR_CHECK (R423): a write of `LDR_NORCMD` with OP = 4. -/
def execNorCheck (m : Master) (v : BitVec 32) (s : State) : Host.Outcome State Fault Refusal := s.busW true m 0x20050 (withField v 0 3 4)

/-- NOR_COMMAND_DONE (R423): well, or in error, and then what a program or an erase left in the NOR. -/
def execNorCommandDone (left : Option (List (BitVec 8))) (s : State) : Host.Outcome State Fault Refusal :=
  s.core true (fun d => d.norDone left)

/-- LOADER_RESET (R425). -/
def execLoaderReset (s : State) : Host.Outcome State Fault Refusal := s.core true (fun d => d.fnReset 0x0F9 Dev.loaderReset)

end Sys2Proof.Machine
end

