-- ==== Sys2Proof/Machine/CmdSup.lean ====
section
/-! DEFINITION. The commands of the supervisor and the always-on island (spec/16). -/

namespace Sys2Proof.Machine

/-- WRITE_INHIBIT_START (R444): by POWERFAIL_N, or by VDDIO_A, low or lost (R522). -/
def execWriteInhibitStart (why : Sag) (s : State) : Host.Outcome State Fault Refusal :=
  s.act true (fun d => if d.sup.por then d else d.inhibitStart why)

/-- WRITE_INHIBIT_END (R444). -/
def execWriteInhibitEnd (s : State) : Host.Outcome State Fault Refusal := s.act true (fun d => if d.sup.por then d else d.inhibitEnd)

/-- FUNCTION_RESET_REQUEST (R430): a write of `SUP_FNRST` with its key. -/
def execFunctionResetRequest (m : Master) (uid : Nat) (s : State) : Host.Outcome State Fault Refusal :=
  s.busW (decide (uid < 4096)) m 0x10010 (BitVec.ofNat 32 (0xC3000000 + uid))

/-- SUPERVISOR_RESET (R431). -/
def execSupervisorReset (s : State) : Host.Outcome State Fault Refusal := s.core true (fun d => d.fnReset 0x000 Dev.supervisorReset)

/-- FAULT_SET (R439): a write of `SUP_FAULT` with SET = 1. -/
def execFaultSet (m : Master) (v : BitVec 32) (s : State) : Host.Outcome State Fault Refusal := s.busW true m 0x10020 (withField v 8 1 1)

/-- FAULT_CLEAR (R441): a write of `SUP_FAULT` with CLR = 1. -/
def execFaultClear (m : Master) (v : BitVec 32) (s : State) : Host.Outcome State Fault Refusal := s.busW true m 0x10020 (withField v 9 1 1)

/-- PLL_LOCK_LOSS (R439): cause CLK. -/
def execPllLockLoss (s : State) : Host.Outcome State Fault Refusal := s.core true (fun d => d.faultSet 3)

/-- PLL_RELOCK (R439). -/
def execPllRelock (s : State) : Host.Outcome State Fault Refusal := s.core true (fun d => d.faultDrop 3)

/-- SUPERVISOR_ENGINE_ERROR (R439): cause SUPERR. -/
def execSupervisorEngineError (s : State) : Host.Outcome State Fault Refusal := s.core true (fun d => d.faultSet 4)

/-- WATCHDOG_KICK (R446): a write of `SUP_WDKICK` with its key. -/
def execWatchdogKick (m : Master) (v : BitVec 32) (s : State) : Host.Outcome State Fault Refusal :=
  s.busW true m 0x10038 (withField v 24 8 0x96)

/-- WATCHDOG_EXPIRY (R447). -/
def execWatchdogExpiry (s : State) : Host.Outcome State Fault Refusal := s.core true Dev.watchdog

/-- GRACE_EXPIRY (R447). -/
def execGraceExpiry (s : State) : Host.Outcome State Fault Refusal := s.core true Dev.graceEnd

/-- TEMPERATURE_SAMPLE (R448): Tj in units of 0.25 °C. -/
def execTemperatureSample (tj : Int) (s : State) : Host.Outcome State Fault Refusal :=
  s.core (decide (-2048 ≤ tj) && decide (tj < 2048)) (fun d => d.temperature tj)

/-- STANDBY (R451): a write of `SUP_PWR` with its key and STBY = 1. -/
def execStandby (m : Master) (s : State) : Host.Outcome State Fault Refusal := s.busW true m 0x10060 0x5A000001

/-- STANDBY_CORE_RESET (R451). -/
def execStandbyCoreReset (s : State) : Host.Outcome State Fault Refusal := s.act true Dev.coreOff

/-- WAKE (R452). -/
def execWake (src : WakeSrc) (s : State) : Host.Outcome State Fault Refusal := s.act true (fun d => d.wake src)

/-- CLOCK_GATE_WRITE (R453): a write of `SUP_CGATE`. -/
def execClockGateWrite (m : Master) (v : BitVec 32) (s : State) : Host.Outcome State Fault Refusal := s.busW true m 0x10050 v

/-- SUP_LOCK (R534): a write of 1 to `SUP_LOCK`. -/
def execSupLock (m : Master) (s : State) : Host.Outcome State Fault Refusal := s.busW true m 0x10004 1

end Sys2Proof.Machine
end

