-- ==== Sys2Proof/Machine/CmdTime.lean ====
section
/-! DEFINITION. The commands of the timebase (spec/02). -/

namespace Sys2Proof.Machine

/-- CAPTURE (R28): a write of `TB_SNAPn_CTRL` with CAPTURE = 1. -/
def execCapture (m : Master) (n : Nat) (v : BitVec 32) (s : State) : Host.Outcome State Fault Refusal :=
  s.busW (decide (n < 4)) m (0x80100 + 0x40 * n) (withField v 0 1 1)

/-- A snapshot that was taken becomes valid (R28). -/
def Dev.snapshotValid (d : Dev) (n : Nat) : Dev :=
  if d.tb.snapDue.contains n then
    { d with tb := { d.tb with snapDue := d.tb.snapDue.filter (fun i => !(i == n)) } }.put (TB_SNAPn_CTRL_VALID n) true
  else d

/-- SNAPSHOT_VALID (R28). -/
def execSnapshotValid (n : Nat) (s : State) : Host.Outcome State Fault Refusal :=
  s.core (decide (n < 4)) (fun d => d.snapshotValid n)

/-- DOMAIN_SET (R35, R36): the write of `TB_TDn_SET`'s highest word. -/
def execDomainSet (m : Master) (n : Nat) (v : BitVec 32) (s : State) : Host.Outcome State Fault Refusal :=
  s.busW (decide (n < 4)) m (0x81020 + 0x100 * n) v

/-- DOMAIN_STEP_WRITE (R35, R36): the write of `TB_TDn_STEP`'s highest word. -/
def execDomainStepWrite (m : Master) (n : Nat) (v : BitVec 32) (s : State) : Host.Outcome State Fault Refusal :=
  s.busW (decide (n < 4)) m (0x8102C + 0x100 * n) v

/-- INCR_NOM_WRITE (R35): the write of `TB_TDn_INCR_NOM`'s highest word. -/
def execIncrNomWrite (m : Master) (n : Nat) (v : BitVec 32) (s : State) : Host.Outcome State Fault Refusal :=
  s.busW (decide (n < 4)) m (0x8100C + 0x100 * n) v

/-- OFFSET_SUBMIT (R31): the write of `TB_TDn_OFFS`'s highest word. -/
def execOffsetSubmit (m : Master) (n : Nat) (v : BitVec 32) (s : State) : Host.Outcome State Fault Refusal :=
  s.busW (decide (n < 4)) m (0x81034 + 0x100 * n) v

/-- SERVO_DISABLE (R536): a write of `TB_TDn_CFG` with SERVO = 0. -/
def execServoDisable (m : Master) (n : Nat) (v : BitVec 32) (s : State) : Host.Outcome State Fault Refusal :=
  s.busW (decide (n < 4)) m (0x81000 + 0x100 * n) (withField v 4 1 0)

/-- DOMAIN_STEP (R36): the steps that wait for the tick boundary. -/
def execDomainStep (n : Nat) (s : State) : Host.Outcome State Fault Refusal :=
  s.core (decide (n < 4)) (fun d => d.domainStep n)

/-- The servo takes the oldest update (R31), and muting counts it (R133). -/
def Dev.servoTurn (d : Dev) (n : Nat) : Dev :=
  if d.servoReady n then (d.servoNext n).timeChanged.muteUpdate n else d

/-- SERVO_UPDATE (R31). -/
def execServoUpdate (n : Nat) (s : State) : Host.Outcome State Fault Refusal :=
  s.core (decide (n < 4)) (fun d => d.servoTurn n)

/-- SERVO_HOLD_TIMEOUT (R32). -/
def execServoHoldTimeout (n : Nat) (s : State) : Host.Outcome State Fault Refusal :=
  s.core (decide (n < 4)) (fun d => (d.servoTimeout n).timeChanged)

/-- EST_RECOMPUTE (R33): the estimates of the four domains, and what is judged by them (R133, R221). -/
def execEstRecompute (s : State) : Host.Outcome State Fault Refusal :=
  s.core true (fun d => (forNums 4 (fun n d => d.refreshEst n) d).timeChanged)

/-- TDC_CALIBRATION (R38): the receive or transmit TDC of a port, with the taps measured. -/
def execTdcCalibration (p : Nat) (tx : Bool) (taps : Nat) (s : State) : Host.Outcome State Fault Refusal :=
  s.core (decide (p < 22)) (fun d => d.calibrate p tx taps)

/-- PPS_EDGE (R49, R50), which reaches the device only through a supplied pad (R522): its direction, the pulse's width in ns, and the interpolator's count within the tick. -/
def execPpsEdge (rising : Bool) (width sub : Nat) (s : State) : Host.Outcome State Fault Refusal :=
  s.core true (fun d => if d.sup.ioB then d.ppsEdge rising width sub else d)

/-- PPS_MISSED (R50). -/
def execPpsMissed (s : State) : Host.Outcome State Fault Refusal := s.core true Dev.ppsMiss

/-- FREQ_WINDOW_END (R51): whether edges were present, and the rate measured in ppb. -/
def execFreqWindowEnd (present : Bool) (ppb : Int) (s : State) : Host.Outcome State Fault Refusal :=
  s.core true (fun d => d.freqWindow (present && d.sup.ioB) ppb)

/-- PPSO_PULSE_START (R52, R53). -/
def execPpsoPulseStart (k : Nat) (s : State) : Host.Outcome State Fault Refusal :=
  s.core (decide (k < 4)) (fun d => d.ppsoStart k)

/-- PPSO_PULSE_END (R52). -/
def execPpsoPulseEnd (k : Nat) (s : State) : Host.Outcome State Fault Refusal := s.core (decide (k < 4)) (fun d => d.ppsoEnd k)

/-- DEPARTURE_RECORD_READ (R47): the read of the highest word of `TB_Pp_DRQ`. -/
def execDepartureRecordRead (m : Master) (p : Nat) (s : State) : Host.Outcome State Fault Refusal :=
  s.busR (decide (p < 22)) m (0x9002C + 0x100 * p)

/-! ### Resets by function -/

/-- A function reset of a domain (R27): it goes on counting from its present value at the nominal increment, its servo in FREE. -/
def Dev.domainReset (d : Dev) (n : Nat) : Dev :=
  let old := d.rd (TB_TDn_STAT_STATE n)
  let d := (((d.keepRel n).clrs (fnFields_TD n)).servoFree n).timeChanged
  (d.when (old != 0) (fun d => d.postEvent 0x0B02 (0x0D0 + n) (old * 2 ^ 8))).resetReport 0x0B (0x0D0 + n) 0

/-- DOMAIN_RESET (R27). -/
def execDomainReset (n : Nat) (s : State) : Host.Outcome State Fault Refusal :=
  s.core (decide (n < 4)) (fun d => d.fnReset (0x0D0 + n) (fun d => d.domainReset n))

/-- Whether a descriptor's frame is a one-step frame at a port: its departure time is written into it as it leaves (R43). -/
def Dev.oneStepFrame (d : Dev) (p : Nat) (x : Desc) : Bool :=
  match ptpEvent x.bytes, x.origin with
  | none, _ => false
  | some _, .fabric _ => d.on (TB_Pp_CFG_OSEN p) && d.on (TB_Pp_CFG_TCEN p) && decide (p < 20)
  | some (_, o), _ =>
    let typ := fieldAt x.bytes o 1 % 16
    d.on (TB_Pp_CFG_OSEN p) && x.osreq && decide (p < 20) && (typ == 0 || (typ == 3 && !x.ltv))

/-- A one-step frame on the wire of a port is cut (R54, R79); the number of completion words this wrote. -/
def Dev.cutOneStep (d : Dev) (p : Nat) : Dev × Nat :=
  match (d.port p).tx with
  | some t =>
    if d.oneStepFrame p t.desc && !t.waits then
      (((d.setPort p { d.port p with tx := none, colls := 0, backoff := 0 }).cutOne p .reset t (d.sentBytes p t)).offIfDue p,
        b01 t.desc.wantsWord)
    else (d, 0)
  | none => (d, 0)

/-- The departure queue of a port is emptied (R54): the FN fields clear, and the records discarded are then counted as lost. -/
def Dev.emptyDepartures (d : Dev) (p : Nat) : Dev :=
  let q := d.depQ p
  let d := (d.clrs (fnFields_TBP p)).setDepQ p { recs := [], lost := q.lost + q.recs.length }
  d.incBy (TB_Pp_DRLOST_DRLOST p) q.recs.length

/-- A function reset of the timestamp units (R54). -/
def Dev.timestampReset (d : Dev) : Dev :=
  let r := (List.range 22).foldl (fun r p =>
    let c := r.1.cutOneStep p
    (c.1, r.2 + c.2)) (d, 0)
  (forNums 22 (fun p d => (d.emptyDepartures p).tdcsOff p) r.1).resetReport 0x0B 0x0D8 r.2

/-- TIMESTAMP_UNIT_RESET (R54). -/
def execTimestampUnitReset (s : State) : Host.Outcome State Fault Refusal := s.core true (fun d => d.fnReset 0x0D8 Dev.timestampReset)

end Sys2Proof.Machine
end

