-- ==== Sys2Proof/Machine/CmdTrain.lean ====
section
/-! DEFINITION. The commands of the train controller (spec/06, spec/07). -/

namespace Sys2Proof.Machine

/-- COACH_RECEIVED (R156): on a ring port. -/
def execCoachReceived (p : Nat) (f : RxFrame) (s : State) : Host.Outcome State Fault Refusal :=
  s.core (decide (p < 4) && decide (f.sub < 64)) (fun d => d.ringLooped p (d.coach p f))

/-- SURVEY_DELAY_COMPUTE (R169, R170). -/
def execSurveyDelayCompute (r : Nat) (s : State) : Host.Outcome State Fault Refusal := s.core (decide (r < 2)) (fun d => d.surveyDelays r)

/-- TRAIN_DEPARTURE (R181): the start of frame has `sub` steps of the TDC within its tick. -/
def execTrainDeparture (r sub : Nat) (s : State) : Host.Outcome State Fault Refusal :=
  s.core (decide (r < 2) && decide (sub < 64)) (fun d => d.trainDeparture r sub)

/-- MASTER_OUT_TAKE (R165). -/
def execMasterOutTake (r : Nat) (s : State) : Host.Outcome State Fault Refusal := s.core (decide (r < 2)) (fun d => d.outTake r)

/-- CYCLE_MARK (R189). -/
def execCycleMark (r j : Nat) (s : State) : Host.Outcome State Fault Refusal :=
  s.core (decide (r < 2) && decide (j < 8)) (fun d => d.cycleMark r j)

/-- MIRROR_COMMIT_WRITE (R165): a write of the OUT status word at a place of the mirror window, with COMMIT = 1. -/
def execMirrorCommitWrite (m : Master) (r a : Nat) (v : BitVec 32) (s : State) : Host.Outcome State Fault Refusal :=
  s.busW (decide (r < 2) && decide (a < 0x800) && a % 8 == 4) m (0x480000 + 0x40000 * r + a) (withField v 25 1 1)

/-- RING_ENABLE (R176): a write of `TRN_CFG` with EN = 1. -/
def execRingEnable (m : Master) (r : Nat) (v : BitVec 32) (s : State) : Host.Outcome State Fault Refusal :=
  s.busW (decide (r < 2)) m (0x400000 + 0x4000 * r) (withField v 0 1 1)

/-- SILENCE_TIMEOUT (R176). -/
def execSilenceTimeout (r : Nat) (s : State) : Host.Outcome State Fault Refusal := s.core (decide (r < 2)) (fun d => d.silence r)

/-- START_COACH_SEND (R178). -/
def execStartCoachSend (r sub : Nat) (s : State) : Host.Outcome State Fault Refusal :=
  s.core (decide (r < 2) && decide (sub < 64)) (fun d => d.startSend r sub)

/-- START_COACH_TIMEOUT (R178). -/
def execStartCoachTimeout (r : Nat) (s : State) : Host.Outcome State Fault Refusal := s.core (decide (r < 2)) (fun d => d.startTimeout r)

/-- CLAIM_WINDOW_END (R178). -/
def execClaimWindowEnd (r : Nat) (s : State) : Host.Outcome State Fault Refusal := s.core (decide (r < 2)) (fun d => d.windowEnd r)

/-- SURVEY (R183): a write of `TRN_MCTRL` with SURVEY = 1. -/
def execSurvey (m : Master) (r : Nat) (v : BitVec 32) (s : State) : Host.Outcome State Fault Refusal :=
  s.busW (decide (r < 2)) m (0x400030 + 0x4000 * r) (withField v 0 1 1)

/-- SURVEY_ABANDON (R183). -/
def execSurveyAbandon (r : Nat) (s : State) : Host.Outcome State Fault Refusal := s.core (decide (r < 2)) (fun d => d.surveyAbandon r)

/-- SWGO (R187): a write of `TRN_MCTRL` with SWGO = 1. -/
def execSwgo (m : Master) (r : Nat) (v : BitVec 32) (s : State) : Host.Outcome State Fault Refusal :=
  s.busW (decide (r < 2)) m (0x400030 + 0x4000 * r) (withField v 1 1 1)

/-- MODE_COMMIT (R186): a write of `TRN_MCMD` with OP = 0. -/
def execModeCommit (m : Master) (r : Nat) (v : BitVec 32) (s : State) : Host.Outcome State Fault Refusal :=
  s.busW (decide (r < 2)) m (0x400080 + 0x4000 * r) (withField v 3 2 0)

/-- MODE_COMMIT_APPLY (R186). -/
def execModeCommitApply (r : Nat) (s : State) : Host.Outcome State Fault Refusal := s.core (decide (r < 2)) (fun d => d.commitApply r)

/-- MODE_INVALIDATE (R186): OP = 1. -/
def execModeInvalidate (m : Master) (r : Nat) (v : BitVec 32) (s : State) : Host.Outcome State Fault Refusal :=
  s.busW (decide (r < 2)) m (0x400080 + 0x4000 * r) (withField v 3 2 1)

/-- MODE_READ_BACK (R186): OP = 2. -/
def execModeReadBack (m : Master) (r : Nat) (v : BitVec 32) (s : State) : Host.Outcome State Fault Refusal :=
  s.busW (decide (r < 2)) m (0x400080 + 0x4000 * r) (withField v 3 2 2)

/-- LATE_DEADLINE (R191). -/
def execLateDeadline (r : Nat) (s : State) : Host.Outcome State Fault Refusal := s.core (decide (r < 2)) (fun d => d.lateDeadline r)

/-- RETURN_TIMEOUT (R194). -/
def execReturnTimeout (r : Nat) (s : State) : Host.Outcome State Fault Refusal := s.core (decide (r < 2)) (fun d => d.returnTimeout r)

/-- COMMAND_FIFO_READ (R200): the read of the highest word of `TRN_CMDFIFO`. -/
def execCommandFifoRead (m : Master) (r : Nat) (s : State) : Host.Outcome State Fault Refusal :=
  s.busR (decide (r < 2)) m (0x400098 + 0x4000 * r)

/-- TRAIN_RESET (R174, R201). -/
def execTrainReset (s : State) : Host.Outcome State Fault Refusal := s.core true (fun d => d.fnReset 0x0E0 Dev.trainReset)

end Sys2Proof.Machine
end

