-- ==== Sys2Proof/Machine/Dispatch.lean ====
section
/-! DEFINITION. One arm for each command: its meaning, or its rejection by name. -/

namespace Sys2Proof.Machine

/-- The effect of a command on everything but the queue of waiting commands. -/
def exec (i : Instr) (s : State) : Host.Outcome State Fault Refusal :=
  match i with
  | .registerWrite m off v whole => Sys2Proof.Machine.execRegisterWrite m off v whole s
  | .wideRegisterStage m off v => Sys2Proof.Machine.execWideRegisterStage m off v s
  | .latchingRead m off => Sys2Proof.Machine.execLatchingRead m off s
  | .readClear m off => Sys2Proof.Machine.execReadClear m off s
  | .frameReceived p f => Sys2Proof.Machine.execFrameReceived p f s
  | .mpacketReceived p f => Sys2Proof.Machine.execMpacketReceived p f s
  | .verifyMpacketReceived p => Sys2Proof.Machine.execVerifyMpacketReceived p s
  | .respondMpacketReceived p => Sys2Proof.Machine.execRespondMpacketReceived p s
  | .verifyTimer p => Sys2Proof.Machine.execVerifyTimer p s
  | .capture m n v => Sys2Proof.Machine.execCapture m n v s
  | .snapshotValid n => Sys2Proof.Machine.execSnapshotValid n s
  | .domainSet m n v => Sys2Proof.Machine.execDomainSet m n v s
  | .domainStepWrite m n v => Sys2Proof.Machine.execDomainStepWrite m n v s
  | .incrNomWrite m n v => Sys2Proof.Machine.execIncrNomWrite m n v s
  | .offsetSubmit m n v => Sys2Proof.Machine.execOffsetSubmit m n v s
  | .servoDisable m n v => Sys2Proof.Machine.execServoDisable m n v s
  | .domainStep n => Sys2Proof.Machine.execDomainStep n s
  | .servoUpdate n => Sys2Proof.Machine.execServoUpdate n s
  | .servoHoldTimeout n => Sys2Proof.Machine.execServoHoldTimeout n s
  | .estRecompute => Sys2Proof.Machine.execEstRecompute s
  | .tdcCalibration p tx taps => Sys2Proof.Machine.execTdcCalibration p tx taps s
  | .ppsEdge rising width sub => Sys2Proof.Machine.execPpsEdge rising width sub s
  | .ppsMissed => Sys2Proof.Machine.execPpsMissed s
  | .freqWindowEnd present ppb => Sys2Proof.Machine.execFreqWindowEnd present ppb s
  | .ppsoPulseStart k => Sys2Proof.Machine.execPpsoPulseStart k s
  | .ppsoPulseEnd k => Sys2Proof.Machine.execPpsoPulseEnd k s
  | .departureRecordRead m p => Sys2Proof.Machine.execDepartureRecordRead m p s
  | .linkUpCondition p line => Sys2Proof.Machine.execLinkUpCondition p line s
  | .linkDownCondition p line => Sys2Proof.Machine.execLinkDownCondition p line s
  | .linkUp p => Sys2Proof.Machine.execLinkUp p s
  | .linkDown p => Sys2Proof.Machine.execLinkDown p s
  | .mdioPoll p link => Sys2Proof.Machine.execMdioPoll p link s
  | .collision p => Sys2Proof.Machine.execCollision p s
  | .backoffExpiry p sub => Sys2Proof.Machine.execBackoffExpiry p sub s
  | .lateCollision p bitTime => Sys2Proof.Machine.execLateCollision p bitTime s
  | .plcaInactive p => Sys2Proof.Machine.execPlcaInactive p s
  | .pauseTakesEffect p => Sys2Proof.Machine.execPauseTakesEffect p s
  | .pfcTakesEffect p => Sys2Proof.Machine.execPfcTakesEffect p s
  | .pauseTimerExpiry p t => Sys2Proof.Machine.execPauseTimerExpiry p t s
  | .pauseRefresh p => Sys2Proof.Machine.execPauseRefresh p s
  | .portPowerDown m p v => Sys2Proof.Machine.execPortPowerDown m p v s
  | .lanePowerUp m p v => Sys2Proof.Machine.execLanePowerUp m p v s
  | .laneReady p sdOk rxTaps txTaps => Sys2Proof.Machine.execLaneReady p sdOk rxTaps txTaps s
  | .portReset p => Sys2Proof.Machine.execPortReset p s
  | .tableRead m v => Sys2Proof.Machine.execTableRead m v s
  | .tableWrite m v => Sys2Proof.Machine.execTableWrite m v s
  | .tableInvalidate m v => Sys2Proof.Machine.execTableInvalidate m v s
  | .tableFlush m v => Sys2Proof.Machine.execTableFlush m v s
  | .tableCommandDone => Sys2Proof.Machine.execTableCommandDone s
  | .fdbAgeing k => Sys2Proof.Machine.execFdbAgeing k s
  | .keyCommit m k v => Sys2Proof.Machine.execKeyCommit m k v s
  | .fabricReset => Sys2Proof.Machine.execFabricReset s
  | .redundancyReset => Sys2Proof.Machine.execRedundancyReset s
  | .authenticationReset => Sys2Proof.Machine.execAuthenticationReset s
  | .expressRuleReset => Sys2Proof.Machine.execExpressRuleReset s
  | .descriptorHandover p => Sys2Proof.Machine.execDescriptorHandover p s
  | .transmitStart p sub => Sys2Proof.Machine.execTransmitStart p sub s
  | .transmitEnd p => Sys2Proof.Machine.execTransmitEnd p s
  | .gateEvent p => Sys2Proof.Machine.execGateEvent p s
  | .change m p v => Sys2Proof.Machine.execChange m p v s
  | .cancel m p v => Sys2Proof.Machine.execCancel m p v s
  | .configSwap p => Sys2Proof.Machine.execConfigSwap p s
  | .macHold p => Sys2Proof.Machine.execMacHold p s
  | .macRelease p => Sys2Proof.Machine.execMacRelease p s
  | .launchTimeReached p c k => Sys2Proof.Machine.execLaunchTimeReached p c k s
  | .lateToleranceExpiry p c k => Sys2Proof.Machine.execLateToleranceExpiry p c k s
  | .schedulerReset p => Sys2Proof.Machine.execSchedulerReset p s
  | .coachReceived p f => Sys2Proof.Machine.execCoachReceived p f s
  | .surveyDelayCompute r => Sys2Proof.Machine.execSurveyDelayCompute r s
  | .trainDeparture r sub => Sys2Proof.Machine.execTrainDeparture r sub s
  | .masterOutTake r => Sys2Proof.Machine.execMasterOutTake r s
  | .cycleMark r j => Sys2Proof.Machine.execCycleMark r j s
  | .mirrorCommitWrite m r a v => Sys2Proof.Machine.execMirrorCommitWrite m r a v s
  | .ringEnable m r v => Sys2Proof.Machine.execRingEnable m r v s
  | .silenceTimeout r => Sys2Proof.Machine.execSilenceTimeout r s
  | .startCoachSend r sub => Sys2Proof.Machine.execStartCoachSend r sub s
  | .startCoachTimeout r => Sys2Proof.Machine.execStartCoachTimeout r s
  | .claimWindowEnd r => Sys2Proof.Machine.execClaimWindowEnd r s
  | .survey m r v => Sys2Proof.Machine.execSurvey m r v s
  | .surveyAbandon r => Sys2Proof.Machine.execSurveyAbandon r s
  | .swgo m r v => Sys2Proof.Machine.execSwgo m r v s
  | .modeCommit m r v => Sys2Proof.Machine.execModeCommit m r v s
  | .modeCommitApply r => Sys2Proof.Machine.execModeCommitApply r s
  | .modeInvalidate m r v => Sys2Proof.Machine.execModeInvalidate m r v s
  | .modeReadBack m r v => Sys2Proof.Machine.execModeReadBack m r v s
  | .lateDeadline r => Sys2Proof.Machine.execLateDeadline r s
  | .returnTimeout r => Sys2Proof.Machine.execReturnTimeout r s
  | .commandFifoRead m r => Sys2Proof.Machine.execCommandFifoRead m r s
  | .trainReset => Sys2Proof.Machine.execTrainReset s
  | .sampleFrame ecc => Sys2Proof.Machine.execSampleFrame ecc s
  | .streamTimeout k => Sys2Proof.Machine.execStreamTimeout k s
  | .streamEnable m k v => Sys2Proof.Machine.execStreamEnable m k v s
  | .streamDisable m k v => Sys2Proof.Machine.execStreamDisable m k v s
  | .matrixEnable m k v => Sys2Proof.Machine.execMatrixEnable m k v s
  | .matrixDisable m k v => Sys2Proof.Machine.execMatrixDisable m k v s
  | .rowOpen k => Sys2Proof.Machine.execRowOpen k s
  | .rowDeadline k => Sys2Proof.Machine.execRowDeadline k s
  | .rowComplete k => Sys2Proof.Machine.execRowComplete k s
  | .sauReset => Sys2Proof.Machine.execSauReset s
  | .filteredEdge n level ago sub => Sys2Proof.Machine.execFilteredEdge n level ago sub s
  | .edgeStampRead m => Sys2Proof.Machine.execEdgeStampRead m s
  | .rel m n v => Sys2Proof.Machine.execRel m n v s
  | .expressHoldExpiry n => Sys2Proof.Machine.execExpressHoldExpiry n s
  | .xclr m n v => Sys2Proof.Machine.execXclr m n v s
  | .groupClockWrite m g v => Sys2Proof.Machine.execGroupClockWrite m g v s
  | .send q => Sys2Proof.Machine.execSend q s
  | .take q => Sys2Proof.Machine.execTake q s
  | .load q => Sys2Proof.Machine.execLoad q s
  | .store q => Sys2Proof.Machine.execStore q s
  | .branch q => Sys2Proof.Machine.execBranch q s
  | .wait q => Sys2Proof.Machine.execWait q s
  | .count q => Sys2Proof.Machine.execCount q s
  | .drive q => Sys2Proof.Machine.execDrive q s
  | .signal q => Sys2Proof.Machine.execSignal q s
  | .nop q ecc => Sys2Proof.Machine.execNop q ecc s
  | .spfFeed q => Sys2Proof.Machine.execSpfFeed q s
  | .thdDeliver q => Sys2Proof.Machine.execThdDeliver q s
  | .groupStart m g v => Sys2Proof.Machine.execGroupStart m g v s
  | .timedStartFire g => Sys2Proof.Machine.execTimedStartFire g s
  | .groupHalt m g v => Sys2Proof.Machine.execGroupHalt m g v s
  | .instructionWrite m g w v => Sys2Proof.Machine.execInstructionWrite m g w v s
  | .flagSetWrite m g v => Sys2Proof.Machine.execFlagSetWrite m g v s
  | .kick m q v => Sys2Proof.Machine.execKick m q v s
  | .clrshift m q v => Sys2Proof.Machine.execClrshift m q v s
  | .txFifoWrite m q v => Sys2Proof.Machine.execTxFifoWrite m q v s
  | .rxFifoRead m q => Sys2Proof.Machine.execRxFifoRead m q s
  | .groupReset g => Sys2Proof.Machine.execGroupReset g s
  | .pinBankReset => Sys2Proof.Machine.execPinBankReset s
  | .depotPowerOn m n v => Sys2Proof.Machine.execDepotPowerOn m n v s
  | .depotWakeDone n => Sys2Proof.Machine.execDepotWakeDone n s
  | .depotPowerOff m n v => Sys2Proof.Machine.execDepotPowerOff m n v s
  | .depotOffDone n => Sys2Proof.Machine.execDepotOffDone n s
  | .rxRelease e k v => Sys2Proof.Machine.execRxRelease e k v s
  | .ingressPop e k => Sys2Proof.Machine.execIngressPop e k s
  | .egressStage e j w v => Sys2Proof.Machine.execEgressStage e j w v s
  | .egressPush e j v => Sys2Proof.Machine.execEgressPush e j v s
  | .frameInterfaceFetch n => Sys2Proof.Machine.execFrameInterfaceFetch n s
  | .copyComplete n => Sys2Proof.Machine.execCopyComplete n s
  | .timerCompareFire n k => Sys2Proof.Machine.execTimerCompareFire n k s
  | .interruptEntry e => Sys2Proof.Machine.execInterruptEntry e s
  | .wfeWake e => Sys2Proof.Machine.execWfeWake e s
  | .swapRequest m e v => Sys2Proof.Machine.execSwapRequest m e v s
  | .swapCancel m e v => Sys2Proof.Machine.execSwapCancel m e v s
  | .swapTimeout t => Sys2Proof.Machine.execSwapTimeout t s
  | .depotSwapGo m n v => Sys2Proof.Machine.execDepotSwapGo m n v s
  | .depotSwapCancel m n v => Sys2Proof.Machine.execDepotSwapCancel m n v s
  | .run m e v => Sys2Proof.Machine.execRun m e v s
  | .halt m e v => Sys2Proof.Machine.execHalt m e v s
  | .step m e v => Sys2Proof.Machine.execStep m e v s
  | .engineReset e => Sys2Proof.Machine.execEngineReset e s
  | .depotReset n => Sys2Proof.Machine.execDepotReset n s
  | .instructionPair e => Sys2Proof.Machine.execInstructionPair e s
  | .add e => Sys2Proof.Machine.execAdd e s
  | .addc e => Sys2Proof.Machine.execAddc e s
  | .sub e => Sys2Proof.Machine.execSub e s
  | .subb e => Sys2Proof.Machine.execSubb e s
  | .and e => Sys2Proof.Machine.execAnd e s
  | .or e => Sys2Proof.Machine.execOr e s
  | .xor e => Sys2Proof.Machine.execXor e s
  | .andn e => Sys2Proof.Machine.execAndn e s
  | .shl e => Sys2Proof.Machine.execShl e s
  | .shr e => Sys2Proof.Machine.execShr e s
  | .sar e => Sys2Proof.Machine.execSar e s
  | .rol e => Sys2Proof.Machine.execRol e s
  | .ror e => Sys2Proof.Machine.execRor e s
  | .adds e => Sys2Proof.Machine.execAdds e s
  | .subs e => Sys2Proof.Machine.execSubs e s
  | .addus e => Sys2Proof.Machine.execAddus e s
  | .subus e => Sys2Proof.Machine.execSubus e s
  | .mulu e => Sys2Proof.Machine.execMulu e s
  | .muls e => Sys2Proof.Machine.execMuls e s
  | .divu e => Sys2Proof.Machine.execDivu e s
  | .divs e => Sys2Proof.Machine.execDivs e s
  | .cmp e => Sys2Proof.Machine.execCmp e s
  | .tst e => Sys2Proof.Machine.execTst e s
  | .addi e => Sys2Proof.Machine.execAddi e s
  | .andi e => Sys2Proof.Machine.execAndi e s
  | .ori e => Sys2Proof.Machine.execOri e s
  | .xori e => Sys2Proof.Machine.execXori e s
  | .shi e => Sys2Proof.Machine.execShi e s
  | .cmpi e => Sys2Proof.Machine.execCmpi e s
  | .movl e => Sys2Proof.Machine.execMovl e s
  | .movh e => Sys2Proof.Machine.execMovh e s
  | .bfx e => Sys2Proof.Machine.execBfx e s
  | .bfi e => Sys2Proof.Machine.execBfi e s
  | .crc32 e => Sys2Proof.Machine.execCrc32 e s
  | .crc32c e => Sys2Proof.Machine.execCrc32c e s
  | .crc16 e => Sys2Proof.Machine.execCrc16 e s
  | .ocadd e => Sys2Proof.Machine.execOcadd e s
  | .bswap e => Sys2Proof.Machine.execBswap e s
  | .bswap16 e => Sys2Proof.Machine.execBswap16 e s
  | .clz e => Sys2Proof.Machine.execClz e s
  | .berlen e => Sys2Proof.Machine.execBerlen e s
  | .mov e => Sys2Proof.Machine.execMov e s
  | .not e => Sys2Proof.Machine.execNot e s
  | .neg e => Sys2Proof.Machine.execNeg e s
  | .ldb e => Sys2Proof.Machine.execLdb e s
  | .ldbs e => Sys2Proof.Machine.execLdbs e s
  | .ldh e => Sys2Proof.Machine.execLdh e s
  | .ldhs e => Sys2Proof.Machine.execLdhs e s
  | .ldw e => Sys2Proof.Machine.execLdw e s
  | .ldd e => Sys2Proof.Machine.execLdd e s
  | .stb e => Sys2Proof.Machine.execStb e s
  | .sth e => Sys2Proof.Machine.execSth e s
  | .stw e => Sys2Proof.Machine.execStw e s
  | .std e => Sys2Proof.Machine.execStd e s
  | .ldi e => Sys2Proof.Machine.execLdi e s
  | .ioIn e => Sys2Proof.Machine.execIoIn e s
  | .ioOut e => Sys2Proof.Machine.execIoOut e s
  | .br e => Sys2Proof.Machine.execBr e s
  | .call e => Sys2Proof.Machine.execCall e s
  | .jr e => Sys2Proof.Machine.execJr e s
  | .ret e => Sys2Proof.Machine.execRet e s
  | .reti e => Sys2Proof.Machine.execReti e s
  | .rft e => Sys2Proof.Machine.execRft e s
  | .wfe e => Sys2Proof.Machine.execWfe e s
  | .safe e => Sys2Proof.Machine.execSafe e s
  | .trap e => Sys2Proof.Machine.execTrap e s
  | .brk e => Sys2Proof.Machine.execBrk e s
  | .gets e => Sys2Proof.Machine.execGets e s
  | .puts e => Sys2Proof.Machine.execPuts e s
  | .push e => Sys2Proof.Machine.execPush e s
  | .pop e => Sys2Proof.Machine.execPop e s
  | .peek e => Sys2Proof.Machine.execPeek e s
  | .drop e => Sys2Proof.Machine.execDrop e s
  | .sharedMemoryAccess m a n w => Sys2Proof.Machine.execSharedMemoryAccess m a n w s
  | .bankConfigWrite m b v => Sys2Proof.Machine.execBankConfigWrite m b v s
  | .bankHandover m b v => Sys2Proof.Machine.execBankHandover m b v s
  | .handoverEffect b => Sys2Proof.Machine.execHandoverEffect b s
  | .scrubStep => Sys2Proof.Machine.execScrubStep s
  | .borrowBegin => Sys2Proof.Machine.execBorrowBegin s
  | .borrowEnd diff => Sys2Proof.Machine.execBorrowEnd diff s
  | .borrowAbort b => Sys2Proof.Machine.execBorrowAbort b s
  | .queuePush m q v => Sys2Proof.Machine.execQueuePush m q v s
  | .queueStage m q v => Sys2Proof.Machine.execQueueStage m q v s
  | .queuePop m r => Sys2Proof.Machine.execQueuePop m r s
  | .queueRefill q => Sys2Proof.Machine.execQueueRefill q s
  | .queueReset q => Sys2Proof.Machine.execQueueReset q s
  | .queueManagerReset => Sys2Proof.Machine.execQueueManagerReset s
  | .mailboxStage m n w v => Sys2Proof.Machine.execMailboxStage m n w v s
  | .mailboxPost m n v => Sys2Proof.Machine.execMailboxPost m n v s
  | .mailboxHeaderRead m n => Sys2Proof.Machine.execMailboxHeaderRead m n s
  | .mailboxTake m n => Sys2Proof.Machine.execMailboxTake m n s
  | .mailboxReset n => Sys2Proof.Machine.execMailboxReset n s
  | .mailboxUnitReset => Sys2Proof.Machine.execMailboxUnitReset s
  | .doorbellRing m n => Sys2Proof.Machine.execDoorbellRing m n s
  | .lockAcquire m n => Sys2Proof.Machine.execLockAcquire m n s
  | .lockPeek m n => Sys2Proof.Machine.execLockPeek m n s
  | .lockRelease m n v => Sys2Proof.Machine.execLockRelease m n v s
  | .lockForce m n v => Sys2Proof.Machine.execLockForce m n v s
  | .txRequest m p v => Sys2Proof.Machine.execTxRequest m p v s
  | .txAbort m p v => Sys2Proof.Machine.execTxAbort m p v s
  | .attemptStart p => Sys2Proof.Machine.execAttemptStart p s
  | .arbitrationLost p => Sys2Proof.Machine.execArbitrationLost p s
  | .canFrameSent p sof tdcv => Sys2Proof.Machine.execCanFrameSent p sof tdcv s
  | .canFrameReceived p f sof => Sys2Proof.Machine.execCanFrameReceived p f sof s
  | .canError p e => Sys2Proof.Machine.execCanError p e s
  | .protocolException p => Sys2Proof.Machine.execProtocolException p s
  | .borec m p v => Sys2Proof.Machine.execBorec m p v s
  | .busOffRecovered p => Sys2Proof.Machine.execBusOffRecovered p s
  | .abr m p v => Sys2Proof.Machine.execAbr m p v s
  | .dwellExpiry p => Sys2Proof.Machine.execDwellExpiry p s
  | .canPortReset p => Sys2Proof.Machine.execCanPortReset p s
  | .por => Sys2Proof.Machine.execPor s
  | .porEnd => Sys2Proof.Machine.execPorEnd s
  | .vddBrownOut => Sys2Proof.Machine.execVddBrownOut s
  | .rstN => Sys2Proof.Machine.execRstN s
  | .supRst m => Sys2Proof.Machine.execSupRst m s
  | .refclkLoss => Sys2Proof.Machine.execRefclkLoss s
  | .testen => Sys2Proof.Machine.execTesten s
  | .warmEnd => Sys2Proof.Machine.execWarmEnd s
  | .coarseClockCheck count => Sys2Proof.Machine.execCoarseClockCheck count s
  | .pllLock => Sys2Proof.Machine.execPllLock s
  | .fineClockCheck count => Sys2Proof.Machine.execFineClockCheck count s
  | .xtal32Check good => Sys2Proof.Machine.execXtal32Check good s
  | .norProbe density failsA failsB => Sys2Proof.Machine.execNorProbe density failsA failsB s
  | .norBurst bytes good => Sys2Proof.Machine.execNorBurst bytes good s
  | .norBurstTimeout => Sys2Proof.Machine.execNorBurstTimeout s
  | .regwrite => Sys2Proof.Machine.execRegwrite s
  | .poll expired => Sys2Proof.Machine.execPoll expired s
  | .delay => Sys2Proof.Machine.execDelay s
  | .memload => Sys2Proof.Machine.execMemload s
  | .engimage => Sys2Proof.Machine.execEngimage s
  | .table => Sys2Proof.Machine.execTable s
  | .pinsafe => Sys2Proof.Machine.execPinsafe s
  | .keyref => Sys2Proof.Machine.execKeyref s
  | .rollback => Sys2Proof.Machine.execRollback s
  | .signatureCheck => Sys2Proof.Machine.execSignatureCheck s
  | .commit => Sys2Proof.Machine.execCommit s
  | .norRead m v => Sys2Proof.Machine.execNorRead m v s
  | .norProgram m v => Sys2Proof.Machine.execNorProgram m v s
  | .norErase4k m v => Sys2Proof.Machine.execNorErase4k m v s
  | .norErase64k m v => Sys2Proof.Machine.execNorErase64k m v s
  | .norCheck m v => Sys2Proof.Machine.execNorCheck m v s
  | .norCommandDone left => Sys2Proof.Machine.execNorCommandDone left s
  | .loaderReset => Sys2Proof.Machine.execLoaderReset s
  | .writeInhibitStart why => Sys2Proof.Machine.execWriteInhibitStart why s
  | .writeInhibitEnd => Sys2Proof.Machine.execWriteInhibitEnd s
  | .functionResetRequest m uid => Sys2Proof.Machine.execFunctionResetRequest m uid s
  | .domainReset n => Sys2Proof.Machine.execDomainReset n s
  | .timestampUnitReset => Sys2Proof.Machine.execTimestampUnitReset s
  | .supervisorReset => Sys2Proof.Machine.execSupervisorReset s
  | .btuReset => Sys2Proof.Machine.execBtuReset s
  | .faultSet m v => Sys2Proof.Machine.execFaultSet m v s
  | .faultClear m v => Sys2Proof.Machine.execFaultClear m v s
  | .pllLockLoss => Sys2Proof.Machine.execPllLockLoss s
  | .pllRelock => Sys2Proof.Machine.execPllRelock s
  | .watchdogKick m v => Sys2Proof.Machine.execWatchdogKick m v s
  | .watchdogExpiry => Sys2Proof.Machine.execWatchdogExpiry s
  | .graceExpiry => Sys2Proof.Machine.execGraceExpiry s
  | .temperatureSample tj => Sys2Proof.Machine.execTemperatureSample tj s
  | .standby m => Sys2Proof.Machine.execStandby m s
  | .standbyCoreReset => Sys2Proof.Machine.execStandbyCoreReset s
  | .wake src => Sys2Proof.Machine.execWake src s
  | .clockGateWrite m v => Sys2Proof.Machine.execClockGateWrite m v s
  | .supLock m => Sys2Proof.Machine.execSupLock m s
  | .eventPost typ src detail => Sys2Proof.Machine.execEventPost typ src detail s
  | .recordWrite w => Sys2Proof.Machine.execRecordWrite w s
  | .word7Rewrite w => Sys2Proof.Machine.execWord7Rewrite w s
  | .fallbackBufferWrite => Sys2Proof.Machine.execFallbackBufferWrite s
  | .opsecIncrement => Sys2Proof.Machine.execOpsecIncrement s
  | .clear m => Sys2Proof.Machine.execClear m s
  | .retest m => Sys2Proof.Machine.execRetest m s
  | .inject m v => Sys2Proof.Machine.execInject m v s
  | .injectDataStage m v => Sys2Proof.Machine.execInjectDataStage m v s
  | .recorderReset => Sys2Proof.Machine.execRecorderReset s
  | .pcieLinkChange c rate width => Sys2Proof.Machine.execPcieLinkChange c rate width s
  | .flr byFn => Sys2Proof.Machine.execFlr byFn s
  | .msixPost v => Sys2Proof.Machine.execMsixPost v s
  | .msixUnmask c => Sys2Proof.Machine.execMsixUnmask c s
  | .ringTailWrite m c rx v => Sys2Proof.Machine.execRingTailWrite m c rx v s
  | .descriptorFetch c rx answer => Sys2Proof.Machine.execDescriptorFetch c rx answer s
  | .dmaRead c err => Sys2Proof.Machine.execDmaRead c err s
  | .dmaWrite c data => Sys2Proof.Machine.execDmaWrite c data s
  | .dmaTx c data => Sys2Proof.Machine.execDmaTx c data s
  | .rxbuf c err => Sys2Proof.Machine.execRxbuf c err s
  | .rowTransfer c err => Sys2Proof.Machine.execRowTransfer c err s
  | .channelReset c => Sys2Proof.Machine.execChannelReset c s
  | .spiRead l => Sys2Proof.Machine.execSpiRead l s
  | .spiWrite l => Sys2Proof.Machine.execSpiWrite l s
  | .spiReset l => Sys2Proof.Machine.execSpiReset l s
  | .spiFrameDiscard l => Sys2Proof.Machine.execSpiFrameDiscard l s
  | .extest cells => Sys2Proof.Machine.execExtest cells s
  | .samplePreload cells => Sys2Proof.Machine.execSamplePreload cells s
  | .idcode => Sys2Proof.Machine.execIdcode s
  | .clamp => Sys2Proof.Machine.execClamp s
  | .highz => Sys2Proof.Machine.execHighz s
  | .bypass code => Sys2Proof.Machine.execBypass code s
  | .dbgacc v => Sys2Proof.Machine.execDbgacc v s
  | .plcaActive p => Sys2Proof.Machine.execPlcaActive p s
  | .canRecessiveWaitEnd p => Sys2Proof.Machine.execCanRecessiveWaitEnd p s
  | .supervisorEngineError => Sys2Proof.Machine.execSupervisorEngineError s
  | .undefinedInstruction e => Sys2Proof.Machine.execUndefinedInstruction e s
  | .instructionFetchFault e => Sys2Proof.Machine.execInstructionFetchFault e s
  | .reservedRecord => Sys2Proof.Machine.execReservedRecord s
  | .dmaTransferComplete c => Sys2Proof.Machine.execDmaTransferComplete c s

end Sys2Proof.Machine
end

