-- ==== Sys2Proof/Machine/Tick.lean ====
section
/-! DEFINITION. One tick of 4 ns (R25), which is what passes when no command waits: the RTC, LT, the time domains and the steps that
wait for the tick boundary, PLCA on P20 and P21, the dividers of the sequencer groups, and the engines' cycle counts. -/

namespace Sys2Proof.Machine

/-- The RTC's divider stands at `x` parts of 250,000,000: one count of 1/32,768 s when it is whole (R456). -/
def Dev.rtcCount (d : Dev) (x : Nat) : Dev :=
  if x < 250000000 then d.modSup (fun s => { s with rtc := x })
  else
    let t := d.rd AON_RTC_SEC * 2 ^ 15 + d.rd AON_RTC_SUB + 1
    ((d.wr AON_RTC_SUB t).wr AON_RTC_SEC (t / 2 ^ 15)).modSup (fun s => { s with rtc := x - 250000000 })

/-- The RTC counts 1/32,768 s (R456): 4 ns are 32,768 of 250,000,000 parts of one. -/
def Dev.rtcTick (d : Dev) : Dev := d.rtcCount (d.sup.rtc + 32768)

/-- Four engine-clock cycles pass for an engine (R276): counted while it runs or sleeps. -/
def Dev.engTick (d : Dev) (e : Nat) : Dev :=
  match d.engState e with
  | 1 => d.incBy (ENG_CYC_CNT e) 4
  | 2 => d.incBy (ENG_SLEEP_CNT e) 4
  | _ => d

/-- One tick. While the core is held in reset only the RTC counts; while POR holds the island nothing does (R428, R450). -/
def Dev.tick (d : Dev) : Dev :=
  let d := d.when (!d.sup.por) Dev.rtcTick
  if d.inReset then d
  else
    let d := ((forNums 4 (fun n d => d.domainStep n) d.advance).plcaTick 20).plcaTick 21
    forNums 64 (fun e d => d.engTick e) ((d.grpTick 0).grpTick 1)

end Sys2Proof.Machine
end

