-- ==== Sys2Proof/Safety.lean ====
section
/-! DEFINITION. What counts as a safe run: the queue holds commands that exist, and the block never stops; the canonical form of the
memories it holds; and when a master's access to a register is carried out. -/

namespace Sys2Proof.Machine

/-- Every waiting command names units that the device has. -/
def State.queueOk (s : State) : Prop := ∀ c ∈ s.pending, wellFormed c = true

/-- The block goes on for any number of steps. -/
def State.goesOn (s : State) : Prop := ∀ k, ∃ t, Sys2Proof.core.run k s = .next t

/-- The commands that act while the core is held in reset: those of the always-on island, of the resets themselves, of the PCIe link and
its ball, and of the JTAG port (R428, R432, R476, R516). -/
def actsInReset : Instr → Bool
  | .por | .porEnd | .vddBrownOut | .rstN | .refclkLoss | .testen | .warmEnd | .coarseClockCheck _ | .xtal32Check _ => true
  | .writeInhibitStart _ | .writeInhibitEnd | .standbyCoreReset | .wake _ | .opsecIncrement => true
  | .pcieLinkChange _ _ _ => true
  | .extest _ | .samplePreload _ | .idcode | .clamp | .highz | .bypass _ | .dbgacc _ => true
  | _ => false

/-- The memories are in their canonical form: the shared banks and the NOR (R326, R401). -/
def Dev.memOk (d : Dev) : Bool := Memory.wf d.mem.cells && Memory.wf d.ldr.nor

/-- The kinds of register whose writes and reads are not those of fields (R356, R369, R253, R341). -/
def RegKind.window : RegKind → Bool
  | .mbx .word => true
  | .mbx .lock => true
  | .pin .txf => true
  | .pin .rxf => true
  | .mem .push => true
  | .mem .pop => true
  | _ => false

/-- The last word of a register of the map, the one at which a write commits (R535). -/
def RegRow.last (r : RegRow) (ix : List Nat) : RegAt := ⟨r, ix, r.words - 1⟩

/-- An offset names a word of a register of the map whose accesses are those of its fields (R6, R10). -/
def RegAt.named (a : RegAt) (off : Nat) : Prop :=
  findReg off = some a ∧ a.off + 4 * a.word = off ∧ off < 0x1000000 ∧ offReserved off = false ∧ winAt off = none
    ∧ a.row.kind.window = false

/-- Two devices differ in the given register fields and in what masters have staged, and in nothing else. -/
def Dev.sameBut (d d' : Dev) (fs : List Fld) : Prop :=
  (∀ g : Fld, (∀ f ∈ fs, g.key ≠ f.key) → d'.rd g = d.rd g) ∧ { d' with regs := d.regs, staged := d.staged } = d

/-- A master's access to a word of a register is carried out: it does not fall before RUN or NOIMAGE (R422), nor on a gated block
(R453), nor on the windows of an OFF engine (R268). -/
def Dev.admits (d : Dev) (m : Master) (a : RegAt) : Bool :=
  !d.hostShutOut m (a.off + 4 * a.word) && !d.gatedAt (a.off + 4 * a.word) && !d.darkAt (a.off + 4 * a.word)

/-- A master's write of a value to a register is carried out: it is admitted, the register exists on the unit, the value holds no reserved
value (R9), and no configuration is locked (R534). -/
def Dev.accepts (d : Dev) (m : Master) (a : RegAt) (v : Nat) : Bool :=
  d.admits m a && !a.absent && !a.row.reservedIn v && !d.on SUP_LOCK_LOCK

/-- A command answers a next state: the device as given, the waiting commands as they were. -/
def Dev.answers (d : Dev) (c : Instr) (d' : Dev) : Prop := ∀ rest, exec c ⟨d, rest⟩ = .next ⟨d', rest⟩

/-- The supervisor is carrying out the function reset of a unit (R430). -/
def Dev.resetting (d : Dev) (uid : Nat) : Prop := d.on SUP_FNLAST_BUSY = true ∧ d.rd SUP_FNLAST_TARGET = uid

/-- The record that comes next is of a type, and nothing that holds for every record refuses it (R406, R416). -/
def Dev.atRecord (d : Dev) (r : Rec) (n typ : Nat) : Prop :=
  d.nextRec = some (r, n) ∧ r.typ = typ ∧ d.ldr.wait = none ∧ r.consistent (hdrLength (d.slotHdr (d.rd LDR_STAT_SLOT))) n = true
    ∧ r.off + r.len ≤ d.ldr.got
    ∧ (r.buffered = true → r.len ≤ 65536 ∧ recCrcOk (d.recBytes (d.rd LDR_STAT_SLOT) r) = true)
    ∧ recReq (d.recBytes (d.rd LDR_STAT_SLOT) r) r.nreq = none

/-- The bytes of a record's payload, in the slot that loads. -/
def Dev.payloadOf (d : Dev) (r : Rec) : List Byte := r.payload (d.recBytes (d.rd LDR_STAT_SLOT) r)

/-- A sequencer that runs or stalls is at an instruction with an operation code, has not acted in this group cycle (R248), and no check of
R259 fails. -/
def Dev.atInstr (d : Dev) (q op : Nat) : Prop :=
  d.seqState q ≠ 0 ∧ seqOp (d.seqWord q) = op ∧ d.grpFree (q / 4) (q % 4) = true ∧ d.seqCheck q (d.seqWord q) = 0

/-! ### Engines -/

/-- An engine runs, takes no interrupt, and fetches a word, which leaves the device as given (R282, R302). -/
def Dev.fetches (d : Dev) (e : Nat) (d' : Dev) (w : Word) : Prop :=
  d.inReset = false ∧ e < 64 ∧ d.engState e = engRunning ∧ d.lineToTake e = none ∧ (d.eng e).stepping = false
    ∧ d.engFetch e = (d', .word w)

/-- PC goes on to the next word. -/
def Dev.engNext (d : Dev) (e : Nat) : Dev := d.modEng e (fun x => { x with pc := x.pc + 4 })

/-- The registers and flags that a word writes are written. -/
def Dev.engPost (d : Dev) (e : Nat) (regs : List (Nat × Word)) (fl : FlagUpd) : Dev :=
  d.modEng e (fun x => { regs.foldl (fun y p => y.setReg p.1 p.2) x with fl := x.fl.upd fl })

/-- PC is the target of a jump. -/
def Dev.engJump (d : Dev) (e : Nat) (t : Word) : Dev := d.modEng e (fun x => { x with pc := t })

/-- An engine enters a trap at its PC (R284). -/
def Dev.trapEntry (d : Dev) (e : Nat) (w : Word) (cause : Nat) : Dev :=
  (d.put (ENG_STAT_TACT e) true).modEng e (fun x => { x with
    tpc := x.pc, tiw := w, tcause := cause, pc := BitVec.ofNat 32 (4 * d.rd (ENG_TVEC_TVEC e)) })

/-- The registers that a register operation's result goes to (R305). -/
def AluOut.regs (r : AluOut) (dst : Nat) : List (Nat × Word) :=
  (match r.lo with | some v => [(dst, v)] | none => []) ++ (match r.hi with | some v => [(dst + 1, v)] | none => [])

end Sys2Proof.Machine
end

