-- ==== Sys2Proof/Certificates/Slice0/Obligations.lean ====
section
/-! DEFINITION. The statements for the provers. -/

open Sys2Proof Sys2Proof.Machine

/-- A step carries out the command at the front of the queue. -/
def Obligations.StepRunsFrontCommand : Prop :=
  ∀ (c : Instr) (s : State), step { s with pending := c :: s.pending } = exec c s

/-- Register access commands complete, each where its clause says. -/
def Obligations.RegisterAccessCommandsComplete : Prop :=
  ∀ d : Dev, d.inReset = false →
    (∀ (m : Master) (off : Nat) (v : BitVec 32) (whole : Bool) (a : RegAt), wellFormed (.registerWrite m off v whole) = true → whole =
        true → findReg off = some a → a.off + 4 * a.word = off → off < 0x1000000 → offReserved off = false → winAt off = none →
        a.row.kind.window = false → a.word + 1 = a.row.words → a.row.writable = true → d.accepts m a (d.committed m a (d.presentValue
        a) v.toNat) = true → d.answers (.registerWrite m off v whole) ((d.dropStaged m a).regApply m a (d.committed m a
        (d.presentValue a) v.toNat))) ∧
    (∀ (m : Master) (off : Nat) (v : BitVec 32) (whole : Bool), wellFormed (.registerWrite m off v whole) = true → whole = false →
        d.hostShutOut .pcie off = false → offReserved off = false → d.answers (.registerWrite m off v whole) ((d.put HIF_STAT_REFUSED
        true).postEvent 0x0305 0x001 (off % 2 ^ 26))) ∧
    (∀ (m : Master) (off : Nat) (v : BitVec 32) (whole : Bool), wellFormed (.registerWrite m off v whole) = true → whole = false →
        d.hostShutOut .pcie off = false → offReserved off = true → d.answers (.registerWrite m off v whole) ((d.busErrorAt .pcie
        off).1)) ∧
    (∀ (m : Master) (off : Nat) (v : BitVec 32) (a : RegAt), wellFormed (.wideRegisterStage m off v) = true → findReg off = some a →
        a.off + 4 * a.word = off → off < 0x1000000 → offReserved off = false → winAt off = none → a.row.kind.window = false → a.word +
        1 < a.row.words → d.admits m a = true → d.answers (.wideRegisterStage m off v) (d.stageWord m off v.toNat)) ∧
    (∀ (m : Master) (off : Nat) (a : RegAt), wellFormed (.latchingRead m off) = true → findReg off = some a → a.off + 4 * a.word = off
        → off < 0x1000000 → offReserved off = false → winAt off = none → d.admits m a = true → d.answers (.latchingRead m off)
        ((d.regRead m a).1.emit (.read m.uid (d.regRead m a).2.val))) ∧
    (∀ (m : Master) (off : Nat), wellFormed (.latchingRead m off) = true → d.hostShutOut m off = false → off < 0x1000000 → offReserved
        off = true → d.answers (.latchingRead m off) ((d.busErrorAt m off).1.emit (.read m.uid (d.busErrorAt m off).2.val))) ∧
    (∀ (m : Master) (off : Nat) (a : RegAt), wellFormed (.readClear m off) = true → findReg off = some a → a.off + 4 * a.word = off →
        off < 0x1000000 → offReserved off = false → winAt off = none → a.row.fields.any (fun f => f.acc == .rc) = true → d.admits m a
        = true → d.answers (.readClear m off) ((d.regRead m a).1.emit (.read m.uid (d.regRead m a).2.val)))

/-- Timebase commands complete, each where its clause says. -/
def Obligations.TimebaseCommandsComplete : Prop :=
  ∀ d : Dev, d.inReset = false →
    (∀ (m : Master) (n : Nat) (v : BitVec 32), wellFormed (.capture m n v) = true → d.accepts m (row_TB_SNAPn_CTRL.last [n])
        (withField v 0 1 1).toNat = true → d.answers (.capture m n v) ((d.dropStaged m (row_TB_SNAPn_CTRL.last [n])).capture n)) ∧
    (∀ (n : Nat), wellFormed (.snapshotValid n) = true → n ∈ d.tb.snapDue → d.answers (.snapshotValid n)
        ({ d with tb := { d.tb with snapDue := d.tb.snapDue.filter (fun i => !(i == n)) } }.put (TB_SNAPn_CTRL_VALID n) true)) ∧
    (∀ (m : Master) (n : Nat) (v : BitVec 32), wellFormed (.domainSet m n v) = true → d.accepts m (row_TB_TDn_SET.last [n])
        (d.committed m (row_TB_TDn_SET.last [n]) (d.presentValue (row_TB_TDn_SET.last [n])) v.toNat) = true → d.stepAllowed n = true →
        d.answers (.domainSet m n v) (((d.dropStaged m (row_TB_TDn_SET.last [n])).setDom n
        { d.dom n with steps := (d.dom n).steps ++ [(.goTo (ofTs96 (d.committed m (row_TB_TDn_SET.last [n]) (d.presentValue (row_TB_TDn_SET.last [n])) v.toNat) * 2 ^ 16), true)], offsets := (d.dom n).offsets.filter (fun e => e.1 != d.tb.lt) }).wr
        (TB_TDn_STAT_CONS n) 0)) ∧
    (∀ (m : Master) (n : Nat) (v : BitVec 32), wellFormed (.domainStepWrite m n v) = true → d.accepts m (row_TB_TDn_STEP.last [n])
        (d.committed m (row_TB_TDn_STEP.last [n]) (d.presentValue (row_TB_TDn_STEP.last [n])) v.toNat) = true → d.stepAllowed n = true
        → d.answers (.domainStepWrite m n v) (((d.dropStaged m (row_TB_TDn_STEP.last [n])).setDom n
        { d.dom n with steps := (d.dom n).steps ++ [(.adv (toSigned 64 (d.committed m (row_TB_TDn_STEP.last [n]) (d.presentValue (row_TB_TDn_STEP.last [n])) v.toNat) * 2 ^ 16), true)], offsets := (d.dom n).offsets.filter (fun e => e.1 != d.tb.lt) }).wr
        (TB_TDn_STAT_CONS n) 0)) ∧
    (∀ (m : Master) (n : Nat) (v : BitVec 32), wellFormed (.incrNomWrite m n v) = true → d.accepts m (row_TB_TDn_INCR_NOM.last [n])
        (d.committed m (row_TB_TDn_INCR_NOM.last [n]) (d.presentValue (row_TB_TDn_INCR_NOM.last [n])) v.toNat) = true → d.on
        (TB_TDn_CFG_SERVO n) = false → d.answers (.incrNomWrite m n v) (((d.dropStaged m (row_TB_TDn_INCR_NOM.last [n])).regStore
        (row_TB_TDn_INCR_NOM.last [n]) (d.committed m (row_TB_TDn_INCR_NOM.last [n]) (d.presentValue (row_TB_TDn_INCR_NOM.last [n]))
        v.toNat)).setEff n)) ∧
    (∀ (m : Master) (n : Nat) (v : BitVec 32), wellFormed (.offsetSubmit m n v) = true → d.accepts m (row_TB_TDn_OFFS.last [n])
        (d.committed m (row_TB_TDn_OFFS.last [n]) (d.presentValue (row_TB_TDn_OFFS.last [n])) v.toNat) = true → d.on (TB_TDn_CFG_SERVO
        n) = true → d.rd (TB_TDn_CFG_PSRC n) = 1 → (d.dom n).steps.any (fun e => e.2) = false → d.answers (.offsetSubmit m n v)
        ((d.dropStaged m (row_TB_TDn_OFFS.last [n])).setDom n
        { d.dom n with offsets := (d.dom n).offsets ++ [(d.tb.lt, toSigned 64 (d.committed m (row_TB_TDn_OFFS.last [n]) (d.presentValue (row_TB_TDn_OFFS.last [n])) v.toNat))] })) ∧
    (∀ (m : Master) (n : Nat) (v : BitVec 32), wellFormed (.servoDisable m n v) = true → d.accepts m (row_TB_TDn_CFG.last [n])
        (withField v 4 1 0).toNat = true → d.on (TB_TDn_CFG_SERVO n) = true → d.answers (.servoDisable m n v) ((((d.dropStaged m
        (row_TB_TDn_CFG.last [n])).regStore (row_TB_TDn_CFG.last [n]) (withField v 4 1 0).toNat).servoOff n).timeChanged)) ∧
    (∀ (n : Nat) (e : Step × Bool), wellFormed (.domainStep n) = true → (d.dom n).steps = [e] → d.answers (.domainStep n)
        ((((((d.setDom n { d.dom n with steps := [] }).sauDue n).oneStep n e.1).sauStepped n (d.dom n).time (((((d.setDom n
        { d.dom n with steps := [] }).sauDue n).oneStep n e.1).dom n).time)).schsStepped n))) ∧
    (∀ (n : Nat) (t : Nat) (o : Int) (later : List (Nat × Int)), wellFormed (.servoUpdate n) = true → (d.dom n).offsets = (t, o) ::
        later → t < d.tb.lt → d.answers (.servoUpdate n) (((d.setDom n { d.dom n with offsets := later }).servoUpdate n t
        o).timeChanged.muteUpdate n)) ∧
    (∀ (n : Nat), wellFormed (.servoHoldTimeout n) = true → d.on (TB_TDn_CFG_SERVO n) = true → d.rd (TB_TDn_STAT_STATE n) = 1 →
        d.servoSilent n = true → d.answers (.servoHoldTimeout n) (((((d.servoState n 0).setDom n
        { (d.servoState n 0).dom n with f := 0, integ := 0 }).setEff n).refreshEst n).timeChanged)) ∧
    (d.answers .estRecompute ((forNums 4 (fun n d => d.refreshEst n) d).timeChanged)) ∧
    (∀ (p : Nat) (tx : Bool) (taps : Nat), wellFormed (.tdcCalibration p tx taps) = true → 48 ≤ taps → taps ≤ 96 → d.answers
        (.tdcCalibration p tx taps) ((fun (x : Dev) => (x.wr (if tx then TB_Pp_CAL_TXTAPS p else TB_Pp_CAL_RXTAPS p) taps).put
        (TB_Pp_CAL_CALOK p) (x.tdcOk p false && x.tdcOk p true))
        { d with tb := { d.tb with tdcs := tdcNum p tx :: d.tb.tdcs.filter (fun i => i != tdcNum p tx) } })) ∧
    (∀ (rising : Bool) (width sub : Nat), wellFormed (.ppsEdge rising width sub) = true → d.sup.ioB = true → d.on TB_PPSIN_CFG_EN =
        true → rising = !d.on TB_PPSIN_CFG_POL → d.rd TB_PPSIN_CFG_MINW * 16 ≤ width → d.tb.ppsLast = none → d.answers (.ppsEdge
        rising width sub) (d.ppsAccept (d.ltToDom (d.rd TB_PPSIN_CFG_DOM) (Int.ofNat (d.tb.lt + sub % 64 * 4096))))) ∧
    (∀ (last : Int), d.tb.ppsLast = some last → d.on TB_PPSIN_CFG_EN = true → last + Int.ofNat (sec16 + d.ppsWindow) ≤ Int.ofNat
        (d.domTime (d.rd TB_PPSIN_CFG_DOM)) → d.answers .ppsMissed ((fun (x : Dev) => { x with tb := { x.tb with ppsLast := none } })
        ((d.inc TB_PPSIN_CNT_MISSING).postEvent 0x0B04 (0x0D0 + d.rd TB_PPSIN_CFG_DOM) d.tb.ppsCount))) ∧
    (∀ (present : Bool) (ppb : Int), wellFormed (.freqWindowEnd present ppb) = true → d.sup.ioB = true → d.on TB_FREQIN_CFG_EN = true
        → present = true → absNat ppb ≤ d.rd TB_FREQIN_CFG_WIN * 1000 → d.answers (.freqWindowEnd present ppb) ((fun (x : Dev) =>
        { x with tb := { x.tb with freqGood := x.tb.freqGood + 1 } }) ((d.put TB_FREQIN_STAT_PRESENT true).wr TB_FREQIN_MEAS_MEAS
        (ofSigned 32 ppb)))) ∧
    (∀ (k : Nat) (e : Nat × Nat), wellFormed (.ppsoPulseStart k) = true → d.on (TB_PPSOk_CFG_EN k) = true → d.ppsoGated k = false →
        d.ppsoPulse k = some e → tget d.tb.pulses k = none → d.answers (.ppsoPulseStart k)
        ((({ d with tb := { d.tb with pulses := tput d.tb.pulses k e } } : Dev).put (TB_PPSOk_STAT_ACTIVE k) true).emit (.ppso k e.1
        true))) ∧
    (∀ (k : Nat) (e b : Nat × Nat), wellFormed (.ppsoPulseStart k) = true → d.on (TB_PPSOk_CFG_EN k) = true → d.ppsoGated k = false →
        d.ppsoPulse k = some e → tget d.tb.pulses k = some b → b.1 ≠ e.1 → d.answers (.ppsoPulseStart k)
        ((({ d with tb := { d.tb with pulses := tput d.tb.pulses k e } } : Dev).put (TB_PPSOk_STAT_ACTIVE k) true).emit (.ppso k e.1
        true))) ∧
    (∀ (k : Nat) (e : Nat × Nat), wellFormed (.ppsoPulseEnd k) = true → tget d.tb.pulses k = some e → d.on (TB_PPSOk_STAT_ACTIVE k) =
        true → e.2 < d.tb.lt + tick16 → d.answers (.ppsoPulseEnd k) ((d.put (TB_PPSOk_STAT_ACTIVE k) false).emit (.ppso k e.2 false))) ∧
    (∀ (m : Master) (p : Nat) (w : Nat), wellFormed (.departureRecordRead m p) = true → d.admits m (row_TB_Pp_DRQ.last [p]) = true →
        wordOf d.latched m.uid ((row_TB_Pp_DRQ.last [p]).off + 12) = some w → d.answers (.departureRecordRead m p)
        ((({ d with latched := wordsDrop d.latched m.uid ((row_TB_Pp_DRQ.last [p]).off + 12) ((row_TB_Pp_DRQ.last [p]).off + 12 + 4) }
        : Dev).setDepQ p { d.depQ p with recs := (d.depQ p).recs.drop 1 }).emit (.read m.uid w))) ∧
    (∀ (n : Nat), wellFormed (.domainReset n) = true → d.resetting (0x0D0 + n) → d.answers (.domainReset n) ((d.domainReset n).put
        SUP_FNLAST_BUSY false)) ∧
    (d.resetting 0x0D8 → d.answers .timestampUnitReset (d.timestampReset.put SUP_FNLAST_BUSY false))

/-- Ethernet port commands complete, each where its clause says. -/
def Obligations.PortCommandsComplete : Prop :=
  ∀ d : Dev, d.inReset = false →
    (∀ (p : Nat) (f : RxFrame), wellFormed (.frameReceived p f) = true → (d.mediumIdle p false (d.tb.lt - f.ago *
        tick16)).takenByTrain p f.bytes = false → d.answers (.frameReceived p f) (d.ringLooped p ((d.mediumIdle p false (d.tb.lt -
        f.ago * tick16)).frameIn p f))) ∧
    (∀ (p : Nat) (f : MPacket) (n : Nat), wellFormed (.mpacketReceived p f) = true → d.portUp p = true → f.smd = .start n → (d.port
        p).asm = none → f.last = false → d.answers (.mpacketReceived p f) ((d.setPort p
        { d.port p with asm := some { num := n, next := 0, bytes := f.data, sub := f.sub, lt := d.tb.lt - f.ago * tick16, codeErr := f.codeErr } }).inc
        (PRT_FRAG_RX_CNT p))) ∧
    (∀ (p : Nat), wellFormed (.verifyMpacketReceived p) = true → d.portUp p = true → d.answers (.verifyMpacketReceived p) (d.looped p
        (d.emit (.respond p)))) ∧
    (∀ (p : Nat), wellFormed (.respondMpacketReceived p) = true → d.portUp p = true → d.rd (PRT_STAT_VERSTAT p) = 2 → d.answers
        (.respondMpacketReceived p) (d.wr (PRT_STAT_VERSTAT p) 3)) ∧
    (∀ (p : Nat), wellFormed (.verifyTimer p) = true → d.rd (PRT_STAT_VERSTAT p) = 2 → (d.port p).verAt + d.rd (PRT_PREEMPT_VERTIME p)
        * (1000000 * 65536) ≤ d.tb.lt → 3 ≤ (d.port p).verifies → d.answers (.verifyTimer p) (d.looped p ((d.wr (PRT_STAT_VERSTAT p)
        4).postEvent 0x0803 (prtUid p) (d.port p).verifies))) ∧
    (∀ (p : Nat) (line : LineUp), wellFormed (.linkUpCondition p line) = true → d.laneReady p = true → d.on (PRT_CFG_ANEN p) = false →
        d.answers (.linkUpCondition p line) (((d.put (PRT_STAT_LFAULT p) false).put (PRT_STAT_RFAULT p) (line.remote && d.rd
        (PRT_CFG_MODE p) == 0)).setPort p
        { d.port p with up := true, down := none, since := if (d.port p).up then (d.port p).since else d.tb.lt })) ∧
    (∀ (p : Nat) (line : LineDown), wellFormed (.linkDownCondition p line) = true → d.laneReady p = true → d.answers
        (.linkDownCondition p line) ((((d.put (PRT_STAT_LFAULT p) (line.cause == 1 || (line.cause == 4 && d.rd (PRT_CFG_MODE p) ==
        0))).put (PRT_STAT_RFAULT p) ((line.cause == 4 && d.rd (PRT_CFG_MODE p) == 3) || (line.remote && d.rd (PRT_CFG_MODE p) ==
        0))).setPort p
        { d.port p with up := false, down := some line.cause, since := if (d.port p).down.isSome then (d.port p).since else d.tb.lt }).when
        ((d.port p).down.isNone && (d.rd (PRT_CFG_MODE p) == 0 || d.rd (PRT_CFG_MODE p) == 3)) (fun d => d.emit (.lineFault p)))) ∧
    (∀ (p : Nat), wellFormed (.linkUp p) = true → (d.port p).up = true → d.laneReady p = true → d.on (PRT_STAT_LINK p) = false →
        (d.port p).since + d.rd (PRT_LINK_LUDEB p) * (1000000 * 65536) ≤ d.tb.lt → d.answers (.linkUp p) (d.looped p (((((d.put
        (PRT_STAT_LINK p) true).put (PRT_STAT_LINKCHG p) true).wr (PRT_STAT_SPEED p) (speedCode (d.rd (PRT_CFG_MODE p)))).postEvent
        0x0801 (prtUid p) (speedCode (d.rd (PRT_CFG_MODE p)))).verifyStart p))) ∧
    (∀ (p : Nat) (cause : Nat), wellFormed (.linkDown p) = true → (d.port p).down = some cause → d.on (PRT_STAT_LINK p) = true →
        (d.port p).since + d.rd (PRT_LINK_LDDEB p) * (100 * 65536) ≤ d.tb.lt → d.answers (.linkDown p) (d.watchLinks (fun d =>
        (d.linkGoesDown p cause).offIfDue p))) ∧
    (∀ (p : Nat) (link : Bool), wellFormed (.mdioPoll p link) = true → d.laneReady p = true → (d.port p).pollAt ≤ d.tb.lt → link =
        true → d.answers (.mdioPoll p link) ((d.setPort p
        { d.port p with pollAt := d.tb.lt + d.rd (PRT_HDX_MDPOLL p) * (1000000 * 65536) }).linkUpCondition p false)) ∧
    (∀ (p : Nat) (t : Tx), wellFormed (.collision p) = true → (d.port p).tx = some t → t.waits = false → d.on (PRT_STAT_PLCAACT p) =
        false → (d.port p).colls + 1 < d.rd (PRT_HDX_ATTLIM p) → d.answers (.collision p) ((((d.emit (.jam p)).mediumIdle p false
        d.tb.lt).inc (PRT_COLL_CNT p)).setPort p
        { ((d.emit (.jam p)).mediumIdle p false d.tb.lt).port p with colls := (d.port p).colls + 1, lfsr := Config.lfsrNext (d.port p).lfsr % 2 ^ 32, backoff := Config.lfsrNext (d.port p).lfsr % 2 ^ 32 % 2 ^ min ((d.port p).colls + 1) 10, backAt := d.tb.lt + bitTimes (32 + 512 * (Config.lfsrNext (d.port p).lfsr % 2 ^ 32 % 2 ^ min ((d.port p).colls + 1) 10)), tx := some { t with waits := true } })) ∧
    (∀ (p sub : Nat) (t : Tx), wellFormed (.backoffExpiry p sub) = true → (d.port p).tx = some t → t.waits = true → (d.port p).backAt
        ≤ d.tb.lt → d.plcaOpen p = true → d.answers (.backoffExpiry p sub) (((d.plcaNote p).depart p t.desc sub).1.setPort p
        { ((d.plcaNote p).depart p t.desc sub).1.port p with backoff := 0, tx := some { ((d.plcaNote p).depart p t.desc sub).2 with waits := false } })) ∧
    (∀ (p bitTime : Nat) (t : Tx), wellFormed (.lateCollision p bitTime) = true → (d.port p).tx = some t → t.waits = false → 512 <
        bitTime → d.answers (.lateCollision p bitTime) ((((((d.emit (.jam p)).mediumIdle p false d.tb.lt).plcaHit p).inc
        (PRT_DROP_LATECOL_CNT p)).postEvent 0x0805 (prtUid p) bitTime).dropCollided p t)) ∧
    (∀ (p : Nat), wellFormed (.plcaActive p) = true → d.rd (PRT_PLCA_NODEID p) ≠ 255 → d.on (PRT_STAT_PLCAACT p) = false → d.answers
        (.plcaActive p) (((d.put (PRT_STAT_PLCAACT p) true).setPort p
        { d.port p with plcaAt := (d.rd (PRT_PLCA_NODECNT p), d.tb.lt, 0) }).plcaBeacon p)) ∧
    (∀ (p : Nat), wellFormed (.plcaInactive p) = true → d.rd (PRT_PLCA_NODEID p) ≠ 255 → d.on (PRT_STAT_PLCAACT p) = true → d.answers
        (.plcaInactive p) ((d.put (PRT_STAT_PLCAACT p) false).postEvent 0x0807 (prtUid p) 0)) ∧
    (∀ (p : Nat) (q : Nat) (later : List Nat), wellFormed (.pauseTakesEffect p) = true → (d.port p).pauseDue = q :: later → d.answers
        (.pauseTakesEffect p) (((d.setPort p { d.port p with pauseDue := later }).loadPause p 8 q).put (PRT_STAT_PAUSED p) (q != 0))) ∧
    (∀ (p : Nat) (en : Nat) (qs : List Nat) (later : List (Nat × List Nat)), wellFormed (.pfcTakesEffect p) = true → (d.port p).pfcDue
        = (en, qs) :: later → d.answers (.pfcTakesEffect p) (((forNums 8 (fun c d => d.when (bit en c) (fun d => d.loadPause p c
        (qs.getD c 0))) d).setPort p
        { (forNums 8 (fun c d => d.when (bit en c) (fun d => d.loadPause p c (qs.getD c 0))) d).port p with pfcDue := later }).wr
        (PRT_STAT_PFCACT p) ((List.range 8).foldl (fun v c => if bit en c then setBits v c 1 (b01 (qs.getD c 0 != 0)) else v) (d.rd
        (PRT_STAT_PFCACT p))))) ∧
    (∀ (p t : Nat), wellFormed (.pauseTimerExpiry p t) = true → t = 8 → d.pauseOver p 8 = true → d.answers (.pauseTimerExpiry p t)
        (d.put (PRT_STAT_PAUSED p) false)) ∧
    (∀ (p t : Nat), wellFormed (.pauseTimerExpiry p t) = true → t < 8 → d.pauseOver p t = true → d.answers (.pauseTimerExpiry p t)
        (d.wr (PRT_STAT_PFCACT p) (setBits (d.rd (PRT_STAT_PFCACT p)) t 1 0))) ∧
    (∀ (p : Nat), wellFormed (.pauseRefresh p) = true → d.refreshDue p ≠ 0 → d.rd (PRT_PAUSETX_QUANTA p) ≠ 0 → d.on (PRT_STAT_LINK p)
        = true → d.answers (.pauseRefresh p) (d.setPort p
        { d.port p with own := (d.port p).own ++ [(d.refreshDue p, d.rd (PRT_PAUSETX_QUANTA p))], xoffAt := (numsWhere 9 (bit (d.refreshDue p))).foldl (fun t c => tput t c d.tb.lt) (d.port p).xoffAt })) ∧
    (∀ (m : Master) (p : Nat) (v : BitVec 32), wellFormed (.portPowerDown m p v) = true → d.accepts m (row_PRT_CTRL.last [p])
        (withField v 1 1 1).toNat = true → d.answers (.portPowerDown m p v) (d.watchLinks (fun d => ((d.dropStaged m
        (row_PRT_CTRL.last [p])).regStore (row_PRT_CTRL.last [p]) (withField v 1 1 1).toNat).pwrdnWritten p (d.on (PRT_CTRL_PWRDN p))
        true))) ∧
    (∀ (m : Master) (p : Nat) (v : BitVec 32), wellFormed (.lanePowerUp m p v) = true → d.accepts m (row_PRT_CTRL.last [p]) (withField
        v 1 1 0).toNat = true → d.answers (.lanePowerUp m p v) (d.watchLinks (fun d => ((d.dropStaged m (row_PRT_CTRL.last
        [p])).regStore (row_PRT_CTRL.last [p]) (withField v 1 1 0).toNat).pwrdnWritten p (d.on (PRT_CTRL_PWRDN p)) false))) ∧
    (∀ (p : Nat) (sdOk : Bool) (rxTaps txTaps : Nat), wellFormed (.laneReady p sdOk rxTaps txTaps) = true → d.on (PRT_CTRL_PWRDN p) =
        false → d.on (PRT_STAT_PWRDY p) = false → 20 ≤ p → d.answers (.laneReady p sdOk rxTaps txTaps) (((d.calibrate p false
        rxTaps).calibrate p true txTaps).put (PRT_STAT_PWRDY p) (((d.calibrate p false rxTaps).calibrate p true txTaps).on
        (TB_Pp_CAL_CALOK p)))) ∧
    (∀ (p : Nat), wellFormed (.portReset p) = true → d.resetting (prtUid p) → d.answers (.portReset p) (d.watchLinks (fun d =>
        (d.portReset p).put SUP_FNLAST_BUSY false)))

/-- Forwarding and redundancy commands complete, each where its clause says. -/
def Obligations.FabricCommandsComplete : Prop :=
  ∀ d : Dev, d.inReset = false →
    (∀ (m : Master) (v : BitVec 32), wellFormed (.tableRead m v) = true → d.accepts m (row_FAB_TBLCMD.last []) (withField v 3 2
        0).toNat = true → d.answers (.tableRead m v) ((d.dropStaged m (row_FAB_TBLCMD.last [])).tableCommand (withField v 3 2
        0).toNat)) ∧
    (∀ (m : Master) (v : BitVec 32), wellFormed (.tableWrite m v) = true → d.accepts m (row_FAB_TBLCMD.last []) (withField v 3 2
        1).toNat = true → d.answers (.tableWrite m v) ((d.dropStaged m (row_FAB_TBLCMD.last [])).tableCommand (withField v 3 2
        1).toNat)) ∧
    (∀ (m : Master) (v : BitVec 32), wellFormed (.tableInvalidate m v) = true → d.accepts m (row_FAB_TBLCMD.last []) (withField v 3 2
        2).toNat = true → d.answers (.tableInvalidate m v) ((d.dropStaged m (row_FAB_TBLCMD.last [])).tableCommand (withField v 3 2
        2).toNat)) ∧
    (∀ (m : Master) (v : BitVec 32), wellFormed (.tableFlush m v) = true → d.accepts m (row_FAB_TBLCMD.last []) (withField v 3 2
        3).toNat = true → bits (withField v 3 2 3).toNat 0 3 = 2 → d.answers (.tableFlush m v)
        ({ ((((d.dropStaged m (row_FAB_TBLCMD.last [])).wr FAB_TBLCMD_TABLE 2).wr FAB_TBLCMD_OP 3).wr FAB_TBLCMD_INDEX (bits (withField v 3 2 3).toNat 8 16)).put FAB_TBLCMD_BUSY true with fab := { d.fab with learned := [] } })) ∧
    (d.answers .tableCommandDone (d.put FAB_TBLCMD_BUSY false)) ∧
    (∀ (k : Nat) (e : LearnedFdb), wellFormed (.fdbAgeing k) = true → tget d.fab.learned k = some e → d.rd FAB_AGE_AGE ≠ 0 → e.seen +
        d.rd FAB_AGE_AGE * sec16 ≤ d.tb.lt → d.answers (.fdbAgeing k)
        ({ d with fab := { d.fab with learned := tdel d.fab.learned k } })) ∧
    (∀ (m : Master) (k : Nat) (v : BitVec 32), wellFormed (.keyCommit m k v) = true → d.accepts m (row_KS_KEY.last [k]) (d.committed m
        (row_KS_KEY.last [k]) (d.presentValue (row_KS_KEY.last [k])) v.toNat) = true → d.answers (.keyCommit m k v) ((d.dropStaged m
        (row_KS_KEY.last [k])).keyCommit k (d.committed m (row_KS_KEY.last [k]) (d.presentValue (row_KS_KEY.last [k])) v.toNat))) ∧
    (d.resetting 0x0A0 → d.answers .fabricReset (d.fabricReset.put SUP_FNLAST_BUSY false)) ∧
    (d.resetting 0x0A1 → d.answers .redundancyReset (d.redReset.put SUP_FNLAST_BUSY false)) ∧
    (d.resetting 0x0A2 → d.answers .authenticationReset (d.authReset.put SUP_FNLAST_BUSY false)) ∧
    (d.resetting 0x0A3 → d.answers .expressRuleReset (d.xrReset.put SUP_FNLAST_BUSY false))

/-- Egress scheduler commands complete, each where its clause says. -/
def Obligations.SchedulerCommandsComplete : Prop :=
  ∀ d : Dev, d.inReset = false →
    (∀ (p : Nat) (x : Desc) (later : List Desc), wellFormed (.descriptorHandover p) = true → (d.port p).hand = x :: later →
        d.redTarget p x = none → d.popsNow p x.tc = false → d.answers (.descriptorHandover p) ((d.setPort p
        { d.port p with hand := later }).handover1 p x)) ∧
    (∀ (p : Nat) (x : Desc) (later : List Desc) (j side : Nat), wellFormed (.descriptorHandover p) = true → (d.port p).hand = x ::
        later → d.redTarget p x = some (j, side) → (d.redPair j side).any (fun e => d.popsNow e x.tc) = false → d.answers
        (.descriptorHandover p) ((((d.setPort p { d.port p with hand := later }).redSend j side x.bytes).1.foldl (fun d e =>
        d.handover1 e.1 (if e.1 = p then { x with bytes := e.2 } else { x with bytes := e.2, origin := .copy })) ((d.setPort p
        { d.port p with hand := later }).redSent j ((d.setPort p { d.port p with hand := later }).redSend j side x.bytes).2)))) ∧
    (∀ (p sub : Nat) (c : Nat), wellFormed (.transmitStart p sub) = true → d.portUp p = true → d.plcaOpen p = true → d.on
        SUP_STAT_FAULT = false → (d.port p).own = [] → (d.settlePort p).nextClass p = some c → ((d.settlePort p).port p).tx = none →
        (d.settlePort p).preReady p c = false → (d.settlePort p).on (PRT_STAT_PLCAACT p) = false → d.answers (.transmitStart p sub)
        (d.looped p ((d.settlePort p).startHead p c sub))) ∧
    (∀ (p sub : Nat), wellFormed (.transmitStart p sub) = true → d.portUp p = true → d.plcaOpen p = true → d.on SUP_STAT_FAULT = false
        → (d.port p).tx = none → (d.port p).own ≠ [] → d.answers (.transmitStart p sub) (d.looped p (d.startOwn p sub))) ∧
    (∀ (p : Nat) (t : Tx), wellFormed (.transmitEnd p) = true → (d.port p).tx = some t → t.waits = false → d.answers (.transmitEnd p)
        (d.looped p (d.watchLinks (fun d => d.transmitEnd p)))) ∧
    (∀ (p : Nat), wellFormed (.gateEvent p) = true → d.on (SCH_CTRL_GATEEN p) = true → d.rd (SCH_OPERLEN_LEN p) ≠ 0 → ((d.noteGates p
        (d.eventAt p)).setPos p).closedUnder p = false → d.answers (.gateEvent p) (d.looped p ((d.noteGates p (d.eventAt p)).setPos
        p))) ∧
    (∀ (m : Master) (p : Nat) (v : BitVec 32), wellFormed (.change m p v) = true → d.accepts m (row_SCH_CTRL.last [p]) (withField v 2
        1 1).toNat = true → bit (withField v 2 1 1).toNat 3 = false → d.on (SCH_CTRL_GATEEN p) = true → d.answers (.change m p v)
        ((((((d.dropStaged m (row_SCH_CTRL.last [p])).regStore (row_SCH_CTRL.last [p]) (withField v 2 1 1).toNat).schChange
        p).holdJudge p).preemptClosed p).settlePort p)) ∧
    (∀ (m : Master) (p : Nat) (v : BitVec 32), wellFormed (.cancel m p v) = true → d.accepts m (row_SCH_CTRL.last [p]) (withField v 3
        1 1).toNat = true → bit (withField v 3 1 1).toNat 2 = false → d.on (SCH_CTRL_GATEEN p) = true → d.answers (.cancel m p v)
        ((((((d.dropStaged m (row_SCH_CTRL.last [p])).regStore (row_SCH_CTRL.last [p]) (withField v 3 1 1).toNat).schCancel
        p).holdJudge p).preemptClosed p).settlePort p)) ∧
    (∀ (p : Nat) (t : Nat), wellFormed (.configSwap p) = true → d.changeAt p = some t → t ≤ d.schNow p → d.answers (.configSwap p)
        ((let n := d.rd (SCH_ADMLEN_LEN p); let d1 := forNums 1024 (fun e d => d.wr (SCH_OPERLISTe_ENTRY p e) (d.rd (SCH_ADMLISTe_ENTRY p e))) (d.noteGates p t); let d2 := ((d1.wr (SCH_OPERLEN_LEN p) n).wr (SCH_OPERCYCLE_CYCLE p) (d1.admCycle p)).wr (SCH_OPERBASE_BASE p) (d1.rd (SCH_ADMBASE_BASE p)); d.looped p ((((((((d2.clr (SCH_STAT_PENDING p)).put (SCH_STAT_SWAPPED p) true).inc (SCH_SWAPCNT_CNT p)).postEvent 0x0A03 (schUid p) (n % 1024)).setPos p).holdJudge p).preemptClosed p).settleSwap p)))) ∧
    (∀ (p : Nat), wellFormed (.macHold p) = true → d.opAt p (d.schNow p + d.rd (SCH_PADV_HOLDADV p) * 2 ^ 16) = 1 → d.on
        (SCH_STAT_HOLD p) = false → (d.port p).tx = none → d.answers (.macHold p) (d.looped p ((d.put (SCH_STAT_HOLD p) true).inc
        (SCH_HOLDCNT_CNT p)))) ∧
    (∀ (p : Nat), wellFormed (.macRelease p) = true → d.opAt p (d.schNow p + d.rd (SCH_PADV_RELADV p) * 2 ^ 16) = 2 → d.answers
        (.macRelease p) (d.put (SCH_STAT_HOLD p) false)) ∧
    (∀ (p c i : Nat) (x : Desc), wellFormed (.launchTimeReached p c i) = true → (d.classQ p c)[i]? = some x → d.hasLaunch p x = true →
        d.launchAt p x ≤ d.schNow p → d.answers (.launchTimeReached p c i) (d.setClassQ p c ((d.classQ p c).set i
        { x with due := true }))) ∧
    (∀ (p c i : Nat) (x : Desc), wellFormed (.lateToleranceExpiry p c i) = true → (d.classQ p c)[i]? = some x → d.tooLate p x = true →
        d.answers (.lateToleranceExpiry p c i) (((d.setClassQ p c ((d.classQ p c).eraseIdx i)).dropQueued p x
        rsLateDropped).settleHead p c (i == 0) 257)) ∧
    (∀ (p : Nat), wellFormed (.schedulerReset p) = true → d.resetting (schUid p) → d.answers (.schedulerReset p) ((d.schReset p).put
        SUP_FNLAST_BUSY false))

/-- Train controller commands complete, each where its clause says. -/
def Obligations.TrainCommandsComplete : Prop :=
  ∀ d : Dev, d.inReset = false →
    (∀ (p : Nat) (f : RxFrame), wellFormed (.coachReceived p f) = true → d.takenByTrain p f.bytes = true → d.on (PRT_STAT_LINK p) =
        true → d.on SUP_STAT_FAULT = false → d.rd (PRT_CFG_MODE (outPort (p / 2))) = d.rd (PRT_CFG_MODE (inPort (p / 2))) → d.answers
        (.coachReceived p f) (d.ringLooped p (d.coach p f))) ∧
    (∀ (p : Nat) (f : RxFrame), wellFormed (.coachReceived p f) = true → d.takenByTrain p f.bytes = true → d.on (PRT_STAT_LINK p) =
        true → d.on SUP_STAT_FAULT = false → d.rd (PRT_CFG_MODE (outPort (p / 2))) ≠ d.rd (PRT_CFG_MODE (inPort (p / 2))) → d.answers
        (.coachReceived p f) (d.ringLooped p (d.postEvent 0x0C08 0x0E0 (p / 2)))) ∧
    (∀ (r : Nat) (q : TrnResult), wellFormed (.surveyDelayCompute r) = true → (d.trn r).result = some q → d.answers
        (.surveyDelayCompute r) (d.surveyDelays r)) ∧
    (∀ (r sub : Nat) (c t : Nat), wellFormed (.trainDeparture r sub) = true → (d.trn r).master.bind (fun m => m.next) = some (c, t) →
        d.role r = roleMaster → d.derailed r = false → t ≤ d.trnNow r → d.answers (.trainDeparture r sub) (d.trainDeparture r sub)) ∧
    (∀ (r : Nat) (m : TrnMaster) (c t : Nat), wellFormed (.masterOutTake r) = true → (d.trn r).master = some m → m.next = some (c, t)
        → m.taken = false → t ≤ d.trnNow r + lead16 → inSurvey m.plan c = false → d.answers (.masterOutTake r) ((d.modMaster r (fun m
        => { m with taken := true })).outFlips r)) ∧
    (∀ (r j : Nat) (y : TrnCycle), wellFormed (.cycleMark r j) = true → d.role r ≠ roleOff → d.derailed r = false → (d.rollCycle
        r).derailsNow r = false → tget ((d.rollCycle r).trn r).owed j = none → ((d.rollCycle r).trn r).cur = some y → y.markCome j
        ((d.rollCycle r).trnNow r) = true → d.answers (.cycleMark r j) (((d.rollCycle r).modTrn r (fun x =>
        { x with cur := some { y with fired := y.fired ++ [j] } })).markOf r j y)) ∧
    (∀ (r j : Nat) (y : TrnCycle), wellFormed (.cycleMark r j) = true → d.role r ≠ roleOff → d.derailed r = false → (d.rollCycle
        r).derailsNow r = false → tget ((d.rollCycle r).trn r).owed j = some y → d.answers (.cycleMark r j) (((d.rollCycle r).modTrn r
        (fun x => { x with owed := tdel x.owed j })).markOf r j y)) ∧
    (∀ (m : Master) (r a : Nat) (v : BitVec 32), wellFormed (.mirrorCommitWrite m r a v) = true → d.hostShutOut m (0x480000 + 0x40000
        * r + a) = false → d.gatedAt (0x480000 + 0x40000 * r + a) = false → d.answers (.mirrorCommitWrite m r a v) ((d.mirRead r a
        4).1.mirWrite r a (toLe 4 (setBits (leNat (d.mirRead r a 4).2) 25 1 1)))) ∧
    (∀ (m : Master) (r : Nat) (v : BitVec 32), wellFormed (.ringEnable m r v) = true → d.accepts m (row_TRN_CFG.last [r]) (withField v
        0 1 1).toNat = true → d.on (TRN_CFG_EN r) = false → d.answers (.ringEnable m r v) ((((d.dropStaged m (row_TRN_CFG.last
        [r])).regStore (row_TRN_CFG.last [r]) (withField v 0 1 1).toNat).prioWritten r).ringEnable r true)) ∧
    (∀ (r : Nat), wellFormed (.silenceTimeout r) = true → d.on (TRN_CFG_EN r) = true → d.role r = roleNode → d.mayClaim r = true →
        (d.trn r).heard + d.rd (TRN_SILENCE_SILENCE r) * (10000 * 65536) ≤ d.tb.lt → d.answers (.silenceTimeout r) (d.claimStart r)) ∧
    (∀ (r sub : Nat), wellFormed (.startCoachSend r sub) = true → d.role r = roleClaiming → d.mayClaim r = true → (d.trn r).claim.sent
        < 3 → (d.trn r).claim.sent = 0 ∨ (d.trn r).claim.start + (d.trn r).claim.sent * d.maxRt r ≤ d.tb.lt → d.answers
        (.startCoachSend r sub) (d.startSend r sub)) ∧
    (∀ (r : Nat), wellFormed (.startCoachTimeout r) = true → d.role r = roleClaiming → d.mayClaim r = true → (d.trn r).claim.wait.any
        (fun w => decide (w.2 + d.maxRt r ≤ d.tb.lt)) = true → d.answers (.startCoachTimeout r) (d.setTrn r
        { d.trn r with claim := { count := ((d.trn r).claim.count + 1) % 2 ^ 32 } })) ∧
    (∀ (r : Nat), wellFormed (.claimWindowEnd r) = true → d.role r = roleClaiming → d.mayClaim r = true → (d.trn r).claim.back = 3 →
        (d.trn r).claim.start + 3 * d.maxRt r < d.tb.lt → d.answers (.claimWindowEnd r) (d.becomeMaster r)) ∧
    (∀ (m : Master) (r : Nat) (v : BitVec 32), wellFormed (.survey m r v) = true → d.accepts m (row_TRN_MCTRL.last [r]) (withField v 0
        1 1).toNat = true → bit (withField v 0 1 1).toNat 1 = false → d.answers (.survey m r v) ((d.dropStaged m (row_TRN_MCTRL.last
        [r])).modMaster r (fun m => { m with survReq := true }))) ∧
    (∀ (r : Nat) (m : TrnMaster) (q : TrnMeasure) (c t k : Nat), wellFormed (.surveyAbandon r) = true → (d.trn r).master = some m →
        m.meas = some q → m.next = some (c, t) → m.plan = some k → c = (k + 1) % 2 ^ 32 → q.whole (d.on (TRN_CFG_TOPO r)) = false → t
        ≤ d.trnNow r + lead16 → d.answers (.surveyAbandon r) ((d.ringEvent 0x0C13 r 1).modMaster r (fun m =>
        { m with plan := none, meas := none }))) ∧
    (∀ (m : Master) (r : Nat) (v : BitVec 32) (x : TrnMaster), wellFormed (.swgo m r v) = true → d.accepts m (row_TRN_MCTRL.last [r])
        (withField v 1 1 1).toNat = true → bit (withField v 1 1 1).toNat 0 = false → (d.trn r).master = some x → x.switch = none →
        d.rd (TRN_SWCYC_N r) ≠ 0 → 4 ≤ (d.rd (TRN_SWCYC_N r) + 2 ^ 32 - d.rd (TRN_CYCLE_CYCLE r)) % 2 ^ 32 → (d.rd (TRN_SWCYC_N r) + 2
        ^ 32 - d.rd (TRN_CYCLE_CYCLE r)) % 2 ^ 32 ≤ 2 ^ 23 → d.modeValid r (d.rd (TRN_SWITCH_NMODE r)) = true → d.answers (.swgo m r
        v) ((d.dropStaged m (row_TRN_MCTRL.last [r])).swGo r)) ∧
    (∀ (m : Master) (r : Nat) (v : BitVec 32), wellFormed (.modeCommit m r v) = true → d.accepts m (row_TRN_MCMD.last [r]) (withField
        v 3 2 0).toNat = true → bit (withField v 3 2 0).toNat 30 = false → d.on (TRN_MCMD_BUSY r) = false → d.answers (.modeCommit m r
        v) ((((d.dropStaged m (row_TRN_MCMD.last [r])).wr (TRN_MCMD_MODE r) (bits (withField v 3 2 0).toNat 0 3)).wr (TRN_MCMD_OP r)
        0).put (TRN_MCMD_BUSY r) true)) ∧
    (∀ (r : Nat), wellFormed (.modeCommitApply r) = true → d.on (TRN_MCMD_BUSY r) = true → d.rd (TRN_MCMD_OP r) = 0 → d.answers
        (.modeCommitApply r) (d.commitApply r)) ∧
    (∀ (m : Master) (r : Nat) (v : BitVec 32), wellFormed (.modeInvalidate m r v) = true → d.accepts m (row_TRN_MCMD.last [r])
        (withField v 3 2 1).toNat = true → bit (withField v 3 2 1).toNat 30 = false → d.on (TRN_MCMD_BUSY r) = false → d.answers
        (.modeInvalidate m r v) ((((d.dropStaged m (row_TRN_MCMD.last [r])).wr (TRN_MCMD_MODE r) (bits (withField v 3 2 1).toNat 0
        3)).wr (TRN_MCMD_OP r) 1).wr (TRN_MVALID_VALID r) (setBits ((((d.dropStaged m (row_TRN_MCMD.last [r])).wr (TRN_MCMD_MODE r)
        (bits (withField v 3 2 1).toNat 0 3)).wr (TRN_MCMD_OP r) 1).rd (TRN_MVALID_VALID r)) (bits (withField v 3 2 1).toNat 0 3) 1
        0))) ∧
    (∀ (m : Master) (r : Nat) (v : BitVec 32), wellFormed (.modeReadBack m r v) = true → d.accepts m (row_TRN_MCMD.last [r])
        (withField v 3 2 2).toNat = true → bit (withField v 3 2 2).toNat 30 = false → d.on (TRN_MCMD_BUSY r) = false → d.answers
        (.modeReadBack m r v) ((((d.dropStaged m (row_TRN_MCMD.last [r])).wr (TRN_MCMD_MODE r) (bits (withField v 3 2 2).toNat 0
        3)).wr (TRN_MCMD_OP r) 2).stage r ((((d.dropStaged m (row_TRN_MCMD.last [r])).wr (TRN_MCMD_MODE r) (bits (withField v 3 2
        2).toNat 0 3)).wr (TRN_MCMD_OP r) 2).modeTab r (bits (withField v 3 2 2).toNat 0 3)))) ∧
    (∀ (r : Nat) (c : Nat), wellFormed (.lateDeadline r) = true → d.role r = roleNode → (d.rollCycle r).lateFor r = some c → d.rd
        (TRN_WDOG_K r) ≠ 0 → d.answers (.lateDeadline r) (d.lateDeadline r)) ∧
    (∀ (r : Nat) (m : TrnMaster) (t : TrnTrain), wellFormed (.returnTimeout r) = true → (d.trn r).master = some m → m.trains.find?
        (fun t => t.out && decide (t.s + d.maxRt r ≤ d.trnNow r)) = some t → t.seats = false → t.fwOut = true → d.answers
        (.returnTimeout r) (((((d.inc (TRN_CNT_RETMISS_CNT r)).ringEvent 0x0C12 r 0).breakEnter r).modMaster r (fun m =>
        { m with trains := m.trains.filter (fun x => x != t) })).judgeTallies r { t with fwOut := false, rvOut := false })) ∧
    (∀ (r : Nat) (m : TrnMaster) (t : TrnTrain), wellFormed (.returnTimeout r) = true → (d.trn r).master = some m → m.trains.find?
        (fun t => t.out && decide (t.s + d.maxRt r ≤ d.trnNow r)) = some t → t.seats = true → t.fwOut = true → d.answers
        (.returnTimeout r) (((((d.inc (TRN_CNT_RETMISS_CNT r)).ringEvent 0x0C12 r 0).breakEnter r).modMaster r (fun m =>
        { m.keep t.c t.mode 0 false false false [] with trains := m.trains.filter (fun x => x != t) })).judgeTallies r
        { t with fwOut := false, rvOut := false })) ∧
    (∀ (m : Master) (r : Nat) (w : Nat), wellFormed (.commandFifoRead m r) = true → d.admits m (row_TRN_CMDFIFO.last [r]) = true →
        wordOf d.latched m.uid ((row_TRN_CMDFIFO.last [r]).off + 8) = some w → d.answers (.commandFifoRead m r)
        (({ d with latched := wordsDrop d.latched m.uid ((row_TRN_CMDFIFO.last [r]).off + 8) ((row_TRN_CMDFIFO.last [r]).off + 8 + 4) }.modTrn
        r (fun x => { x with fifo := x.fifo.drop 1 })).emit (.read m.uid w))) ∧
    (d.resetting 0x0E0 → d.answers .trainReset (d.trainReset.put SUP_FNLAST_BUSY false))

/-- Sample Alignment Unit commands complete, each where its clause says. -/
def Obligations.SampleUnitCommandsComplete : Prop :=
  ∀ d : Dev, d.inReset = false →
    (∀ (ecc : Bool) (f : SvFrame) (later : List SvFrame), wellFormed (.sampleFrame ecc) = true → d.sau.inq = f :: later → d.on
        (SAU_S_CFG_EN f.stream) = false → d.answers (.sampleFrame ecc) ({ d with sau := { d.sau with inq := later } })) ∧
    (∀ (ecc : Bool) (f : SvFrame) (later : List SvFrame), wellFormed (.sampleFrame ecc) = true → d.sau.inq = f :: later → d.on
        (SAU_S_CFG_EN f.stream) = true → ecc = false → savPdu f.bytes = none → d.answers (.sampleFrame ecc) ((forNums 4 (fun m d =>
        d.dueRows m) ({ d with sau := { d.sau with inq := later } } : Dev)).svDiscard f.stream 1 (SAU_S_FORMAT_CNT f.stream))) ∧
    (∀ (ecc : Bool) (f : SvFrame) (later : List SvFrame), wellFormed (.sampleFrame ecc) = true → d.sau.inq = f :: later → d.on
        (SAU_S_CFG_EN f.stream) = true → d.answers (.sampleFrame ecc) (d.sampleFrame ecc)) ∧
    (∀ (i : Nat), wellFormed (.streamTimeout i) = true → d.rd (SAU_S_STAT_STATE i) = svRun → (d.stream i).heard + d.rd (SAU_S_TMO_TMO
        i) * 1000000 * 65536 ≤ d.tb.lt → d.answers (.streamTimeout i) ((((d.setStream i
        { d.stream i with slots := [], anchor := none }).streamState i svLost).postEvent 0x0D03 sauUid i).settleAll (fun _ => false))) ∧
    (∀ (m : Master) (i : Nat) (v : BitVec 32), wellFormed (.streamEnable m i v) = true → d.accepts m (row_SAU_S_CFG.last [i])
        (withField v 0 1 1).toNat = true → d.on (SAU_S_CFG_EN i) = false → d.answers (.streamEnable m i v) ((d.dropStaged m
        (row_SAU_S_CFG.last [i])).streamCfgWrite i (withField v 0 1 1).toNat)) ∧
    (∀ (m : Master) (i : Nat) (v : BitVec 32), wellFormed (.streamDisable m i v) = true → d.accepts m (row_SAU_S_CFG.last [i])
        (withField v 0 1 0).toNat = true → d.on (SAU_S_CFG_EN i) = true → d.answers (.streamDisable m i v) ((d.dropStaged m
        (row_SAU_S_CFG.last [i])).streamCfgWrite i (withField v 0 1 0).toNat)) ∧
    (∀ (m : Master) (i : Nat) (v : BitVec 32), wellFormed (.matrixEnable m i v) = true → d.accepts m (row_SAU_Mm_CFG.last [i])
        (withField v 0 1 1).toNat = true → d.on (SAU_Mm_CFG_EN i) = false → d.answers (.matrixEnable m i v) ((d.dropStaged m
        (row_SAU_Mm_CFG.last [i])).matrixCfgWrite i (withField v 0 1 1).toNat)) ∧
    (∀ (m : Master) (i : Nat) (v : BitVec 32), wellFormed (.matrixDisable m i v) = true → d.accepts m (row_SAU_Mm_CFG.last [i])
        (withField v 0 1 0).toNat = true → d.on (SAU_Mm_CFG_EN i) = true → d.answers (.matrixDisable m i v) ((d.dropStaged m
        (row_SAU_Mm_CFG.last [i])).matrixCfgWrite i (withField v 0 1 0).toNat)) ∧
    (∀ (i : Nat), wellFormed (.rowOpen i) = true → d.on (SAU_Mm_CFG_EN i) = true → (d.nextGrid i (d.matrix i).after).2 ≤ Int.ofNat
        (d.domTime (d.matDom i)) → d.answers (.rowOpen i) (d.rowOpen i)) ∧
    (∀ (i : Nat) (r : MRow) (j : Nat), wellFormed (.rowDeadline i) = true → (d.matrix i).rows.findIdx? (fun r => r.close.isNone) =
        some j → (d.matrix i).rows[j]? = some r → r.g + Int.ofNat (d.rd (SAU_Mm_DEADLINE_DEADLINE i) * 1000 * 65536) ≤ Int.ofNat
        (d.domTime (d.matDom i)) → d.answers (.rowDeadline i) (d.setMatrix i
        { d.matrix i with rows := (d.matrix i).rows.set j { r with close := some .deadline } })) ∧
    (∀ (i : Nat) (r : MRow) (later : List MRow) (why : Close), wellFormed (.rowComplete i) = true → (d.matrix i).rows = r :: later →
        r.close = some why → d.answers (.rowComplete i) ((d.rowComplete i).ringsKept)) ∧
    (d.resetting 0x0E8 → d.answers .sauReset (d.sauReset.put SUP_FNLAST_BUSY false))

/-- Pin bank commands complete, each where its clause says. -/
def Obligations.PinCommandsComplete : Prop :=
  ∀ d : Dev, d.inReset = false →
    (∀ (n : Nat) (level : Bool) (ago sub : Nat), wellFormed (.filteredEdge n level ago sub) = true → (d.pn n).filt ≠ level →
        d.filterReady n (d.tb.lt - ago * tick16 + sub * 4096) = true → d.answers (.filteredEdge n level ago sub) (d.filteredEdge n
        level (d.tb.lt - ago * tick16 + sub * 4096))) ∧
    (∀ (m : Master) (w : Nat), wellFormed (.edgeStampRead m) = true → d.admits m (row_PIN_ESQ.last []) = true → wordOf d.latched m.uid
        ((row_PIN_ESQ.last []).off + 12) = some w → d.answers (.edgeStampRead m)
        ({ d with latched := wordsDrop d.latched m.uid ((row_PIN_ESQ.last []).off + 12) ((row_PIN_ESQ.last []).off + 12 + 4), pin := { d.pin with stamps := d.pin.stamps.drop 1 } }.emit
        (.read m.uid w))) ∧
    (∀ (m : Master) (n : Nat) (v : BitVec 32), wellFormed (.rel m n v) = true → d.accepts m (row_PIN_IOn_SAFE.last [n]) (withField v 2
        1 1).toNat = true → d.rd (PIN_IOn_SAFE_CAUSE n) = 0 → d.answers (.rel m n v) ((((d.dropStaged m (row_PIN_IOn_SAFE.last
        [n])).regStore (row_PIN_IOn_SAFE.last [n]) (withField v 2 1 1).toNat).safeFollow n).pinRelease n)) ∧
    (∀ (n : Nat) (x : Nat), wellFormed (.expressHoldExpiry n) = true → (d.pn n).hold = some x → x ≤ d.tb.lt → d.on
        (PIN_IOn_XDRV_XLATCH n) = false → d.answers (.expressHoldExpiry n) ((d.setPn n
        { d.pn n with hold := none, clrDue := false }).put (PIN_IOn_SAFE_XACT n) false)) ∧
    (∀ (n : Nat) (x : Nat), wellFormed (.expressHoldExpiry n) = true → (d.pn n).hold = some x → x ≤ d.tb.lt → d.on
        (PIN_IOn_XDRV_XLATCH n) = true → (d.pn n).clrDue = false → d.answers (.expressHoldExpiry n) (d.setPn n
        { d.pn n with hold := none })) ∧
    (∀ (m : Master) (n : Nat) (v : BitVec 32), wellFormed (.xclr m n v) = true → d.accepts m (row_PIN_IOn_XDRV.last [n]) (withField v
        3 1 1).toNat = true → n < 16 → d.pinBound n = true → d.on (PIN_IOn_SAFE_XACT n) = true → (d.pn n).hold = none → d.answers
        (.xclr m n v) ((d.dropStaged m (row_PIN_IOn_XDRV.last [n])).put (PIN_IOn_SAFE_XACT n) false)) ∧
    (∀ (m : Master) (g : Nat) (v : BitVec 32), wellFormed (.groupClockWrite m g v) = true → d.accepts m (row_PIN_GRP_CLK.last [g])
        v.toNat = true → d.grpBusy g = false → d.answers (.groupClockWrite m g v) ((((d.dropStaged m (row_PIN_GRP_CLK.last [g])).wr
        (PIN_GRP_CLK_DIVINT g) (bits v.toNat 0 16)).wr (PIN_GRP_CLK_DIVFRAC g) (bits v.toNat 16 8)).setGrp g
        { d.grp g with newDiv := true })) ∧
    (∀ (m : Master) (g : Nat) (v : BitVec 32), wellFormed (.groupStart m g v) = true → d.accepts m (row_PIN_GRP_START.last [g])
        v.toNat = true → (List.range 4).any (fun s => bit (bits v.toNat 0 4) s && d.seqState (4 * g + s) != 0) = false → bit v.toNat 8
        = false → d.answers (.groupStart m g v) ((d.dropStaged m (row_PIN_GRP_START.last [g])).grpStart g (bits v.toNat 0 4) (bit
        v.toNat 9) false)) ∧
    (∀ (m : Master) (g : Nat) (v : BitVec 32), wellFormed (.groupStart m g v) = true → d.accepts m (row_PIN_GRP_START.last [g])
        v.toNat = true → (List.range 4).any (fun s => bit (bits v.toNat 0 4) s && d.seqState (4 * g + s) != 0) = false → bit v.toNat 8
        = true → d.domTime (d.rd (PIN_GRP_TDOM_TDOM g)) ≤ ofTs96 (d.rd (PIN_GRP_TSTART_T g)) → d.answers (.groupStart m g v)
        ((d.dropStaged m (row_PIN_GRP_START.last [g])).setGrp g { d.grp g with armed := some (bits v.toNat 0 4, bit v.toNat 9) })) ∧
    (∀ (g : Nat) (mask : Nat) (ds : Bool), wellFormed (.timedStartFire g) = true → (d.grp g).armed = some (mask, ds) → d.edgePast g
        (d.rd (PIN_GRP_TDOM_TDOM g)) (ofTs96 (d.rd (PIN_GRP_TSTART_T g))) = true → d.answers (.timedStartFire g) ((d.setGrp g
        { d.grp g with armed := none }).grpStart g mask ds true)) ∧
    (∀ (m : Master) (g : Nat) (v : BitVec 32), wellFormed (.groupHalt m g v) = true → d.accepts m (row_PIN_GRP_HALT.last [g]) v.toNat
        = true → d.answers (.groupHalt m g v) ((d.dropStaged m (row_PIN_GRP_HALT.last [g])).grpHalt g (bits v.toNat 0 4))) ∧
    (∀ (m : Master) (g w : Nat) (v : BitVec 32), wellFormed (.instructionWrite m g w v) = true → d.accepts m (row_PIN_GRP_IMEMw.last
        [g, w]) v.toNat = true → (List.range 4).any (fun s => d.seqState (4 * g + s) != 0 && decide (d.rd (PIN_SEQ_PROG_LO g s) ≤ w)
        && decide (w ≤ d.rd (PIN_SEQ_PROG_HI g s))) = false → d.answers (.instructionWrite m g w v) ((d.dropStaged m
        (row_PIN_GRP_IMEMw.last [g, w])).wr (PIN_GRP_IMEMw_INSTR g w) (bits v.toNat 0 24))) ∧
    (∀ (m : Master) (g : Nat) (v : BitVec 32), wellFormed (.flagSetWrite m g v) = true → d.accepts m (row_PIN_GRP_FLAGSET.last [g])
        v.toNat = true → d.answers (.flagSetWrite m g v) ((d.dropStaged m (row_PIN_GRP_FLAGSET.last [g])).flagSet g v.toNat)) ∧
    (∀ (m : Master) (q : Nat) (v : BitVec 32), wellFormed (.kick m q v) = true → d.accepts m (row_PIN_SEQ_CTRL.last [q / 4, q % 4])
        (withField v 1 1 1).toNat = true → bit (withField v 1 1 1).toNat 0 = false → d.answers (.kick m q v) ((d.dropStaged m
        (row_PIN_SEQ_CTRL.last [q / 4, q % 4])).setSeq q { d.seq q with kick := true })) ∧
    (∀ (m : Master) (q : Nat) (v : BitVec 32), wellFormed (.clrshift m q v) = true → d.accepts m (row_PIN_SEQ_CTRL.last [q / 4, q %
        4]) (withField v 0 1 1).toNat = true → bit (withField v 0 1 1).toNat 1 = false → d.answers (.clrshift m q v) ((d.dropStaged m
        (row_PIN_SEQ_CTRL.last [q / 4, q % 4])).clrShift q)) ∧
    (∀ (g : Nat), wellFormed (.groupReset g) = true → d.resetting (0x0F0 + g) → d.answers (.groupReset g) ((d.grpReset g).put
        SUP_FNLAST_BUSY false)) ∧
    (d.resetting 0x0F2 → d.answers .pinBankReset (d.bankReset.put SUP_FNLAST_BUSY false)) ∧
    (∀ (m : Master) (q : Nat) (v : BitVec 32), wellFormed (.txFifoWrite m q v) = true → d.admits m (row_PIN_SEQ_TXF.last [q / 4, q %
        4]) = true → (d.seq q).txf.length < 8 → d.answers (.txFifoWrite m q v) (d.setSeq q
        { d.seq q with txf := (d.seq q).txf ++ [v.toNat] })) ∧
    (∀ (m : Master) (q : Nat) (x : Nat) (later : List Nat), wellFormed (.rxFifoRead m q) = true → d.admits m ⟨row_PIN_SEQ_RXF, [q / 4,
        q % 4], 0⟩ = true → (d.seq q).rxf = x :: later → d.answers (.rxFifoRead m q) (((d.setSeq q
        { d.seq q with rxf := later }).latchWord m ((⟨row_PIN_SEQ_RXF, [q / 4, q % 4], 0⟩ : RegAt).off + 4) ((2 ^ 63 + x) / 2 ^
        32)).emit (.read m.uid ((2 ^ 63 + x) % 2 ^ 32))))

/-- Sequencer instructions complete, each where its clause says. -/
def Obligations.SequencerInstructionsComplete : Prop :=
  ∀ d : Dev, d.inReset = false →
    (∀ (q : Nat) (e : Dev), wellFormed (.send q) = true → d.atInstr q 1 → (d.sideSet q (d.seqWord q)).seqSend q (bits (seqArg
        (d.seqWord q)) 0 4) = .go e none → d.answers (.send q) (e.seqDone q none)) ∧
    (∀ (q : Nat) (e : Dev), wellFormed (.take q) = true → d.atInstr q 2 → (d.sideSet q (d.seqWord q)).seqTake q (seqArg (d.seqWord q))
        = .go e none → d.answers (.take q) (e.seqDone q none)) ∧
    (∀ (q : Nat) (e : Dev), wellFormed (.load q) = true → d.atInstr q 3 → (d.sideSet q (d.seqWord q)).seqLoad q (seqArg (d.seqWord q))
        = .go e none → d.answers (.load q) (e.seqDone q none)) ∧
    (∀ (q : Nat) (e : Dev), wellFormed (.store q) = true → d.atInstr q 4 → (d.sideSet q (d.seqWord q)).seqStore q (seqArg (d.seqWord
        q)) = .go e none → d.answers (.store q) (e.seqDone q none)) ∧
    (∀ (q : Nat), wellFormed (.branch q) = true → d.atInstr q 5 → bits (seqArg (d.seqWord q)) 6 4 = 0 → d.answers (.branch q)
        ((d.sideSet q (d.seqWord q)).seqDone q (some (bits (seqArg (d.seqWord q)) 0 6)))) ∧
    (∀ (q : Nat) (e : Dev) (jump : Option Nat), wellFormed (.branch q) = true → d.atInstr q 5 → (d.sideSet q (d.seqWord q)).seqBranch
        q (seqArg (d.seqWord q)) = .go e jump → d.answers (.branch q) (e.seqDone q jump)) ∧
    (∀ (q : Nat) (e : Dev), wellFormed (.wait q) = true → d.atInstr q 6 → (d.sideSet q (d.seqWord q)).seqWait q (if (d.sideSet q
        (d.seqWord q)).on (PIN_SEQ_CFG_SIDEMODE (q / 4) (q % 4)) then 0 else seqSide (d.seqWord q)) (seqArg (d.seqWord q)) = .go e
        none → d.answers (.wait q) (e.seqDone q none)) ∧
    (∀ (q : Nat), wellFormed (.count q) = true → d.atInstr q 7 → bit (seqArg (d.seqWord q)) 13 = false → d.answers (.count q)
        (((d.sideSet q (d.seqWord q)).wr (if bit (seqArg (d.seqWord q)) 14 then PIN_SEQ_CNTR_C1 (q / 4) (q % 4) else PIN_SEQ_CNTR_C0
        (q / 4) (q % 4)) (bits (seqArg (d.seqWord q)) 0 13)).seqDone q none)) ∧
    (∀ (q : Nat), wellFormed (.count q) = true → d.atInstr q 7 → bit (seqArg (d.seqWord q)) 13 = true → d.answers (.count q)
        (((d.sideSet q (d.seqWord q)).wr (if bit (seqArg (d.seqWord q)) 14 then PIN_SEQ_CNTR_C1 (q / 4) (q % 4) else PIN_SEQ_CNTR_C0
        (q / 4) (q % 4)) (if bit (seqArg (d.seqWord q)) 14 then (d.sideSet q (d.seqWord q)).rd (PIN_SEQ_CRLD_CRLD1 (q / 4) (q % 4))
        else (d.sideSet q (d.seqWord q)).rd (PIN_SEQ_CRLD_CRLD0 (q / 4) (q % 4)))).seqDone q none)) ∧
    (∀ (q : Nat), wellFormed (.drive q) = true → d.atInstr q 8 → bits (seqArg (d.seqWord q)) 6 2 = 1 → d.answers (.drive q)
        (((d.sideSet q (d.seqWord q)).latch (bits (seqArg (d.seqWord q)) 0 6) true true).seqDone q none)) ∧
    (∀ (q : Nat), wellFormed (.signal q) = true → d.atInstr q 9 → bits (seqArg (d.seqWord q)) 0 2 = 0 → d.answers (.signal q)
        (((d.sideSet q (d.seqWord q)).softFlag (q / 4) (24 + bits (seqArg (d.seqWord q)) 2 3)).seqDone q none)) ∧
    (∀ (q : Nat), wellFormed (.signal q) = true → d.atInstr q 9 → bits (seqArg (d.seqWord q)) 0 2 = 2 → d.answers (.signal q)
        (((d.sideSet q (d.seqWord q)).ring ((d.sideSet q (d.seqWord q)).rd (PIN_SEQ_SIG_DB (q / 4) (q % 4)))).seqDone q none)) ∧
    (∀ (q : Nat) (ecc : Bool), wellFormed (.nop q ecc) = true → ecc = false → d.atInstr q 0 → d.answers (.nop q ecc) ((d.sideSet q
        (d.seqWord q)).seqDone q none)) ∧
    (∀ (q : Nat) (ecc : Bool), wellFormed (.nop q ecc) = true → ecc = true → d.seqState q ≠ 0 → d.answers (.nop q ecc) (d.seqHalt q
        0x08)) ∧
    (∀ (q : Nat) (x : Nat) (later : List Nat), wellFormed (.spfFeed q) = true → (d.seq q).spf = none → (d.seq q).txf = x :: later →
        d.on (PIN_SEQ_CFG_FEED (q / 4) (q % 4)) = true → d.grpFree (q / 4) (8 + q % 4) = true → d.answers (.spfFeed q) ((d.setSeq q
        { d.seq q with spf := some x, txf := later }).grpMark (q / 4) (8 + q % 4))) ∧
    (∀ (q : Nat) (x : Nat), wellFormed (.thdDeliver q) = true → (d.seq q).thd = some x → (d.seq q).rxf.length < 8 → d.grpFree (q / 4)
        (4 + q % 4) = true → (d.seq q).kept = false → d.answers (.thdDeliver q) ((d.setSeq q
        { d.seq q with thd := none, rxf := (d.seq q).rxf ++ [x] }).grpMark (q / 4) (4 + q % 4))) ∧
    (∀ (q : Nat) (x : Nat), wellFormed (.thdDeliver q) = true → (d.seq q).thd = some x → (d.seq q).rxf.length < 8 → d.grpFree (q / 4)
        (4 + q % 4) = true → (d.seq q).kept = true → d.answers (.thdDeliver q) (((((d.setSeq q
        { d.seq q with thd := none, rxf := (d.seq q).rxf ++ [x] }).grpMark (q / 4) (4 + q % 4)).setSeq q
        { d.seq q with thd := some (d.tkrWord q), rxf := (d.seq q).rxf ++ [x], kept := false }).clrTkr q)))

/-- Depot and engine control commands complete, each where its clause says. -/
def Obligations.DepotCommandsComplete : Prop :=
  ∀ d : Dev, d.inReset = false →
    (∀ (m : Master) (n : Nat) (v : BitVec 32), wellFormed (.depotPowerOn m n v) = true → d.accepts m (row_DEP_CTRL.last [n])
        (withField v 0 1 1).toNat = true → d.rd (DEP_STAT_PWRSTATE n) = 0 → d.answers (.depotPowerOn m n v) (((depotEngines n).foldl
        (fun d' e => d'.setEng e {}) ((d.dropStaged m (row_DEP_CTRL.last [n])).put (DEP_CTRL_PWRON n) true)).wr (DEP_STAT_PWRSTATE n)
        1)) ∧
    (∀ (n : Nat), wellFormed (.depotWakeDone n) = true → d.rd (DEP_STAT_PWRSTATE n) = 1 → d.answers (.depotWakeDone n) (((depotEngines
        n).foldl (fun d' e => (d'.wr (ENG_STAT_STATE e) engHalted).clr (ENG_RPT0_RPTV e)) d).wr (DEP_STAT_PWRSTATE n) 2)) ∧
    (∀ (m : Master) (n : Nat) (v : BitVec 32), wellFormed (.depotPowerOff m n v) = true → d.accepts m (row_DEP_CTRL.last [n])
        (withField v 0 1 0).toNat = true → d.on (DEP_CTRL_PWRON n) = true → d.answers (.depotPowerOff m n v) ((d.dropStaged m
        (row_DEP_CTRL.last [n])).depotPowerOff n)) ∧
    (∀ (n : Nat), wellFormed (.depotOffDone n) = true → d.rd (DEP_STAT_PWRSTATE n) = 3 → d.answers (.depotOffDone n) ((((depotEngines
        n).foldl (fun d' e => d'.setEng e {}) d).setDepot n {}).wr (DEP_STAT_PWRSTATE n) 0)) ∧
    (∀ (e i : Nat) (v : BitVec 32), wellFormed (.rxRelease e i v) = true → d.depotOn (e / 8) = true → v.toNat ≠ 0 → v.toNat ≤
        (d.rxRing (e / 8) i).occ → d.answers (.rxRelease e i v) ((d.setRxRing (e / 8) i
        { d.rxRing (e / 8) i with old := ((d.rxRing (e / 8) i).old + v.toNat) % d.rd (DEP_RXRi_NSLOT (e / 8) i), occ := (d.rxRing (e / 8) i).occ - v.toNat }).ioNote
        e (0x304 + i) true)) ∧
    (∀ (e i : Nat) (x : Nat) (later : List Nat), wellFormed (.ingressPop e i) = true → d.depotOn (e / 8) = true → (d.rxRing (e / 8)
        i).descs = x :: later → d.answers (.ingressPop e i) ((((d.setRxRing (e / 8) i
        { d.rxRing (e / 8) i with descs := later }).ioLatch e (0x300 + 2 * i + 1) (x / 2 ^ 32)).ioNote e (0x300 + 2 * i) false).emit
        (.read (0x040 + e) (x % 2 ^ 32)))) ∧
    (∀ (e j w : Nat) (v : BitVec 32), wellFormed (.egressStage e j w v) = true → d.depotOn (e / 8) = true → d.answers (.egressStage e
        j w v) ((d.modEng e (fun x => { x with stage := tput x.stage (8 * j + w) v.toNat })).ioNote e (0x320 + 8 * j + w) true)) ∧
    (∀ (e j : Nat) (v : BitVec 32), wellFormed (.egressPush e j v) = true → d.depotOn (e / 8) = true → (tgetD (d.depot (e / 8)).tx j
        []).length < 32 → d.answers (.egressPush e j v) (((d.setDepot (e / 8)
        { d.depot (e / 8) with tx := tput (d.depot (e / 8)).tx j (tgetD (d.depot (e / 8)).tx j [] ++ [(List.range 5).map (fun i => tgetD (d.eng e).stage (8 * j + i) 0) ++ [v.toNat]]) }).modEng
        e (fun x => { x with stage := tput x.stage (8 * j + 5) v.toNat })).ioNote e (0x325 + 8 * j) true)) ∧
    (∀ (n : Nat) (ws : List Nat) (later : List (List Nat)), wellFormed (.frameInterfaceFetch n) = true → (d.depot n).copying = none →
        tgetD (d.depot n).tx (d.depot n).turn [] = ws :: later → d.answers (.frameInterfaceFetch n) (d.frameFetch n)) ∧
    (∀ (n : Nat) (ws : List Nat) (l : List Byte), wellFormed (.copyComplete n) = true → (d.depot n).copying = some (ws, l) → bit
        (descWord ws 1) 28 = false → d.answers (.copyComplete n) ((((d.setDepot n { d.depot n with copying := none }).inc
        (DEP_TXFRM_CNT n))).handTo (bits (descWord ws 1) 14 5) (depotDesc n ws l))) ∧
    (∀ (n k : Nat), wellFormed (.timerCompareFire n k) = true → d.on (DEP_TCMPk_EN n k) = true → d.compareAt n k ≤ d.domTime (d.rd
        (DEP_TCMPk_DOM n k)) → d.answers (.timerCompareFire n k) (d.compareFire n k)) ∧
    (∀ (e : Nat) (l : Nat), wellFormed (.interruptEntry e) = true → d.engState e = engRunning → d.lineToTake e = some l → (d.eng
        e).rsd < 32 → (d.eng e).dsd < 32 → d.rd (ENG_IRQSELL_KIND e l) = 3 → d.answers (.interruptEntry e) ((d.wr (ENG_IRQ_INSVC e)
        (setBits (d.rd (ENG_IRQ_INSVC e)) l 1 1)).setEng e
        { ((d.eng e).pushR (d.eng e).pc).pushD (BitVec.ofNat 32 (d.eng e).fl.val) with pc := BitVec.ofNat 32 (16 * (d.wr (ENG_IRQ_INSVC e) (setBits (d.rd (ENG_IRQ_INSVC e)) l 1 1)).rd (ENG_IVEC_IVEC e) + 16 * l) })) ∧
    (∀ (e : Nat), wellFormed (.wfeWake e) = true → d.engState e = engSleeping → d.wakePending e = true → (d.eng e).parked = false →
        d.answers (.wfeWake e) (d.wr (ENG_STAT_STATE e) engRunning)) ∧
    (∀ (m : Master) (e : Nat) (v : BitVec 32), wellFormed (.swapRequest m e v) = true → d.accepts m (row_ENG_SWAP.last [e / 8, e % 8])
        (withField v 0 1 1).toNat = true → bit (withField v 0 1 1).toNat 1 = false → d.swapPending e = false → d.depotOn (e / 8) =
        true → d.answers (.swapRequest m e v) ((d.dropStaged m (row_ENG_SWAP.last [e / 8, e % 8])).swapWrite e (withField v 0 1
        1).toNat)) ∧
    (∀ (m : Master) (e : Nat) (v : BitVec 32), wellFormed (.swapCancel m e v) = true → d.accepts m (row_ENG_SWAP.last [e / 8, e % 8])
        (withField v 1 1 1).toNat = true → bit (withField v 1 1 1).toNat 0 = false → d.on (ENG_SWAP_PEND e) = true → d.answers
        (.swapCancel m e v) ((d.dropStaged m (row_ENG_SWAP.last [e / 8, e % 8])).swapWrite e (withField v 1 1 1).toNat)) ∧
    (∀ (t : SwapTarget) (e : Nat), wellFormed (.swapTimeout t) = true → t = .engine e → d.rd (DEP_SWTMO_SWTMO (e / 8)) ≠ 0 → (d.eng
        e).swapAt + d.rd (DEP_SWTMO_SWTMO (e / 8)) * (1000 * 65536) ≤ d.tb.lt → d.answers (.swapTimeout t) (d.swapFail e true)) ∧
    (∀ (t : SwapTarget) (n : Nat), wellFormed (.swapTimeout t) = true → t = .depot n → d.rd (DEP_SWTMO_SWTMO n) ≠ 0 → (d.depot
        n).swapAt + d.rd (DEP_SWTMO_SWTMO n) * (1000 * 65536) ≤ d.tb.lt → d.answers (.swapTimeout t) (d.depotSwapFail n true)) ∧
    (∀ (m : Master) (n : Nat) (v : BitVec 32), wellFormed (.depotSwapGo m n v) = true → d.accepts m (row_DEP_SWAP.last [n]) (withField
        v 8 1 1).toNat = true → bit (withField v 8 1 1).toNat 9 = false → (d.depot n).swap = none → d.depotOn n = true → d.answers
        (.depotSwapGo m n v) ((d.dropStaged m (row_DEP_SWAP.last [n])).depotSwapWrite n (withField v 8 1 1).toNat)) ∧
    (∀ (m : Master) (n : Nat) (v : BitVec 32), wellFormed (.depotSwapCancel m n v) = true → d.accepts m (row_DEP_SWAP.last [n])
        (withField v 9 1 1).toNat = true → bit (withField v 9 1 1).toNat 8 = false → d.answers (.depotSwapCancel m n v) ((d.dropStaged
        m (row_DEP_SWAP.last [n])).depotSwapFail n false)) ∧
    (∀ (m : Master) (e : Nat) (v : BitVec 32), wellFormed (.run m e v) = true → d.accepts m (row_ENG_CTRL.last [e / 8, e % 8])
        (withField v 0 1 1).toNat = true → bit (withField v 0 1 1).toNat 1 = false → bit (withField v 0 1 1).toNat 2 = false →
        d.engState e = engHalted → d.depotOn (e / 8) = true → d.answers (.run m e v) ((((d.dropStaged m (row_ENG_CTRL.last [e / 8, e %
        8])).modEng e (fun x => { x with pc := BitVec.ofNat 32 (4 * d.rd (ENG_BOOT_PC e)), parked := false })).wr (ENG_STAT_STATE e)
        engRunning).clr (ENG_RPT0_RPTV e))) ∧
    (∀ (m : Master) (e : Nat) (v : BitVec 32), wellFormed (.halt m e v) = true → d.accepts m (row_ENG_CTRL.last [e / 8, e % 8])
        (withField v 1 1 1).toNat = true → bit (withField v 1 1 1).toNat 0 = false → bit (withField v 1 1 1).toNat 2 = false →
        d.answers (.halt m e v) ((d.dropStaged m (row_ENG_CTRL.last [e / 8, e % 8])).engHalt e)) ∧
    (∀ (m : Master) (e : Nat) (v : BitVec 32), wellFormed (.step m e v) = true → d.accepts m (row_ENG_CTRL.last [e / 8, e % 8])
        (setBits v.toNat 2 1 1) = true → bit v.toNat 0 = false → bit v.toNat 1 = false → d.engState e = engHalted → d.depotOn (e / 8)
        = true → d.answers (.step m e v) (((d.dropStaged m (row_ENG_CTRL.last [e / 8, e % 8])).modEng e (fun x =>
        { x with stepping := true })).engWord e)) ∧
    (∀ (e : Nat), wellFormed (.engineReset e) = true → d.resetting (0x040 + e) → d.answers (.engineReset e) ((d.engResetAs e 1).put
        SUP_FNLAST_BUSY false)) ∧
    (∀ (n : Nat), wellFormed (.depotReset n) = true → d.resetting (0x010 + n) → d.answers (.depotReset n) ((d.depotReset n).put
        SUP_FNLAST_BUSY false))

/-- Shared memory and queue commands complete, each where its clause says. -/
def Obligations.MemoryAndQueueCommandsComplete : Prop :=
  ∀ d : Dev, d.inReset = false →
    (∀ (m : Master) (a n : Nat) (w : BankAccess), wellFormed (.sharedMemoryAccess m a n w) = true → w.upsets = [] → d.hostShutOut m
        (0x1000000 + a) = false → w.write = none → d.answers (.sharedMemoryAccess m a n w) ((d.memAccess m a none n).1.emit (.read
        m.uid (leNat (if (d.memAccess m a none n).2.good then (d.memAccess m a none n).2.data else List.replicate n 0xFF#8))))) ∧
    (∀ (m : Master) (a n : Nat) (w : BankAccess) (l : List Byte), wellFormed (.sharedMemoryAccess m a n w) = true → w.upsets = [] →
        d.hostShutOut m (0x1000000 + a) = false → w.write = some l → d.answers (.sharedMemoryAccess m a n w) ((d.memAccess m a (some
        l) n).1)) ∧
    (∀ (m : Master) (a n : Nat) (w : BankAccess), wellFormed (.sharedMemoryAccess m a n w) = true → d.answers (.sharedMemoryAccess m a
        n w) ((w.upsets.foldl Dev.upset d).sharedAccess m a n w.write)) ∧
    (∀ (m : Master) (b : Nat) (v : BitVec 32), wellFormed (.bankConfigWrite m b v) = true → d.accepts m (row_MEM_BANKb.last [b])
        (setBits v.toNat 0 12 (d.rd (MEM_BANKb_OWNER b))) = true → d.answers (.bankConfigWrite m b v) ((d.dropStaged m
        (row_MEM_BANKb.last [b])).bankWrite m b (setBits v.toNat 0 12 (d.rd (MEM_BANKb_OWNER b))))) ∧
    (∀ (m : Master) (b : Nat) (v : BitVec 32), wellFormed (.bankHandover m b v) = true → d.accepts m (row_MEM_BANKb.last [b]) v.toNat
        = true → d.bankWriter m b = true → bits v.toNat 0 12 ≠ d.rd (MEM_BANKb_OWNER b) → d.answers (.bankHandover m b v)
        ((((d.dropStaged m (row_MEM_BANKb.last [b])).when (bit v.toNat 16) (fun d => d.clr (MEM_BANKb_REFUSED b))).bankPend b (bits
        v.toNat 0 12)))) ∧
    (∀ (b : Nat) (o : Nat), wellFormed (.handoverEffect b) = true → tget d.mem.pend b = some o → d.answers (.handoverEffect b)
        (d.handoverEffect b)) ∧
    (d.on MEM_SCRUB_EN = true → d.answers .scrubStep (forNums 64 (fun b d => if d.mem.borrow = some b then d else (d.scrubBank b)) d)) ∧
    (∀ (b : Nat), d.on BTU_CFG_EN = true → d.mem.borrow = none → d.borrowBank = some b → d.answers .borrowBegin (forNums 64 (fun i d'
        => (d'.eccRead (b * 32768 + tgetD d.mem.rows b 0 * 64 + i)).1) ((((({ d with mem := { d.mem with borrow := some b } } :
        Dev).put (MEM_BANKb_BORROWED b) true).put BTU_STAT_ACTIVE true).wr BTU_STAT_BANK b).wr BTU_STAT_ROW (tgetD d.mem.rows b 0)))) ∧
    (∀ (diff : Option (Nat × Nat)) (b : Nat), wellFormed (.borrowEnd diff) = true → diff = none → d.mem.borrow = some b → (tgetD
        d.mem.rows b 0 + 1) % 512 ≠ 0 → d.answers (.borrowEnd diff)
        (({ (d.borrowReturn b).inc BTU_ROWS_CNT with mem := { ((d.borrowReturn b).inc BTU_ROWS_CNT).mem with rows := tput ((d.borrowReturn b).inc BTU_ROWS_CNT).mem.rows b ((tgetD d.mem.rows b 0 + 1) % 512) } }
        : Dev).wr BTU_STAT_ROW ((tgetD d.mem.rows b 0 + 1) % 512))) ∧
    (∀ (diff : Option (Nat × Nat)) (b : Nat), wellFormed (.borrowEnd diff) = true → d.mem.borrow = some b → d.answers (.borrowEnd
        diff) (d.borrowEnd diff)) ∧
    (∀ (b : Nat), wellFormed (.borrowAbort b) = true → d.mem.borrow = some b → d.answers (.borrowAbort b) ((d.borrowReturn b).inc
        BTU_ABORT_CNT)) ∧
    (d.resetting 0x0FA → d.answers .btuReset (d.btuReset.put SUP_FNLAST_BUSY false)) ∧
    (∀ (m : Master) (q : Nat) (v : PushWord) (e : Nat) (x : BitVec 32), wellFormed (.queuePush m q v) = true → m = .engine e → v =
        .low x → d.depotOn (e / 8) = true → d.queueRight q true m = true → (d.queuePush q (d.ioLatched e (0x1801 + 2 * q) * 2 ^ 32 +
        x.toNat)).2 = true → d.answers (.queuePush m q v) (((d.queuePush q (d.ioLatched e (0x1801 + 2 * q) * 2 ^ 32 +
        x.toNat)).1.ioLatch e (0x1801 + 2 * q) 0).ioNote e (0x1800 + 2 * q) true)) ∧
    (∀ (m : Master) (q : Nat) (v : PushWord) (x : BitVec 32), wellFormed (.queuePush m q v) = true → m.isEngine = false → v = .low x →
        d.admits m ⟨row_QM_Qn_PUSH, [q], 0⟩ = true → d.queueRight q true m = true → d.answers (.queuePush m q v) (((d.dropStaged m
        (row_QM_Qn_PUSH.last [q])).queuePush q ((wordOf d.staged m.uid (0x5400C + 0x10 * q)).getD 0 * 2 ^ 32 + x.toNat)).1)) ∧
    (∀ (m : Master) (q : Nat) (v : PushWord) (hi x : BitVec 32), wellFormed (.queuePush m q v) = true → m = .pcie → v = .wide hi x →
        d.queueRight q true m = true → d.hostShutOut m (0x54008 + 0x10 * q) = false → d.answers (.queuePush m q v) ((d.stageWord m
        (0x5400C + 0x10 * q) hi.toNat).put32 m (0x54008 + 0x10 * q) x.toNat)) ∧
    (∀ (m : Master) (q : Nat) (v : BitVec 32) (e : Nat), wellFormed (.queueStage m q v) = true → m = .engine e → d.depotOn (e / 8) =
        true → d.queueRight q true m = true → d.answers (.queueStage m q v) ((d.ioLatch e (0x1801 + 2 * q) v.toNat).ioNote e (0x1801 +
        2 * q) true)) ∧
    (∀ (m : Master) (q : Nat) (v : BitVec 32), wellFormed (.queueStage m q v) = true → m.isEngine = false → d.admits m
        (row_QM_Qn_PUSH.last [q]) = true → d.queueRight q true m = true → d.answers (.queueStage m q v) (d.stageWord m (0x5400C + 0x10
        * q) v.toNat)) ∧
    (∀ (m : Master) (r : PopReg) (e q : Nat), wellFormed (.queuePop m r) = true → m = .engine e → r = ⟨q, false⟩ → d.depotOn (e / 8) =
        true → d.queueRight q false m = true → d.answers (.queuePop m r) ((((d.queuePop q).1.ioLatch e (0x1000 + 2 * q + 1)
        ((d.queuePop q).2 / 2 ^ 32)).ioNote e (0x1000 + 2 * q) false).emit (.read (0x040 + e) ((d.queuePop q).2 % 2 ^ 32)))) ∧
    (∀ (m : Master) (r : PopReg) (q : Nat), wellFormed (.queuePop m r) = true → m.isEngine = false → r = ⟨q, false⟩ → d.admits m
        ⟨row_QM_Qn_POP, [q], 0⟩ = true → d.queueRight q false m = true → d.answers (.queuePop m r) (((d.queuePop q).1.latchWord m
        (0x54004 + 0x10 * q) ((d.queuePop q).2 / 2 ^ 32)).emit (.read m.uid ((d.queuePop q).2 % 2 ^ 32)))) ∧
    (∀ (m : Master) (r : PopReg) (q : Nat), wellFormed (.queuePop m r) = true → m = .pcie → r = ⟨q, true⟩ → d.admits m ⟨row_QM_Qn_POP,
        [q], 0⟩ = true → d.queueRight q false m = true → d.answers (.queuePop m r) ((((d.queuePop q).1.latchWord m (0x54004 + 0x10 *
        q) ((d.queuePop q).2 / 2 ^ 32)).emit (.read m.uid ((d.queuePop q).2 % 2 ^ 32))).get32 m (0x54004 + 0x10 * q))) ∧
    (∀ (q : Nat), wellFormed (.queueRefill q) = true → d.on (QM_Qn_CFG_ORG q) = true → (d.queue q).fault = false → (d.queue
        q).win.length ≤ 8 → 0 < (d.queue q).spilled + (d.queue q).tail.length → d.answers (.queueRefill q) (d.queueRefill q)) ∧
    (∀ (q : Nat), wellFormed (.queueReset q) = true → d.resetting (0x100 + q) → d.answers (.queueReset q) ((d.queueReset q).put
        SUP_FNLAST_BUSY false)) ∧
    (d.resetting 0x0FB → d.answers .queueManagerReset (d.qmReset.put SUP_FNLAST_BUSY false))

/-- Mailbox, doorbell and lock commands complete, each where its clause says. -/
def Obligations.MailboxCommandsComplete : Prop :=
  ∀ d : Dev, d.inReset = false →
    (∀ (m : Master) (n w : Nat) (v : BitVec 32) (e : Nat), wellFormed (.mailboxStage m n w v) = true → m = .engine e → d.depotOn (e /
        8) = true → d.mbSender n m = true → d.answers (.mailboxStage m n w v) ((d.mbStaged m.uid n w v.toNat).ioNote e (0x800 + 8 * n
        + w) true)) ∧
    (∀ (m : Master) (n w : Nat) (v : BitVec 32), wellFormed (.mailboxStage m n w v) = true → m.isEngine = false → d.admits m
        (row_MBX_MBm_Ww.last [n, w]) = true → d.mbSender n m = true → d.answers (.mailboxStage m n w v) (d.mbStaged m.uid n w v.toNat)) ∧
    (∀ (m : Master) (n : Nat) (v : BitVec 32) (e : Nat), wellFormed (.mailboxPost m n v) = true → m = .engine e → d.depotOn (e / 8) =
        true → d.mbSender n m = true → d.on (MBX_MBm_CFG_EN n) = true → (d.box n).msg = none → d.answers (.mailboxPost m n v)
        ((d.mbPosted m n v.toNat).ioNote e (0x800 + 8 * n + 7) true)) ∧
    (∀ (m : Master) (n : Nat) (v : BitVec 32), wellFormed (.mailboxPost m n v) = true → m.isEngine = false → d.admits m
        (row_MBX_MBm_Ww.last [n, 7]) = true → d.mbSender n m = true → d.on (MBX_MBm_CFG_EN n) = true → (d.box n).msg = none →
        d.answers (.mailboxPost m n v) (d.mbPosted m n v.toNat)) ∧
    (∀ (m : Master) (n : Nat) (e : Nat), wellFormed (.mailboxHeaderRead m n) = true → m = .engine e → d.depotOn (e / 8) = true →
        d.mbReceiver n m = true → d.answers (.mailboxHeaderRead m n) ((((d.mbLatch m n)).ioNote e (0x800 + 8 * n) false).emit (.read
        (0x040 + e) ((tgetD ((d.mbLatch m n).box n).latch m.uid []).getD 0 0)))) ∧
    (∀ (m : Master) (n : Nat), wellFormed (.mailboxHeaderRead m n) = true → m.isEngine = false → d.admits m (row_MBX_MBm_Ww.last [n,
        0]) = true → d.mbReceiver n m = true → d.answers (.mailboxHeaderRead m n) ((d.mbLatch m n).emit (.read m.uid ((tgetD
        ((d.mbLatch m n).box n).latch m.uid []).getD 0 0)))) ∧
    (∀ (m : Master) (n : Nat) (e : Nat), wellFormed (.mailboxTake m n) = true → m = .engine e → d.depotOn (e / 8) = true →
        d.mbReceiver n m = true → d.answers (.mailboxTake m n) ((((d.mbTake m n).1).ioNote e (0x800 + 8 * n + 7) false).emit (.read
        (0x040 + e) (d.mbTake m n).2))) ∧
    (∀ (m : Master) (n : Nat), wellFormed (.mailboxTake m n) = true → m.isEngine = false → d.admits m (row_MBX_MBm_Ww.last [n, 7]) =
        true → d.mbReceiver n m = true → d.answers (.mailboxTake m n) ((d.mbTake m n).1.emit (.read m.uid (d.mbTake m n).2))) ∧
    (∀ (n : Nat), wellFormed (.mailboxReset n) = true → d.resetting (0x600 + n) → d.answers (.mailboxReset n) ((d.mbReset n).put
        SUP_FNLAST_BUSY false)) ∧
    (d.resetting 0x0FC → d.answers .mailboxUnitReset (d.mbUnitReset.put SUP_FNLAST_BUSY false)) ∧
    (∀ (m : Master) (n : Nat) (e : Nat), wellFormed (.doorbellRing m n) = true → m = .engine e → d.depotOn (e / 8) = true → d.answers
        (.doorbellRing m n) ((d.ring n).ioNote e (0x400 + n) true)) ∧
    (∀ (m : Master) (n : Nat), wellFormed (.doorbellRing m n) = true → m.isEngine = false → d.accepts m (row_MBX_DBRING.last []) n =
        true → d.answers (.doorbellRing m n) ((d.dropStaged m (row_MBX_DBRING.last [])).ring n)) ∧
    (∀ (m : Master) (n : Nat) (e : Nat), wellFormed (.lockAcquire m n) = true → m = .engine e → d.depotOn (e / 8) = true → (d.lock
        n).holder = none → d.answers (.lockAcquire m n) (((((d.setLock n ⟨some m.uid, false⟩).inc (MBX_LKn_CNT_ACQ n))).ioNote e
        (0x600 + n) false).emit (.read (0x040 + e) (lockValue 1 (d.lock n).broken m.uid)))) ∧
    (∀ (m : Master) (n : Nat), wellFormed (.lockAcquire m n) = true → m.isEngine = false → d.admits m (row_MBX_LKn.last [n]) = true →
        (d.lock n).holder = none → d.answers (.lockAcquire m n) (((d.setLock n ⟨some m.uid, false⟩).inc (MBX_LKn_CNT_ACQ n)).emit
        (.read m.uid (lockValue 1 (d.lock n).broken m.uid)))) ∧
    (∀ (m : Master) (n : Nat), wellFormed (.lockPeek m n) = true → d.admits m (row_MBX_LKn_PEEK.last [n]) = true → (d.lock n).holder =
        none → d.answers (.lockPeek m n) (d.emit (.read m.uid (bits (d.lockPeek n) 0 32)))) ∧
    (∀ (m : Master) (n : Nat), wellFormed (.lockPeek m n) = true → d.admits m (row_MBX_LKn_PEEK.last [n]) = true → (d.lock n).holder ≠
        none → d.answers (.lockPeek m n) ((d.inc (MBX_LKn_CNT_CONT n)).emit (.read m.uid (bits (d.lockPeek n) 0 32)))) ∧
    (∀ (m : Master) (n : Nat) (v : BitVec 32) (e : Nat), wellFormed (.lockRelease m n v) = true → m = .engine e → d.depotOn (e / 8) =
        true → (d.lock n).holder = some m.uid → d.answers (.lockRelease m n v) ((d.setLock n ⟨none, (d.lock n).broken⟩).ioNote e
        (0x600 + n) true)) ∧
    (∀ (m : Master) (n : Nat) (v : BitVec 32), wellFormed (.lockRelease m n v) = true → m.isEngine = false → d.admits m
        (row_MBX_LKn.last [n]) = true → (d.lock n).holder = some m.uid → d.answers (.lockRelease m n v) (d.setLock n ⟨none, (d.lock
        n).broken⟩)) ∧
    (∀ (m : Master) (n : Nat) (v : BitVec 32), wellFormed (.lockForce m n v) = true → d.accepts m (row_MBX_LKn_FORCE.last [n])
        (withField v 0 1 1).toNat = true → m = .supervisor → (d.lock n).holder ≠ none → d.answers (.lockForce m n v) ((d.dropStaged m
        (row_MBX_LKn_FORCE.last [n])).breakLock n true)) ∧
    (∀ (m : Master) (n : Nat) (v : BitVec 32), wellFormed (.lockForce m n v) = true → d.accepts m (row_MBX_LKn_FORCE.last [n])
        (withField v 0 1 1).toNat = true → m = .supervisor → (d.lock n).holder = none → d.answers (.lockForce m n v) ((d.dropStaged m
        (row_MBX_LKn_FORCE.last [n])).setLock n ⟨none, true⟩))

/-- CAN commands complete, each where its clause says. -/
def Obligations.CanCommandsComplete : Prop :=
  ∀ d : Dev, d.inReset = false →
    (∀ (m : Master) (p : Nat) (v : BitVec 32), wellFormed (.txRequest m p v) = true → d.accepts m (row_CAN_TXREQ.last [p]) v.toNat =
        true → d.answers (.txRequest m p v) ((d.dropStaged m (row_CAN_TXREQ.last [p])).txRequest p v.toNat)) ∧
    (∀ (m : Master) (p : Nat) (v : BitVec 32), wellFormed (.txAbort m p v) = true → d.accepts m (row_CAN_TXABT.last [p]) v.toNat =
        true → d.answers (.txAbort m p v) ((d.dropStaged m (row_CAN_TXABT.last [p])).txAbort p v.toNat)) ∧
    (∀ (p : Nat) (b : Nat), wellFormed (.attemptStart p) = true → (d.canOf p).joins = true → (d.canOf p).cur = none → d.rd
        (CAN_CTRL_MODE p) ≠ 1 → d.on SUP_STAT_FAULT = false → (d.canOf p).next = none → d.txChoice p = some b → d.answers
        (.attemptStart p) (((d.wr (CAN_TXBb_STAT_TXST p b) txActive).inc (CAN_TXBb_STAT_ATTEMPTS p b)).setCan p
        { d.canOf p with cur := some b, abort := false, idle := false, next := none })) ∧
    (∀ (p : Nat) (b : Nat), wellFormed (.attemptStart p) = true → d.maySend p = true → (d.canOf p).next = some b → d.answers
        (.attemptStart p) (((d.wr (CAN_TXBb_STAT_TXST p b) txActive).inc (CAN_TXBb_STAT_ATTEMPTS p b)).setCan p
        { d.canOf p with cur := some b, abort := false, idle := false, next := none })) ∧
    (∀ (p : Nat), wellFormed (.attemptStart p) = true → d.maySend p = true → (d.canOf p).next = none → d.txChoice p = none → d.answers
        (.attemptStart p) (d.setCan p { d.canOf p with idle := true })) ∧
    (∀ (p : Nat) (b : Nat), wellFormed (.arbitrationLost p) = true → (d.canOf p).cur = some b → (d.canOf p).abort = true → d.answers
        (.arbitrationLost p) (((d.setCan p { d.canOf p with cur := none, abort := false }).inc (CAN_ARBLOST_CNT p)).txFinal p b 5)) ∧
    (∀ (p : Nat) (b : Nat), wellFormed (.arbitrationLost p) = true → (d.canOf p).cur = some b → (d.canOf p).abort = false → d.answers
        (.arbitrationLost p) ((fun d' : Dev => if d'.on (CAN_TXBb_ID_ONESHOT p b) then d'.txFinal p b 7 else d'.wr (CAN_TXBb_STAT_TXST
        p b) txPending) ((d.setCan p { d.canOf p with cur := none, abort := false }).inc (CAN_ARBLOST_CNT p)))) ∧
    (∀ (p sof tdcv : Nat) (b : Nat), wellFormed (.canFrameSent p sof tdcv) = true → (d.canOf p).cur = some b → d.canTdcOver p b tdcv =
        false → d.answers (.canFrameSent p sof tdcv) (d.canSent p sof tdcv)) ∧
    (∀ (p : Nat) (f : CanFrame) (sof : Nat), wellFormed (.canFrameReceived p f sof) = true → (d.canOf p).joins = true → (d.canOf
        p).cur = none → d.on (CAN_STAT_ABRBUSY p) = false → f.fdf = false ∨ d.on (CAN_CFG_FDEN p) = true → d.answers
        (.canFrameReceived p f sof) (((((d.canBusy p).inc (CAN_RXOK_CNT p)).clr (CAN_STAT_NOACK p)).canReceivedOk p).canAcked p f sof)) ∧
    (∀ (p : Nat) (e : CanErr), wellFormed (.canError p e) = true → (d.canOf p).joins = true → (d.canOf p).cur = none → d.on
        (CAN_STAT_ABRBUSY p) = false → e.tx = false → e.lec ≠ 3 → d.answers (.canError p e) (((((d.canBusy p).wr (CAN_ERR_LEC p)
        e.lec).inc (CAN_RXERR_CNT p)).canFlag p).canCounters p (d.canOf p).txErr ((d.canOf p).rxErr + (if e.primary then 8 else 1)))) ∧
    (∀ (p : Nat) (e : CanErr) (b : Nat), wellFormed (.canError p e) = true → (d.canOf p).joins = true → (d.canOf p).cur = some b →
        d.on (CAN_STAT_ABRBUSY p) = false → e.tx = true → e.lec ≠ 3 ∨ d.rd (CAN_CTRL_MODE p) ≠ 2 → d.answers (.canError p e)
        (d.canTxError p b e)) ∧
    (∀ (p : Nat), wellFormed (.protocolException p) = true → (d.canOf p).joins = true → d.on (CAN_STAT_ABRBUSY p) = false → d.on
        (CAN_CFG_PXDIS p) = false → d.answers (.protocolException p) ((fun d' : Dev => d'.setCan p
        { d'.canOf p with waiting := true, idle := false, next := none }) ((d.inc (CAN_PXCNT_CNT p)).postEvent 0x0F09 (canUid p) 0))) ∧
    (∀ (p : Nat), wellFormed (.canRecessiveWaitEnd p) = true → d.answers (.canRecessiveWaitEnd p) (d.setCan p
        { d.canOf p with waiting := false, idle := (d.canOf p).on })) ∧
    (∀ (m : Master) (p : Nat) (v : BitVec 32), wellFormed (.borec m p v) = true → d.accepts m (row_CAN_CTRL.last [p]) (withField v 4 1
        1).toNat = true → bit (withField v 4 1 1).toNat 3 = false → d.on (CAN_CTRL_EN p) = true → bit (withField v 4 1 1).toNat 0 =
        true → bits (withField v 4 1 1).toNat 1 2 = d.rd (CAN_CTRL_MODE p) → d.answers (.borec m p v) (((d.dropStaged m
        (row_CAN_CTRL.last [p])).canCtrl p (withField v 4 1 1).toNat))) ∧
    (∀ (p : Nat), wellFormed (.busOffRecovered p) = true → (d.canOf p).on = true → (d.canOf p).errState = 2 → (d.canOf p).recovering =
        true → d.answers (.busOffRecovered p) (((d.setCan p { d.canOf p with recovering := false }).canCounters p 0 0).postEvent
        0x0F03 (canUid p) 0)) ∧
    (∀ (m : Master) (p : Nat) (v : BitVec 32), wellFormed (.abr m p v) = true → d.accepts m (row_CAN_CTRL.last [p]) (withField v 3 1
        1).toNat = true → bit (withField v 3 1 1).toNat 0 = false → bit (withField v 3 1 1).toNat 4 = false → d.on (CAN_CTRL_EN p) =
        false → d.answers (.abr m p v) (((d.dropStaged m (row_CAN_CTRL.last [p])).wr (CAN_CTRL_MODE p) (bits (withField v 3 1 1).toNat
        1 2)).canAbrStart p)) ∧
    (∀ (p : Nat), wellFormed (.dwellExpiry p) = true → d.on (CAN_STAT_ABRBUSY p) = true → (d.canOf p).taken + d.rd (CAN_ABRCFG_DWELL
        p) * (1000000 * 65536) ≤ d.tb.lt → d.answers (.dwellExpiry p) (d.canAbrNext p)) ∧
    (∀ (p : Nat), wellFormed (.canPortReset p) = true → d.resetting (0x096 + p) → d.answers (.canPortReset p) ((d.canReset p).put
        SUP_FNLAST_BUSY false))

/-- Start, image loader and NOR commands complete, each where its clause says. -/
def Obligations.StartAndLoaderCommandsComplete : Prop :=
  ∀ d : Dev,
    (d.inReset = false →
      (∀ (m : Master), wellFormed (.supRst m) = true → d.accepts m (row_SUP_RST.last []) 0x3C000001 = true → d.answers (.supRst m)
          ((d.dropStaged m (row_SUP_RST.last [])).warm 3)) ∧
      (d.rd LDR_STAT_STATE = 0 → d.on LDR_CLKSTAT_REFOK = true → d.answers .pllLock (d.pllLock)) ∧
      (∀ (count : Nat), wellFormed (.fineClockCheck count) = true → d.on LDR_CLKSTAT_RCFALL = false → d.on LDR_CLKSTAT_X32OK = true →
          781094 ≤ count → count ≤ 781406 → d.answers (.fineClockCheck count) ((d.wr LDR_REFMEAS_COUNT count).put LDR_CLKSTAT_REFFINE
          true)) ∧
      (∀ (count : Nat), wellFormed (.fineClockCheck count) = true → d.on LDR_CLKSTAT_RCFALL = false → d.on LDR_CLKSTAT_X32OK = true →
          count < 781094 ∨ 781406 < count → d.answers (.fineClockCheck count) ((((d.wr LDR_REFMEAS_COUNT count).put
          LDR_CLKSTAT_REFFINE false).put LDR_CLKSTAT_REFDIS true).postEvent 0x0208 0x0F9 2)) ∧
      (∀ (density : Option Nat) (failsA failsB : Nat), wellFormed (.norProbe density failsA failsB) = true → d.rd LDR_STAT_STATE = 1 →
          d.answers (.norProbe density failsA failsB) (d.norProbe density failsA failsB)) ∧
      (∀ (bytes : Nat) (good : Bool), wellFormed (.norBurst bytes good) = true → good = true → d.loading = true → d.answers (.norBurst
          bytes good) (d.modLdr (fun x =>
          { x with got := min (hdrLength (d.slotHdr (d.rd LDR_STAT_SLOT)) + 128) (x.got + min bytes 4096) }))) ∧
      (∀ (bytes : Nat) (good : Bool) (c : NorCmd), wellFormed (.norBurst bytes good) = true → good = true → d.cmdReading = some c →
          d.answers (.norBurst bytes good) (d.modLdr (fun x => { x with cmd := some { c with got := c.got + min bytes 4096 } }))) ∧
      (∀ (bytes : Nat) (good : Bool), wellFormed (.norBurst bytes good) = true → good = false → d.loading = true → d.answers
          (.norBurst bytes good) (d.loadBurstFails)) ∧
      (∀ (bytes : Nat) (good : Bool) (c : NorCmd), wellFormed (.norBurst bytes good) = true → good = false → d.cmdReading = some c →
          d.answers (.norBurst bytes good) (d.cmdBurstFails c)) ∧
      (d.loading = true → d.answers .norBurstTimeout (d.loadBurstFails)) ∧
      (∀ (r : Rec) (n : Nat), d.atRecord r n 1 → d.answers .regwrite (Dev.recordEnd r n (d.recBytes (d.rd LDR_STAT_SLOT) r)
          (d.regWriteRecord (d.payloadOf r)))) ∧
      (∀ (r : Rec) (n : Nat), d.atRecord r n 2 → d.answers .memload (Dev.recordEnd r n (d.recBytes (d.rd LDR_STAT_SLOT) r) (d.memLoad
          (d.payloadOf r)))) ∧
      (∀ (r : Rec) (n : Nat), d.atRecord r n 3 → d.answers .engimage (Dev.recordEnd r n (d.recBytes (d.rd LDR_STAT_SLOT) r)
          (d.engImage (d.payloadOf r)))) ∧
      (∀ (r : Rec) (n : Nat), d.atRecord r n 4 → d.answers .table (Dev.recordEnd r n (d.recBytes (d.rd LDR_STAT_SLOT) r)
          (d.tableRecord (d.payloadOf r)))) ∧
      (∀ (r : Rec) (n : Nat), d.atRecord r n 5 → d.answers .pinsafe (Dev.recordEnd r n (d.recBytes (d.rd LDR_STAT_SLOT) r) (d.pinSafe
          (d.payloadOf r)))) ∧
      (∀ (r : Rec) (n : Nat), d.atRecord r n 6 → d.answers .keyref (Dev.recordEnd r n (d.recBytes (d.rd LDR_STAT_SLOT) r) (d.keyRef
          (d.payloadOf r)))) ∧
      (∀ (r : Rec) (n typ : Nat), d.atRecord r n typ → typ = 0 ∨ 6 < typ → d.answers .reservedRecord (d.recordRefused r n (d.recBytes
          (d.rd LDR_STAT_SLOT) r) 0x12)) ∧
      (∀ (expired : Bool) (r : Rec) (n i : Nat), wellFormed (.poll expired) = true → d.nextRec = some (r, n) → d.ldr.wait = some i →
          ((regEnts (d.payloadOf r))[i]?).any (fun e => e.op == 1) = true → d.answers (.poll expired) (Dev.recordEnd r n (d.recBytes
          (d.rd LDR_STAT_SLOT) r) (d.pollAgain (d.payloadOf r) i expired))) ∧
      (∀ (r : Rec) (n i : Nat) (e : RegEnt) (es : List RegEnt), d.nextRec = some (r, n) → d.ldr.wait = some i → (regEnts (d.payloadOf
          r)).drop i = e :: es → e.op = 2 → d.ldr.waitAt + e.value * (1000 * 65536) ≤ d.tb.lt → d.answers .delay (Dev.recordEnd r n
          (d.recBytes (d.rd LDR_STAT_SLOT) r) (d.regEntries (i + 1) es))) ∧
      (d.ldr.rollback = true → d.answers .rollback (d.rollback)) ∧
      (d.rd LDR_STAT_STATE = 3 → d.ldr.rollback = false → hdrLength (d.slotHdr (d.rd LDR_STAT_SLOT)) + 128 ≤ d.ldr.got → d.answers
          .signatureCheck (d.signature)) ∧
      (d.rd LDR_STAT_STATE = 4 → d.answers .commit (d.commit)) ∧
      (∀ (m : Master) (v : BitVec 32), wellFormed (.norRead m v) = true → d.accepts m (row_LDR_NORCMD.last []) (withField v 0 3
          0).toNat = true → 5 ≤ d.rd LDR_STAT_STATE → d.on LDR_NORCMD_BUSY = false → d.answers (.norRead m v) ((d.dropStaged m
          (row_LDR_NORCMD.last [])).norStarts (withField v 0 3 0).toNat)) ∧
      (∀ (m : Master) (v : BitVec 32), wellFormed (.norProgram m v) = true → d.accepts m (row_LDR_NORCMD.last []) (withField v 0 3
          1).toNat = true → 5 ≤ d.rd LDR_STAT_STATE → d.on LDR_NORCMD_BUSY = false → (d.rd LDR_STAT_STATE = 5 → d.touchesSlot 1 (d.rd
          LDR_NORADDR_ADDR) (bits (withField v 0 3 1).toNat 8 8 + 1) (d.rd LDR_STAT_SLOT) = false) → d.answers (.norProgram m v)
          ((d.dropStaged m (row_LDR_NORCMD.last [])).norStarts (withField v 0 3 1).toNat)) ∧
      (∀ (m : Master) (v : BitVec 32), wellFormed (.norErase4k m v) = true → d.accepts m (row_LDR_NORCMD.last []) (withField v 0 3
          2).toNat = true → 5 ≤ d.rd LDR_STAT_STATE → d.on LDR_NORCMD_BUSY = false → (d.rd LDR_STAT_STATE = 5 → d.touchesSlot 2 (d.rd
          LDR_NORADDR_ADDR) (bits (withField v 0 3 2).toNat 8 8 + 1) (d.rd LDR_STAT_SLOT) = false) → d.answers (.norErase4k m v)
          ((d.dropStaged m (row_LDR_NORCMD.last [])).norStarts (withField v 0 3 2).toNat)) ∧
      (∀ (m : Master) (v : BitVec 32), wellFormed (.norErase64k m v) = true → d.accepts m (row_LDR_NORCMD.last []) (withField v 0 3
          3).toNat = true → 5 ≤ d.rd LDR_STAT_STATE → d.on LDR_NORCMD_BUSY = false → (d.rd LDR_STAT_STATE = 5 → d.touchesSlot 3 (d.rd
          LDR_NORADDR_ADDR) (bits (withField v 0 3 3).toNat 8 8 + 1) (d.rd LDR_STAT_SLOT) = false) → d.answers (.norErase64k m v)
          ((d.dropStaged m (row_LDR_NORCMD.last [])).norStarts (withField v 0 3 3).toNat)) ∧
      (∀ (m : Master) (v : BitVec 32), wellFormed (.norCheck m v) = true → d.accepts m (row_LDR_NORCMD.last []) (withField v 0 3
          4).toNat = true → 5 ≤ d.rd LDR_STAT_STATE → d.on LDR_NORCMD_BUSY = false → d.answers (.norCheck m v) ((d.dropStaged m
          (row_LDR_NORCMD.last [])).norStarts (withField v 0 3 4).toNat)) ∧
      (∀ (left : Option (List (BitVec 8))) (c : NorCmd), wellFormed (.norCommandDone left) = true → left = none → d.ldr.cmd = some c →
          d.on LDR_NORSTAT_INHIB = false → d.on LDR_NORSTAT_SUSP = false → d.answers (.norCommandDone left) (d.norDone none)) ∧
      (∀ (left : Option (List (BitVec 8))) (c : NorCmd) (l : List (BitVec 8)), wellFormed (.norCommandDone left) = true → left = some
          l → d.ldr.cmd = some c → d.on LDR_NORSTAT_INHIB = false → d.on LDR_NORSTAT_SUSP = false → d.answers (.norCommandDone left)
          (((d.modLdr (fun x => { x with nor := cellsPut x.nor c.range.1 ((l.take c.range.2).map (fun b => ~~~b)) })).put
          LDR_NORSTAT_ERR true).norEnds)) ∧
      (d.resetting 0x0F9 → d.answers .loaderReset (d.loaderReset.put SUP_FNLAST_BUSY false))) ∧
    (d.answers .por (d.powerOnReset)) ∧
    (d.sup.por = true → d.sup.vddLate = false → d.answers .porEnd (d.startUp 1)) ∧
    (d.sup.por = true → d.sup.vddLate = true → d.answers .porEnd ((d.wr AON_RSTCAUSE_CAUSE 3).modSup (fun x =>
        { x with por := false, vddLate := false, causes := 2 }))) ∧
    (d.sup.por = true → d.answers .vddBrownOut (d.brownOut)) ∧
    (d.sup.por = false → d.sup.phase ≠ .standby → d.answers .vddBrownOut (((d.put AON_SUPPLY_VDDOK false).put AON_SUPPLY_BOSEEN
        true).warm 1 true)) ∧
    (d.sup.por = false → d.sup.phase = .standby → d.answers .vddBrownOut
        ({ (d.put AON_SUPPLY_VDDOK false).put AON_SUPPLY_BOSEEN true with evr := ((d.put AON_SUPPLY_VDDOK false).put AON_SUPPLY_BOSEEN true).evrWarm true })) ∧
    (d.sup.phase = .on → d.answers .rstN (d.warm 2)) ∧
    (d.sup.phase ≠ .on → d.answers .rstN (d.wake .rstN)) ∧
    (d.sup.por = false → d.sup.phase ≠ .standby → d.answers .refclkLoss (((d.put LDR_CLKSTAT_REFOK false).modSup (fun x =>
        { x with refGood := false })).warm 8)) ∧
    (d.sup.phase = .on → d.answers .testen (d.warm 2)) ∧
    (d.sup.por = false → d.sup.causes ≠ 0 → d.sup.phase = .on → bit d.sup.causes 8 = false ∨ d.sup.refGood = true → d.answers .warmEnd
        (d.startUp d.sup.causes)) ∧
    (∀ (count : Nat), wellFormed (.coarseClockCheck count) = true → d.inReset = false → d.rd LDR_STAT_STATE = 0 → d.on
        LDR_CLKSTAT_REFOK = false → 24414 * 95 ≤ count * 100 → count * 100 ≤ 24414 * 105 → d.answers (.coarseClockCheck count) ((d.put
        LDR_CLKSTAT_REFOK true).modSup (fun x => { x with refGood := true }))) ∧
    (∀ (count : Nat), wellFormed (.coarseClockCheck count) = true → d.inReset = false → d.rd LDR_STAT_STATE = 0 → d.on
        LDR_CLKSTAT_REFOK = false → count * 100 < 24414 * 95 ∨ 24414 * 105 < count * 100 → d.answers (.coarseClockCheck count) ((d.inc
        LDR_CLKFAIL_FAILS).modSup (fun x => { x with coarseDue := true }))) ∧
    (∀ (good : Bool), wellFormed (.xtal32Check good) = true → good = true → d.answers (.xtal32Check good) ((d.put LDR_CLKSTAT_X32OK
        true).put LDR_CLKSTAT_RCFALL false)) ∧
    (∀ (good : Bool), wellFormed (.xtal32Check good) = true → good = false → d.inReset = false → d.answers (.xtal32Check good)
        (((d.put LDR_CLKSTAT_X32OK false).put LDR_CLKSTAT_RCFALL true).postEvent 0x0208 0x0F9 4))

/-- Supervisor commands complete, each where its clause says. -/
def Obligations.SupervisorCommandsComplete : Prop :=
  ∀ d : Dev,
    (d.inReset = false →
      (∀ (m : Master) (uid : Nat), wellFormed (.functionResetRequest m uid) = true → d.accepts m (row_SUP_FNRST.last []) (BitVec.ofNat
          32 (0xC3000000 + uid)).toNat = true → resettable uid = true → d.on SUP_FNLAST_BUSY = false → uid ≠ 2 → d.answers
          (.functionResetRequest m uid) (((((d.dropStaged m (row_SUP_FNRST.last [])).wr SUP_FNRST_UID uid).wr SUP_FNLAST_TARGET
          uid).wr SUP_FNLAST_REQ m.uid).put SUP_FNLAST_BUSY true)) ∧
      (d.resetting 0x000 → d.answers .supervisorReset (d.supervisorReset.put SUP_FNLAST_BUSY false)) ∧
      (∀ (m : Master) (v : BitVec 32), wellFormed (.faultSet m v) = true → d.accepts m (row_SUP_FAULT.last []) (withField v 8 1
          1).toNat = true → bit (withField v 8 1 1).toNat 9 = false → d.answers (.faultSet m v) ((d.dropStaged m (row_SUP_FAULT.last
          [])).faultWrite m (withField v 8 1 1).toNat)) ∧
      (∀ (m : Master) (v : BitVec 32), wellFormed (.faultClear m v) = true → d.accepts m (row_SUP_FAULT.last []) (withField v 9 1
          1).toNat = true → m = .supervisor → bit (withField v 9 1 1).toNat 0 = false → bit (withField v 9 1 1).toNat 1 = false → bit
          (withField v 9 1 1).toNat 4 = false → bit (withField v 9 1 1).toNat 8 = false → d.rd SUP_FAULT_CAUSE = 0 → d.on
          SUP_STAT_FAULT = true → d.answers (.faultClear m v) (((d.dropStaged m (row_SUP_FAULT.last [])).put SUP_FAULT_RINGKEEP (bit
          (withField v 9 1 1).toNat 16)).faultClear)) ∧
      (d.answers .pllLockLoss (d.faultSet 3)) ∧
      (d.answers .pllRelock (d.wr SUP_FAULT_CAUSE (setBits (d.rd SUP_FAULT_CAUSE) 3 1 0))) ∧
      (d.answers .supervisorEngineError (d.faultSet 4)) ∧
      (∀ (m : Master) (v : BitVec 32), wellFormed (.watchdogKick m v) = true → d.accepts m (row_SUP_WDKICK.last []) (withField v 24 8
          0x96).toNat = true → d.on SUP_WDCFG_EN = true → d.sup.wdKick = none → d.answers (.watchdogKick m v) (((d.dropStaged m
          (row_SUP_WDKICK.last [])).modSup (fun x => { x with wdKick := some d.tb.lt })).modSup (fun x =>
          { x with wdFrom := d.tb.lt, wdOut := false }))) ∧
      (d.on SUP_WDCFG_EN = true → d.sup.wdOut = false → d.rd SUP_WDCFG_TIMEOUT ≤ d.wdUnits d.sup.wdFrom → d.answers .watchdogExpiry
          (d.wdExpire false)) ∧
      (d.sup.grace = true → d.sup.graceAt + d.rd SUP_WDGRACE_GRACE * (1000000 * 65536) ≤ d.tb.lt → d.answers .graceExpiry (d.warm 6)) ∧
      (∀ (tj : Int), wellFormed (.temperatureSample tj) = true → d.answers (.temperatureSample tj) (d.temperature tj)) ∧
      (∀ (m : Master), wellFormed (.standby m) = true → d.accepts m (row_SUP_PWR.last []) 0x5A000001 = true → d.sup.phase = .on →
          d.norWriting = false → d.answers (.standby m) ((d.dropStaged m (row_SUP_PWR.last [])).standbyBegins)) ∧
      (∀ (m : Master) (v : BitVec 32), wellFormed (.clockGateWrite m v) = true → d.accepts m (row_SUP_CGATE.last []) v.toNat = true →
          (List.range 6).any (fun b => bit v.toNat b && !bit (d.rd SUP_CGATE_GATE) b && d.gateInUse b) = false → d.answers
          (.clockGateWrite m v) ((d.dropStaged m (row_SUP_CGATE.last [])).wr SUP_CGATE_GATE v.toNat)) ∧
      (∀ (m : Master), wellFormed (.supLock m) = true → d.accepts m (row_SUP_LOCK.last []) 1 = true → d.answers (.supLock m)
          (((d.dropStaged m (row_SUP_LOCK.last [])).put SUP_LOCK_LOCK true).put SUP_STAT_LOCK true))) ∧
    (∀ (why : Sag), wellFormed (.writeInhibitStart why) = true → d.sup.por = false → d.answers (.writeInhibitStart why)
        (d.inhibitStart why)) ∧
    (d.sup.por = false → d.answers .writeInhibitEnd (d.inhibitEnd)) ∧
    (d.sup.phase = .entering none → d.answers .standbyCoreReset ((d.coreReset false).modSup (fun x => { x with phase := .standby }))) ∧
    (∀ (src : WakeSrc), d.sup.phase = .entering (some src) → d.answers .standbyCoreReset (((d.coreReset false).modSup (fun x =>
        { x with phase := .standby })).wakeNow src)) ∧
    (∀ (src : WakeSrc), wellFormed (.wake src) = true → d.sup.phase = .standby → d.wakeArmed src = true → d.answers (.wake src)
        (d.wakeNow src)) ∧
    (∀ (src : WakeSrc), wellFormed (.wake src) = true → d.sup.phase = .entering none → d.wakeArmed src = true → d.answers (.wake src)
        (d.modSup (fun x => { x with phase := .entering (some src) })))

/-- Event recorder commands complete, each where its clause says. -/
def Obligations.RecorderCommandsComplete : Prop :=
  ∀ d : Dev,
    (d.inReset = false →
      (∀ (typ src : Nat) (detail : BitVec 32), wellFormed (.eventPost typ src detail) = true → d.answers (.eventPost typ src detail)
          (d.postEvent typ src detail.toNat)) ∧
      (∀ (w : WriteEnd) (r : EvRec), wellFormed (.recordWrite w) = true → w = .good → d.rd LDR_STAT_STATE ≠ 0 → d.inhibit = false →
          d.evr.logFail = false → d.evr.dirty = false → d.evr.next = some r → d.answers (.recordWrite w)
          ({ d with evr := d.evr.taken.store r })) ∧
      (∀ (w : WriteEnd) (r : EvRec), wellFormed (.recordWrite w) = true → w = .bad → d.rd LDR_STAT_STATE ≠ 0 → d.inhibit = false →
          d.evr.logFail = false → d.evr.dirty = false → d.evr.next = some r → d.answers (.recordWrite w) (d.slotLost.sectorFails
          d.evr.widx.val)) ∧
      (∀ (w : WriteEnd) (r : EvRec), wellFormed (.recordWrite w) = true → w = .cut → d.rd LDR_STAT_STATE ≠ 0 → d.inhibit = false →
          d.evr.logFail = false → d.evr.dirty = false → d.evr.next = some r → d.answers (.recordWrite w) (d.slotLost)) ∧
      (∀ (w : WriteEnd) (i : Nat) (r : EvRec), wellFormed (.word7Rewrite w) = true → w = .good → d.rd LDR_STAT_STATE ≠ 0 → d.inhibit =
          false → d.evr.logFail = false → d.evr.dirty = true → d.evr.last = some (i, r) → d.evr.whole = false → d.answers
          (.word7Rewrite w)
          ({ d with evr := { d.evr with log := tput d.evr.log i r, spoilt := tdel d.evr.spoilt i, dirty := false, held := false } })) ∧
      (∀ (w : WriteEnd) (i : Nat) (r : EvRec), wellFormed (.word7Rewrite w) = true → w = .bad → d.rd LDR_STAT_STATE ≠ 0 → d.inhibit =
          false → d.evr.logFail = false → d.evr.dirty = true → d.evr.last = some (i, r) → d.evr.whole = false → d.answers
          (.word7Rewrite w) ((({ d with evr := { d.evr with whole := true, count := Trip.of (d.evr.count.val - 1) } } : Dev).spoil
          i).sectorFails i)) ∧
      (∀ (w : WriteEnd) (i : Nat) (r : EvRec), wellFormed (.word7Rewrite w) = true → w = .good → d.rd LDR_STAT_STATE ≠ 0 → d.inhibit =
          false → d.evr.logFail = false → d.evr.dirty = true → d.evr.last = some (i, r) → d.evr.whole = true → d.answers
          (.word7Rewrite w) ({ d with evr := d.evr.store r })) ∧
      (∀ (r : EvRec) (rest : List EvRec), d.rd LDR_STAT_STATE ≠ 0 → d.inhibit = true ∨ d.evr.logFail = true → d.evr.first = none →
          d.evr.fifo = r :: rest → d.evr.fb.length < 16 → d.answers .fallbackBufferWrite
          ({ d with evr := { d.evr with fifo := rest, fb := d.evr.fb ++ [{ r with fb := true }] } })) ∧
      (∀ (m : Master), wellFormed (.clear m) = true → d.accepts m (row_EVR_CTRL.last []) 0xE5000001 = true → d.answers (.clear m)
          ((d.dropStaged m (row_EVR_CTRL.last [])).logClear)) ∧
      (∀ (m : Master), wellFormed (.retest m) = true → d.accepts m (row_EVR_CTRL.last []) 0xE5000002 = true → d.answers (.retest m)
          ((d.dropStaged m (row_EVR_CTRL.last [])).logRetest)) ∧
      (∀ (m : Master) (v : BitVec 32), wellFormed (.inject m v) = true → d.accepts m (row_EVR_INJECT.last []) v.toNat = true →
          d.answers (.inject m v) ((d.dropStaged m (row_EVR_INJECT.last [])).postEvent (0x10F0 + v.toNat % 16) m.uid (tgetD
          d.evr.injdata m.uid 0) true)) ∧
      (∀ (m : Master) (v : BitVec 32), wellFormed (.injectDataStage m v) = true → d.accepts m (row_EVR_INJDATA.last []) v.toNat = true
          → d.answers (.injectDataStage m v)
          ({ (d.dropStaged m (row_EVR_INJDATA.last [])) with evr := { d.evr with injdata := tput d.evr.injdata m.uid (v.toNat % 2 ^ 32) } })) ∧
      (d.resetting 0x0F8 → d.answers .recorderReset (d.recorderReset.put SUP_FNLAST_BUSY false))) ∧
    (d.sup.por = false → d.sup.phase ≠ .standby → d.answers .opsecIncrement
        (({ d with evr := { d.evr with island := (d.evr.island + 1) % 2 ^ 32 } } : Dev).opsecStore))

/-- Host interface and JTAG commands complete, each where its clause says. -/
def Obligations.HostInterfaceCommandsComplete : Prop :=
  ∀ d : Dev,
    (d.inReset = false →
      (∀ (byFn : Bool), wellFormed (.flr byFn) = true → byFn = false → d.answers (.flr byFn) (d.hostReset.resetReport 0x03 0x001 0)) ∧
      (∀ (byFn : Bool), wellFormed (.flr byFn) = true → byFn = true → d.resetting 0x001 → d.answers (.flr byFn)
          ((d.hostReset.resetReport 0x03 0x001 0).put SUP_FNLAST_BUSY false)) ∧
      (∀ (v : Nat), wellFormed (.msixPost v) = true → d.vecPending v = false → d.vecOpen v = true → tget d.hif.posted v ≠ some d.tb.lt
          → d.answers (.msixPost v) ((fun d' : Dev => { d' with hif := { d'.hif with posted := tput d'.hif.posted v d'.tb.lt } })
          (d.sendVec v))) ∧
      (∀ (v : Nat), wellFormed (.msixPost v) = true → d.vecPending v = false → d.vecOpen v = false → d.answers (.msixPost v)
          (d.setVecPending v true)) ∧
      (∀ (v : Nat), wellFormed (.msixPost v) = true → d.vecPending v = true → d.answers (.msixPost v) (d.inc HIF_MSIXMERGE_CNT)) ∧
      (∀ (c : HostCfg) (v addr data : Nat) (masked : Bool), wellFormed (.msixUnmask c) = true → c = .entry v addr data masked →
          d.answers (.msixUnmask c) ((d.modHif (fun h => { h with vectors := tput h.vectors v ⟨addr, data, masked⟩ })).flushVecs)) ∧
      (∀ (c : HostCfg), wellFormed (.msixUnmask c) = true → d.answers (.msixUnmask c) (d.hostConfig c)) ∧
      (∀ (m : Master) (c : Nat) (rx : Bool) (v : BitVec 32), wellFormed (.ringTailWrite m c rx v) = true → rx = false → d.accepts m
          (row_HIF_CHc_CTAIL.last [c]) v.toNat = true → (v.toNat % 65536 + 65536 - d.ringHead c rx) % 65536 ≤ d.ringSize c rx →
          d.answers (.ringTailWrite m c rx v) ((d.dropStaged m (row_HIF_CHc_CTAIL.last [c])).wr (HIF_CHc_CTAIL_TAIL c) (v.toNat %
          65536))) ∧
      (∀ (m : Master) (c : Nat) (rx : Bool) (v : BitVec 32), wellFormed (.ringTailWrite m c rx v) = true → rx = true → d.accepts m
          (row_HIF_CHc_RTAIL.last [c]) v.toNat = true → (v.toNat % 65536 + 65536 - d.ringHead c rx) % 65536 ≤ d.ringSize c rx →
          d.answers (.ringTailWrite m c rx v) ((d.dropStaged m (row_HIF_CHc_RTAIL.last [c])).wr (HIF_CHc_RTAIL_TAIL c) (v.toNat %
          65536))) ∧
      (∀ (c : Nat) (rx : Bool) (answer : Option (List (BitVec 8))), wellFormed (.descriptorFetch c rx answer) = true → d.on
          (HIF_CHc_CTRL_EN c) = true → d.on (HIF_CHc_STAT_HALTED c) = false → d.ringHead c rx ≠ d.ringTail c rx → d.answers
          (.descriptorFetch c rx answer) (d.descFetch c rx answer)) ∧
      (∀ (c : Nat) (err : Option Nat) (h : HDesc), wellFormed (.dmaRead c err) = true → d.cmdHead c 0 = some h → d.answers (.dmaRead c
          err) (d.dmaRead c err)) ∧
      (∀ (c : Nat) (data : List (BitVec 8)) (h : HDesc), wellFormed (.dmaWrite c data) = true → d.cmdHead c 1 = some h → d.answers
          (.dmaWrite c data) (d.dmaWrite c data)) ∧
      (∀ (c : Nat) (data : List (BitVec 8)) (h : HDesc), wellFormed (.dmaTx c data) = true → d.cmdHead c 2 = some h → d.answers
          (.dmaTx c data) (d.dmaTx c data)) ∧
      (∀ (c : Nat) (err : Option Nat) (h : HDesc) (l : List Byte × Nat) (r : List (HDesc × List Byte × Nat)), wellFormed (.rxbuf c
          err) = true → (d.chan c).deliver = (h, l) :: r → (d.chan c).busy = none → (d.chan c).rows = [] → d.on (HIF_CHc_CTRL_EN c) =
          true → d.answers (.rxbuf c err) (d.rxbuf c err)) ∧
      (∀ (c : Nat) (err : Option Nat) (r : RowXfer) (rest : List RowXfer), wellFormed (.rowTransfer c err) = true → (d.chan c).rows =
          r :: rest → (d.chan c).busy = none → d.on (HIF_CHc_CTRL_EN c) = true → d.on (HIF_CHc_STAT_HALTED c) = false → d.answers
          (.rowTransfer c err) (d.rowTransfer c err)) ∧
      (∀ (c : Nat) (h : HDesc) (st rs n : Nat), wellFormed (.dmaTransferComplete c) = true → (d.chan c).busy = some (.desc h st rs n)
          → d.answers (.dmaTransferComplete c) ((d.setChan c { d.chan c with busy := none }).chComplete c h st rs n)) ∧
      (∀ (c : Nat), wellFormed (.channelReset c) = true → d.resetting (0x008 + c) → d.answers (.channelReset c) ((d.channelReset
          c).put SUP_FNLAST_BUSY false)) ∧
      (∀ (l : List (BitVec 8)) (ws : List Nat), wellFormed (.spiRead l) = true → d.sup.ioB = true → spiCrcOk l = true → d.spiShut
          (spiOff l) (spiField l + 1) = false → (d.spiReads (spiOff l) (spiField l + 1)).2 = some ws → d.answers (.spiRead l)
          ((d.spiReads (spiOff l) (spiField l + 1)).1.spiEnd spiOk ws)) ∧
      (∀ (l : List (BitVec 8)), wellFormed (.spiWrite l) = true → d.sup.ioB = true → spiCrcOk l = true → d.spiShut (spiOff l)
          (spiField l + 1) = false → (d.spiWrites (spiOff l) ((List.range (spiField l + 1)).map (fun i => fieldAt l (4 + 4 * i) 4))).2
          = true → d.answers (.spiWrite l) ((d.spiWrites (spiOff l) ((List.range (spiField l + 1)).map (fun i => fieldAt l (4 + 4 * i)
          4))).1.spiEnd spiOk [])) ∧
      (∀ (l : List (BitVec 8)), wellFormed (.spiReset l) = true → d.sup.ioB = true → spiCrcOk l = true → spiField l = 0 → fieldAt l 1
          3 = 0x00003C → d.answers (.spiReset l) ((d.spiEnd spiOk []).warm 4)) ∧
      (∀ (l : List (BitVec 8)), wellFormed (.spiFrameDiscard l) = true → d.sup.ioB = true → ¬ (5 ≤ l.length ∧ !(spiCmd l == 1 ||
          spiCmd l == 2 || spiCmd l == 4)) → d.answers (.spiFrameDiscard l) ((d.inc (HIF_SPICNT_CNT 5)).postEvent 0x0304 0x002 0x10)) ∧
      (∀ (l : List (BitVec 8)), wellFormed (.spiFrameDiscard l) = true → d.sup.ioB = true → 5 ≤ l.length → (spiCmd l == 1 || spiCmd l
          == 2 || spiCmd l == 4) = false → d.answers (.spiFrameDiscard l) (d.spiEnd spiReserved []))) ∧
    (∀ (c : PcieChange) (rate width : Nat), wellFormed (.pcieLinkChange c rate width) = true → c = .up → d.inReset = false →
        d.perstHeld = false → d.answers (.pcieLinkChange c rate width) ((fun d' : Dev => (d'.postEvent 0x0306 0x001 (1 + d'.rd
        HIF_STAT_RATE * 2 + d'.rd HIF_STAT_WIDTH * 2 ^ 4)).flushVecs) (((d.put HIF_STAT_LINK true).wr HIF_STAT_RATE rate).wr
        HIF_STAT_WIDTH width))) ∧
    (∀ (c : PcieChange) (rate width : Nat), wellFormed (.pcieLinkChange c rate width) = true → c = .down → d.inReset = false →
        d.answers (.pcieLinkChange c rate width) ((fun d' : Dev => (d'.postEvent 0x0306 0x001 (0 + d'.rd HIF_STAT_RATE * 2 + d'.rd
        HIF_STAT_WIDTH * 2 ^ 4)).flushVecs) (((d.put HIF_STAT_LINK false).wr HIF_STAT_RATE 0).wr HIF_STAT_WIDTH 0))) ∧
    (∀ (c : PcieChange) (rate width : Nat) (low : Bool), wellFormed (.pcieLinkChange c rate width) = true → c = .perst low → d.answers
        (.pcieLinkChange c rate width) ((d.modSup (fun x => { x with perst := low })).perstActs)) ∧
    (∀ (c : PcieChange) (rate width : Nat) (there : Bool), wellFormed (.pcieLinkChange c rate width) = true → c = .ioB there →
        d.answers (.pcieLinkChange c rate width)
        (({ d.modSup (fun x => { x with ioB := there }) with jtag := if there then d.jtag else { d.jtag with ir := 2 } } :
        Dev).perstActs)) ∧
    (∀ (cells : List (Option Bool)), wellFormed (.extest cells) = true → d.padsB = true → d.answers (.extest cells) ((fun d' : Dev =>
        (d'.emit (.tdo d'.captured)).modJtag (fun j => { j with scan := (List.range scanCells).zip cells })) (d.modJtag (fun j =>
        { j with ir := 0x00 })))) ∧
    (∀ (cells : List (Option Bool)), wellFormed (.samplePreload cells) = true → d.padsB = true → d.answers (.samplePreload cells)
        ((fun d' : Dev => (d'.emit (.tdo d'.captured)).modJtag (fun j => { j with scan := (List.range scanCells).zip cells }))
        (d.modJtag (fun j => { j with ir := 0x01 })))) ∧
    (d.padsB = true → d.answers .idcode ((d.modJtag (fun j => { j with ir := 0x02 })).emit (.tdo 0x264249CB))) ∧
    (d.padsB = true → d.answers .clamp ((d.modJtag (fun j => { j with ir := 0x03 })).emit (.tdo 0))) ∧
    (d.padsB = true → d.answers .highz ((d.modJtag (fun j => { j with ir := 0x04 })).emit (.tdo 0))) ∧
    (∀ (code : Nat), wellFormed (.bypass code) = true → d.padsB = true → d.answers (.bypass code) ((d.modJtag (fun j =>
        { j with ir := code })).emit (.tdo 0))) ∧
    (∀ (v : BitVec 64), wellFormed (.dbgacc v) = true → d.padsB = true → d.jtag.done = true → d.inReset = false → bit v.toNat 63 =
        true → d.answers (.dbgacc v) ((fun r : Dev × IoRes => r.1.modJtag (fun j => { j with done := true, err := r.2 == .bus }))
        ((d.jtagSelect 0x1C (d.jtag.data + b01 d.jtag.done * 2 ^ 32 + b01 d.jtag.err * 2 ^ 33)).busWrite .spi (bits v.toNat 34 24 * 4)
        (bits v.toNat 0 32)))) ∧
    (∀ (v : BitVec 64), wellFormed (.dbgacc v) = true → d.padsB = true → d.jtag.done = true → d.inReset = false → bit v.toNat 63 =
        false → d.answers (.dbgacc v) ((fun r : Dev × IoRes => r.1.modJtag (fun j =>
        { j with data := r.2.val, done := true, err := r.2 == .bus })) ((d.jtagSelect 0x1C (d.jtag.data + b01 d.jtag.done * 2 ^ 32 +
        b01 d.jtag.err * 2 ^ 33)).busRead .spi (bits v.toNat 34 24 * 4))))

/-- Engine arithmetic instructions complete, each where its clause says. -/
def Obligations.EngineArithmeticCompletes : Prop :=
  ∀ (d d' : Dev) (e : Nat) (w : Word), d.fetches e d' w →
    (∀ (D A B : Nat), decodeWord w.toNat = .long .add (.alu .add D A B) → d.answers (.add e) ((d'.engNext e).engPost e ((AluOp.run
        (.add) ((d'.eng e).reg A) ((d'.eng e).reg B) (d'.eng e).fl).regs D) (AluOp.run (.add) ((d'.eng e).reg A) ((d'.eng e).reg B)
        (d'.eng e).fl).fl)) ∧
    (∀ (D A B : Nat), decodeWord w.toNat = .long .addc (.alu .addc D A B) → d.answers (.addc e) ((d'.engNext e).engPost e ((AluOp.run
        (.addc) ((d'.eng e).reg A) ((d'.eng e).reg B) (d'.eng e).fl).regs D) (AluOp.run (.addc) ((d'.eng e).reg A) ((d'.eng e).reg B)
        (d'.eng e).fl).fl)) ∧
    (∀ (D A B : Nat), decodeWord w.toNat = .long .sub (.alu .sub D A B) → d.answers (.sub e) ((d'.engNext e).engPost e ((AluOp.run
        (.sub) ((d'.eng e).reg A) ((d'.eng e).reg B) (d'.eng e).fl).regs D) (AluOp.run (.sub) ((d'.eng e).reg A) ((d'.eng e).reg B)
        (d'.eng e).fl).fl)) ∧
    (∀ (D A B : Nat), decodeWord w.toNat = .long .subb (.alu .subb D A B) → d.answers (.subb e) ((d'.engNext e).engPost e ((AluOp.run
        (.subb) ((d'.eng e).reg A) ((d'.eng e).reg B) (d'.eng e).fl).regs D) (AluOp.run (.subb) ((d'.eng e).reg A) ((d'.eng e).reg B)
        (d'.eng e).fl).fl)) ∧
    (∀ (D A B : Nat), decodeWord w.toNat = .long .cmp (.alu .cmp D A B) → d.answers (.cmp e) ((d'.engNext e).engPost e ((AluOp.run
        (.cmp) ((d'.eng e).reg A) ((d'.eng e).reg B) (d'.eng e).fl).regs D) (AluOp.run (.cmp) ((d'.eng e).reg A) ((d'.eng e).reg B)
        (d'.eng e).fl).fl)) ∧
    (∀ (D A B : Nat), decodeWord w.toNat = .long .adds (.alu .adds D A B) → d.answers (.adds e) ((d'.engNext e).engPost e ((AluOp.run
        (.adds) ((d'.eng e).reg A) ((d'.eng e).reg B) (d'.eng e).fl).regs D) (AluOp.run (.adds) ((d'.eng e).reg A) ((d'.eng e).reg B)
        (d'.eng e).fl).fl)) ∧
    (∀ (D A B : Nat), decodeWord w.toNat = .long .subs (.alu .subs D A B) → d.answers (.subs e) ((d'.engNext e).engPost e ((AluOp.run
        (.subs) ((d'.eng e).reg A) ((d'.eng e).reg B) (d'.eng e).fl).regs D) (AluOp.run (.subs) ((d'.eng e).reg A) ((d'.eng e).reg B)
        (d'.eng e).fl).fl)) ∧
    (∀ (D A B : Nat), decodeWord w.toNat = .long .addus (.alu .addus D A B) → d.answers (.addus e) ((d'.engNext e).engPost e
        ((AluOp.run (.addus) ((d'.eng e).reg A) ((d'.eng e).reg B) (d'.eng e).fl).regs D) (AluOp.run (.addus) ((d'.eng e).reg A)
        ((d'.eng e).reg B) (d'.eng e).fl).fl)) ∧
    (∀ (D A B : Nat), decodeWord w.toNat = .long .subus (.alu .subus D A B) → d.answers (.subus e) ((d'.engNext e).engPost e
        ((AluOp.run (.subus) ((d'.eng e).reg A) ((d'.eng e).reg B) (d'.eng e).fl).regs D) (AluOp.run (.subus) ((d'.eng e).reg A)
        ((d'.eng e).reg B) (d'.eng e).fl).fl)) ∧
    (∀ (D A B : Nat), decodeWord w.toNat = .long .neg (.alu .neg D A B) → d.answers (.neg e) ((d'.engNext e).engPost e ((AluOp.run
        (.neg) ((d'.eng e).reg A) ((d'.eng e).reg B) (d'.eng e).fl).regs D) (AluOp.run (.neg) ((d'.eng e).reg A) ((d'.eng e).reg B)
        (d'.eng e).fl).fl)) ∧
    (∀ (D A : Nat) (imm : Word), decodeWord w.toNat = .long .addi (.aluImm .add D A imm) → d.answers (.addi e) ((d'.engNext e).engPost
        e ((AluOp.run (.add) ((d'.eng e).reg A) imm (d'.eng e).fl).regs D) (AluOp.run (.add) ((d'.eng e).reg A) imm (d'.eng e).fl).fl)) ∧
    (∀ (D A : Nat) (imm : Word), decodeWord w.toNat = .long .cmpi (.aluImm .cmp D A imm) → d.answers (.cmpi e) ((d'.engNext e).engPost
        e ((AluOp.run (.cmp) ((d'.eng e).reg A) imm (d'.eng e).fl).regs D) (AluOp.run (.cmp) ((d'.eng e).reg A) imm (d'.eng e).fl).fl)) ∧
    (∀ (D A B : Nat), decodeWord w.toNat = .long .mulu (.alu .mulu D A B) → d.answers (.mulu e) ((d'.engNext e).engPost e ((AluOp.run
        (.mulu) ((d'.eng e).reg A) ((d'.eng e).reg B) (d'.eng e).fl).regs D) (AluOp.run (.mulu) ((d'.eng e).reg A) ((d'.eng e).reg B)
        (d'.eng e).fl).fl)) ∧
    (∀ (D A B : Nat), decodeWord w.toNat = .long .muls (.alu .muls D A B) → d.answers (.muls e) ((d'.engNext e).engPost e ((AluOp.run
        (.muls) ((d'.eng e).reg A) ((d'.eng e).reg B) (d'.eng e).fl).regs D) (AluOp.run (.muls) ((d'.eng e).reg A) ((d'.eng e).reg B)
        (d'.eng e).fl).fl)) ∧
    (∀ (D A B : Nat), decodeWord w.toNat = .long .divu (.alu .divu D A B) → (d'.eng e).reg B ≠ 0 ∨ (d'.eng e).fl.dzt = false →
        d.answers (.divu e) ((d'.engNext e).engPost e ((AluOp.run (.divu) ((d'.eng e).reg A) ((d'.eng e).reg B) (d'.eng e).fl).regs D)
        (AluOp.run (.divu) ((d'.eng e).reg A) ((d'.eng e).reg B) (d'.eng e).fl).fl)) ∧
    (∀ (D A B : Nat), decodeWord w.toNat = .long .divs (.alu .divs D A B) → (d'.eng e).reg B ≠ 0 ∨ (d'.eng e).fl.dzt = false →
        d.answers (.divs e) ((d'.engNext e).engPost e ((AluOp.run (.divs) ((d'.eng e).reg A) ((d'.eng e).reg B) (d'.eng e).fl).regs D)
        (AluOp.run (.divs) ((d'.eng e).reg A) ((d'.eng e).reg B) (d'.eng e).fl).fl))

/-- Engine logic, move and shift instructions complete, each where its clause says. -/
def Obligations.EngineLogicCompletes : Prop :=
  ∀ (d d' : Dev) (e : Nat) (w : Word), d.fetches e d' w →
    (∀ (D A B : Nat), decodeWord w.toNat = .long .and (.alu .and D A B) → d.answers (.and e) ((d'.engNext e).engPost e ((AluOp.run
        (.and) ((d'.eng e).reg A) ((d'.eng e).reg B) (d'.eng e).fl).regs D) (AluOp.run (.and) ((d'.eng e).reg A) ((d'.eng e).reg B)
        (d'.eng e).fl).fl)) ∧
    (∀ (D A B : Nat), decodeWord w.toNat = .long .or (.alu .or D A B) → d.answers (.or e) ((d'.engNext e).engPost e ((AluOp.run (.or)
        ((d'.eng e).reg A) ((d'.eng e).reg B) (d'.eng e).fl).regs D) (AluOp.run (.or) ((d'.eng e).reg A) ((d'.eng e).reg B) (d'.eng
        e).fl).fl)) ∧
    (∀ (D A B : Nat), decodeWord w.toNat = .long .xor (.alu .xor D A B) → d.answers (.xor e) ((d'.engNext e).engPost e ((AluOp.run
        (.xor) ((d'.eng e).reg A) ((d'.eng e).reg B) (d'.eng e).fl).regs D) (AluOp.run (.xor) ((d'.eng e).reg A) ((d'.eng e).reg B)
        (d'.eng e).fl).fl)) ∧
    (∀ (D A B : Nat), decodeWord w.toNat = .long .andn (.alu .andn D A B) → d.answers (.andn e) ((d'.engNext e).engPost e ((AluOp.run
        (.andn) ((d'.eng e).reg A) ((d'.eng e).reg B) (d'.eng e).fl).regs D) (AluOp.run (.andn) ((d'.eng e).reg A) ((d'.eng e).reg B)
        (d'.eng e).fl).fl)) ∧
    (∀ (D A B : Nat), decodeWord w.toNat = .long .tst (.alu .tst D A B) → d.answers (.tst e) ((d'.engNext e).engPost e ((AluOp.run
        (.tst) ((d'.eng e).reg A) ((d'.eng e).reg B) (d'.eng e).fl).regs D) (AluOp.run (.tst) ((d'.eng e).reg A) ((d'.eng e).reg B)
        (d'.eng e).fl).fl)) ∧
    (∀ (D A B : Nat), decodeWord w.toNat = .long .mov (.alu .mov D A B) → d.answers (.mov e) ((d'.engNext e).engPost e ((AluOp.run
        (.mov) ((d'.eng e).reg A) ((d'.eng e).reg B) (d'.eng e).fl).regs D) (AluOp.run (.mov) ((d'.eng e).reg A) ((d'.eng e).reg B)
        (d'.eng e).fl).fl)) ∧
    (∀ (D A B : Nat), decodeWord w.toNat = .long .not (.alu .not D A B) → d.answers (.not e) ((d'.engNext e).engPost e ((AluOp.run
        (.not) ((d'.eng e).reg A) ((d'.eng e).reg B) (d'.eng e).fl).regs D) (AluOp.run (.not) ((d'.eng e).reg A) ((d'.eng e).reg B)
        (d'.eng e).fl).fl)) ∧
    (∀ (D A : Nat) (imm : Word), decodeWord w.toNat = .long .andi (.aluImm .and D A imm) → d.answers (.andi e) ((d'.engNext e).engPost
        e ((AluOp.run (.and) ((d'.eng e).reg A) imm (d'.eng e).fl).regs D) (AluOp.run (.and) ((d'.eng e).reg A) imm (d'.eng e).fl).fl)) ∧
    (∀ (D A : Nat) (imm : Word), decodeWord w.toNat = .long .ori (.aluImm .or D A imm) → d.answers (.ori e) ((d'.engNext e).engPost e
        ((AluOp.run (.or) ((d'.eng e).reg A) imm (d'.eng e).fl).regs D) (AluOp.run (.or) ((d'.eng e).reg A) imm (d'.eng e).fl).fl)) ∧
    (∀ (D A : Nat) (imm : Word), decodeWord w.toNat = .long .xori (.aluImm .xor D A imm) → d.answers (.xori e) ((d'.engNext e).engPost
        e ((AluOp.run (.xor) ((d'.eng e).reg A) imm (d'.eng e).fl).regs D) (AluOp.run (.xor) ((d'.eng e).reg A) imm (d'.eng e).fl).fl)) ∧
    (∀ (D : Nat) (imm : Word), decodeWord w.toNat = .long .movl (.move D imm) → d.answers (.movl e) ((d'.engNext e).engPost e [(D,
        imm)] {})) ∧
    (∀ (D imm : Nat), decodeWord w.toNat = .long .movh (.moveHigh D imm) → d.answers (.movh e) ((d'.engNext e).engPost e [(D,
        BitVec.ofNat 32 (setBits ((d'.eng e).reg D).toNat 16 16 imm))] {})) ∧
    (∀ (D A B : Nat), decodeWord w.toNat = .long .shl (.alu (.shift .shl) D A B) → d.answers (.shl e) ((d'.engNext e).engPost e
        ((AluOp.run (.shift .shl) ((d'.eng e).reg A) ((d'.eng e).reg B) (d'.eng e).fl).regs D) (AluOp.run (.shift .shl) ((d'.eng
        e).reg A) ((d'.eng e).reg B) (d'.eng e).fl).fl)) ∧
    (∀ (D A B : Nat), decodeWord w.toNat = .long .shr (.alu (.shift .shr) D A B) → d.answers (.shr e) ((d'.engNext e).engPost e
        ((AluOp.run (.shift .shr) ((d'.eng e).reg A) ((d'.eng e).reg B) (d'.eng e).fl).regs D) (AluOp.run (.shift .shr) ((d'.eng
        e).reg A) ((d'.eng e).reg B) (d'.eng e).fl).fl)) ∧
    (∀ (D A B : Nat), decodeWord w.toNat = .long .sar (.alu (.shift .sar) D A B) → d.answers (.sar e) ((d'.engNext e).engPost e
        ((AluOp.run (.shift .sar) ((d'.eng e).reg A) ((d'.eng e).reg B) (d'.eng e).fl).regs D) (AluOp.run (.shift .sar) ((d'.eng
        e).reg A) ((d'.eng e).reg B) (d'.eng e).fl).fl)) ∧
    (∀ (D A B : Nat), decodeWord w.toNat = .long .rol (.alu (.shift .rol) D A B) → d.answers (.rol e) ((d'.engNext e).engPost e
        ((AluOp.run (.shift .rol) ((d'.eng e).reg A) ((d'.eng e).reg B) (d'.eng e).fl).regs D) (AluOp.run (.shift .rol) ((d'.eng
        e).reg A) ((d'.eng e).reg B) (d'.eng e).fl).fl)) ∧
    (∀ (D A B : Nat), decodeWord w.toNat = .long .ror (.alu (.shift .ror) D A B) → d.answers (.ror e) ((d'.engNext e).engPost e
        ((AluOp.run (.shift .ror) ((d'.eng e).reg A) ((d'.eng e).reg B) (d'.eng e).fl).regs D) (AluOp.run (.shift .ror) ((d'.eng
        e).reg A) ((d'.eng e).reg B) (d'.eng e).fl).fl)) ∧
    (∀ (D A : Nat) (imm : Word) (k : ShiftKind), decodeWord w.toNat = .long .shi (.aluImm (.shift k) D A imm) → d.answers (.shi e)
        ((d'.engNext e).engPost e ((AluOp.run (.shift k) ((d'.eng e).reg A) imm (d'.eng e).fl).regs D) (AluOp.run (.shift k) ((d'.eng
        e).reg A) imm (d'.eng e).fl).fl)) ∧
    (∀ (D A pos len : Nat) (s : Bool), decodeWord w.toNat = .long .bfx (.extract D A pos len s) → d.answers (.bfx e) ((d'.engNext
        e).engPost e [(D, fieldExtract ((d'.eng e).reg A) pos len s)] {})) ∧
    (∀ (D A pos len : Nat), decodeWord w.toNat = .long .bfi (.insert D A pos len) → d.answers (.bfi e) ((d'.engNext e).engPost e [(D,
        fieldInsert ((d'.eng e).reg D) ((d'.eng e).reg A) pos len)] {}))

/-- Engine protocol helpers complete, each where its clause says. -/
def Obligations.EngineHelpersComplete : Prop :=
  ∀ (d d' : Dev) (e : Nat) (w : Word), d.fetches e d' w →
    (∀ (D A B : Nat) (n : Nat), decodeWord w.toNat = .long .crc32 (.alu (.crcEthernet n) D A B) → d.answers (.crc32 e) ((d'.engNext
        e).engPost e ((AluOp.run (.crcEthernet n) ((d'.eng e).reg A) ((d'.eng e).reg B) (d'.eng e).fl).regs D) (AluOp.run
        (.crcEthernet n) ((d'.eng e).reg A) ((d'.eng e).reg B) (d'.eng e).fl).fl)) ∧
    (∀ (D A B : Nat) (n : Nat), decodeWord w.toNat = .long .crc32c (.alu (.crcCastagnoli n) D A B) → d.answers (.crc32c e)
        ((d'.engNext e).engPost e ((AluOp.run (.crcCastagnoli n) ((d'.eng e).reg A) ((d'.eng e).reg B) (d'.eng e).fl).regs D)
        (AluOp.run (.crcCastagnoli n) ((d'.eng e).reg A) ((d'.eng e).reg B) (d'.eng e).fl).fl)) ∧
    (∀ (D A B : Nat) (n : Nat), decodeWord w.toNat = .long .crc16 (.alu (.crcCcitt n) D A B) → d.answers (.crc16 e) ((d'.engNext
        e).engPost e ((AluOp.run (.crcCcitt n) ((d'.eng e).reg A) ((d'.eng e).reg B) (d'.eng e).fl).regs D) (AluOp.run (.crcCcitt n)
        ((d'.eng e).reg A) ((d'.eng e).reg B) (d'.eng e).fl).fl)) ∧
    (∀ (D A B : Nat), decodeWord w.toNat = .long .ocadd (.alu .ocadd D A B) → d.answers (.ocadd e) ((d'.engNext e).engPost e
        ((AluOp.run (.ocadd) ((d'.eng e).reg A) ((d'.eng e).reg B) (d'.eng e).fl).regs D) (AluOp.run (.ocadd) ((d'.eng e).reg A)
        ((d'.eng e).reg B) (d'.eng e).fl).fl)) ∧
    (∀ (D A B : Nat), decodeWord w.toNat = .long .bswap (.alu .bswap D A B) → d.answers (.bswap e) ((d'.engNext e).engPost e
        ((AluOp.run (.bswap) ((d'.eng e).reg A) ((d'.eng e).reg B) (d'.eng e).fl).regs D) (AluOp.run (.bswap) ((d'.eng e).reg A)
        ((d'.eng e).reg B) (d'.eng e).fl).fl)) ∧
    (∀ (D A B : Nat), decodeWord w.toNat = .long .bswap16 (.alu .bswap16 D A B) → d.answers (.bswap16 e) ((d'.engNext e).engPost e
        ((AluOp.run (.bswap16) ((d'.eng e).reg A) ((d'.eng e).reg B) (d'.eng e).fl).regs D) (AluOp.run (.bswap16) ((d'.eng e).reg A)
        ((d'.eng e).reg B) (d'.eng e).fl).fl)) ∧
    (∀ (D A B : Nat), decodeWord w.toNat = .long .clz (.alu .clz D A B) → d.answers (.clz e) ((d'.engNext e).engPost e ((AluOp.run
        (.clz) ((d'.eng e).reg A) ((d'.eng e).reg B) (d'.eng e).fl).regs D) (AluOp.run (.clz) ((d'.eng e).reg A) ((d'.eng e).reg B)
        (d'.eng e).fl).fl)) ∧
    (∀ (D A B : Nat), decodeWord w.toNat = .long .berlen (.alu .berlen D A B) → d.answers (.berlen e) ((d'.engNext e).engPost e
        ((AluOp.run (.berlen) ((d'.eng e).reg A) ((d'.eng e).reg B) (d'.eng e).fl).regs D) (AluOp.run (.berlen) ((d'.eng e).reg A)
        ((d'.eng e).reg B) (d'.eng e).fl).fl))

/-- Engine loads, stores and port accesses complete, each where its clause says. -/
def Obligations.EngineMemoryAndPortsComplete : Prop :=
  ∀ (d d' : Dev) (e : Nat) (w : Word), d.fetches e d' w →
    (∀ (D A : Nat) (off : Word) (d2 : Dev) (l : List Byte), decodeWord w.toNat = .long .ldb (.load 1 false D A off) → (d'.engNext
        e).dataAccess e 1 ((d'.eng e).reg A + off) none = (d2, .ok l) → d.answers (.ldb e) (d2.engPost e [(D, loadValue 1 false l)]
        {})) ∧
    (∀ (D A : Nat) (off : Word) (d2 : Dev) (l : List Byte), decodeWord w.toNat = .long .ldbs (.load 1 true D A off) → (d'.engNext
        e).dataAccess e 1 ((d'.eng e).reg A + off) none = (d2, .ok l) → d.answers (.ldbs e) (d2.engPost e [(D, loadValue 1 true l)]
        {})) ∧
    (∀ (D A : Nat) (off : Word) (d2 : Dev) (l : List Byte), decodeWord w.toNat = .long .ldh (.load 2 false D A off) → (d'.engNext
        e).dataAccess e 2 ((d'.eng e).reg A + off) none = (d2, .ok l) → d.answers (.ldh e) (d2.engPost e [(D, loadValue 2 false l)]
        {})) ∧
    (∀ (D A : Nat) (off : Word) (d2 : Dev) (l : List Byte), decodeWord w.toNat = .long .ldhs (.load 2 true D A off) → (d'.engNext
        e).dataAccess e 2 ((d'.eng e).reg A + off) none = (d2, .ok l) → d.answers (.ldhs e) (d2.engPost e [(D, loadValue 2 true l)]
        {})) ∧
    (∀ (D A : Nat) (off : Word) (d2 : Dev) (l : List Byte), decodeWord w.toNat = .long .ldw (.load 4 false D A off) → (d'.engNext
        e).dataAccess e 4 ((d'.eng e).reg A + off) none = (d2, .ok l) → d.answers (.ldw e) (d2.engPost e [(D, loadValue 4 false l)]
        {})) ∧
    (∀ (D A : Nat) (off : Word) (d2 : Dev) (l : List Byte), decodeWord w.toNat = .long .ldd (.load 8 false D A off) → (d'.engNext
        e).dataAccess e 8 ((d'.eng e).reg A + off) none = (d2, .ok l) → d.answers (.ldd e) (d2.engPost e [(D, loadValue 4 false
        (l.take 4)), (D + 1, loadValue 4 false (l.drop 4))] {})) ∧
    (∀ (S A : Nat) (off : Word) (d2 : Dev) (l : List Byte), decodeWord w.toNat = .long .stb (.store 1 S A off) → (d'.engNext
        e).dataAccess e 1 ((d'.eng e).reg A + off) (some (toLe 1 ((d'.eng e).reg S).toNat)) = (d2, .ok l) → d.answers (.stb e)
        (d2.engPost e [] {})) ∧
    (∀ (S A : Nat) (off : Word) (d2 : Dev) (l : List Byte), decodeWord w.toNat = .long .sth (.store 2 S A off) → (d'.engNext
        e).dataAccess e 2 ((d'.eng e).reg A + off) (some (toLe 2 ((d'.eng e).reg S).toNat)) = (d2, .ok l) → d.answers (.sth e)
        (d2.engPost e [] {})) ∧
    (∀ (S A : Nat) (off : Word) (d2 : Dev) (l : List Byte), decodeWord w.toNat = .long .stw (.store 4 S A off) → (d'.engNext
        e).dataAccess e 4 ((d'.eng e).reg A + off) (some (toLe 4 ((d'.eng e).reg S).toNat)) = (d2, .ok l) → d.answers (.stw e)
        (d2.engPost e [] {})) ∧
    (∀ (S A : Nat) (off : Word) (d2 : Dev) (l : List Byte), decodeWord w.toNat = .long .std (.store 8 S A off) → (d'.engNext
        e).dataAccess e 8 ((d'.eng e).reg A + off) (some (toLe 8 (((d'.eng e).reg S).toNat + ((d'.eng e).reg (S + 1)).toNat * 2 ^
        32))) = (d2, .ok l) → d.answers (.std e) (d2.engPost e [] {})) ∧
    (∀ (D A : Nat) (off v : Word) (d2 : Dev), decodeWord w.toNat = .long .ldi (.loadInstr D A off) → ((d'.eng e).reg A + off).toNat ≤
        0x7FFC → ((d'.eng e).reg A + off).toNat % 4 = 0 → (d'.engNext e).localWord e .im ((d'.eng e).reg A + off).toNat = (d2, some v)
        → d.answers (.ldi e) (d2.engPost e [(D, v)] {})) ∧
    (∀ (D port v : Nat) (A : Option Nat) (d2 : Dev), decodeWord w.toNat = .long .ioIn (.input D A port) → ((d'.engNext e).ioNote e
        ((port + (A.map (fun n => ((d'.eng e).reg n).toNat)).getD 0) % 65536) false).ioRead e ((port + (A.map (fun n => ((d'.eng
        e).reg n).toNat)).getD 0) % 65536) = (d2, .done v) → d.answers (.ioIn e) (d2.engPost e [(D, BitVec.ofNat 32 v)] {})) ∧
    (∀ (S port v : Nat) (A : Option Nat) (d2 : Dev), decodeWord w.toNat = .long .ioOut (.output S A port) → ((d'.engNext e).ioNote e
        ((port + (A.map (fun n => ((d'.eng e).reg n).toNat)).getD 0) % 65536) true).ioWrite e ((port + (A.map (fun n => ((d'.eng
        e).reg n).toNat)).getD 0) % 65536) ((d'.eng e).reg S).toNat = (d2, .done v) → d.answers (.ioOut e) (d2.engPost e [] {})) ∧
    (∀ (S port : Nat) (A : Option Nat) (d2 : Dev), decodeWord w.toNat = .long .ioOut (.output S A port) → ((d'.engNext e).ioNote e
        ((port + (A.map (fun n => ((d'.eng e).reg n).toNat)).getD 0) % 65536) true).ioWrite e ((port + (A.map (fun n => ((d'.eng
        e).reg n).toNat)).getD 0) % 65536) ((d'.eng e).reg S).toNat = (d2, .refused) → d.answers (.ioOut e) ((d2.modEng e (fun y =>
        { y with fl := { y.fl with ioe := true } })).engPost e [] {}))

/-- Engine branches, returns, sleep and traps complete, each where its clause says. -/
def Obligations.EngineControlCompletes : Prop :=
  ∀ (d d' : Dev) (e : Nat) (w : Word), d.fetches e d' w →
    (∀ (cond : Nat) (off : Word), decodeWord w.toNat = .long .br (.branch cond off) → (d'.eng e).fl.cond cond = true → d.answers (.br
        e) (((d'.engNext e).engPost e [] {}).engJump e ((d'.eng e).pc + off))) ∧
    (∀ (cond : Nat) (off : Word), decodeWord w.toNat = .long .br (.branch cond off) → (d'.eng e).fl.cond cond = false → d.answers (.br
        e) ((d'.engNext e).engPost e [] {})) ∧
    (∀ (off : Word), decodeWord w.toNat = .long .call (.call off) → (d'.eng e).rsd ≠ 32 → d.answers (.call e) ((((d'.engNext e).modEng
        e (fun y => y.pushR ((d'.eng e).pc + 4))).engPost e [] {}).engJump e ((d'.eng e).pc + off))) ∧
    (∀ (A : Nat), decodeWord w.toNat = .long .jr (.jump false A) → d.answers (.jr e) (((d'.engNext e).engPost e [] {}).engJump e
        ((d'.eng e).reg A))) ∧
    (∀ (A : Nat), decodeWord w.toNat = .long .jr (.jump true A) → (d'.eng e).rsd ≠ 32 → d.answers (.jr e) ((((d'.engNext e).modEng e
        (fun y => y.pushR ((d'.eng e).pc + 4))).engPost e [] {}).engJump e ((d'.eng e).reg A))) ∧
    (decodeWord w.toNat = .long .ret (.ret) → (d'.eng e).rsd ≠ 0 → d.answers (.ret e) ((((d'.engNext e).modEng e (fun y =>
        { y with rsd := y.rsd - 1 })).engPost e [] {}).engJump e (d'.eng e).topR)) ∧
    (∀ (l : Nat), decodeWord w.toNat = .long .reti (.reti) → (d'.eng e).rsd ≠ 0 → (d'.eng e).dsd ≠ 0 → (List.range 8).find? (fun l =>
        bit ((d'.engNext e).rd (ENG_IRQ_INSVC e)) l) = some l → d.answers (.reti e) (((((d'.engNext e).wr (ENG_IRQ_INSVC e) (setBits
        ((d'.engNext e).rd (ENG_IRQ_INSVC e)) l 1 0)).modEng e (fun y =>
        { y with rsd := y.rsd - 1, dsd := y.dsd - 1, fl := Flags.of ((d'.eng e).topD 0).toNat })).engPost e [] {}).engJump e (d'.eng
        e).topR)) ∧
    (decodeWord w.toNat = .long .reti (.reti) → (d'.eng e).rsd ≠ 0 → (d'.eng e).dsd ≠ 0 → (List.range 8).find? (fun l => bit
        ((d'.engNext e).rd (ENG_IRQ_INSVC e)) l) = none → d.answers (.reti e) ((((d'.engNext e).modEng e (fun y =>
        { y with rsd := y.rsd - 1, dsd := y.dsd - 1, fl := Flags.of ((d'.eng e).topD 0).toNat })).engPost e [] {}).engJump e (d'.eng
        e).topR)) ∧
    (decodeWord w.toNat = .long .rft (.rft) → d.answers (.rft e) ((((d'.engNext e).clr (ENG_STAT_TACT e)).engPost e [] {}).engJump e
        (d'.eng e).tpc)) ∧
    (decodeWord w.toNat = .long .wfe (.wfe) → d'.engState e = engRunning → d'.wakePending e = true → d.answers (.wfe e) ((d'.engNext
        e).engPost e [] {})) ∧
    (decodeWord w.toNat = .long .wfe (.wfe) → d'.engState e = engRunning → d'.wakePending e = false → d.answers (.wfe e)
        ((((d'.engNext e).engPost e [] {}).wr (ENG_STAT_STATE e) engSleeping).swapPoint e true)) ∧
    (decodeWord w.toNat = .long .safe (.safe) → d'.engState e = engRunning → d'.on (ENG_STAT_TACT e) = false → d.answers (.safe e)
        (((d'.engNext e).engPost e [] {}).swapPoint e false)) ∧
    (∀ (n : Nat), decodeWord w.toNat = .long .trap (.trap n) → d'.on (ENG_STAT_TACT e) = false → d.answers (.trap e) (d'.trapEntry e w
        (0x10 + n))) ∧
    (decodeWord w.toNat = .long .brk (.brk) → d'.on (ENG_STAT_TACT e) = false → d.answers (.brk e) (d'.trapEntry e w 0x0C))

/-- Engine stack and special register instructions complete, each where its clause says. -/
def Obligations.EngineStacksComplete : Prop :=
  ∀ (d d' : Dev) (e : Nat) (w : Word), d.fetches e d' w →
    (∀ (D : Nat), decodeWord w.toNat = .long .gets (.gets D 0) → d.answers (.gets e) ((d'.engNext e).engPost e [(D, BitVec.ofNat 32
        (d'.eng e).fl.val)] {})) ∧
    (∀ (D : Nat), decodeWord w.toNat = .long .gets (.gets D 1) → d.answers (.gets e) ((d'.engNext e).engPost e [(D, (d'.eng e).tpc)]
        {})) ∧
    (∀ (D : Nat), decodeWord w.toNat = .long .gets (.gets D 2) → d.answers (.gets e) ((d'.engNext e).engPost e [(D, (d'.eng e).tiw)]
        {})) ∧
    (∀ (D : Nat), decodeWord w.toNat = .long .gets (.gets D 3) → d.answers (.gets e) ((d'.engNext e).engPost e [(D, BitVec.ofNat 32
        (d'.eng e).tcause)] {})) ∧
    (∀ (D : Nat), decodeWord w.toNat = .long .gets (.gets D 4) → d.answers (.gets e) ((d'.engNext e).engPost e [(D, BitVec.ofNat 32
        (d'.eng e).dsd)] {})) ∧
    (∀ (D : Nat), decodeWord w.toNat = .long .gets (.gets D 5) → d.answers (.gets e) ((d'.engNext e).engPost e [(D, BitVec.ofNat 32
        (d'.eng e).rsd)] {})) ∧
    (∀ (D : Nat), decodeWord w.toNat = .long .gets (.gets D 6) → d.answers (.gets e) ((d'.engNext e).engPost e [(D, (d'.eng e).pc)]
        {})) ∧
    (∀ (D : Nat), decodeWord w.toNat = .long .gets (.gets D 7) → (d'.eng e).rsd ≠ 0 → d.answers (.gets e) ((d'.engNext e).engPost e
        [(D, (d'.eng e).topR)] {})) ∧
    (∀ (A : Nat), decodeWord w.toNat = .long .puts (.puts A 0) → d.answers (.puts e) (((d'.engNext e).modEng e (fun y =>
        { y with fl := Flags.of ((d'.eng e).reg A).toNat })).engPost e [] {})) ∧
    (∀ (A : Nat), decodeWord w.toNat = .long .puts (.puts A 1) → d.answers (.puts e) (((d'.engNext e).modEng e (fun y =>
        { y with tpc := BitVec.ofNat 32 (((d'.eng e).reg A).toNat / 4 * 4) })).engPost e [] {})) ∧
    (∀ (A : Nat), decodeWord w.toNat = .long .puts (.puts A 2) → d.answers (.puts e) (((d'.engNext e).modEng e (fun y =>
        { y with tiw := (d'.eng e).reg A })).engPost e [] {})) ∧
    (∀ (A : Nat), decodeWord w.toNat = .long .puts (.puts A 3) → d.answers (.puts e) (((d'.engNext e).modEng e (fun y =>
        { y with tcause := ((d'.eng e).reg A).toNat % 256 })).engPost e [] {})) ∧
    (∀ (A : Nat), decodeWord w.toNat = .long .push (.push A) → (d'.eng e).dsd ≠ 32 → d.answers (.push e) (((d'.engNext e).modEng e
        (fun y => y.pushD ((d'.eng e).reg A))).engPost e [] {})) ∧
    (∀ (D : Nat), decodeWord w.toNat = .long .pop (.pop D) → (d'.eng e).dsd ≠ 0 → d.answers (.pop e) (((d'.engNext e).modEng e (fun y
        => { y with dsd := y.dsd - 1 })).engPost e [(D, (d'.eng e).topD 0)] {})) ∧
    (∀ (D k : Nat), decodeWord w.toNat = .long .peek (.peek D k) → k < (d'.eng e).dsd → d.answers (.peek e) ((d'.engNext e).engPost e
        [(D, (d'.eng e).topD k)] {})) ∧
    (decodeWord w.toNat = .long .drop (.drop) → (d'.eng e).dsd ≠ 0 → d.answers (.drop e) (((d'.engNext e).modEng e (fun y =>
        { y with dsd := y.dsd - 1 })).engPost e [] {}))

/-- Engine pairs, undefined words and fetch faults complete, each where its clause says. -/
def Obligations.EngineWordsComplete : Prop :=
  (∀ (d d' : Dev) (e : Nat) (w : Word), d.fetches e d' w →
      (∀ n, decodeWord w.toNat = .trap .undefinedWord n → d'.on (ENG_STAT_TACT e) = false → d.answers (.undefinedInstruction e)
          (d'.trapEntry e w n)) ∧
      (∀ f g D A B D' A' B', decodeWord w.toNat = .pair (.alu f D A B) (.alu g D' A' B') → f.divTraps ((d'.eng e).reg B) (d'.eng e).fl =
          false → g.divTraps ((d'.eng e).reg B') (d'.eng e).fl = false → d.answers (.instructionPair e) ((d'.engNext e).engPost e
          (((f.run ((d'.eng e).reg A) ((d'.eng e).reg B) (d'.eng e).fl).regs D) ++ ((g.run ((d'.eng e).reg A') ((d'.eng e).reg B')
          (d'.eng e).fl).regs D')) ((f.run ((d'.eng e).reg A) ((d'.eng e).reg B) (d'.eng e).fl).fl.merge (g.run ((d'.eng e).reg A')
          ((d'.eng e).reg B') (d'.eng e).fl).fl))) ∧
      (∀ (a b : Op) (d2 d3 : Dev) (ra rb : List (Nat × Word)) (fa fb : FlagUpd) (t : Option Word), decodeWord w.toNat = .pair a b →
          (d'.engNext e).opRun e (d'.eng e) (d'.eng e).pc a = { dev := d2, regs := ra, fl := fa, target := t } → d2.opRun e (d'.eng e)
          (d'.eng e).pc b = { dev := d3, regs := rb, fl := fb } → d.answers (.instructionPair e)
          (match t with | some t => (d3.engPost e (ra ++ rb) (fa.merge fb)).engJump e t | none => d3.engPost e (ra ++ rb) (fa.merge fb)))) ∧
    (∀ (d d' : Dev) (e n : Nat), d.inReset = false → e < 64 → d.engState e = engRunning → d.lineToTake e = none → (d.eng e).stepping =
        false → d.engFetch e = (d', .fault n) → d'.on (ENG_STAT_TACT e) = false → d.answers (.instructionFetchFault e) (d'.trapEntry e
        0 n))

/-- With no command waiting, one tick passes (R25). -/
def Obligations.EmptyQueueTicks : Prop :=
  ∀ d : Dev, step ⟨d, []⟩ = .next ⟨d.tick, []⟩ ∧
    (d.inReset = false → (∀ n < 4, (d.dom n).steps = []) → d.tick.tb.lt = (d.tb.lt + 4 * 2 ^ 16) % (2 ^ 48 * sec16)) ∧
    (d.inReset = true → d.tick.tb = d.tb)

/-- The state after reset (R25, R432). -/
def Obligations.ResetState : Prop :=
  State.reset.queueOk ∧ State.reset.dev.memOk = true ∧ State.reset.pending = [] ∧ State.reset.dev.inReset = false ∧
  State.reset.dev.tb.lt = 0 ∧ (∀ f : Fld, State.reset.dev.rd f = f.reset) ∧ (∀ a : Nat, cellGet State.reset.dev.mem.cells a = 0) ∧
  (∀ n : Nat, (State.reset.dev.box n).msg = none ∧ (State.reset.dev.queue n).depth = 0 ∧ (State.reset.dev.lock n).holder = none)

/-- A command that names no unit of the device is refused, and no other is. -/
def Obligations.IllFormedCommandRefused : Prop :=
  ∀ (c : Instr) (s : State), exec c s = .refused .illFormed ↔ wellFormed c = false

/-- Every command whose operands exist completes and leaves the waiting commands alone. -/
def Obligations.WellFormedCommandCompletes : Prop :=
  ∀ (c : Instr) (d : Dev) (rest : List Instr), wellFormed c = true → ∃ d' : Dev, exec c ⟨d, rest⟩ = .next ⟨d', rest⟩

/-- Every step keeps the waiting commands well formed. -/
def Obligations.QueueInvariantKept : Prop :=
  ∀ s t : State, s.queueOk → step s = .next t → t.queueOk ∧ t.pending = s.pending.tail

/-- The block runs for any number of steps. -/
def Obligations.BlockNeverStops : Prop :=
  ∀ s : State, s.queueOk → s.goesOn

/-- While the core is held in reset no command of the core has an effect (R428, R432, R476, R516). -/
def Obligations.CoreHeldInReset : Prop :=
  ∀ (c : Instr) (d : Dev) (rest : List Instr), wellFormed c = true → d.inReset = true → actsInReset c = false →
    exec c ⟨d, rest⟩ = .next ⟨d, rest⟩

/-- A write of an ordinary register stores its fields by their access codes and nothing else (R6, R8). -/
def Obligations.PlainRegisterWrite : Prop :=
  ∀ (d : Dev) (m : Master) (a : RegAt) (off : Nat) (v : BitVec 32), d.inReset = false → wellFormed (.registerWrite m off v true) = true →
    a.named off → a.row.kind = .plain → a.row.words = 1 → a.row.writable = true → d.accepts m a v.toNat = true →
    ∃ d' : Dev, d.answers (.registerWrite m off v true) d' ∧
      (∀ f ∈ a.row.fields,
        ((f.acc = .rw ∨ f.acc = .rwl) → d'.rd (a.fld f) = bits v.toNat f.lo f.width) ∧
        (f.acc = .w1c → d'.rd (a.fld f) = (d.rd (a.fld f) - Nat.land (d.rd (a.fld f)) (bits v.toNat f.lo f.width)) % 2 ^ f.width) ∧
        ((f.acc = .ro ∨ f.acc = .wo ∨ f.acc = .rc ∨ f.acc = .rwk) → d'.rd (a.fld f) = d.rd (a.fld f))) ∧
      d.sameBut d' (a.row.fields.map a.fld)

/-- A write that puts a reserved value into an enumerated field is rejected whole (R9). -/
def Obligations.ReservedValueRejected : Prop :=
  ∀ (d : Dev) (m : Master) (a : RegAt) (off : Nat) (v : BitVec 32), d.inReset = false → wellFormed (.registerWrite m off v true) = true →
    a.named off → a.word + 1 = a.row.words → a.row.writable = true → d.admits m a = true → a.absent = false →
    d.lenient a (d.committed m a (d.presentValue a) v.toNat) = false → a.row.reservedIn (d.committed m a (d.presentValue a) v.toNat) = true →
    ∃ d' : Dev, d.answers (.registerWrite m off v true) d' ∧
      d' = ((d.dropStaged m a).put SUP_STAT_RANGE true).postEvent 0x0107 0x000 (3 * 2 ^ 28 + a.off % 2 ^ 26) ∧
      d'.on SUP_STAT_RANGE = true ∧ (∀ f ∈ a.row.fields, d'.rd (a.fld f) = d.rd (a.fld f))

/-- After SUP_LOCK is set an RWL field keeps its value whatever is written (R6, R533, R534). -/
def Obligations.LockedFieldsKeep : Prop :=
  ∀ (d : Dev) (m : Master) (a : RegAt) (off : Nat) (v : BitVec 32), d.inReset = false → wellFormed (.registerWrite m off v true) = true →
    a.named off → a.row.kind = .plain → a.row.words = 1 → a.row.writable = true → d.admits m a = true →
    a.row.reservedIn v.toNat = false → d.on SUP_LOCK_LOCK = true →
    ∃ d' : Dev, d.answers (.registerWrite m off v true) d' ∧
      (d.lockedValue a v.toNat = v.toNat → d' = (d.dropStaged m a).regStore a v.toNat) ∧
      (d.lockedValue a v.toNat ≠ v.toNat →
        d' = (((d.dropStaged m a).put SUP_STAT_REFUSED true).postEvent 0x0107 0x000 (2 * 2 ^ 28 + a.off % 2 ^ 26)).regStore a
          (d.lockedValue a v.toNat)) ∧
      (∀ f ∈ a.row.fields, f.acc = .rwl → bits (d.lockedValue a v.toNat) f.lo f.width = d.rd (a.fld f) % 2 ^ f.width) ∧
      (∀ f ∈ a.row.fields, f.acc ≠ .rwl → bits (d.lockedValue a v.toNat) f.lo f.width = bits v.toNat f.lo f.width)

/-- A two-word register is written as one value at its highest word (R535). -/
def Obligations.WideRegisterCommitsAsOne : Prop :=
  ∀ (d : Dev) (m : Master) (a : RegAt) (off : Nat) (v w : BitVec 32), d.inReset = false → wellFormed (.wideRegisterStage m off v) = true →
    a.word = 0 → a.row.words = 2 → a.named off → RegAt.named { a with word := 1 } (off + 4) → a.row.writable = true →
    d.accepts m { a with word := 1 } (v.toNat + w.toNat * 2 ^ 32) = true → d.admits m a = true →
    ∃ d1 d2 : Dev, d.answers (.wideRegisterStage m off v) d1 ∧ { d1 with staged := d.staged } = d ∧
      d1.answers (.registerWrite m (off + 4) w true) d2 ∧
      d2 = (d1.dropStaged m a).regApply m { a with word := 1 } (v.toNat + w.toNat * 2 ^ 32)

/-- Accesses that the start, a gate or the address map turns away (R422, R453, R477, R524). -/
def Obligations.AccessTurnedAway : Prop :=
  ∀ (d : Dev) (m : Master) (off : Nat) (v : BitVec 32), d.inReset = false → wellFormed (.registerWrite m off v true) = true →
    (m.isHost = true → d.rd LDR_STAT_STATE < 5 → (0x8000 ≤ off ∧ off < 0x10000) ∨ 0x40000 ≤ off → d.answers (.registerWrite m off v true) (d.inc LDR_HOSTREF_REFS)) ∧
    (d.hostShutOut m off = false → off < 0x1000000 → offReserved off = false → d.gatedAt off = true →
      d.answers (.registerWrite m off v true) ((d.put SUP_STAT_GATEACC true).postEvent 0x0108 0x000 (off % 2 ^ 26))) ∧
    (m.isHost = true → d.hostShutOut m off = false → off < 0x1000000 → offReserved off = true →
      d.answers (.registerWrite m off v true)
        (((d.put HIF_STAT_BUSERR true).wr HIF_ERRADDR_OFFSET off).postEvent 0x0301 m.uid (off % 2 ^ 26)))

/-- MODE, ANEN and MAXLEN of a port can be written only while the port is disabled (R61). -/
def Obligations.PortConfigurationProtected : Prop :=
  ∀ (d : Dev) (m : Master) (p : Nat) (v : BitVec 32), d.inReset = false → m.ok = true → p < 22 →
    d.accepts m (row_PRT_CFG.last [p]) v.toNat = true → modeOk p (bits v.toNat 0 3) = true →
    64 ≤ bits v.toNat 16 14 → bits v.toNat 16 14 ≤ (if p < 20 then 9728 else 1536) →
    (d.on (PRT_CTRL_EN p) = true →
      bits v.toNat 0 3 ≠ d.rd (PRT_CFG_MODE p) ∨ bits v.toNat 3 1 ≠ d.rd (PRT_CFG_ANEN p) ∨ bits v.toNat 16 14 ≠ d.rd (PRT_CFG_MAXLEN p) →
      ∃ d' : Dev, d.answers (.registerWrite m (0x100004 + 0x8000 * p) v true) d' ∧
        d' = ((d.dropStaged m (row_PRT_CFG.last [p])).put (PRT_STAT_CFGREF p) true).postEvent 0x0806 (0x080 + p) (0x100004 + 0x8000 * p) ∧
        d'.rd (PRT_CFG_MODE p) = d.rd (PRT_CFG_MODE p) ∧ d'.rd (PRT_CFG_ANEN p) = d.rd (PRT_CFG_ANEN p) ∧
        d'.rd (PRT_CFG_MAXLEN p) = d.rd (PRT_CFG_MAXLEN p)) ∧
    (d.on (PRT_CTRL_EN p) = false ∨ (bits v.toNat 0 3 = d.rd (PRT_CFG_MODE p) ∧ bits v.toNat 3 1 = d.rd (PRT_CFG_ANEN p) ∧
        bits v.toNat 16 14 = d.rd (PRT_CFG_MAXLEN p)) →
      ∃ d' : Dev, d.answers (.registerWrite m (0x100004 + 0x8000 * p) v true) d' ∧
        d'.rd (PRT_CFG_MODE p) = bits v.toNat 0 3 ∧ d'.rd (PRT_CFG_ANEN p) = bits v.toNat 3 1 ∧
        d'.rd (PRT_CFG_MAXLEN p) = bits v.toNat 16 14 ∧ d.sameBut d' (row_PRT_CFG.fields.map (row_PRT_CFG.last [p]).fld))

/-- A duplicate window accepts a sequence number once (R104). -/
def Obligations.DuplicateWindowRejectsRepeat : Prop :=
  ∀ (w : DupWin) (seq : Nat), w.base < 65536 → w.win < 2 ^ 128 → seq < 65536 →
    ((DupWin.judge (some w) seq).2.1 = dupDuplicate ↔ ∃ b < 128, (seq + b) % 65536 = w.base ∧ bit w.win b = true) ∧
    ((DupWin.judge (some w) seq).2.2 = false → (DupWin.judge (some (DupWin.judge (some w) seq).1) seq).2.1 = dupDuplicate) ∧
    (DupWin.judge none seq).2.1 = dupFirst ∧ (DupWin.judge (some (DupWin.judge none seq).1) seq).2.1 = dupDuplicate

/-- A configuration change of the gates takes effect at the first instant of its schedule that lies in the future (R127, R128). -/
def Obligations.GateChangeTime : Prop :=
  ∀ (d : Dev) (p : Nat), p < 22 →
    (d.on (SCH_STAT_PENDING p) = true →
      d.schChange p = (d.put (SCH_STAT_REFUSED p) true).postEvent 0x0A04 (0x0B0 + p) (0x300000 + 0x8000 * p)) ∧
    (d.on (SCH_STAT_PENDING p) = false →
      (∀ e < d.rd (SCH_ADMLEN_LEN p), gateEntryOk (d.rd (SCH_ADMLISTe_ENTRY p e)) = true) →
      ∃ T : Nat, d.schChange p = ((d.setPort p { d.port p with chgAt := d.schNow p }).wr (SCH_CHGTIME_T p) (ts96 T)).put (SCH_STAT_PENDING p) true ∧ d.schNow p < T ∧
        (d.schNow p < ofTs96 (d.rd (SCH_ADMBASE_BASE p)) → T = ofTs96 (d.rd (SCH_ADMBASE_BASE p))) ∧
        (ofTs96 (d.rd (SCH_ADMBASE_BASE p)) ≤ d.schNow p → 0 < d.admCycle p →
          (∃ N : Nat, T = ofTs96 (d.rd (SCH_ADMBASE_BASE p)) + N * d.admCycle p) ∧ T ≤ d.schNow p + d.admCycle p)) ∧
    (∀ e : Nat, d.on (SCH_STAT_PENDING p) = false → e < d.rd (SCH_ADMLEN_LEN p) → gateEntryOk (d.rd (SCH_ADMLISTe_ENTRY p e)) = false →
      (∀ k < e, gateEntryOk (d.rd (SCH_ADMLISTe_ENTRY p k)) = true) →
      d.schChange p = (d.put (SCH_STAT_LISTERR p) true).postEvent 0x0A05 (0x0B0 + p) e)

/-- A ring keeps sixteen commands in the order they came and counts those it loses (R200). -/
def Obligations.TrainCommandFifoOrder : Prop :=
  ∀ (d : Dev) (r cyc arg : Nat),
    ((d.trn r).fifo.length < 16 → d.on (TRN_CMDDB_DBEN r) = false →
      ((d.commandPush r cyc arg).trn r).fifo = (d.trn r).fifo ++ [(cyc % 2 ^ 24, arg)] ∧ (d.commandPush r cyc arg).regs = d.regs) ∧
    ((d.trn r).fifo.length < 16 → d.on (TRN_CMDDB_DBEN r) = true →
      ∃ d1 : Dev, (d1.trn r).fifo = (d.trn r).fifo ++ [(cyc % 2 ^ 24, arg)] ∧ d.commandPush r cyc arg = d1.ring (d.rd (TRN_CMDDB_DB r)) ∧
        d1.regs = d.regs ∧ d1.mbx = d.mbx) ∧
    (16 ≤ (d.trn r).fifo.length → d.commandPush r cyc arg = (d.inc (TRN_CNT_CMDLOST_CNT r)).postEvent 0x0C16 0x0E0 r) ∧
    (∀ (x : Nat × Nat) (later : List (Nat × Nat)), (d.trn r).fifo = x :: later → ((d.commandPop r).trn r).fifo = later ∧
      d.commandHead r = 2 ^ 31 + x.1 + x.2 * 2 ^ 32)

/-- In SYNC mode a sample lies within the second that its receive stamp selects (R209). -/
def Obligations.SyncSampleInstant : Prop :=
  ∀ (d : Dev) (s c i n : Nat) (A : List Int), d.rd (SAU_S_CFG_MODE s) = 0 →
    ∃ t : Tab Int, d.svPlace s c i n A = some (t, false) ∧
      ∀ k, k < 4 → ∃ x S : Int, tget t k = some x ∧
        x = S * Int.ofNat sec16 + (rndDiv (Int.ofNat (c * sec16)) (d.rd (SAU_S_RATE_RATE s)) + d.rdS (SAU_S_OFFSET_OFFSET s)) ∧
        A.getD k 0 * 4 - 3 * Int.ofNat sec16 < 4 * x ∧ 4 * x ≤ A.getD k 0 * 4 + Int.ofNat sec16 ∧
        (∀ y T : Int, y = T * Int.ofNat sec16 + (rndDiv (Int.ofNat (c * sec16)) (d.rd (SAU_S_RATE_RATE s)) + d.rdS (SAU_S_OFFSET_OFFSET s)) →
          A.getD k 0 * 4 - 3 * Int.ofNat sec16 < 4 * y → 4 * y ≤ A.getD k 0 * 4 + Int.ofNat sec16 → y = x)

/-- A forced pin is released only when every cause of the force has ended (R245). -/
def Obligations.ForcedPinRelease : Prop :=
  ∀ (d : Dev) (m : Master) (n : Nat) (v : BitVec 32), d.inReset = false → m.ok = true → n < 48 →
    d.accepts m (row_PIN_IOn_SAFE.last [n]) (withField v 2 1 1).toNat = true →
    ∃ d' : Dev, d.answers (.rel m n v) d' ∧
      (d.rd (PIN_IOn_SAFE_CAUSE n) = 0 → d.hitNow n = false → d'.on (PIN_IOn_SAFE_FORCED n) = false ∧ d'.rd (PIN_IOn_SAFE_CAUSE n) = 0 ∧ d'.evr = d.evr) ∧
      (d.rd (PIN_IOn_SAFE_CAUSE n) ≠ 0 ∨ d.hitNow n = true → d'.rd (PIN_IOn_SAFE_FORCED n) = d.rd (PIN_IOn_SAFE_FORCED n) ∧
        d'.rd (PIN_IOn_SAFE_CAUSE n) = d.rd (PIN_IOn_SAFE_CAUSE n) ∧ d'.on PIN_STAT_REFUSED = true ∧
        ∃ d1 : Dev, d1.evr = d.evr ∧ d' = d1.postEvent 0x0E04 0x0F2 n)

/-- The FIFOs and the flags of a sequencer group (R253, R254). -/
def Obligations.SequencerFifosAndFlags : Prop :=
  ∀ (d : Dev) (q : Nat), q < 8 →
    (∀ v : Nat, (d.seq q).txf.length < 8 → ((d.txfWrite q v).1.seq q).txf = (d.seq q).txf ++ [v % 2 ^ 32] ∧ (d.txfWrite q v).2 = true ∧
      (d.txfWrite q v).1.regs = d.regs ∧ ∀ k, k ≠ q → (d.txfWrite q v).1.seq k = d.seq k) ∧
    (∀ v : Nat, 8 ≤ (d.seq q).txf.length → d.txfWrite q v = (d.inc (PIN_SEQ_FCNT_TXREF (q / 4) (q % 4)), false)) ∧
    (∀ (x : Nat) (later : List Nat), (d.seq q).rxf = x :: later → (d.rxfRead q).2 = 2 ^ 63 + x ∧ ((d.rxfRead q).1.seq q).rxf = later) ∧
    ((d.seq q).rxf = [] → d.rxfRead q = (d, 0)) ∧
    (∀ (g v : Nat) (s : Nat), g < 2 → s < 4 → v < 2 ^ 32 → (d.flagSet g v).regs = d.regs ∧
      ∀ i < 32, bit (((d.flagSet g v).grpEdge g).rd (PIN_SEQ_PEND_PEND g s)) i
        = (bit (d.rd (PIN_SEQ_PEND_PEND g s)) i || bit (d.grp g).soft i || (decide (24 ≤ i) && bit v i)))

/-- RXREL frees the oldest occupied slots or is ignored (R271). -/
def Obligations.ReceiveSlotsFreedInOrder : Prop :=
  ∀ (d : Dev) (e i : Nat) (v : BitVec 32), d.inReset = false → e < 64 → i < 2 → d.depotOn (e / 8) = true →
    (v.toNat ≠ 0 → v.toNat ≤ (d.rxRing (e / 8) i).occ → ∃ d' : Dev, d.answers (.rxRelease e i v) d' ∧
      (d'.rxRing (e / 8) i).occ = (d.rxRing (e / 8) i).occ - v.toNat ∧
      (d'.rxRing (e / 8) i).old = ((d.rxRing (e / 8) i).old + v.toNat) % d.rd (DEP_RXRi_NSLOT (e / 8) i) ∧
      (d'.rxRing (e / 8) i).descs = (d.rxRing (e / 8) i).descs ∧
      d' = (d.setRxRing (e / 8) i (d'.rxRing (e / 8) i)).ioNote e (0x304 + i) true) ∧
    (v.toNat = 0 ∨ (d.rxRing (e / 8) i).occ < v.toNat →
      d.answers (.rxRelease e i v) ((d.ioNote e (0x304 + i) true).modEng e (fun x => { x with fl := { x.fl with ioe := true } })))

/-- ADDS, SUBS, ADDUS and SUBUS clamp the exact result (R314). -/
def Obligations.EngineSaturates : Prop :=
  ∀ (d d' : Dev) (e : Nat) (w : Word) (D A B : Nat) (op : AluOp) (c : Instr) (row : EngRow) (x lo hi : Int), d.fetches e d' w →
    decodeWord w.toNat = .long row (.alu op D A B) → D < 16 →
    ((op = .adds ∧ row = .adds ∧ c = .adds e ∧ x = ((d'.eng e).reg A).toInt + ((d'.eng e).reg B).toInt ∧ lo = -2147483648 ∧ hi = 2147483647) ∨
     (op = .subs ∧ row = .subs ∧ c = .subs e ∧ x = ((d'.eng e).reg A).toInt - ((d'.eng e).reg B).toInt ∧ lo = -2147483648 ∧ hi = 2147483647) ∨
     (op = .addus ∧ row = .addus ∧ c = .addus e ∧ x = ((d'.eng e).reg A).toNat + ((d'.eng e).reg B).toNat ∧ lo = 0 ∧ hi = 4294967295) ∨
     (op = .subus ∧ row = .subus ∧ c = .subus e ∧ x = (((d'.eng e).reg A).toNat : Int) - ((d'.eng e).reg B).toNat ∧ lo = 0 ∧ hi = 4294967295)) →
    ∃ d2 : Dev, d.answers c d2 ∧ (d2.eng e).reg D = BitVec.ofInt 32 (if x < lo then lo else if hi < x then hi else x) ∧
      (d2.eng e).fl.v = decide (x < lo ∨ hi < x) ∧ (d2.eng e).fl.c = (d'.eng e).fl.c ∧ (d2.eng e).pc = (d'.eng e).pc + 4 ∧
      (∀ r < 16, r ≠ D → (d2.eng e).reg r = (d'.eng e).reg r) ∧ (∀ k, k ≠ e → d2.eng k = d'.eng k) ∧ d2.mem = d'.mem ∧ d2.regs = d'.regs

/-- What the shifts and the divisions compute (R312, R313). -/
def Obligations.EngineShiftsAndDivides : Prop :=
  ∀ (a b : Word) (n : Nat) (f : Flags), n < 64 →
    (aluShift .shl a n).lo = some (BitVec.ofNat 32 (a.toNat * 2 ^ n)) ∧
    (aluShift .shl a n).fl.c = (if n = 0 then none else some (decide (n ≤ 32) && bit (a.toNat * 2 ^ n) 32)) ∧
    (aluShift .shr a n).lo = some (BitVec.ofNat 32 (a.toNat / 2 ^ n)) ∧
    (aluShift .shr a n).fl.c = (if n = 0 then none else some (bit a.toNat (n - 1))) ∧
    (aluShift .sar a n).lo = some (BitVec.ofInt 32 (a.toInt / 2 ^ n)) ∧
    (aluShift .sar a n).fl.c = (if n = 0 then none else some (decide (a.toInt / 2 ^ (n - 1) % 2 = 1))) ∧
    (b ≠ 0 → ∃ q r : Word, (AluOp.divu.run a b f).lo = some q ∧ (AluOp.divu.run a b f).hi = some r ∧
      a.toNat = q.toNat * b.toNat + r.toNat ∧ r.toNat < b.toNat ∧ (AluOp.divu.run a b f).fl.v = some false) ∧
    (b ≠ 0 → ¬(a = 0x80000000#32 ∧ b = 0xFFFFFFFF#32) → ∃ q r : Word, (AluOp.divs.run a b f).lo = some q ∧ (AluOp.divs.run a b f).hi = some r ∧
      a.toInt = q.toInt * b.toInt + r.toInt ∧ r.toInt.natAbs < b.toInt.natAbs ∧ (r.toInt = 0 ∨ (r.toInt < 0 ↔ a.toInt < 0)) ∧
      (AluOp.divs.run a b f).fl.v = some false) ∧
    ((AluOp.divs.run 0x80000000 0xFFFFFFFF f).lo = some 0x80000000 ∧ (AluOp.divs.run 0x80000000 0xFFFFFFFF f).hi = some 0 ∧
      (AluOp.divs.run 0x80000000 0xFFFFFFFF f).fl.v = some true) ∧
    (∀ op : AluOp, op = .divu ∨ op = .divs → (op.run a 0 f).lo = some 0 ∧ (op.run a 0 f).hi = some a ∧
      (op.run a 0 f).fl = { z := some true, n := some false, v := some false, dz := some true })

/-- A trap raised within a trap halts the engine and leaves the first trap described (R285). -/
def Obligations.DoubleTrapHalts : Prop :=
  (∀ (d : Dev) (e n : Nat) (tpc tiw : Word), d.on (ENG_STAT_TACT e) = true → e < 64 →
    ∃ d1 : Dev, d1 = (d.wr (ENG_STAT_STATE e) engHalted).postEvent 0x0401 (0x040 + e) (n * 2 ^ 16 + (d.eng e).pc.toNat % 2 ^ 15) ∧
      d.engTrap e tpc tiw n = (d1.engReport e 3).haltedSwap e ∧ (d.engTrap e tpc tiw n).engState e = engHalted ∧
      (d.engTrap e tpc tiw n).rd (ENG_RPT0_RCAUSE e) = 3 ∧ (d.engTrap e tpc tiw n).on (ENG_RPT0_RPTV e) = true ∧
      ((d.engTrap e tpc tiw n).eng e).tpc = (d.eng e).tpc ∧ ((d.engTrap e tpc tiw n).eng e).tiw = (d.eng e).tiw ∧
      ((d.engTrap e tpc tiw n).eng e).tcause = (d.eng e).tcause) ∧
  (∀ (d d' : Dev) (e n : Nat) (w : Word), d.fetches e d' w → decodeWord w.toNat = .trap .undefinedWord n →
    d.answers (.undefinedInstruction e) (d'.engTrap e (d'.eng e).pc w n)) ∧
  (∀ (d d' : Dev) (e n : Nat), d.inReset = false → e < 64 → d.engState e = engRunning → d.lineToTake e = none →
    (d.eng e).stepping = false → d.engFetch e = (d', .fault n) →
    d.answers (.instructionFetchFault e) (d'.engTrap e (d'.eng e).pc 0 n))

/-- Taking an interrupt line saves PC and FL and goes to its vector (R282, R284). -/
def Obligations.InterruptEntrySaves : Prop :=
  ∀ (d : Dev) (e l : Nat), d.inReset = false → e < 64 → d.engState e = engRunning → d.lineToTake e = some l →
    ((d.eng e).rsd < 32 → (d.eng e).dsd < 32 → ∃ d' : Dev, d.answers (.interruptEntry e) d' ∧
      tget (d'.eng e).rs (d.eng e).rsd = some (d.eng e).pc ∧ (d'.eng e).rsd = (d.eng e).rsd + 1 ∧
      tget (d'.eng e).ds (d.eng e).dsd = some (BitVec.ofNat 32 (d.eng e).fl.val) ∧ (d'.eng e).dsd = (d.eng e).dsd + 1 ∧
      bit (d'.rd (ENG_IRQ_INSVC e)) l = true ∧ (d'.eng e).pc = BitVec.ofNat 32 (16 * d.rd (ENG_IVEC_IVEC e) + 16 * l) ∧
      (∀ r < 16, (d'.eng e).reg r = (d.eng e).reg r) ∧ d'.mem = d.mem) ∧
    ((d.eng e).rsd = 32 → ∃ d' : Dev, d.answers (.interruptEntry e) d' ∧ (d'.eng e).tpc = (d.eng e).pc ∧
      (d'.eng e).tiw = BitVec.ofNat 32 l ∧ (d'.eng e).tcause = 0x85 ∧ d'.on (ENG_STAT_TACT e) = true ∧
      (d'.eng e).pc = BitVec.ofNat 32 (4 * d.rd (ENG_TVEC_TVEC e)) ∧ (d'.eng e).rs = (d.eng e).rs ∧ (d'.eng e).ds = (d.eng e).ds)

/-- The long instruction words of an engine, field by field (R296, R301, R303, R304, R308). -/
def Obligations.EngineWordsDecode : Prop :=
  ∀ D A B imm : Nat, D < 16 → A < 16 → B < 16 → imm < 2 ^ 17 →
    (∀ x ∈ ([(0x01, .add, .add), (0x02, .addc, .addc), (0x03, .sub, .sub), (0x04, .subb, .subb), (0x05, .and, .and), (0x06, .or, .or),
        (0x07, .xor, .xor), (0x08, .andn, .andn), (0x09, .shl, .shift .shl), (0x0A, .shr, .shift .shr), (0x0B, .sar, .shift .sar),
        (0x0C, .rol, .shift .rol), (0x0D, .ror, .shift .ror), (0x0E, .adds, .adds), (0x0F, .subs, .subs), (0x10, .addus, .addus),
        (0x11, .subus, .subus)] : List (Nat × EngRow × AluOp)),
      decodeWord (x.1 * 2 ^ 25 + D * 2 ^ 21 + A * 2 ^ 17 + B * 2 ^ 13) = .long x.2.1 (.alu x.2.2 D A B) ∧
      decodeWord (x.1 * 2 ^ 25 + D * 2 ^ 21 + A * 2 ^ 17 + B * 2 ^ 13 + 1) = .trap x.2.1 0x02) ∧
    (∀ x ∈ ([(0x12, .mulu, .mulu), (0x13, .muls, .muls), (0x14, .divu, .divu), (0x15, .divs, .divs)] : List (Nat × EngRow × AluOp)),
      decodeWord (x.1 * 2 ^ 25 + D * 2 ^ 21 + A * 2 ^ 17 + B * 2 ^ 13) = if D % 2 = 0 then .long x.2.1 (.alu x.2.2 D A B) else .trap x.2.1 0x02) ∧
    (∀ x ∈ ([(0x16, .cmp, .cmp), (0x17, .tst, .tst)] : List (Nat × EngRow × AluOp)),
      decodeWord (x.1 * 2 ^ 25 + D * 2 ^ 21 + A * 2 ^ 17 + B * 2 ^ 13) = if D = 0 then .long x.2.1 (.alu x.2.2 0 A B) else .trap x.2.1 0x02) ∧
    decodeWord (0x18 * 2 ^ 25 + D * 2 ^ 21 + A * 2 ^ 17 + imm)
      = .long .addi (.aluImm .add D A (BitVec.ofInt 32 (if imm < 2 ^ 16 then imm else (imm : Int) - 2 ^ 17))) ∧
    (∀ x ∈ ([(0x24, .ldb, 1, false), (0x25, .ldbs, 1, true), (0x26, .ldh, 2, false), (0x27, .ldhs, 2, true), (0x28, .ldw, 4, false)] :
        List (Nat × EngRow × Nat × Bool)),
      decodeWord (x.1 * 2 ^ 25 + D * 2 ^ 21 + A * 2 ^ 17 + imm)
        = .long x.2.1 (.load x.2.2.1 x.2.2.2 D A (BitVec.ofInt 32 (if imm < 2 ^ 16 then imm else (imm : Int) - 2 ^ 17)))) ∧
    (∀ x ∈ ([(0x2A, .stb, 1), (0x2B, .sth, 2), (0x2C, .stw, 4)] : List (Nat × EngRow × Nat)),
      decodeWord (x.1 * 2 ^ 25 + D * 2 ^ 21 + A * 2 ^ 17 + imm)
        = .long x.2.1 (.store x.2.2 D A (BitVec.ofInt 32 (if imm < 2 ^ 16 then imm else (imm : Int) - 2 ^ 17)))) ∧
    decodeWord (0x30 * 2 ^ 25 + D * 2 ^ 21 + A * 2 ^ 17 + 2 ^ 16 + imm % 2 ^ 16) = .long .ioIn (.input D (some A) (imm % 2 ^ 16)) ∧
    decodeWord (0x31 * 2 ^ 25 + D * 2 ^ 21 + imm % 2 ^ 16) = .long .ioOut (.output D none (imm % 2 ^ 16)) ∧
    decodeWord (0x32 * 2 ^ 25 + D * 2 ^ 21 + imm) = .long .br (.branch D (BitVec.ofNat 32 (4 * imm))) ∧
    (∀ o ∈ [0x00, 0x2F, 0x36, 0x37, 0x38, 0x39, 0x3A, 0x3B, 0x3C, 0x3D, 0x3E, 0x3F],
      decodeWord (o * 2 ^ 25 + D * 2 ^ 21 + A * 2 ^ 17 + imm) = .trap .undefinedWord 0x01)

/-- A write of the shared memory changes its bytes alone, a read answers them, and a requester without the right gets a bus error (R326, R328, R477). -/
def Obligations.SharedMemoryAccesses : Prop :=
  (∀ (d t : Dev) (m : Master) (a n : Nat) (w : BankAccess) (rest : List Instr), d.memOk = true →
    exec (.sharedMemoryAccess m a n w) ⟨d, rest⟩ = .next ⟨t, rest⟩ → t.memOk = true) ∧
  (∀ (d : Dev) (m : Master) (a : Nat) (l : List Byte), d.inReset = false → wellFormed (.sharedMemoryAccess m a l.length ⟨some l, []⟩) = true →
    d.hostShutOut m (0x1000000 + a) = false → d.memOk = true → d.mem.ecc = [] → d.mem.pend = [] → d.mem.borrow = none →
    (∀ b < 64, a / 0x40000 ≤ b → b ≤ (a + l.length - 1) / 0x40000 → d.rd (MEM_BANKb_OWNER b) = m.actor) →
    ∃ d' : Dev, d.answers (.sharedMemoryAccess m a l.length ⟨some l, []⟩) d' ∧
      (∀ j : Nat, cellGet d'.mem.cells j = if a ≤ j ∧ j < a + l.length then l.getD (j - a) 0 else cellGet d.mem.cells j) ∧
      { d' with mem := d.mem } = d ∧
      d'.answers (.sharedMemoryAccess m a l.length ⟨none, []⟩) (d'.emit (.read m.uid (leNat l)))) ∧
  (∀ (d : Dev) (m : Master) (a b : Nat) (v : Byte), d.inReset = false → wellFormed (.sharedMemoryAccess m a 1 ⟨some [v], []⟩) = true →
    d.hostShutOut m (0x1000000 + a) = false → b = a / 0x40000 → tget d.mem.pend b = none → d.rd (MEM_BANKb_OWNER b) ≠ m.actor →
    ∃ d' : Dev, d.answers (.sharedMemoryAccess m a 1 ⟨some [v], []⟩) d' ∧ d'.mem = d.mem ∧
      (m.isHost = false → d' = d.postEvent 0x0501 0x0FD (m.uid * 2 ^ 16 + b)) ∧
      (m.isHost = true → d' = (((d.postEvent 0x0501 0x0FD (m.uid * 2 ^ 16 + b)).put HIF_STAT_BUSERR true).wr HIF_ERRADDR_OFFSET
        (0x1000000 + a)).postEvent 0x0301 m.uid ((0x1000000 + a) % 2 ^ 26)))

/-- A pop of an empty queue returns at once with 0 (R345). -/
def Obligations.EmptyQueuePops : Prop :=
  ∀ (d : Dev) (m : Master) (q : Nat), d.inReset = false → m.ok = true → q < 1024 → (d.queue q).depth = 0 → d.queueRight q false m = true →
    d.queuePop q = (d, 0) ∧
    (∀ e : Nat, m = .engine e → d.depotOn (e / 8) = true →
      d.answers (.queuePop m ⟨q, false⟩) (((d.ioLatch e (0x1000 + 2 * q + 1) 0).ioNote e (0x1000 + 2 * q) false).emit (.read m.uid 0))) ∧
    (m.isEngine = false → d.admits m ⟨row_QM_Qn_POP, [q], 0⟩ = true →
      d.answers (.queuePop m ⟨q, false⟩) ((d.latchWord m (0x54004 + 0x10 * q) 0).emit (.read m.uid 0)))

/-- An ordinary queue gives its entries in the order they came and refuses a push when it is full (R346, R347). -/
def Obligations.QueueKeepsOrder : Prop :=
  ∀ (d : Dev) (q v : Nat), d.on (QM_Qn_CFG_EN q) = true → (d.queue q).fault = false → d.on (QM_Qn_CFG_ORG q) = false →
    ((d.queue q).depth < d.queueSize q →
      (d.queuePush q v).2 = true ∧ ((d.queuePush q v).1.queue q).win = (d.queue q).win ++ [some (2 ^ 63 + v % 2 ^ 63)] ∧
      ((d.queuePush q v).1.queue q).refused = false ∧ (d.queuePush q v).1.mem.cells = d.mem.cells ∧
      ∀ k, k ≠ q → (d.queuePush q v).1.queue k = d.queue k) ∧
    (∀ (x : Nat) (later : List (Option Nat)), (d.queue q).win = some x :: later →
      (d.queuePop q).2 = x ∧ ((d.queuePop q).1.queue q).win = later ∧ (d.queuePop q).1.regs = d.regs ∧
      ∀ k, k ≠ q → (d.queuePop q).1.queue k = d.queue k) ∧
    (d.queueSize q ≤ (d.queue q).depth → (d.queuePush q v).2 = false ∧ ((d.queuePush q v).1.queue q).win = (d.queue q).win ∧
      (d.queuePush q v).1.rd (QM_Qn_REF_REFUSED q) = min (d.rd (QM_Qn_REF_REFUSED q) + 1) 0xFFFF ∧
      ((d.queue q).refused = true → (d.queuePush q v).1.evr = d.evr) ∧
      ((d.queue q).refused = false → ∃ d1 : Dev, d1.evr = d.evr ∧ (d.queuePush q v).1.evr = (d1.postEvent 0x0601 (0x100 + q) q).evr))

/-- A posted message reaches its receiver whole and is taken once, and a post to a full mailbox is refused (R356, R358, R359, R360). -/
def Obligations.MailboxDeliversOnce : Prop :=
  ∀ (d : Dev) (who r : Master) (n v x y z : Nat), d.mbSender n who = true → d.on (MBX_MBm_CFG_EN n) = true →
    tgetD (d.box n).staging who.uid [0, 0, 0] = [x, y, z] →
    ((d.box n).msg = none → (d.mbPost who n v).2 = .done 0 ∧
      ∃ (d1 : Dev) (g : Msg), d1 = (d.mbPost who n v).1 ∧ (d1.box n).msg = some g ∧ g.suid = who.uid ∧ g.data = [x, y, z, v % 2 ^ 32] ∧
        g.seq = (d.rd (MBX_MBm_SEQ_LASTSEQ n) + 1) % 65536 ∧ tget (d1.box n).staging who.uid = none ∧
        ((d1.mbLatch r n).box n).msg = some g ∧ tget ((d1.mbLatch r n).box n).latch r.uid = some g.words ∧
        ((d1.mbLatch r n).mbTake r n).2 = v % 2 ^ 32 ∧ (((d1.mbLatch r n).mbTake r n).1.box n).msg = none ∧
        (d1.mbTake r n).1.regs = d1.regs) ∧
    (∀ g : Msg, (d.box n).msg = some g → (d.mbPost who n v).2 = .refused ∧ ((d.mbPost who n v).1.box n).msg = some g ∧
      ((d.mbPost who n v).1.box n).staging = (d.box n).staging ∧
      (d.mbPost who n v).1.rd (MBX_MBm_STAT_REFCNT n) = min (d.rd (MBX_MBm_STAT_REFCNT n) + 1) 0xFFFF)

/-- A lock has one holder, and only the holder releases it (R368, R369). -/
def Obligations.LockHasOneHolder : Prop :=
  ∀ (d : Dev) (a b : Master) (n : Nat), a.uid ≠ b.uid → (d.lock n).holder = none →
    ∃ d1 : Dev, d.lockAcquire a n = (d1, 2 ^ 30 + b01 (d.lock n).broken * 2 ^ 29 + a.uid) ∧ d1.lock n = ⟨some a.uid, false⟩ ∧
      (∀ k, k ≠ n → d1.lock k = d.lock k) ∧
      (d1.lockAcquire b n).2 = 2 ^ 31 + a.uid ∧ (d1.lockAcquire b n).1.lock n = d1.lock n ∧
      d1.lockAcquire a n = (d1, 3 * 2 ^ 30 + a.uid) ∧
      (d1.lockRelease b n).2 = .refused ∧ (d1.lockRelease b n).1.lock n = d1.lock n ∧
      (d1.lockRelease b n).1.evr = (d1.postEvent 0x0704 0x0FC (b.uid * 2 ^ 16 + n)).evr ∧
      (d1.lockRelease a n).2 = .done 0 ∧ (d1.lockRelease a n).1.lock n = ⟨none, false⟩ ∧
      (∀ k, k ≠ n → (d1.lockRelease a n).1.lock k = d.lock k)

/-- Requests and aborts of a CAN transmit buffer (R382, R385). -/
def Obligations.CanTransmitRequests : Prop :=
  ∀ (d : Dev) (p b : Nat), p < 2 → b < 32 →
    (d.txst p b ≠ txPending → d.txst p b ≠ txActive →
      (d.on (CAN_TXBb_CTL_FDF p b) = true → d.on (CAN_CFG_FDEN p) = true ∧ d.on (CAN_TXBb_ID_RTR p b) = false) →
      (d.on (CAN_TXBb_CTL_FDF p b) = false → d.on (CAN_TXBb_CTL_BRS p b) = false) →
      ∃ d1 : Dev, d.txRequest p (2 ^ b) = d1.idleChoice p ∧ d1.txst p b = txPending ∧ d1.rd (CAN_TXBb_STAT_ATTEMPTS p b) = 0 ∧
        d.sameBut d1 [CAN_TXBb_STAT_TXST p b, CAN_TXBb_STAT_ATTEMPTS p b]) ∧
    ((d.txst p b = txPending ∨ d.txst p b = txActive) → d.txRequest p (2 ^ b) = d.idleChoice p) ∧
    (d.txst p b ≠ txPending → d.txst p b ≠ txActive →
      ((d.on (CAN_TXBb_CTL_FDF p b) = true ∧ d.on (CAN_CFG_FDEN p) = false) ∨
       (d.on (CAN_TXBb_CTL_FDF p b) = true ∧ d.on (CAN_TXBb_ID_RTR p b) = true) ∨
       (d.on (CAN_TXBb_CTL_FDF p b) = false ∧ d.on (CAN_TXBb_CTL_BRS p b) = true)) →
      d.txRequest p (2 ^ b) = ((d.put (CAN_STAT_CFGREF p) true).postEvent 0x0F07 (canUid p) (canBase p + 0x040)).idleChoice p) ∧
    (d.txst p b = txPending → (d.txAbort p (2 ^ b)).txst p b = 5) ∧
    (d.txst p b ≠ txPending → d.txst p b ≠ txActive → d.txAbort p (2 ^ b) = d)

/-- A function reset is requested of one unit at a time and acts on that unit alone (R430, R434). -/
def Obligations.FunctionResetRequests : Prop :=
  ∀ (d : Dev) (m : Master) (uid : Nat), d.inReset = false → wellFormed (.functionResetRequest m uid) = true →
    (d.accepts m (row_SUP_FNRST.last []) (BitVec.ofNat 32 (0xC3000000 + uid)).toNat = true → resettable uid = true → uid ≠ 2 →
      (d.on SUP_FNLAST_BUSY = false → ∃ d' : Dev, d.answers (.functionResetRequest m uid) d' ∧ d'.resetting uid ∧
        d'.rd SUP_FNLAST_REQ = m.uid ∧ d.sameBut d' [SUP_FNRST_UID, SUP_FNLAST_TARGET, SUP_FNLAST_REQ, SUP_FNLAST_BUSY]) ∧
      (d.on SUP_FNLAST_BUSY = true → d.answers (.functionResetRequest m uid)
        (((d.dropStaged m (row_SUP_FNRST.last [])).put SUP_STAT_REFUSED true).postEvent 0x0107 0x000 0x10010))) ∧
    (∀ q < 1024, ¬ d.resetting (0x100 + q) → d.answers (.queueReset q) d) ∧
    (∀ n < 256, ¬ d.resetting (0x600 + n) → d.answers (.mailboxReset n) d)

/-- A post folds into the tail, takes a new entry, or is counted as lost (R461, R462). -/
def Obligations.EventsFoldOrQueue : Prop :=
  ∀ (d : Dev) (typ src detail : Nat) (test : Bool), detail < 2 ^ 32 →
    (∀ (l : List EvRec) (r : EvRec), d.evr.fifo = l ++ [r] → d.evr.tailOk = true → d.evr.lossDue = false →
      r.typ = typ → r.src = src → r.detail = detail → r.rep < 0xFFFF →
      (d.postEvent typ src detail test).evr = { d.evr with fifo := l ++ [{ r with rep := r.rep + 1 }] }) ∧
    (d.evr.tailOk = false ∨ d.evr.lossDue = true → d.evr.fifo.length < 256 → d.inhibit = false → d.evr.logFail = false →
      ∃ r : EvRec, (d.postEvent typ src detail test).evr.fifo = d.evr.fifo ++ [r] ∧ r.typ = typ ∧ r.src = src ∧ r.detail = detail ∧
        r.rep = 0 ∧ r.test = test ∧ r.loss = d.evr.lossDue ∧ (d.postEvent typ src detail test).evr.lossDue = false) ∧
    (d.evr.tailOk = false ∨ d.evr.lossDue = true → 256 ≤ d.evr.fifo.length →
      (d.postEvent typ src detail test).evr.fifo = d.evr.fifo ∧ (d.postEvent typ src detail test).evr.lossDue = true ∧
      (d.postEvent typ src detail test).rd EVR_LOST_CNT = min (d.rd EVR_LOST_CNT + 1) (2 ^ 64 - 1))

/-- A record that software injects (R471). -/
def Obligations.SoftwareRecords : Prop :=
  ∀ (d : Dev) (m : Master) (v w : BitVec 32), d.inReset = false → m.ok = true → d.accepts m (row_EVR_INJDATA.last []) v.toNat = true →
    d.accepts m (row_EVR_INJECT.last []) w.toNat = true →
    ∃ d1 d2 d3 : Dev, d.answers (.injectDataStage m v) d1 ∧ d1.regs = d.regs ∧
      (∀ u, u ≠ m.uid → tget d1.evr.injdata u = tget d.evr.injdata u) ∧ d1.answers (.inject m w) d3 ∧
      d2 = d1.dropStaged m (row_EVR_INJECT.last []) ∧
      d3 = d2.postEvent (0x10F0 + bits w.toNat 0 4) m.uid v.toNat true

/-- A vector is sent, held pending or merged (R480). -/
def Obligations.InterruptMessages : Prop :=
  (∀ (d : Dev) (v : Nat), d.inReset = false → v < 256 →
    (d.vecPending v = true → d.answers (.msixPost v) (d.inc HIF_MSIXMERGE_CNT)) ∧
    (d.vecPending v = false → d.vecOpen v = false → ∃ d' : Dev, d.answers (.msixPost v) d' ∧ d'.vecPending v = true ∧ d'.out = d.out ∧
      (∀ u < 256, u ≠ v → d'.vecPending u = d.vecPending u)) ∧
    (d.vecPending v = false → d.vecOpen v = true → tget d.hif.posted v = some d.tb.lt → d.answers (.msixPost v) (d.inc HIF_MSIXMERGE_CNT)) ∧
    (d.vecPending v = false → d.vecOpen v = true → tget d.hif.posted v ≠ some d.tb.lt → ∃ d' : Dev, d.answers (.msixPost v) d' ∧ d'.vecPending v = false ∧
      d'.out = d.out ++ [.msix (d.vector v).addr (d.vector v).data] ∧
      d'.rd HIF_MSIXSENT_CNT = min (d.rd HIF_MSIXSENT_CNT + 1) (2 ^ 64 - 1))) ∧
  (∀ (d : Dev) (v : Nat), v < 256 → ¬(d.flushVecs.vecPending v = true ∧ d.flushVecs.vecOpen v = true))
end

