-- ==== Sys2Proof/Laws/Tables.lean ====
section
/-! SUPPORT. What a table, a memory and a bit field answer after an update: the laws on which every later one rests. -/

namespace Sys2Proof.Machine

/-! ### Tables -/

@[simp] theorem tget_nil {α : Type} (k : Nat) : tget ([] : Tab α) k = none := rfl

@[simp] theorem tget_tput_self {α : Type} (t : Tab α) (k : Nat) (v : α) : tget (tput t k v) k = some v := by
  induction t with
  | nil => simp [tput, tget]
  | cons e r ih =>
    obtain ⟨a, u⟩ := e
    by_cases h : a = k
    · simp [tput, tget, h]
    · by_cases h2 : k < a <;> simp [tput, tget, h, h2, ih]

theorem tget_tput_ne {α : Type} (t : Tab α) {k j : Nat} (v : α) (h : j ≠ k) : tget (tput t k v) j = tget t j := by
  induction t with
  | nil => simp [tput, tget, Ne.symm h]
  | cons e r ih =>
    obtain ⟨a, u⟩ := e
    by_cases h1 : a = k
    · subst h1; simp [tput, tget, Ne.symm h]
    · by_cases h2 : k < a
      · simp [tput, tget, h1, h2, Ne.symm h]
      · simp [tput, h1, h2, tget, ih]

theorem tget_tput {α : Type} (t : Tab α) (k j : Nat) (v : α) :
    tget (tput t k v) j = if j = k then some v else tget t j := by
  by_cases h : j = k
  · subst h; simp
  · simp [h, tget_tput_ne t v h]

@[simp] theorem tget_tdel_self {α : Type} (t : Tab α) (k : Nat) : tget (tdel t k) k = none := by
  induction t with
  | nil => rfl
  | cons e r ih =>
    obtain ⟨a, u⟩ := e
    by_cases h : a = k
    · simpa [tdel, h] using ih
    · simpa [tdel, h, tget] using ih

theorem tget_tdel_ne {α : Type} (t : Tab α) {k j : Nat} (h : j ≠ k) : tget (tdel t k) j = tget t j := by
  induction t with
  | nil => rfl
  | cons e r ih =>
    obtain ⟨a, u⟩ := e
    by_cases h1 : a = k
    · subst h1; simpa [tdel, tget, Ne.symm h] using ih
    · by_cases h2 : a = j
      · subst h2; simp [tdel, tget, h1]
      · simpa [tdel, h1, h2, tget] using ih

@[simp] theorem tgetD_tput_self {α : Type} (t : Tab α) (k : Nat) (v x : α) : tgetD (tput t k v) k x = v := by
  simp [tgetD]

theorem tgetD_tput_ne {α : Type} (t : Tab α) {k j : Nat} (v x : α) (h : j ≠ k) : tgetD (tput t k v) j x = tgetD t j x := by
  simp [tgetD, tget_tput_ne t v h]

/-! ### Memories -/

@[simp] theorem cellGet_nil (a : Nat) : cellGet [] a = 0 := rfl

theorem wfFrom_le {lo lo' : Nat} (h : lo' ≤ lo) {m : List Host.Cell} (hm : Memory.wfFrom lo m = true) :
    Memory.wfFrom lo' m = true := by
  cases m with
  | nil => rfl
  | cons e r =>
    obtain ⟨a, v⟩ := e
    simp only [Memory.wfFrom, Bool.and_eq_true, decide_eq_true_eq, Bool.not_eq_true'] at hm ⊢
    exact ⟨⟨by omega, hm.1.2⟩, hm.2⟩

theorem cellGet_below {lo : Nat} {m : List Host.Cell} (hm : Memory.wfFrom lo m = true) {a : Nat} (h : a < lo) :
    cellGet m a = 0 := by
  induction m generalizing lo with
  | nil => rfl
  | cons e r ih =>
    obtain ⟨b, v⟩ := e
    simp only [Memory.wfFrom, Bool.and_eq_true, decide_eq_true_eq, Bool.not_eq_true'] at hm
    have hb : b ≠ a := by omega
    simp only [cellGet, hb, if_false]
    exact ih hm.2 (by omega)

/-- Reading the byte that a write wrote (R328). -/
theorem cellGet_put_self {lo : Nat} {m : List Host.Cell} (hm : Memory.wfFrom lo m = true) (a : Nat) (v : Byte) :
    cellGet (cellPut m a v) a = v := by
  induction m generalizing lo with
  | nil => by_cases hv : v = 0#8 <;> simp [cellPut, cellGet, hv]
  | cons e r ih =>
    obtain ⟨b, u⟩ := e
    simp only [Memory.wfFrom, Bool.and_eq_true, decide_eq_true_eq, Bool.not_eq_true'] at hm
    by_cases h1 : b = a
    · subst h1
      by_cases hv : v = 0#8
      · simp [cellPut, hv, cellGet_below hm.2 (Nat.lt_succ_self b)]
      · simp [cellPut, hv, cellGet]
    · by_cases h2 : a < b
      · by_cases hv : v = 0#8
        · simp [cellPut, h1, h2, hv, cellGet, cellGet_below hm.2 (show a < b + 1 by omega)]
        · simp [cellPut, h1, h2, hv, cellGet]
      · simp [cellPut, h1, h2, cellGet, ih hm.2]

/-- A write leaves every other byte alone. -/
theorem cellGet_put_ne {lo : Nat} {m : List Host.Cell} (hm : Memory.wfFrom lo m = true) {a j : Nat} (v : Byte) (h : j ≠ a) :
    cellGet (cellPut m a v) j = cellGet m j := by
  induction m generalizing lo with
  | nil => by_cases hv : v = 0#8 <;> simp [cellPut, cellGet, hv, Ne.symm h]
  | cons e r ih =>
    obtain ⟨b, u⟩ := e
    simp only [Memory.wfFrom, Bool.and_eq_true, decide_eq_true_eq, Bool.not_eq_true'] at hm
    by_cases h1 : b = a
    · subst h1
      by_cases hv : v = 0#8 <;> simp [cellPut, hv, cellGet, Ne.symm h]
    · by_cases h2 : a < b
      · by_cases hv : v = 0#8 <;> simp [cellPut, h1, h2, hv, cellGet, Ne.symm h]
      · simp [cellPut, h1, h2, cellGet, ih hm.2]

theorem wfFrom_cellPut {lo : Nat} {m : List Host.Cell} (hm : Memory.wfFrom lo m = true) {a : Nat} (ha : lo ≤ a) (v : Byte) :
    Memory.wfFrom lo (cellPut m a v) = true := by
  induction m generalizing lo with
  | nil => by_cases hv : v = 0#8 <;> simp [cellPut, Memory.wfFrom, hv, ha]
  | cons e r ih =>
    obtain ⟨b, u⟩ := e
    have hm' := hm
    simp only [Memory.wfFrom, Bool.and_eq_true, decide_eq_true_eq, Bool.not_eq_true'] at hm
    by_cases h1 : b = a
    · subst h1
      by_cases hv : v = 0#8
      · simpa [cellPut, hv] using wfFrom_le (show lo ≤ b + 1 by omega) hm.2
      · simp [cellPut, hv, Memory.wfFrom, ha, hm.2]
    · by_cases h2 : a < b
      · by_cases hv : v = 0#8
        · simpa [cellPut, h1, h2, hv] using hm'
        · have h3 : a + 1 ≤ b := h2
          simp [cellPut, h1, h2, hv, Memory.wfFrom, ha, h3, hm.2]
          simpa using hm.1.2
      · have h3 : b + 1 ≤ a := by omega
        simp only [cellPut, h1, h2, if_false, Memory.wfFrom, Bool.and_eq_true, decide_eq_true_eq, Bool.not_eq_true']
        exact ⟨hm.1, ih hm.2 h3⟩

/-- A write keeps the canonical form. -/
theorem wf_cellPut {m : List Host.Cell} (hm : Memory.wf m = true) (a : Nat) (v : Byte) : Memory.wf (cellPut m a v) = true :=
  wfFrom_cellPut hm (Nat.zero_le a) v

/-- A write of bytes keeps the canonical form. -/
theorem wf_cellsPut {m : List Host.Cell} (hm : Memory.wf m = true) (a : Nat) (l : List Byte) :
    Memory.wf (cellsPut m a l) = true := by
  induction l generalizing m a with
  | nil => exact hm
  | cons v r ih => exact ih (wf_cellPut hm a v) (a + 1)

theorem wfFrom_filter {lo : Nat} {m : List Host.Cell} (hm : Memory.wfFrom lo m = true) (p : Host.Cell → Bool) :
    Memory.wfFrom lo (m.filter p) = true := by
  induction m generalizing lo with
  | nil => rfl
  | cons e r ih =>
    obtain ⟨b, u⟩ := e
    simp only [Memory.wfFrom, Bool.and_eq_true, decide_eq_true_eq, Bool.not_eq_true'] at hm
    by_cases hp : p (b, u) = true
    · simp only [List.filter_cons, hp, if_true, Memory.wfFrom, Bool.and_eq_true, decide_eq_true_eq, Bool.not_eq_true']
      exact ⟨hm.1, ih hm.2⟩
    · simp only [List.filter_cons, hp]
      exact wfFrom_le (by omega) (ih hm.2)

/-- Removing a range of bytes keeps the canonical form. -/
theorem wf_cellsDrop {m : List Host.Cell} (hm : Memory.wf m = true) (a b : Nat) : Memory.wf (cellsDrop m a b) = true :=
  wfFrom_filter hm _

/-- A byte after a write of bytes: what was written in their range, and what was there outside it. -/
theorem cellGet_cellsPut {m : List Host.Cell} (hm : Memory.wf m = true) (a : Nat) (l : List Byte) (j : Nat) :
    cellGet (cellsPut m a l) j = if a ≤ j ∧ j < a + l.length then l.getD (j - a) 0 else cellGet m j := by
  induction l generalizing m a with
  | nil =>
    have h0 : ¬(a ≤ j ∧ j < a + 0) := by omega
    simp only [cellsPut, List.length_nil, if_neg h0]
  | cons v r ih =>
    rw [cellsPut, ih (wf_cellPut hm a v)]
    by_cases h0 : j = a
    · subst h0
      have h1 : ¬(j + 1 ≤ j ∧ j < j + 1 + r.length) := by omega
      have h2 : j ≤ j ∧ j < j + (v :: r).length := by simp
      rw [if_neg h1, if_pos h2, cellGet_put_self hm]
      simp
    · rw [cellGet_put_ne hm v h0]
      by_cases h1 : a + 1 ≤ j ∧ j < a + 1 + r.length
      · have h2 : a ≤ j ∧ j < a + (v :: r).length := by simp; omega
        have h3 : j - a = (j - (a + 1)) + 1 := by omega
        simp [h1, h2, h3]
        omega
      · have h2 : ¬(a ≤ j ∧ j < a + (v :: r).length) := by simp; omega
        rw [if_neg h1, if_neg h2]

/-! ### Bit fields -/

theorem bits_lt (v lo w : Nat) : bits v lo w < 2 ^ w := Nat.mod_lt _ (Nat.two_pow_pos w)

@[simp] theorem b01_true : b01 true = 1 := rfl
@[simp] theorem b01_false : b01 false = 0 := rfl

theorem setBits_bits (v lo w x : Nat) : bits (setBits v lo w x) lo w = x % 2 ^ w := by
  unfold bits setBits
  have e : v % 2 ^ lo + x % 2 ^ w * 2 ^ lo + v / 2 ^ (lo + w) * 2 ^ (lo + w)
      = v % 2 ^ lo + 2 ^ lo * (x % 2 ^ w + 2 ^ w * (v / 2 ^ (lo + w))) := by
    rw [Nat.pow_add, Nat.mul_add, ← Nat.mul_assoc, ← Nat.add_assoc, Nat.mul_comm (2 ^ lo) (x % 2 ^ w),
      Nat.mul_comm (v / _), Nat.mul_assoc (2 ^ lo), Nat.mul_comm (_ / (2 ^ lo * 2 ^ w)) (2 ^ w)]
  rw [e, Nat.add_mul_div_left _ _ (Nat.two_pow_pos lo), Nat.div_eq_of_lt (Nat.mod_lt _ (Nat.two_pow_pos lo)), Nat.zero_add,
    Nat.add_mul_mod_self_left, Nat.mod_mod]

end Sys2Proof.Machine
end

