-- ==== Sys2Proof/Laws/State.lean ====
section
/-! SUPPORT. What each field of the device is after each of the updates that every meaning is made of, and what a register field and a
unit's state read after one: one lemma per field and update, so that no proof unfolds a record update. -/

namespace Sys2Proof.Machine

/-! ### Fields after updates -/

@[simp] theorem Dev.wr_staged (d : Dev) (f : Fld) (v : Nat) : (d.wr f v).staged = d.staged := rfl
@[simp] theorem Dev.wr_latched (d : Dev) (f : Fld) (v : Nat) : (d.wr f v).latched = d.latched := rfl
@[simp] theorem Dev.wr_tb (d : Dev) (f : Fld) (v : Nat) : (d.wr f v).tb = d.tb := rfl
@[simp] theorem Dev.wr_pin (d : Dev) (f : Fld) (v : Nat) : (d.wr f v).pin = d.pin := rfl
@[simp] theorem Dev.wr_mem (d : Dev) (f : Fld) (v : Nat) : (d.wr f v).mem = d.mem := rfl
@[simp] theorem Dev.wr_engs (d : Dev) (f : Fld) (v : Nat) : (d.wr f v).engs = d.engs := rfl
@[simp] theorem Dev.wr_deps (d : Dev) (f : Fld) (v : Nat) : (d.wr f v).deps = d.deps := rfl
@[simp] theorem Dev.wr_can (d : Dev) (f : Fld) (v : Nat) : (d.wr f v).can = d.can := rfl
@[simp] theorem Dev.wr_ports (d : Dev) (f : Fld) (v : Nat) : (d.wr f v).ports = d.ports := rfl
@[simp] theorem Dev.wr_fab (d : Dev) (f : Fld) (v : Nat) : (d.wr f v).fab = d.fab := rfl
@[simp] theorem Dev.wr_rings (d : Dev) (f : Fld) (v : Nat) : (d.wr f v).rings = d.rings := rfl
@[simp] theorem Dev.wr_sau (d : Dev) (f : Fld) (v : Nat) : (d.wr f v).sau = d.sau := rfl
@[simp] theorem Dev.wr_mbx (d : Dev) (f : Fld) (v : Nat) : (d.wr f v).mbx = d.mbx := rfl
@[simp] theorem Dev.wr_evr (d : Dev) (f : Fld) (v : Nat) : (d.wr f v).evr = d.evr := rfl
@[simp] theorem Dev.wr_hif (d : Dev) (f : Fld) (v : Nat) : (d.wr f v).hif = d.hif := rfl
@[simp] theorem Dev.wr_ldr (d : Dev) (f : Fld) (v : Nat) : (d.wr f v).ldr = d.ldr := rfl
@[simp] theorem Dev.wr_sup (d : Dev) (f : Fld) (v : Nat) : (d.wr f v).sup = d.sup := rfl
@[simp] theorem Dev.wr_jtag (d : Dev) (f : Fld) (v : Nat) : (d.wr f v).jtag = d.jtag := rfl
@[simp] theorem Dev.wr_refused (d : Dev) (f : Fld) (v : Nat) : (d.wr f v).refused = d.refused := rfl
@[simp] theorem Dev.wr_out (d : Dev) (f : Fld) (v : Nat) : (d.wr f v).out = d.out := rfl
@[simp] theorem Dev.wr_free (d : Dev) (f : Fld) (v : Nat) : (d.wr f v).free = d.free := rfl

@[simp] theorem Dev.put_staged (d : Dev) (f : Fld) (b : Bool) : (d.put f b).staged = d.staged := rfl
@[simp] theorem Dev.put_latched (d : Dev) (f : Fld) (b : Bool) : (d.put f b).latched = d.latched := rfl
@[simp] theorem Dev.put_tb (d : Dev) (f : Fld) (b : Bool) : (d.put f b).tb = d.tb := rfl
@[simp] theorem Dev.put_pin (d : Dev) (f : Fld) (b : Bool) : (d.put f b).pin = d.pin := rfl
@[simp] theorem Dev.put_mem (d : Dev) (f : Fld) (b : Bool) : (d.put f b).mem = d.mem := rfl
@[simp] theorem Dev.put_engs (d : Dev) (f : Fld) (b : Bool) : (d.put f b).engs = d.engs := rfl
@[simp] theorem Dev.put_deps (d : Dev) (f : Fld) (b : Bool) : (d.put f b).deps = d.deps := rfl
@[simp] theorem Dev.put_can (d : Dev) (f : Fld) (b : Bool) : (d.put f b).can = d.can := rfl
@[simp] theorem Dev.put_ports (d : Dev) (f : Fld) (b : Bool) : (d.put f b).ports = d.ports := rfl
@[simp] theorem Dev.put_fab (d : Dev) (f : Fld) (b : Bool) : (d.put f b).fab = d.fab := rfl
@[simp] theorem Dev.put_rings (d : Dev) (f : Fld) (b : Bool) : (d.put f b).rings = d.rings := rfl
@[simp] theorem Dev.put_sau (d : Dev) (f : Fld) (b : Bool) : (d.put f b).sau = d.sau := rfl
@[simp] theorem Dev.put_mbx (d : Dev) (f : Fld) (b : Bool) : (d.put f b).mbx = d.mbx := rfl
@[simp] theorem Dev.put_evr (d : Dev) (f : Fld) (b : Bool) : (d.put f b).evr = d.evr := rfl
@[simp] theorem Dev.put_hif (d : Dev) (f : Fld) (b : Bool) : (d.put f b).hif = d.hif := rfl
@[simp] theorem Dev.put_ldr (d : Dev) (f : Fld) (b : Bool) : (d.put f b).ldr = d.ldr := rfl
@[simp] theorem Dev.put_sup (d : Dev) (f : Fld) (b : Bool) : (d.put f b).sup = d.sup := rfl
@[simp] theorem Dev.put_jtag (d : Dev) (f : Fld) (b : Bool) : (d.put f b).jtag = d.jtag := rfl
@[simp] theorem Dev.put_refused (d : Dev) (f : Fld) (b : Bool) : (d.put f b).refused = d.refused := rfl
@[simp] theorem Dev.put_out (d : Dev) (f : Fld) (b : Bool) : (d.put f b).out = d.out := rfl
@[simp] theorem Dev.put_free (d : Dev) (f : Fld) (b : Bool) : (d.put f b).free = d.free := rfl

@[simp] theorem Dev.incBy_staged (d : Dev) (f : Fld) (n : Nat) : (d.incBy f n).staged = d.staged := rfl
@[simp] theorem Dev.incBy_latched (d : Dev) (f : Fld) (n : Nat) : (d.incBy f n).latched = d.latched := rfl
@[simp] theorem Dev.incBy_tb (d : Dev) (f : Fld) (n : Nat) : (d.incBy f n).tb = d.tb := rfl
@[simp] theorem Dev.incBy_pin (d : Dev) (f : Fld) (n : Nat) : (d.incBy f n).pin = d.pin := rfl
@[simp] theorem Dev.incBy_mem (d : Dev) (f : Fld) (n : Nat) : (d.incBy f n).mem = d.mem := rfl
@[simp] theorem Dev.incBy_engs (d : Dev) (f : Fld) (n : Nat) : (d.incBy f n).engs = d.engs := rfl
@[simp] theorem Dev.incBy_deps (d : Dev) (f : Fld) (n : Nat) : (d.incBy f n).deps = d.deps := rfl
@[simp] theorem Dev.incBy_can (d : Dev) (f : Fld) (n : Nat) : (d.incBy f n).can = d.can := rfl
@[simp] theorem Dev.incBy_ports (d : Dev) (f : Fld) (n : Nat) : (d.incBy f n).ports = d.ports := rfl
@[simp] theorem Dev.incBy_fab (d : Dev) (f : Fld) (n : Nat) : (d.incBy f n).fab = d.fab := rfl
@[simp] theorem Dev.incBy_rings (d : Dev) (f : Fld) (n : Nat) : (d.incBy f n).rings = d.rings := rfl
@[simp] theorem Dev.incBy_sau (d : Dev) (f : Fld) (n : Nat) : (d.incBy f n).sau = d.sau := rfl
@[simp] theorem Dev.incBy_mbx (d : Dev) (f : Fld) (n : Nat) : (d.incBy f n).mbx = d.mbx := rfl
@[simp] theorem Dev.incBy_evr (d : Dev) (f : Fld) (n : Nat) : (d.incBy f n).evr = d.evr := rfl
@[simp] theorem Dev.incBy_hif (d : Dev) (f : Fld) (n : Nat) : (d.incBy f n).hif = d.hif := rfl
@[simp] theorem Dev.incBy_ldr (d : Dev) (f : Fld) (n : Nat) : (d.incBy f n).ldr = d.ldr := rfl
@[simp] theorem Dev.incBy_sup (d : Dev) (f : Fld) (n : Nat) : (d.incBy f n).sup = d.sup := rfl
@[simp] theorem Dev.incBy_jtag (d : Dev) (f : Fld) (n : Nat) : (d.incBy f n).jtag = d.jtag := rfl
@[simp] theorem Dev.incBy_refused (d : Dev) (f : Fld) (n : Nat) : (d.incBy f n).refused = d.refused := rfl
@[simp] theorem Dev.incBy_out (d : Dev) (f : Fld) (n : Nat) : (d.incBy f n).out = d.out := rfl
@[simp] theorem Dev.incBy_free (d : Dev) (f : Fld) (n : Nat) : (d.incBy f n).free = d.free := rfl

@[simp] theorem Dev.inc_staged (d : Dev) (f : Fld) : (d.inc f).staged = d.staged := rfl
@[simp] theorem Dev.inc_latched (d : Dev) (f : Fld) : (d.inc f).latched = d.latched := rfl
@[simp] theorem Dev.inc_tb (d : Dev) (f : Fld) : (d.inc f).tb = d.tb := rfl
@[simp] theorem Dev.inc_pin (d : Dev) (f : Fld) : (d.inc f).pin = d.pin := rfl
@[simp] theorem Dev.inc_mem (d : Dev) (f : Fld) : (d.inc f).mem = d.mem := rfl
@[simp] theorem Dev.inc_engs (d : Dev) (f : Fld) : (d.inc f).engs = d.engs := rfl
@[simp] theorem Dev.inc_deps (d : Dev) (f : Fld) : (d.inc f).deps = d.deps := rfl
@[simp] theorem Dev.inc_can (d : Dev) (f : Fld) : (d.inc f).can = d.can := rfl
@[simp] theorem Dev.inc_ports (d : Dev) (f : Fld) : (d.inc f).ports = d.ports := rfl
@[simp] theorem Dev.inc_fab (d : Dev) (f : Fld) : (d.inc f).fab = d.fab := rfl
@[simp] theorem Dev.inc_rings (d : Dev) (f : Fld) : (d.inc f).rings = d.rings := rfl
@[simp] theorem Dev.inc_sau (d : Dev) (f : Fld) : (d.inc f).sau = d.sau := rfl
@[simp] theorem Dev.inc_mbx (d : Dev) (f : Fld) : (d.inc f).mbx = d.mbx := rfl
@[simp] theorem Dev.inc_evr (d : Dev) (f : Fld) : (d.inc f).evr = d.evr := rfl
@[simp] theorem Dev.inc_hif (d : Dev) (f : Fld) : (d.inc f).hif = d.hif := rfl
@[simp] theorem Dev.inc_ldr (d : Dev) (f : Fld) : (d.inc f).ldr = d.ldr := rfl
@[simp] theorem Dev.inc_sup (d : Dev) (f : Fld) : (d.inc f).sup = d.sup := rfl
@[simp] theorem Dev.inc_jtag (d : Dev) (f : Fld) : (d.inc f).jtag = d.jtag := rfl
@[simp] theorem Dev.inc_refused (d : Dev) (f : Fld) : (d.inc f).refused = d.refused := rfl
@[simp] theorem Dev.inc_out (d : Dev) (f : Fld) : (d.inc f).out = d.out := rfl
@[simp] theorem Dev.inc_free (d : Dev) (f : Fld) : (d.inc f).free = d.free := rfl

@[simp] theorem Dev.clr_staged (d : Dev) (f : Fld) : (d.clr f).staged = d.staged := rfl
@[simp] theorem Dev.clr_latched (d : Dev) (f : Fld) : (d.clr f).latched = d.latched := rfl
@[simp] theorem Dev.clr_tb (d : Dev) (f : Fld) : (d.clr f).tb = d.tb := rfl
@[simp] theorem Dev.clr_pin (d : Dev) (f : Fld) : (d.clr f).pin = d.pin := rfl
@[simp] theorem Dev.clr_mem (d : Dev) (f : Fld) : (d.clr f).mem = d.mem := rfl
@[simp] theorem Dev.clr_engs (d : Dev) (f : Fld) : (d.clr f).engs = d.engs := rfl
@[simp] theorem Dev.clr_deps (d : Dev) (f : Fld) : (d.clr f).deps = d.deps := rfl
@[simp] theorem Dev.clr_can (d : Dev) (f : Fld) : (d.clr f).can = d.can := rfl
@[simp] theorem Dev.clr_ports (d : Dev) (f : Fld) : (d.clr f).ports = d.ports := rfl
@[simp] theorem Dev.clr_fab (d : Dev) (f : Fld) : (d.clr f).fab = d.fab := rfl
@[simp] theorem Dev.clr_rings (d : Dev) (f : Fld) : (d.clr f).rings = d.rings := rfl
@[simp] theorem Dev.clr_sau (d : Dev) (f : Fld) : (d.clr f).sau = d.sau := rfl
@[simp] theorem Dev.clr_mbx (d : Dev) (f : Fld) : (d.clr f).mbx = d.mbx := rfl
@[simp] theorem Dev.clr_evr (d : Dev) (f : Fld) : (d.clr f).evr = d.evr := rfl
@[simp] theorem Dev.clr_hif (d : Dev) (f : Fld) : (d.clr f).hif = d.hif := rfl
@[simp] theorem Dev.clr_ldr (d : Dev) (f : Fld) : (d.clr f).ldr = d.ldr := rfl
@[simp] theorem Dev.clr_sup (d : Dev) (f : Fld) : (d.clr f).sup = d.sup := rfl
@[simp] theorem Dev.clr_jtag (d : Dev) (f : Fld) : (d.clr f).jtag = d.jtag := rfl
@[simp] theorem Dev.clr_refused (d : Dev) (f : Fld) : (d.clr f).refused = d.refused := rfl
@[simp] theorem Dev.clr_out (d : Dev) (f : Fld) : (d.clr f).out = d.out := rfl
@[simp] theorem Dev.clr_free (d : Dev) (f : Fld) : (d.clr f).free = d.free := rfl

@[simp] theorem Dev.setVecPending_staged (d : Dev) (n : Nat) (b : Bool) : (d.setVecPending n b).staged = d.staged := rfl
@[simp] theorem Dev.setVecPending_latched (d : Dev) (n : Nat) (b : Bool) : (d.setVecPending n b).latched = d.latched := rfl
@[simp] theorem Dev.setVecPending_tb (d : Dev) (n : Nat) (b : Bool) : (d.setVecPending n b).tb = d.tb := rfl
@[simp] theorem Dev.setVecPending_pin (d : Dev) (n : Nat) (b : Bool) : (d.setVecPending n b).pin = d.pin := rfl
@[simp] theorem Dev.setVecPending_mem (d : Dev) (n : Nat) (b : Bool) : (d.setVecPending n b).mem = d.mem := rfl
@[simp] theorem Dev.setVecPending_engs (d : Dev) (n : Nat) (b : Bool) : (d.setVecPending n b).engs = d.engs := rfl
@[simp] theorem Dev.setVecPending_deps (d : Dev) (n : Nat) (b : Bool) : (d.setVecPending n b).deps = d.deps := rfl
@[simp] theorem Dev.setVecPending_can (d : Dev) (n : Nat) (b : Bool) : (d.setVecPending n b).can = d.can := rfl
@[simp] theorem Dev.setVecPending_ports (d : Dev) (n : Nat) (b : Bool) : (d.setVecPending n b).ports = d.ports := rfl
@[simp] theorem Dev.setVecPending_fab (d : Dev) (n : Nat) (b : Bool) : (d.setVecPending n b).fab = d.fab := rfl
@[simp] theorem Dev.setVecPending_rings (d : Dev) (n : Nat) (b : Bool) : (d.setVecPending n b).rings = d.rings := rfl
@[simp] theorem Dev.setVecPending_sau (d : Dev) (n : Nat) (b : Bool) : (d.setVecPending n b).sau = d.sau := rfl
@[simp] theorem Dev.setVecPending_mbx (d : Dev) (n : Nat) (b : Bool) : (d.setVecPending n b).mbx = d.mbx := rfl
@[simp] theorem Dev.setVecPending_evr (d : Dev) (n : Nat) (b : Bool) : (d.setVecPending n b).evr = d.evr := rfl
@[simp] theorem Dev.setVecPending_hif (d : Dev) (n : Nat) (b : Bool) : (d.setVecPending n b).hif = d.hif := rfl
@[simp] theorem Dev.setVecPending_ldr (d : Dev) (n : Nat) (b : Bool) : (d.setVecPending n b).ldr = d.ldr := rfl
@[simp] theorem Dev.setVecPending_sup (d : Dev) (n : Nat) (b : Bool) : (d.setVecPending n b).sup = d.sup := rfl
@[simp] theorem Dev.setVecPending_jtag (d : Dev) (n : Nat) (b : Bool) : (d.setVecPending n b).jtag = d.jtag := rfl
@[simp] theorem Dev.setVecPending_refused (d : Dev) (n : Nat) (b : Bool) : (d.setVecPending n b).refused = d.refused := rfl
@[simp] theorem Dev.setVecPending_out (d : Dev) (n : Nat) (b : Bool) : (d.setVecPending n b).out = d.out := rfl
@[simp] theorem Dev.setVecPending_free (d : Dev) (n : Nat) (b : Bool) : (d.setVecPending n b).free = d.free := rfl

@[simp] theorem Dev.emit_regs (d : Dev) (e : Emit) : (d.emit e).regs = d.regs := rfl
@[simp] theorem Dev.emit_staged (d : Dev) (e : Emit) : (d.emit e).staged = d.staged := rfl
@[simp] theorem Dev.emit_latched (d : Dev) (e : Emit) : (d.emit e).latched = d.latched := rfl
@[simp] theorem Dev.emit_tb (d : Dev) (e : Emit) : (d.emit e).tb = d.tb := rfl
@[simp] theorem Dev.emit_pin (d : Dev) (e : Emit) : (d.emit e).pin = d.pin := rfl
@[simp] theorem Dev.emit_mem (d : Dev) (e : Emit) : (d.emit e).mem = d.mem := rfl
@[simp] theorem Dev.emit_engs (d : Dev) (e : Emit) : (d.emit e).engs = d.engs := rfl
@[simp] theorem Dev.emit_deps (d : Dev) (e : Emit) : (d.emit e).deps = d.deps := rfl
@[simp] theorem Dev.emit_can (d : Dev) (e : Emit) : (d.emit e).can = d.can := rfl
@[simp] theorem Dev.emit_ports (d : Dev) (e : Emit) : (d.emit e).ports = d.ports := rfl
@[simp] theorem Dev.emit_fab (d : Dev) (e : Emit) : (d.emit e).fab = d.fab := rfl
@[simp] theorem Dev.emit_rings (d : Dev) (e : Emit) : (d.emit e).rings = d.rings := rfl
@[simp] theorem Dev.emit_sau (d : Dev) (e : Emit) : (d.emit e).sau = d.sau := rfl
@[simp] theorem Dev.emit_mbx (d : Dev) (e : Emit) : (d.emit e).mbx = d.mbx := rfl
@[simp] theorem Dev.emit_evr (d : Dev) (e : Emit) : (d.emit e).evr = d.evr := rfl
@[simp] theorem Dev.emit_hif (d : Dev) (e : Emit) : (d.emit e).hif = d.hif := rfl
@[simp] theorem Dev.emit_ldr (d : Dev) (e : Emit) : (d.emit e).ldr = d.ldr := rfl
@[simp] theorem Dev.emit_sup (d : Dev) (e : Emit) : (d.emit e).sup = d.sup := rfl
@[simp] theorem Dev.emit_jtag (d : Dev) (e : Emit) : (d.emit e).jtag = d.jtag := rfl
@[simp] theorem Dev.emit_refused (d : Dev) (e : Emit) : (d.emit e).refused = d.refused := rfl
@[simp] theorem Dev.emit_free (d : Dev) (e : Emit) : (d.emit e).free = d.free := rfl

@[simp] theorem Dev.setDom_regs (d : Dev) (n : Nat) (x : Domain) : (d.setDom n x).regs = d.regs := rfl
@[simp] theorem Dev.setDom_staged (d : Dev) (n : Nat) (x : Domain) : (d.setDom n x).staged = d.staged := rfl
@[simp] theorem Dev.setDom_latched (d : Dev) (n : Nat) (x : Domain) : (d.setDom n x).latched = d.latched := rfl
@[simp] theorem Dev.setDom_pin (d : Dev) (n : Nat) (x : Domain) : (d.setDom n x).pin = d.pin := rfl
@[simp] theorem Dev.setDom_mem (d : Dev) (n : Nat) (x : Domain) : (d.setDom n x).mem = d.mem := rfl
@[simp] theorem Dev.setDom_engs (d : Dev) (n : Nat) (x : Domain) : (d.setDom n x).engs = d.engs := rfl
@[simp] theorem Dev.setDom_deps (d : Dev) (n : Nat) (x : Domain) : (d.setDom n x).deps = d.deps := rfl
@[simp] theorem Dev.setDom_can (d : Dev) (n : Nat) (x : Domain) : (d.setDom n x).can = d.can := rfl
@[simp] theorem Dev.setDom_ports (d : Dev) (n : Nat) (x : Domain) : (d.setDom n x).ports = d.ports := rfl
@[simp] theorem Dev.setDom_fab (d : Dev) (n : Nat) (x : Domain) : (d.setDom n x).fab = d.fab := rfl
@[simp] theorem Dev.setDom_rings (d : Dev) (n : Nat) (x : Domain) : (d.setDom n x).rings = d.rings := rfl
@[simp] theorem Dev.setDom_sau (d : Dev) (n : Nat) (x : Domain) : (d.setDom n x).sau = d.sau := rfl
@[simp] theorem Dev.setDom_mbx (d : Dev) (n : Nat) (x : Domain) : (d.setDom n x).mbx = d.mbx := rfl
@[simp] theorem Dev.setDom_evr (d : Dev) (n : Nat) (x : Domain) : (d.setDom n x).evr = d.evr := rfl
@[simp] theorem Dev.setDom_hif (d : Dev) (n : Nat) (x : Domain) : (d.setDom n x).hif = d.hif := rfl
@[simp] theorem Dev.setDom_ldr (d : Dev) (n : Nat) (x : Domain) : (d.setDom n x).ldr = d.ldr := rfl
@[simp] theorem Dev.setDom_sup (d : Dev) (n : Nat) (x : Domain) : (d.setDom n x).sup = d.sup := rfl
@[simp] theorem Dev.setDom_jtag (d : Dev) (n : Nat) (x : Domain) : (d.setDom n x).jtag = d.jtag := rfl
@[simp] theorem Dev.setDom_refused (d : Dev) (n : Nat) (x : Domain) : (d.setDom n x).refused = d.refused := rfl
@[simp] theorem Dev.setDom_out (d : Dev) (n : Nat) (x : Domain) : (d.setDom n x).out = d.out := rfl
@[simp] theorem Dev.setDom_free (d : Dev) (n : Nat) (x : Domain) : (d.setDom n x).free = d.free := rfl

@[simp] theorem Dev.setDepQ_regs (d : Dev) (n : Nat) (x : DepQ) : (d.setDepQ n x).regs = d.regs := rfl
@[simp] theorem Dev.setDepQ_staged (d : Dev) (n : Nat) (x : DepQ) : (d.setDepQ n x).staged = d.staged := rfl
@[simp] theorem Dev.setDepQ_latched (d : Dev) (n : Nat) (x : DepQ) : (d.setDepQ n x).latched = d.latched := rfl
@[simp] theorem Dev.setDepQ_pin (d : Dev) (n : Nat) (x : DepQ) : (d.setDepQ n x).pin = d.pin := rfl
@[simp] theorem Dev.setDepQ_mem (d : Dev) (n : Nat) (x : DepQ) : (d.setDepQ n x).mem = d.mem := rfl
@[simp] theorem Dev.setDepQ_engs (d : Dev) (n : Nat) (x : DepQ) : (d.setDepQ n x).engs = d.engs := rfl
@[simp] theorem Dev.setDepQ_deps (d : Dev) (n : Nat) (x : DepQ) : (d.setDepQ n x).deps = d.deps := rfl
@[simp] theorem Dev.setDepQ_can (d : Dev) (n : Nat) (x : DepQ) : (d.setDepQ n x).can = d.can := rfl
@[simp] theorem Dev.setDepQ_ports (d : Dev) (n : Nat) (x : DepQ) : (d.setDepQ n x).ports = d.ports := rfl
@[simp] theorem Dev.setDepQ_fab (d : Dev) (n : Nat) (x : DepQ) : (d.setDepQ n x).fab = d.fab := rfl
@[simp] theorem Dev.setDepQ_rings (d : Dev) (n : Nat) (x : DepQ) : (d.setDepQ n x).rings = d.rings := rfl
@[simp] theorem Dev.setDepQ_sau (d : Dev) (n : Nat) (x : DepQ) : (d.setDepQ n x).sau = d.sau := rfl
@[simp] theorem Dev.setDepQ_mbx (d : Dev) (n : Nat) (x : DepQ) : (d.setDepQ n x).mbx = d.mbx := rfl
@[simp] theorem Dev.setDepQ_evr (d : Dev) (n : Nat) (x : DepQ) : (d.setDepQ n x).evr = d.evr := rfl
@[simp] theorem Dev.setDepQ_hif (d : Dev) (n : Nat) (x : DepQ) : (d.setDepQ n x).hif = d.hif := rfl
@[simp] theorem Dev.setDepQ_ldr (d : Dev) (n : Nat) (x : DepQ) : (d.setDepQ n x).ldr = d.ldr := rfl
@[simp] theorem Dev.setDepQ_sup (d : Dev) (n : Nat) (x : DepQ) : (d.setDepQ n x).sup = d.sup := rfl
@[simp] theorem Dev.setDepQ_jtag (d : Dev) (n : Nat) (x : DepQ) : (d.setDepQ n x).jtag = d.jtag := rfl
@[simp] theorem Dev.setDepQ_refused (d : Dev) (n : Nat) (x : DepQ) : (d.setDepQ n x).refused = d.refused := rfl
@[simp] theorem Dev.setDepQ_out (d : Dev) (n : Nat) (x : DepQ) : (d.setDepQ n x).out = d.out := rfl
@[simp] theorem Dev.setDepQ_free (d : Dev) (n : Nat) (x : DepQ) : (d.setDepQ n x).free = d.free := rfl

@[simp] theorem Dev.setCan_regs (d : Dev) (n : Nat) (x : Can) : (d.setCan n x).regs = d.regs := rfl
@[simp] theorem Dev.setCan_staged (d : Dev) (n : Nat) (x : Can) : (d.setCan n x).staged = d.staged := rfl
@[simp] theorem Dev.setCan_latched (d : Dev) (n : Nat) (x : Can) : (d.setCan n x).latched = d.latched := rfl
@[simp] theorem Dev.setCan_tb (d : Dev) (n : Nat) (x : Can) : (d.setCan n x).tb = d.tb := rfl
@[simp] theorem Dev.setCan_pin (d : Dev) (n : Nat) (x : Can) : (d.setCan n x).pin = d.pin := rfl
@[simp] theorem Dev.setCan_mem (d : Dev) (n : Nat) (x : Can) : (d.setCan n x).mem = d.mem := rfl
@[simp] theorem Dev.setCan_engs (d : Dev) (n : Nat) (x : Can) : (d.setCan n x).engs = d.engs := rfl
@[simp] theorem Dev.setCan_deps (d : Dev) (n : Nat) (x : Can) : (d.setCan n x).deps = d.deps := rfl
@[simp] theorem Dev.setCan_ports (d : Dev) (n : Nat) (x : Can) : (d.setCan n x).ports = d.ports := rfl
@[simp] theorem Dev.setCan_fab (d : Dev) (n : Nat) (x : Can) : (d.setCan n x).fab = d.fab := rfl
@[simp] theorem Dev.setCan_rings (d : Dev) (n : Nat) (x : Can) : (d.setCan n x).rings = d.rings := rfl
@[simp] theorem Dev.setCan_sau (d : Dev) (n : Nat) (x : Can) : (d.setCan n x).sau = d.sau := rfl
@[simp] theorem Dev.setCan_mbx (d : Dev) (n : Nat) (x : Can) : (d.setCan n x).mbx = d.mbx := rfl
@[simp] theorem Dev.setCan_evr (d : Dev) (n : Nat) (x : Can) : (d.setCan n x).evr = d.evr := rfl
@[simp] theorem Dev.setCan_hif (d : Dev) (n : Nat) (x : Can) : (d.setCan n x).hif = d.hif := rfl
@[simp] theorem Dev.setCan_ldr (d : Dev) (n : Nat) (x : Can) : (d.setCan n x).ldr = d.ldr := rfl
@[simp] theorem Dev.setCan_sup (d : Dev) (n : Nat) (x : Can) : (d.setCan n x).sup = d.sup := rfl
@[simp] theorem Dev.setCan_jtag (d : Dev) (n : Nat) (x : Can) : (d.setCan n x).jtag = d.jtag := rfl
@[simp] theorem Dev.setCan_refused (d : Dev) (n : Nat) (x : Can) : (d.setCan n x).refused = d.refused := rfl
@[simp] theorem Dev.setCan_out (d : Dev) (n : Nat) (x : Can) : (d.setCan n x).out = d.out := rfl
@[simp] theorem Dev.setCan_free (d : Dev) (n : Nat) (x : Can) : (d.setCan n x).free = d.free := rfl

@[simp] theorem Dev.setEng_regs (d : Dev) (n : Nat) (x : Eng) : (d.setEng n x).regs = d.regs := rfl
@[simp] theorem Dev.setEng_staged (d : Dev) (n : Nat) (x : Eng) : (d.setEng n x).staged = d.staged := rfl
@[simp] theorem Dev.setEng_latched (d : Dev) (n : Nat) (x : Eng) : (d.setEng n x).latched = d.latched := rfl
@[simp] theorem Dev.setEng_tb (d : Dev) (n : Nat) (x : Eng) : (d.setEng n x).tb = d.tb := rfl
@[simp] theorem Dev.setEng_pin (d : Dev) (n : Nat) (x : Eng) : (d.setEng n x).pin = d.pin := rfl
@[simp] theorem Dev.setEng_mem (d : Dev) (n : Nat) (x : Eng) : (d.setEng n x).mem = d.mem := rfl
@[simp] theorem Dev.setEng_deps (d : Dev) (n : Nat) (x : Eng) : (d.setEng n x).deps = d.deps := rfl
@[simp] theorem Dev.setEng_can (d : Dev) (n : Nat) (x : Eng) : (d.setEng n x).can = d.can := rfl
@[simp] theorem Dev.setEng_ports (d : Dev) (n : Nat) (x : Eng) : (d.setEng n x).ports = d.ports := rfl
@[simp] theorem Dev.setEng_fab (d : Dev) (n : Nat) (x : Eng) : (d.setEng n x).fab = d.fab := rfl
@[simp] theorem Dev.setEng_rings (d : Dev) (n : Nat) (x : Eng) : (d.setEng n x).rings = d.rings := rfl
@[simp] theorem Dev.setEng_sau (d : Dev) (n : Nat) (x : Eng) : (d.setEng n x).sau = d.sau := rfl
@[simp] theorem Dev.setEng_mbx (d : Dev) (n : Nat) (x : Eng) : (d.setEng n x).mbx = d.mbx := rfl
@[simp] theorem Dev.setEng_evr (d : Dev) (n : Nat) (x : Eng) : (d.setEng n x).evr = d.evr := rfl
@[simp] theorem Dev.setEng_hif (d : Dev) (n : Nat) (x : Eng) : (d.setEng n x).hif = d.hif := rfl
@[simp] theorem Dev.setEng_ldr (d : Dev) (n : Nat) (x : Eng) : (d.setEng n x).ldr = d.ldr := rfl
@[simp] theorem Dev.setEng_sup (d : Dev) (n : Nat) (x : Eng) : (d.setEng n x).sup = d.sup := rfl
@[simp] theorem Dev.setEng_jtag (d : Dev) (n : Nat) (x : Eng) : (d.setEng n x).jtag = d.jtag := rfl
@[simp] theorem Dev.setEng_refused (d : Dev) (n : Nat) (x : Eng) : (d.setEng n x).refused = d.refused := rfl
@[simp] theorem Dev.setEng_out (d : Dev) (n : Nat) (x : Eng) : (d.setEng n x).out = d.out := rfl
@[simp] theorem Dev.setEng_free (d : Dev) (n : Nat) (x : Eng) : (d.setEng n x).free = d.free := rfl

@[simp] theorem Dev.modEng_regs (d : Dev) (n : Nat) (g : Eng → Eng) : (d.modEng n g).regs = d.regs := rfl
@[simp] theorem Dev.modEng_staged (d : Dev) (n : Nat) (g : Eng → Eng) : (d.modEng n g).staged = d.staged := rfl
@[simp] theorem Dev.modEng_latched (d : Dev) (n : Nat) (g : Eng → Eng) : (d.modEng n g).latched = d.latched := rfl
@[simp] theorem Dev.modEng_tb (d : Dev) (n : Nat) (g : Eng → Eng) : (d.modEng n g).tb = d.tb := rfl
@[simp] theorem Dev.modEng_pin (d : Dev) (n : Nat) (g : Eng → Eng) : (d.modEng n g).pin = d.pin := rfl
@[simp] theorem Dev.modEng_mem (d : Dev) (n : Nat) (g : Eng → Eng) : (d.modEng n g).mem = d.mem := rfl
@[simp] theorem Dev.modEng_deps (d : Dev) (n : Nat) (g : Eng → Eng) : (d.modEng n g).deps = d.deps := rfl
@[simp] theorem Dev.modEng_can (d : Dev) (n : Nat) (g : Eng → Eng) : (d.modEng n g).can = d.can := rfl
@[simp] theorem Dev.modEng_ports (d : Dev) (n : Nat) (g : Eng → Eng) : (d.modEng n g).ports = d.ports := rfl
@[simp] theorem Dev.modEng_fab (d : Dev) (n : Nat) (g : Eng → Eng) : (d.modEng n g).fab = d.fab := rfl
@[simp] theorem Dev.modEng_rings (d : Dev) (n : Nat) (g : Eng → Eng) : (d.modEng n g).rings = d.rings := rfl
@[simp] theorem Dev.modEng_sau (d : Dev) (n : Nat) (g : Eng → Eng) : (d.modEng n g).sau = d.sau := rfl
@[simp] theorem Dev.modEng_mbx (d : Dev) (n : Nat) (g : Eng → Eng) : (d.modEng n g).mbx = d.mbx := rfl
@[simp] theorem Dev.modEng_evr (d : Dev) (n : Nat) (g : Eng → Eng) : (d.modEng n g).evr = d.evr := rfl
@[simp] theorem Dev.modEng_hif (d : Dev) (n : Nat) (g : Eng → Eng) : (d.modEng n g).hif = d.hif := rfl
@[simp] theorem Dev.modEng_ldr (d : Dev) (n : Nat) (g : Eng → Eng) : (d.modEng n g).ldr = d.ldr := rfl
@[simp] theorem Dev.modEng_sup (d : Dev) (n : Nat) (g : Eng → Eng) : (d.modEng n g).sup = d.sup := rfl
@[simp] theorem Dev.modEng_jtag (d : Dev) (n : Nat) (g : Eng → Eng) : (d.modEng n g).jtag = d.jtag := rfl
@[simp] theorem Dev.modEng_refused (d : Dev) (n : Nat) (g : Eng → Eng) : (d.modEng n g).refused = d.refused := rfl
@[simp] theorem Dev.modEng_out (d : Dev) (n : Nat) (g : Eng → Eng) : (d.modEng n g).out = d.out := rfl
@[simp] theorem Dev.modEng_free (d : Dev) (n : Nat) (g : Eng → Eng) : (d.modEng n g).free = d.free := rfl

@[simp] theorem Dev.setDepot_regs (d : Dev) (n : Nat) (x : Depot) : (d.setDepot n x).regs = d.regs := rfl
@[simp] theorem Dev.setDepot_staged (d : Dev) (n : Nat) (x : Depot) : (d.setDepot n x).staged = d.staged := rfl
@[simp] theorem Dev.setDepot_latched (d : Dev) (n : Nat) (x : Depot) : (d.setDepot n x).latched = d.latched := rfl
@[simp] theorem Dev.setDepot_tb (d : Dev) (n : Nat) (x : Depot) : (d.setDepot n x).tb = d.tb := rfl
@[simp] theorem Dev.setDepot_pin (d : Dev) (n : Nat) (x : Depot) : (d.setDepot n x).pin = d.pin := rfl
@[simp] theorem Dev.setDepot_mem (d : Dev) (n : Nat) (x : Depot) : (d.setDepot n x).mem = d.mem := rfl
@[simp] theorem Dev.setDepot_engs (d : Dev) (n : Nat) (x : Depot) : (d.setDepot n x).engs = d.engs := rfl
@[simp] theorem Dev.setDepot_can (d : Dev) (n : Nat) (x : Depot) : (d.setDepot n x).can = d.can := rfl
@[simp] theorem Dev.setDepot_ports (d : Dev) (n : Nat) (x : Depot) : (d.setDepot n x).ports = d.ports := rfl
@[simp] theorem Dev.setDepot_fab (d : Dev) (n : Nat) (x : Depot) : (d.setDepot n x).fab = d.fab := rfl
@[simp] theorem Dev.setDepot_rings (d : Dev) (n : Nat) (x : Depot) : (d.setDepot n x).rings = d.rings := rfl
@[simp] theorem Dev.setDepot_sau (d : Dev) (n : Nat) (x : Depot) : (d.setDepot n x).sau = d.sau := rfl
@[simp] theorem Dev.setDepot_mbx (d : Dev) (n : Nat) (x : Depot) : (d.setDepot n x).mbx = d.mbx := rfl
@[simp] theorem Dev.setDepot_evr (d : Dev) (n : Nat) (x : Depot) : (d.setDepot n x).evr = d.evr := rfl
@[simp] theorem Dev.setDepot_hif (d : Dev) (n : Nat) (x : Depot) : (d.setDepot n x).hif = d.hif := rfl
@[simp] theorem Dev.setDepot_ldr (d : Dev) (n : Nat) (x : Depot) : (d.setDepot n x).ldr = d.ldr := rfl
@[simp] theorem Dev.setDepot_sup (d : Dev) (n : Nat) (x : Depot) : (d.setDepot n x).sup = d.sup := rfl
@[simp] theorem Dev.setDepot_jtag (d : Dev) (n : Nat) (x : Depot) : (d.setDepot n x).jtag = d.jtag := rfl
@[simp] theorem Dev.setDepot_refused (d : Dev) (n : Nat) (x : Depot) : (d.setDepot n x).refused = d.refused := rfl
@[simp] theorem Dev.setDepot_out (d : Dev) (n : Nat) (x : Depot) : (d.setDepot n x).out = d.out := rfl
@[simp] theorem Dev.setDepot_free (d : Dev) (n : Nat) (x : Depot) : (d.setDepot n x).free = d.free := rfl

@[simp] theorem Dev.setBox_regs (d : Dev) (n : Nat) (x : Mailbox) : (d.setBox n x).regs = d.regs := rfl
@[simp] theorem Dev.setBox_staged (d : Dev) (n : Nat) (x : Mailbox) : (d.setBox n x).staged = d.staged := rfl
@[simp] theorem Dev.setBox_latched (d : Dev) (n : Nat) (x : Mailbox) : (d.setBox n x).latched = d.latched := rfl
@[simp] theorem Dev.setBox_tb (d : Dev) (n : Nat) (x : Mailbox) : (d.setBox n x).tb = d.tb := rfl
@[simp] theorem Dev.setBox_pin (d : Dev) (n : Nat) (x : Mailbox) : (d.setBox n x).pin = d.pin := rfl
@[simp] theorem Dev.setBox_mem (d : Dev) (n : Nat) (x : Mailbox) : (d.setBox n x).mem = d.mem := rfl
@[simp] theorem Dev.setBox_engs (d : Dev) (n : Nat) (x : Mailbox) : (d.setBox n x).engs = d.engs := rfl
@[simp] theorem Dev.setBox_deps (d : Dev) (n : Nat) (x : Mailbox) : (d.setBox n x).deps = d.deps := rfl
@[simp] theorem Dev.setBox_can (d : Dev) (n : Nat) (x : Mailbox) : (d.setBox n x).can = d.can := rfl
@[simp] theorem Dev.setBox_ports (d : Dev) (n : Nat) (x : Mailbox) : (d.setBox n x).ports = d.ports := rfl
@[simp] theorem Dev.setBox_fab (d : Dev) (n : Nat) (x : Mailbox) : (d.setBox n x).fab = d.fab := rfl
@[simp] theorem Dev.setBox_rings (d : Dev) (n : Nat) (x : Mailbox) : (d.setBox n x).rings = d.rings := rfl
@[simp] theorem Dev.setBox_sau (d : Dev) (n : Nat) (x : Mailbox) : (d.setBox n x).sau = d.sau := rfl
@[simp] theorem Dev.setBox_evr (d : Dev) (n : Nat) (x : Mailbox) : (d.setBox n x).evr = d.evr := rfl
@[simp] theorem Dev.setBox_hif (d : Dev) (n : Nat) (x : Mailbox) : (d.setBox n x).hif = d.hif := rfl
@[simp] theorem Dev.setBox_ldr (d : Dev) (n : Nat) (x : Mailbox) : (d.setBox n x).ldr = d.ldr := rfl
@[simp] theorem Dev.setBox_sup (d : Dev) (n : Nat) (x : Mailbox) : (d.setBox n x).sup = d.sup := rfl
@[simp] theorem Dev.setBox_jtag (d : Dev) (n : Nat) (x : Mailbox) : (d.setBox n x).jtag = d.jtag := rfl
@[simp] theorem Dev.setBox_refused (d : Dev) (n : Nat) (x : Mailbox) : (d.setBox n x).refused = d.refused := rfl
@[simp] theorem Dev.setBox_out (d : Dev) (n : Nat) (x : Mailbox) : (d.setBox n x).out = d.out := rfl
@[simp] theorem Dev.setBox_free (d : Dev) (n : Nat) (x : Mailbox) : (d.setBox n x).free = d.free := rfl

@[simp] theorem Dev.setLock_regs (d : Dev) (n : Nat) (x : Lock) : (d.setLock n x).regs = d.regs := rfl
@[simp] theorem Dev.setLock_staged (d : Dev) (n : Nat) (x : Lock) : (d.setLock n x).staged = d.staged := rfl
@[simp] theorem Dev.setLock_latched (d : Dev) (n : Nat) (x : Lock) : (d.setLock n x).latched = d.latched := rfl
@[simp] theorem Dev.setLock_tb (d : Dev) (n : Nat) (x : Lock) : (d.setLock n x).tb = d.tb := rfl
@[simp] theorem Dev.setLock_pin (d : Dev) (n : Nat) (x : Lock) : (d.setLock n x).pin = d.pin := rfl
@[simp] theorem Dev.setLock_mem (d : Dev) (n : Nat) (x : Lock) : (d.setLock n x).mem = d.mem := rfl
@[simp] theorem Dev.setLock_engs (d : Dev) (n : Nat) (x : Lock) : (d.setLock n x).engs = d.engs := rfl
@[simp] theorem Dev.setLock_deps (d : Dev) (n : Nat) (x : Lock) : (d.setLock n x).deps = d.deps := rfl
@[simp] theorem Dev.setLock_can (d : Dev) (n : Nat) (x : Lock) : (d.setLock n x).can = d.can := rfl
@[simp] theorem Dev.setLock_ports (d : Dev) (n : Nat) (x : Lock) : (d.setLock n x).ports = d.ports := rfl
@[simp] theorem Dev.setLock_fab (d : Dev) (n : Nat) (x : Lock) : (d.setLock n x).fab = d.fab := rfl
@[simp] theorem Dev.setLock_rings (d : Dev) (n : Nat) (x : Lock) : (d.setLock n x).rings = d.rings := rfl
@[simp] theorem Dev.setLock_sau (d : Dev) (n : Nat) (x : Lock) : (d.setLock n x).sau = d.sau := rfl
@[simp] theorem Dev.setLock_evr (d : Dev) (n : Nat) (x : Lock) : (d.setLock n x).evr = d.evr := rfl
@[simp] theorem Dev.setLock_hif (d : Dev) (n : Nat) (x : Lock) : (d.setLock n x).hif = d.hif := rfl
@[simp] theorem Dev.setLock_ldr (d : Dev) (n : Nat) (x : Lock) : (d.setLock n x).ldr = d.ldr := rfl
@[simp] theorem Dev.setLock_sup (d : Dev) (n : Nat) (x : Lock) : (d.setLock n x).sup = d.sup := rfl
@[simp] theorem Dev.setLock_jtag (d : Dev) (n : Nat) (x : Lock) : (d.setLock n x).jtag = d.jtag := rfl
@[simp] theorem Dev.setLock_refused (d : Dev) (n : Nat) (x : Lock) : (d.setLock n x).refused = d.refused := rfl
@[simp] theorem Dev.setLock_out (d : Dev) (n : Nat) (x : Lock) : (d.setLock n x).out = d.out := rfl
@[simp] theorem Dev.setLock_free (d : Dev) (n : Nat) (x : Lock) : (d.setLock n x).free = d.free := rfl

@[simp] theorem Dev.setQueue_regs (d : Dev) (n : Nat) (x : Queue) : (d.setQueue n x).regs = d.regs := rfl
@[simp] theorem Dev.setQueue_staged (d : Dev) (n : Nat) (x : Queue) : (d.setQueue n x).staged = d.staged := rfl
@[simp] theorem Dev.setQueue_latched (d : Dev) (n : Nat) (x : Queue) : (d.setQueue n x).latched = d.latched := rfl
@[simp] theorem Dev.setQueue_tb (d : Dev) (n : Nat) (x : Queue) : (d.setQueue n x).tb = d.tb := rfl
@[simp] theorem Dev.setQueue_pin (d : Dev) (n : Nat) (x : Queue) : (d.setQueue n x).pin = d.pin := rfl
@[simp] theorem Dev.setQueue_engs (d : Dev) (n : Nat) (x : Queue) : (d.setQueue n x).engs = d.engs := rfl
@[simp] theorem Dev.setQueue_deps (d : Dev) (n : Nat) (x : Queue) : (d.setQueue n x).deps = d.deps := rfl
@[simp] theorem Dev.setQueue_can (d : Dev) (n : Nat) (x : Queue) : (d.setQueue n x).can = d.can := rfl
@[simp] theorem Dev.setQueue_ports (d : Dev) (n : Nat) (x : Queue) : (d.setQueue n x).ports = d.ports := rfl
@[simp] theorem Dev.setQueue_fab (d : Dev) (n : Nat) (x : Queue) : (d.setQueue n x).fab = d.fab := rfl
@[simp] theorem Dev.setQueue_rings (d : Dev) (n : Nat) (x : Queue) : (d.setQueue n x).rings = d.rings := rfl
@[simp] theorem Dev.setQueue_sau (d : Dev) (n : Nat) (x : Queue) : (d.setQueue n x).sau = d.sau := rfl
@[simp] theorem Dev.setQueue_mbx (d : Dev) (n : Nat) (x : Queue) : (d.setQueue n x).mbx = d.mbx := rfl
@[simp] theorem Dev.setQueue_evr (d : Dev) (n : Nat) (x : Queue) : (d.setQueue n x).evr = d.evr := rfl
@[simp] theorem Dev.setQueue_hif (d : Dev) (n : Nat) (x : Queue) : (d.setQueue n x).hif = d.hif := rfl
@[simp] theorem Dev.setQueue_ldr (d : Dev) (n : Nat) (x : Queue) : (d.setQueue n x).ldr = d.ldr := rfl
@[simp] theorem Dev.setQueue_sup (d : Dev) (n : Nat) (x : Queue) : (d.setQueue n x).sup = d.sup := rfl
@[simp] theorem Dev.setQueue_jtag (d : Dev) (n : Nat) (x : Queue) : (d.setQueue n x).jtag = d.jtag := rfl
@[simp] theorem Dev.setQueue_refused (d : Dev) (n : Nat) (x : Queue) : (d.setQueue n x).refused = d.refused := rfl
@[simp] theorem Dev.setQueue_out (d : Dev) (n : Nat) (x : Queue) : (d.setQueue n x).out = d.out := rfl
@[simp] theorem Dev.setQueue_free (d : Dev) (n : Nat) (x : Queue) : (d.setQueue n x).free = d.free := rfl

@[simp] theorem Dev.setPn_regs (d : Dev) (n : Nat) (x : Pin) : (d.setPn n x).regs = d.regs := rfl
@[simp] theorem Dev.setPn_staged (d : Dev) (n : Nat) (x : Pin) : (d.setPn n x).staged = d.staged := rfl
@[simp] theorem Dev.setPn_latched (d : Dev) (n : Nat) (x : Pin) : (d.setPn n x).latched = d.latched := rfl
@[simp] theorem Dev.setPn_tb (d : Dev) (n : Nat) (x : Pin) : (d.setPn n x).tb = d.tb := rfl
@[simp] theorem Dev.setPn_mem (d : Dev) (n : Nat) (x : Pin) : (d.setPn n x).mem = d.mem := rfl
@[simp] theorem Dev.setPn_engs (d : Dev) (n : Nat) (x : Pin) : (d.setPn n x).engs = d.engs := rfl
@[simp] theorem Dev.setPn_deps (d : Dev) (n : Nat) (x : Pin) : (d.setPn n x).deps = d.deps := rfl
@[simp] theorem Dev.setPn_can (d : Dev) (n : Nat) (x : Pin) : (d.setPn n x).can = d.can := rfl
@[simp] theorem Dev.setPn_ports (d : Dev) (n : Nat) (x : Pin) : (d.setPn n x).ports = d.ports := rfl
@[simp] theorem Dev.setPn_fab (d : Dev) (n : Nat) (x : Pin) : (d.setPn n x).fab = d.fab := rfl
@[simp] theorem Dev.setPn_rings (d : Dev) (n : Nat) (x : Pin) : (d.setPn n x).rings = d.rings := rfl
@[simp] theorem Dev.setPn_sau (d : Dev) (n : Nat) (x : Pin) : (d.setPn n x).sau = d.sau := rfl
@[simp] theorem Dev.setPn_mbx (d : Dev) (n : Nat) (x : Pin) : (d.setPn n x).mbx = d.mbx := rfl
@[simp] theorem Dev.setPn_evr (d : Dev) (n : Nat) (x : Pin) : (d.setPn n x).evr = d.evr := rfl
@[simp] theorem Dev.setPn_hif (d : Dev) (n : Nat) (x : Pin) : (d.setPn n x).hif = d.hif := rfl
@[simp] theorem Dev.setPn_ldr (d : Dev) (n : Nat) (x : Pin) : (d.setPn n x).ldr = d.ldr := rfl
@[simp] theorem Dev.setPn_sup (d : Dev) (n : Nat) (x : Pin) : (d.setPn n x).sup = d.sup := rfl
@[simp] theorem Dev.setPn_jtag (d : Dev) (n : Nat) (x : Pin) : (d.setPn n x).jtag = d.jtag := rfl
@[simp] theorem Dev.setPn_refused (d : Dev) (n : Nat) (x : Pin) : (d.setPn n x).refused = d.refused := rfl
@[simp] theorem Dev.setPn_out (d : Dev) (n : Nat) (x : Pin) : (d.setPn n x).out = d.out := rfl
@[simp] theorem Dev.setPn_free (d : Dev) (n : Nat) (x : Pin) : (d.setPn n x).free = d.free := rfl

@[simp] theorem Dev.setSeq_regs (d : Dev) (n : Nat) (x : Seq) : (d.setSeq n x).regs = d.regs := rfl
@[simp] theorem Dev.setSeq_staged (d : Dev) (n : Nat) (x : Seq) : (d.setSeq n x).staged = d.staged := rfl
@[simp] theorem Dev.setSeq_latched (d : Dev) (n : Nat) (x : Seq) : (d.setSeq n x).latched = d.latched := rfl
@[simp] theorem Dev.setSeq_tb (d : Dev) (n : Nat) (x : Seq) : (d.setSeq n x).tb = d.tb := rfl
@[simp] theorem Dev.setSeq_mem (d : Dev) (n : Nat) (x : Seq) : (d.setSeq n x).mem = d.mem := rfl
@[simp] theorem Dev.setSeq_engs (d : Dev) (n : Nat) (x : Seq) : (d.setSeq n x).engs = d.engs := rfl
@[simp] theorem Dev.setSeq_deps (d : Dev) (n : Nat) (x : Seq) : (d.setSeq n x).deps = d.deps := rfl
@[simp] theorem Dev.setSeq_can (d : Dev) (n : Nat) (x : Seq) : (d.setSeq n x).can = d.can := rfl
@[simp] theorem Dev.setSeq_ports (d : Dev) (n : Nat) (x : Seq) : (d.setSeq n x).ports = d.ports := rfl
@[simp] theorem Dev.setSeq_fab (d : Dev) (n : Nat) (x : Seq) : (d.setSeq n x).fab = d.fab := rfl
@[simp] theorem Dev.setSeq_rings (d : Dev) (n : Nat) (x : Seq) : (d.setSeq n x).rings = d.rings := rfl
@[simp] theorem Dev.setSeq_sau (d : Dev) (n : Nat) (x : Seq) : (d.setSeq n x).sau = d.sau := rfl
@[simp] theorem Dev.setSeq_mbx (d : Dev) (n : Nat) (x : Seq) : (d.setSeq n x).mbx = d.mbx := rfl
@[simp] theorem Dev.setSeq_evr (d : Dev) (n : Nat) (x : Seq) : (d.setSeq n x).evr = d.evr := rfl
@[simp] theorem Dev.setSeq_hif (d : Dev) (n : Nat) (x : Seq) : (d.setSeq n x).hif = d.hif := rfl
@[simp] theorem Dev.setSeq_ldr (d : Dev) (n : Nat) (x : Seq) : (d.setSeq n x).ldr = d.ldr := rfl
@[simp] theorem Dev.setSeq_sup (d : Dev) (n : Nat) (x : Seq) : (d.setSeq n x).sup = d.sup := rfl
@[simp] theorem Dev.setSeq_jtag (d : Dev) (n : Nat) (x : Seq) : (d.setSeq n x).jtag = d.jtag := rfl
@[simp] theorem Dev.setSeq_refused (d : Dev) (n : Nat) (x : Seq) : (d.setSeq n x).refused = d.refused := rfl
@[simp] theorem Dev.setSeq_out (d : Dev) (n : Nat) (x : Seq) : (d.setSeq n x).out = d.out := rfl
@[simp] theorem Dev.setSeq_free (d : Dev) (n : Nat) (x : Seq) : (d.setSeq n x).free = d.free := rfl

@[simp] theorem Dev.setGrp_regs (d : Dev) (n : Nat) (x : Grp) : (d.setGrp n x).regs = d.regs := rfl
@[simp] theorem Dev.setGrp_staged (d : Dev) (n : Nat) (x : Grp) : (d.setGrp n x).staged = d.staged := rfl
@[simp] theorem Dev.setGrp_latched (d : Dev) (n : Nat) (x : Grp) : (d.setGrp n x).latched = d.latched := rfl
@[simp] theorem Dev.setGrp_tb (d : Dev) (n : Nat) (x : Grp) : (d.setGrp n x).tb = d.tb := rfl
@[simp] theorem Dev.setGrp_mem (d : Dev) (n : Nat) (x : Grp) : (d.setGrp n x).mem = d.mem := rfl
@[simp] theorem Dev.setGrp_engs (d : Dev) (n : Nat) (x : Grp) : (d.setGrp n x).engs = d.engs := rfl
@[simp] theorem Dev.setGrp_deps (d : Dev) (n : Nat) (x : Grp) : (d.setGrp n x).deps = d.deps := rfl
@[simp] theorem Dev.setGrp_can (d : Dev) (n : Nat) (x : Grp) : (d.setGrp n x).can = d.can := rfl
@[simp] theorem Dev.setGrp_ports (d : Dev) (n : Nat) (x : Grp) : (d.setGrp n x).ports = d.ports := rfl
@[simp] theorem Dev.setGrp_fab (d : Dev) (n : Nat) (x : Grp) : (d.setGrp n x).fab = d.fab := rfl
@[simp] theorem Dev.setGrp_rings (d : Dev) (n : Nat) (x : Grp) : (d.setGrp n x).rings = d.rings := rfl
@[simp] theorem Dev.setGrp_sau (d : Dev) (n : Nat) (x : Grp) : (d.setGrp n x).sau = d.sau := rfl
@[simp] theorem Dev.setGrp_mbx (d : Dev) (n : Nat) (x : Grp) : (d.setGrp n x).mbx = d.mbx := rfl
@[simp] theorem Dev.setGrp_evr (d : Dev) (n : Nat) (x : Grp) : (d.setGrp n x).evr = d.evr := rfl
@[simp] theorem Dev.setGrp_hif (d : Dev) (n : Nat) (x : Grp) : (d.setGrp n x).hif = d.hif := rfl
@[simp] theorem Dev.setGrp_ldr (d : Dev) (n : Nat) (x : Grp) : (d.setGrp n x).ldr = d.ldr := rfl
@[simp] theorem Dev.setGrp_sup (d : Dev) (n : Nat) (x : Grp) : (d.setGrp n x).sup = d.sup := rfl
@[simp] theorem Dev.setGrp_jtag (d : Dev) (n : Nat) (x : Grp) : (d.setGrp n x).jtag = d.jtag := rfl
@[simp] theorem Dev.setGrp_refused (d : Dev) (n : Nat) (x : Grp) : (d.setGrp n x).refused = d.refused := rfl
@[simp] theorem Dev.setGrp_out (d : Dev) (n : Nat) (x : Grp) : (d.setGrp n x).out = d.out := rfl
@[simp] theorem Dev.setGrp_free (d : Dev) (n : Nat) (x : Grp) : (d.setGrp n x).free = d.free := rfl

@[simp] theorem Dev.setMatrix_staged (d : Dev) (n : Nat) (x : Matrix) : (d.setMatrix n x).staged = d.staged := rfl
@[simp] theorem Dev.setMatrix_latched (d : Dev) (n : Nat) (x : Matrix) : (d.setMatrix n x).latched = d.latched := rfl
@[simp] theorem Dev.setMatrix_tb (d : Dev) (n : Nat) (x : Matrix) : (d.setMatrix n x).tb = d.tb := rfl
@[simp] theorem Dev.setMatrix_pin (d : Dev) (n : Nat) (x : Matrix) : (d.setMatrix n x).pin = d.pin := rfl
@[simp] theorem Dev.setMatrix_mem (d : Dev) (n : Nat) (x : Matrix) : (d.setMatrix n x).mem = d.mem := rfl
@[simp] theorem Dev.setMatrix_engs (d : Dev) (n : Nat) (x : Matrix) : (d.setMatrix n x).engs = d.engs := rfl
@[simp] theorem Dev.setMatrix_deps (d : Dev) (n : Nat) (x : Matrix) : (d.setMatrix n x).deps = d.deps := rfl
@[simp] theorem Dev.setMatrix_can (d : Dev) (n : Nat) (x : Matrix) : (d.setMatrix n x).can = d.can := rfl
@[simp] theorem Dev.setMatrix_ports (d : Dev) (n : Nat) (x : Matrix) : (d.setMatrix n x).ports = d.ports := rfl
@[simp] theorem Dev.setMatrix_fab (d : Dev) (n : Nat) (x : Matrix) : (d.setMatrix n x).fab = d.fab := rfl
@[simp] theorem Dev.setMatrix_rings (d : Dev) (n : Nat) (x : Matrix) : (d.setMatrix n x).rings = d.rings := rfl
@[simp] theorem Dev.setMatrix_mbx (d : Dev) (n : Nat) (x : Matrix) : (d.setMatrix n x).mbx = d.mbx := rfl
@[simp] theorem Dev.setMatrix_evr (d : Dev) (n : Nat) (x : Matrix) : (d.setMatrix n x).evr = d.evr := rfl
@[simp] theorem Dev.setMatrix_hif (d : Dev) (n : Nat) (x : Matrix) : (d.setMatrix n x).hif = d.hif := rfl
@[simp] theorem Dev.setMatrix_ldr (d : Dev) (n : Nat) (x : Matrix) : (d.setMatrix n x).ldr = d.ldr := rfl
@[simp] theorem Dev.setMatrix_sup (d : Dev) (n : Nat) (x : Matrix) : (d.setMatrix n x).sup = d.sup := rfl
@[simp] theorem Dev.setMatrix_jtag (d : Dev) (n : Nat) (x : Matrix) : (d.setMatrix n x).jtag = d.jtag := rfl
@[simp] theorem Dev.setMatrix_refused (d : Dev) (n : Nat) (x : Matrix) : (d.setMatrix n x).refused = d.refused := rfl
@[simp] theorem Dev.setMatrix_out (d : Dev) (n : Nat) (x : Matrix) : (d.setMatrix n x).out = d.out := rfl
@[simp] theorem Dev.setMatrix_free (d : Dev) (n : Nat) (x : Matrix) : (d.setMatrix n x).free = d.free := rfl

@[simp] theorem Dev.setStream_regs (d : Dev) (n : Nat) (x : Stream) : (d.setStream n x).regs = d.regs := rfl
@[simp] theorem Dev.setStream_staged (d : Dev) (n : Nat) (x : Stream) : (d.setStream n x).staged = d.staged := rfl
@[simp] theorem Dev.setStream_latched (d : Dev) (n : Nat) (x : Stream) : (d.setStream n x).latched = d.latched := rfl
@[simp] theorem Dev.setStream_tb (d : Dev) (n : Nat) (x : Stream) : (d.setStream n x).tb = d.tb := rfl
@[simp] theorem Dev.setStream_pin (d : Dev) (n : Nat) (x : Stream) : (d.setStream n x).pin = d.pin := rfl
@[simp] theorem Dev.setStream_mem (d : Dev) (n : Nat) (x : Stream) : (d.setStream n x).mem = d.mem := rfl
@[simp] theorem Dev.setStream_engs (d : Dev) (n : Nat) (x : Stream) : (d.setStream n x).engs = d.engs := rfl
@[simp] theorem Dev.setStream_deps (d : Dev) (n : Nat) (x : Stream) : (d.setStream n x).deps = d.deps := rfl
@[simp] theorem Dev.setStream_can (d : Dev) (n : Nat) (x : Stream) : (d.setStream n x).can = d.can := rfl
@[simp] theorem Dev.setStream_ports (d : Dev) (n : Nat) (x : Stream) : (d.setStream n x).ports = d.ports := rfl
@[simp] theorem Dev.setStream_fab (d : Dev) (n : Nat) (x : Stream) : (d.setStream n x).fab = d.fab := rfl
@[simp] theorem Dev.setStream_rings (d : Dev) (n : Nat) (x : Stream) : (d.setStream n x).rings = d.rings := rfl
@[simp] theorem Dev.setStream_mbx (d : Dev) (n : Nat) (x : Stream) : (d.setStream n x).mbx = d.mbx := rfl
@[simp] theorem Dev.setStream_evr (d : Dev) (n : Nat) (x : Stream) : (d.setStream n x).evr = d.evr := rfl
@[simp] theorem Dev.setStream_hif (d : Dev) (n : Nat) (x : Stream) : (d.setStream n x).hif = d.hif := rfl
@[simp] theorem Dev.setStream_ldr (d : Dev) (n : Nat) (x : Stream) : (d.setStream n x).ldr = d.ldr := rfl
@[simp] theorem Dev.setStream_sup (d : Dev) (n : Nat) (x : Stream) : (d.setStream n x).sup = d.sup := rfl
@[simp] theorem Dev.setStream_jtag (d : Dev) (n : Nat) (x : Stream) : (d.setStream n x).jtag = d.jtag := rfl
@[simp] theorem Dev.setStream_refused (d : Dev) (n : Nat) (x : Stream) : (d.setStream n x).refused = d.refused := rfl
@[simp] theorem Dev.setStream_out (d : Dev) (n : Nat) (x : Stream) : (d.setStream n x).out = d.out := rfl
@[simp] theorem Dev.setStream_free (d : Dev) (n : Nat) (x : Stream) : (d.setStream n x).free = d.free := rfl

@[simp] theorem Dev.setChan_staged (d : Dev) (n : Nat) (x : Chan) : (d.setChan n x).staged = d.staged := rfl
@[simp] theorem Dev.setChan_latched (d : Dev) (n : Nat) (x : Chan) : (d.setChan n x).latched = d.latched := rfl
@[simp] theorem Dev.setChan_tb (d : Dev) (n : Nat) (x : Chan) : (d.setChan n x).tb = d.tb := rfl
@[simp] theorem Dev.setChan_pin (d : Dev) (n : Nat) (x : Chan) : (d.setChan n x).pin = d.pin := rfl
@[simp] theorem Dev.setChan_mem (d : Dev) (n : Nat) (x : Chan) : (d.setChan n x).mem = d.mem := rfl
@[simp] theorem Dev.setChan_engs (d : Dev) (n : Nat) (x : Chan) : (d.setChan n x).engs = d.engs := rfl
@[simp] theorem Dev.setChan_deps (d : Dev) (n : Nat) (x : Chan) : (d.setChan n x).deps = d.deps := rfl
@[simp] theorem Dev.setChan_can (d : Dev) (n : Nat) (x : Chan) : (d.setChan n x).can = d.can := rfl
@[simp] theorem Dev.setChan_ports (d : Dev) (n : Nat) (x : Chan) : (d.setChan n x).ports = d.ports := rfl
@[simp] theorem Dev.setChan_fab (d : Dev) (n : Nat) (x : Chan) : (d.setChan n x).fab = d.fab := rfl
@[simp] theorem Dev.setChan_rings (d : Dev) (n : Nat) (x : Chan) : (d.setChan n x).rings = d.rings := rfl
@[simp] theorem Dev.setChan_sau (d : Dev) (n : Nat) (x : Chan) : (d.setChan n x).sau = d.sau := rfl
@[simp] theorem Dev.setChan_mbx (d : Dev) (n : Nat) (x : Chan) : (d.setChan n x).mbx = d.mbx := rfl
@[simp] theorem Dev.setChan_evr (d : Dev) (n : Nat) (x : Chan) : (d.setChan n x).evr = d.evr := rfl
@[simp] theorem Dev.setChan_ldr (d : Dev) (n : Nat) (x : Chan) : (d.setChan n x).ldr = d.ldr := rfl
@[simp] theorem Dev.setChan_sup (d : Dev) (n : Nat) (x : Chan) : (d.setChan n x).sup = d.sup := rfl
@[simp] theorem Dev.setChan_jtag (d : Dev) (n : Nat) (x : Chan) : (d.setChan n x).jtag = d.jtag := rfl
@[simp] theorem Dev.setChan_refused (d : Dev) (n : Nat) (x : Chan) : (d.setChan n x).refused = d.refused := rfl
@[simp] theorem Dev.setChan_out (d : Dev) (n : Nat) (x : Chan) : (d.setChan n x).out = d.out := rfl
@[simp] theorem Dev.setChan_free (d : Dev) (n : Nat) (x : Chan) : (d.setChan n x).free = d.free := rfl

@[simp] theorem Dev.setPort_regs (d : Dev) (n : Nat) (x : Port) : (d.setPort n x).regs = d.regs := rfl
@[simp] theorem Dev.setPort_staged (d : Dev) (n : Nat) (x : Port) : (d.setPort n x).staged = d.staged := rfl
@[simp] theorem Dev.setPort_latched (d : Dev) (n : Nat) (x : Port) : (d.setPort n x).latched = d.latched := rfl
@[simp] theorem Dev.setPort_tb (d : Dev) (n : Nat) (x : Port) : (d.setPort n x).tb = d.tb := rfl
@[simp] theorem Dev.setPort_pin (d : Dev) (n : Nat) (x : Port) : (d.setPort n x).pin = d.pin := rfl
@[simp] theorem Dev.setPort_mem (d : Dev) (n : Nat) (x : Port) : (d.setPort n x).mem = d.mem := rfl
@[simp] theorem Dev.setPort_engs (d : Dev) (n : Nat) (x : Port) : (d.setPort n x).engs = d.engs := rfl
@[simp] theorem Dev.setPort_deps (d : Dev) (n : Nat) (x : Port) : (d.setPort n x).deps = d.deps := rfl
@[simp] theorem Dev.setPort_can (d : Dev) (n : Nat) (x : Port) : (d.setPort n x).can = d.can := rfl
@[simp] theorem Dev.setPort_fab (d : Dev) (n : Nat) (x : Port) : (d.setPort n x).fab = d.fab := rfl
@[simp] theorem Dev.setPort_rings (d : Dev) (n : Nat) (x : Port) : (d.setPort n x).rings = d.rings := rfl
@[simp] theorem Dev.setPort_sau (d : Dev) (n : Nat) (x : Port) : (d.setPort n x).sau = d.sau := rfl
@[simp] theorem Dev.setPort_mbx (d : Dev) (n : Nat) (x : Port) : (d.setPort n x).mbx = d.mbx := rfl
@[simp] theorem Dev.setPort_evr (d : Dev) (n : Nat) (x : Port) : (d.setPort n x).evr = d.evr := rfl
@[simp] theorem Dev.setPort_hif (d : Dev) (n : Nat) (x : Port) : (d.setPort n x).hif = d.hif := rfl
@[simp] theorem Dev.setPort_ldr (d : Dev) (n : Nat) (x : Port) : (d.setPort n x).ldr = d.ldr := rfl
@[simp] theorem Dev.setPort_sup (d : Dev) (n : Nat) (x : Port) : (d.setPort n x).sup = d.sup := rfl
@[simp] theorem Dev.setPort_jtag (d : Dev) (n : Nat) (x : Port) : (d.setPort n x).jtag = d.jtag := rfl
@[simp] theorem Dev.setPort_refused (d : Dev) (n : Nat) (x : Port) : (d.setPort n x).refused = d.refused := rfl
@[simp] theorem Dev.setPort_out (d : Dev) (n : Nat) (x : Port) : (d.setPort n x).out = d.out := rfl
@[simp] theorem Dev.setPort_free (d : Dev) (n : Nat) (x : Port) : (d.setPort n x).free = d.free := rfl

@[simp] theorem Dev.setTrn_regs (d : Dev) (n : Nat) (x : Ring) : (d.setTrn n x).regs = d.regs := rfl
@[simp] theorem Dev.setTrn_staged (d : Dev) (n : Nat) (x : Ring) : (d.setTrn n x).staged = d.staged := rfl
@[simp] theorem Dev.setTrn_latched (d : Dev) (n : Nat) (x : Ring) : (d.setTrn n x).latched = d.latched := rfl
@[simp] theorem Dev.setTrn_tb (d : Dev) (n : Nat) (x : Ring) : (d.setTrn n x).tb = d.tb := rfl
@[simp] theorem Dev.setTrn_pin (d : Dev) (n : Nat) (x : Ring) : (d.setTrn n x).pin = d.pin := rfl
@[simp] theorem Dev.setTrn_mem (d : Dev) (n : Nat) (x : Ring) : (d.setTrn n x).mem = d.mem := rfl
@[simp] theorem Dev.setTrn_engs (d : Dev) (n : Nat) (x : Ring) : (d.setTrn n x).engs = d.engs := rfl
@[simp] theorem Dev.setTrn_deps (d : Dev) (n : Nat) (x : Ring) : (d.setTrn n x).deps = d.deps := rfl
@[simp] theorem Dev.setTrn_can (d : Dev) (n : Nat) (x : Ring) : (d.setTrn n x).can = d.can := rfl
@[simp] theorem Dev.setTrn_ports (d : Dev) (n : Nat) (x : Ring) : (d.setTrn n x).ports = d.ports := rfl
@[simp] theorem Dev.setTrn_fab (d : Dev) (n : Nat) (x : Ring) : (d.setTrn n x).fab = d.fab := rfl
@[simp] theorem Dev.setTrn_sau (d : Dev) (n : Nat) (x : Ring) : (d.setTrn n x).sau = d.sau := rfl
@[simp] theorem Dev.setTrn_mbx (d : Dev) (n : Nat) (x : Ring) : (d.setTrn n x).mbx = d.mbx := rfl
@[simp] theorem Dev.setTrn_evr (d : Dev) (n : Nat) (x : Ring) : (d.setTrn n x).evr = d.evr := rfl
@[simp] theorem Dev.setTrn_hif (d : Dev) (n : Nat) (x : Ring) : (d.setTrn n x).hif = d.hif := rfl
@[simp] theorem Dev.setTrn_ldr (d : Dev) (n : Nat) (x : Ring) : (d.setTrn n x).ldr = d.ldr := rfl
@[simp] theorem Dev.setTrn_sup (d : Dev) (n : Nat) (x : Ring) : (d.setTrn n x).sup = d.sup := rfl
@[simp] theorem Dev.setTrn_jtag (d : Dev) (n : Nat) (x : Ring) : (d.setTrn n x).jtag = d.jtag := rfl
@[simp] theorem Dev.setTrn_refused (d : Dev) (n : Nat) (x : Ring) : (d.setTrn n x).refused = d.refused := rfl
@[simp] theorem Dev.setTrn_out (d : Dev) (n : Nat) (x : Ring) : (d.setTrn n x).out = d.out := rfl
@[simp] theorem Dev.setTrn_free (d : Dev) (n : Nat) (x : Ring) : (d.setTrn n x).free = d.free := rfl

@[simp] theorem Dev.modTrn_regs (d : Dev) (n : Nat) (g : Ring → Ring) : (d.modTrn n g).regs = d.regs := rfl
@[simp] theorem Dev.modTrn_staged (d : Dev) (n : Nat) (g : Ring → Ring) : (d.modTrn n g).staged = d.staged := rfl
@[simp] theorem Dev.modTrn_latched (d : Dev) (n : Nat) (g : Ring → Ring) : (d.modTrn n g).latched = d.latched := rfl
@[simp] theorem Dev.modTrn_tb (d : Dev) (n : Nat) (g : Ring → Ring) : (d.modTrn n g).tb = d.tb := rfl
@[simp] theorem Dev.modTrn_pin (d : Dev) (n : Nat) (g : Ring → Ring) : (d.modTrn n g).pin = d.pin := rfl
@[simp] theorem Dev.modTrn_mem (d : Dev) (n : Nat) (g : Ring → Ring) : (d.modTrn n g).mem = d.mem := rfl
@[simp] theorem Dev.modTrn_engs (d : Dev) (n : Nat) (g : Ring → Ring) : (d.modTrn n g).engs = d.engs := rfl
@[simp] theorem Dev.modTrn_deps (d : Dev) (n : Nat) (g : Ring → Ring) : (d.modTrn n g).deps = d.deps := rfl
@[simp] theorem Dev.modTrn_can (d : Dev) (n : Nat) (g : Ring → Ring) : (d.modTrn n g).can = d.can := rfl
@[simp] theorem Dev.modTrn_ports (d : Dev) (n : Nat) (g : Ring → Ring) : (d.modTrn n g).ports = d.ports := rfl
@[simp] theorem Dev.modTrn_fab (d : Dev) (n : Nat) (g : Ring → Ring) : (d.modTrn n g).fab = d.fab := rfl
@[simp] theorem Dev.modTrn_sau (d : Dev) (n : Nat) (g : Ring → Ring) : (d.modTrn n g).sau = d.sau := rfl
@[simp] theorem Dev.modTrn_mbx (d : Dev) (n : Nat) (g : Ring → Ring) : (d.modTrn n g).mbx = d.mbx := rfl
@[simp] theorem Dev.modTrn_evr (d : Dev) (n : Nat) (g : Ring → Ring) : (d.modTrn n g).evr = d.evr := rfl
@[simp] theorem Dev.modTrn_hif (d : Dev) (n : Nat) (g : Ring → Ring) : (d.modTrn n g).hif = d.hif := rfl
@[simp] theorem Dev.modTrn_ldr (d : Dev) (n : Nat) (g : Ring → Ring) : (d.modTrn n g).ldr = d.ldr := rfl
@[simp] theorem Dev.modTrn_sup (d : Dev) (n : Nat) (g : Ring → Ring) : (d.modTrn n g).sup = d.sup := rfl
@[simp] theorem Dev.modTrn_jtag (d : Dev) (n : Nat) (g : Ring → Ring) : (d.modTrn n g).jtag = d.jtag := rfl
@[simp] theorem Dev.modTrn_refused (d : Dev) (n : Nat) (g : Ring → Ring) : (d.modTrn n g).refused = d.refused := rfl
@[simp] theorem Dev.modTrn_out (d : Dev) (n : Nat) (g : Ring → Ring) : (d.modTrn n g).out = d.out := rfl
@[simp] theorem Dev.modTrn_free (d : Dev) (n : Nat) (g : Ring → Ring) : (d.modTrn n g).free = d.free := rfl

@[simp] theorem Dev.modSup_regs (d : Dev) (g : Sup → Sup) : (d.modSup g).regs = d.regs := rfl
@[simp] theorem Dev.modSup_staged (d : Dev) (g : Sup → Sup) : (d.modSup g).staged = d.staged := rfl
@[simp] theorem Dev.modSup_latched (d : Dev) (g : Sup → Sup) : (d.modSup g).latched = d.latched := rfl
@[simp] theorem Dev.modSup_tb (d : Dev) (g : Sup → Sup) : (d.modSup g).tb = d.tb := rfl
@[simp] theorem Dev.modSup_pin (d : Dev) (g : Sup → Sup) : (d.modSup g).pin = d.pin := rfl
@[simp] theorem Dev.modSup_mem (d : Dev) (g : Sup → Sup) : (d.modSup g).mem = d.mem := rfl
@[simp] theorem Dev.modSup_engs (d : Dev) (g : Sup → Sup) : (d.modSup g).engs = d.engs := rfl
@[simp] theorem Dev.modSup_deps (d : Dev) (g : Sup → Sup) : (d.modSup g).deps = d.deps := rfl
@[simp] theorem Dev.modSup_can (d : Dev) (g : Sup → Sup) : (d.modSup g).can = d.can := rfl
@[simp] theorem Dev.modSup_ports (d : Dev) (g : Sup → Sup) : (d.modSup g).ports = d.ports := rfl
@[simp] theorem Dev.modSup_fab (d : Dev) (g : Sup → Sup) : (d.modSup g).fab = d.fab := rfl
@[simp] theorem Dev.modSup_rings (d : Dev) (g : Sup → Sup) : (d.modSup g).rings = d.rings := rfl
@[simp] theorem Dev.modSup_sau (d : Dev) (g : Sup → Sup) : (d.modSup g).sau = d.sau := rfl
@[simp] theorem Dev.modSup_mbx (d : Dev) (g : Sup → Sup) : (d.modSup g).mbx = d.mbx := rfl
@[simp] theorem Dev.modSup_evr (d : Dev) (g : Sup → Sup) : (d.modSup g).evr = d.evr := rfl
@[simp] theorem Dev.modSup_hif (d : Dev) (g : Sup → Sup) : (d.modSup g).hif = d.hif := rfl
@[simp] theorem Dev.modSup_ldr (d : Dev) (g : Sup → Sup) : (d.modSup g).ldr = d.ldr := rfl
@[simp] theorem Dev.modSup_jtag (d : Dev) (g : Sup → Sup) : (d.modSup g).jtag = d.jtag := rfl
@[simp] theorem Dev.modSup_refused (d : Dev) (g : Sup → Sup) : (d.modSup g).refused = d.refused := rfl
@[simp] theorem Dev.modSup_out (d : Dev) (g : Sup → Sup) : (d.modSup g).out = d.out := rfl
@[simp] theorem Dev.modSup_free (d : Dev) (g : Sup → Sup) : (d.modSup g).free = d.free := rfl

@[simp] theorem Dev.modLdr_regs (d : Dev) (g : Ldr → Ldr) : (d.modLdr g).regs = d.regs := rfl
@[simp] theorem Dev.modLdr_staged (d : Dev) (g : Ldr → Ldr) : (d.modLdr g).staged = d.staged := rfl
@[simp] theorem Dev.modLdr_latched (d : Dev) (g : Ldr → Ldr) : (d.modLdr g).latched = d.latched := rfl
@[simp] theorem Dev.modLdr_tb (d : Dev) (g : Ldr → Ldr) : (d.modLdr g).tb = d.tb := rfl
@[simp] theorem Dev.modLdr_pin (d : Dev) (g : Ldr → Ldr) : (d.modLdr g).pin = d.pin := rfl
@[simp] theorem Dev.modLdr_mem (d : Dev) (g : Ldr → Ldr) : (d.modLdr g).mem = d.mem := rfl
@[simp] theorem Dev.modLdr_engs (d : Dev) (g : Ldr → Ldr) : (d.modLdr g).engs = d.engs := rfl
@[simp] theorem Dev.modLdr_deps (d : Dev) (g : Ldr → Ldr) : (d.modLdr g).deps = d.deps := rfl
@[simp] theorem Dev.modLdr_can (d : Dev) (g : Ldr → Ldr) : (d.modLdr g).can = d.can := rfl
@[simp] theorem Dev.modLdr_ports (d : Dev) (g : Ldr → Ldr) : (d.modLdr g).ports = d.ports := rfl
@[simp] theorem Dev.modLdr_fab (d : Dev) (g : Ldr → Ldr) : (d.modLdr g).fab = d.fab := rfl
@[simp] theorem Dev.modLdr_rings (d : Dev) (g : Ldr → Ldr) : (d.modLdr g).rings = d.rings := rfl
@[simp] theorem Dev.modLdr_sau (d : Dev) (g : Ldr → Ldr) : (d.modLdr g).sau = d.sau := rfl
@[simp] theorem Dev.modLdr_mbx (d : Dev) (g : Ldr → Ldr) : (d.modLdr g).mbx = d.mbx := rfl
@[simp] theorem Dev.modLdr_evr (d : Dev) (g : Ldr → Ldr) : (d.modLdr g).evr = d.evr := rfl
@[simp] theorem Dev.modLdr_hif (d : Dev) (g : Ldr → Ldr) : (d.modLdr g).hif = d.hif := rfl
@[simp] theorem Dev.modLdr_sup (d : Dev) (g : Ldr → Ldr) : (d.modLdr g).sup = d.sup := rfl
@[simp] theorem Dev.modLdr_jtag (d : Dev) (g : Ldr → Ldr) : (d.modLdr g).jtag = d.jtag := rfl
@[simp] theorem Dev.modLdr_refused (d : Dev) (g : Ldr → Ldr) : (d.modLdr g).refused = d.refused := rfl
@[simp] theorem Dev.modLdr_out (d : Dev) (g : Ldr → Ldr) : (d.modLdr g).out = d.out := rfl
@[simp] theorem Dev.modLdr_free (d : Dev) (g : Ldr → Ldr) : (d.modLdr g).free = d.free := rfl

@[simp] theorem Dev.modHif_regs (d : Dev) (g : Hif → Hif) : (d.modHif g).regs = d.regs := rfl
@[simp] theorem Dev.modHif_staged (d : Dev) (g : Hif → Hif) : (d.modHif g).staged = d.staged := rfl
@[simp] theorem Dev.modHif_latched (d : Dev) (g : Hif → Hif) : (d.modHif g).latched = d.latched := rfl
@[simp] theorem Dev.modHif_tb (d : Dev) (g : Hif → Hif) : (d.modHif g).tb = d.tb := rfl
@[simp] theorem Dev.modHif_pin (d : Dev) (g : Hif → Hif) : (d.modHif g).pin = d.pin := rfl
@[simp] theorem Dev.modHif_mem (d : Dev) (g : Hif → Hif) : (d.modHif g).mem = d.mem := rfl
@[simp] theorem Dev.modHif_engs (d : Dev) (g : Hif → Hif) : (d.modHif g).engs = d.engs := rfl
@[simp] theorem Dev.modHif_deps (d : Dev) (g : Hif → Hif) : (d.modHif g).deps = d.deps := rfl
@[simp] theorem Dev.modHif_can (d : Dev) (g : Hif → Hif) : (d.modHif g).can = d.can := rfl
@[simp] theorem Dev.modHif_ports (d : Dev) (g : Hif → Hif) : (d.modHif g).ports = d.ports := rfl
@[simp] theorem Dev.modHif_fab (d : Dev) (g : Hif → Hif) : (d.modHif g).fab = d.fab := rfl
@[simp] theorem Dev.modHif_rings (d : Dev) (g : Hif → Hif) : (d.modHif g).rings = d.rings := rfl
@[simp] theorem Dev.modHif_sau (d : Dev) (g : Hif → Hif) : (d.modHif g).sau = d.sau := rfl
@[simp] theorem Dev.modHif_mbx (d : Dev) (g : Hif → Hif) : (d.modHif g).mbx = d.mbx := rfl
@[simp] theorem Dev.modHif_evr (d : Dev) (g : Hif → Hif) : (d.modHif g).evr = d.evr := rfl
@[simp] theorem Dev.modHif_ldr (d : Dev) (g : Hif → Hif) : (d.modHif g).ldr = d.ldr := rfl
@[simp] theorem Dev.modHif_sup (d : Dev) (g : Hif → Hif) : (d.modHif g).sup = d.sup := rfl
@[simp] theorem Dev.modHif_jtag (d : Dev) (g : Hif → Hif) : (d.modHif g).jtag = d.jtag := rfl
@[simp] theorem Dev.modHif_refused (d : Dev) (g : Hif → Hif) : (d.modHif g).refused = d.refused := rfl
@[simp] theorem Dev.modHif_out (d : Dev) (g : Hif → Hif) : (d.modHif g).out = d.out := rfl
@[simp] theorem Dev.modHif_free (d : Dev) (g : Hif → Hif) : (d.modHif g).free = d.free := rfl

@[simp] theorem Dev.modJtag_regs (d : Dev) (g : Jtag → Jtag) : (d.modJtag g).regs = d.regs := rfl
@[simp] theorem Dev.modJtag_staged (d : Dev) (g : Jtag → Jtag) : (d.modJtag g).staged = d.staged := rfl
@[simp] theorem Dev.modJtag_latched (d : Dev) (g : Jtag → Jtag) : (d.modJtag g).latched = d.latched := rfl
@[simp] theorem Dev.modJtag_tb (d : Dev) (g : Jtag → Jtag) : (d.modJtag g).tb = d.tb := rfl
@[simp] theorem Dev.modJtag_pin (d : Dev) (g : Jtag → Jtag) : (d.modJtag g).pin = d.pin := rfl
@[simp] theorem Dev.modJtag_mem (d : Dev) (g : Jtag → Jtag) : (d.modJtag g).mem = d.mem := rfl
@[simp] theorem Dev.modJtag_engs (d : Dev) (g : Jtag → Jtag) : (d.modJtag g).engs = d.engs := rfl
@[simp] theorem Dev.modJtag_deps (d : Dev) (g : Jtag → Jtag) : (d.modJtag g).deps = d.deps := rfl
@[simp] theorem Dev.modJtag_can (d : Dev) (g : Jtag → Jtag) : (d.modJtag g).can = d.can := rfl
@[simp] theorem Dev.modJtag_ports (d : Dev) (g : Jtag → Jtag) : (d.modJtag g).ports = d.ports := rfl
@[simp] theorem Dev.modJtag_fab (d : Dev) (g : Jtag → Jtag) : (d.modJtag g).fab = d.fab := rfl
@[simp] theorem Dev.modJtag_rings (d : Dev) (g : Jtag → Jtag) : (d.modJtag g).rings = d.rings := rfl
@[simp] theorem Dev.modJtag_sau (d : Dev) (g : Jtag → Jtag) : (d.modJtag g).sau = d.sau := rfl
@[simp] theorem Dev.modJtag_mbx (d : Dev) (g : Jtag → Jtag) : (d.modJtag g).mbx = d.mbx := rfl
@[simp] theorem Dev.modJtag_evr (d : Dev) (g : Jtag → Jtag) : (d.modJtag g).evr = d.evr := rfl
@[simp] theorem Dev.modJtag_hif (d : Dev) (g : Jtag → Jtag) : (d.modJtag g).hif = d.hif := rfl
@[simp] theorem Dev.modJtag_ldr (d : Dev) (g : Jtag → Jtag) : (d.modJtag g).ldr = d.ldr := rfl
@[simp] theorem Dev.modJtag_sup (d : Dev) (g : Jtag → Jtag) : (d.modJtag g).sup = d.sup := rfl
@[simp] theorem Dev.modJtag_refused (d : Dev) (g : Jtag → Jtag) : (d.modJtag g).refused = d.refused := rfl
@[simp] theorem Dev.modJtag_out (d : Dev) (g : Jtag → Jtag) : (d.modJtag g).out = d.out := rfl
@[simp] theorem Dev.modJtag_free (d : Dev) (g : Jtag → Jtag) : (d.modJtag g).free = d.free := rfl

/-! ### A unit's state after it is replaced -/

@[simp] theorem Dev.setDom_dom_self (d : Dev) (n : Nat) (x : Domain) : (d.setDom n x).dom n = x := by simp [Dev.setDom, Dev.dom]
theorem Dev.setDom_dom_ne (d : Dev) {n k : Nat} (x : Domain) (h : k ≠ n) : (d.setDom n x).dom k = d.dom k := by
  simp [Dev.setDom, Dev.dom, tgetD_tput_ne, h]
@[simp] theorem Dev.setDepQ_depQ_self (d : Dev) (n : Nat) (x : DepQ) : (d.setDepQ n x).depQ n = x := by simp [Dev.setDepQ, Dev.depQ]
theorem Dev.setDepQ_depQ_ne (d : Dev) {n k : Nat} (x : DepQ) (h : k ≠ n) : (d.setDepQ n x).depQ k = d.depQ k := by
  simp [Dev.setDepQ, Dev.depQ, tgetD_tput_ne, h]
@[simp] theorem Dev.setCan_canOf_self (d : Dev) (n : Nat) (x : Can) : (d.setCan n x).canOf n = x := by simp [Dev.setCan, Dev.canOf]
theorem Dev.setCan_canOf_ne (d : Dev) {n k : Nat} (x : Can) (h : k ≠ n) : (d.setCan n x).canOf k = d.canOf k := by
  simp [Dev.setCan, Dev.canOf, tgetD_tput_ne, h]
@[simp] theorem Dev.setEng_eng_self (d : Dev) (n : Nat) (x : Eng) : (d.setEng n x).eng n = x := by simp [Dev.setEng, Dev.eng]
theorem Dev.setEng_eng_ne (d : Dev) {n k : Nat} (x : Eng) (h : k ≠ n) : (d.setEng n x).eng k = d.eng k := by
  simp [Dev.setEng, Dev.eng, tgetD_tput_ne, h]
@[simp] theorem Dev.setDepot_depot_self (d : Dev) (n : Nat) (x : Depot) : (d.setDepot n x).depot n = x := by simp [Dev.setDepot, Dev.depot]
theorem Dev.setDepot_depot_ne (d : Dev) {n k : Nat} (x : Depot) (h : k ≠ n) : (d.setDepot n x).depot k = d.depot k := by
  simp [Dev.setDepot, Dev.depot, tgetD_tput_ne, h]
@[simp] theorem Dev.setBox_box_self (d : Dev) (n : Nat) (x : Mailbox) : (d.setBox n x).box n = x := by simp [Dev.setBox, Dev.box]
theorem Dev.setBox_box_ne (d : Dev) {n k : Nat} (x : Mailbox) (h : k ≠ n) : (d.setBox n x).box k = d.box k := by
  simp [Dev.setBox, Dev.box, tgetD_tput_ne, h]
@[simp] theorem Dev.setLock_lock_self (d : Dev) (n : Nat) (x : Lock) : (d.setLock n x).lock n = x := by simp [Dev.setLock, Dev.lock]
theorem Dev.setLock_lock_ne (d : Dev) {n k : Nat} (x : Lock) (h : k ≠ n) : (d.setLock n x).lock k = d.lock k := by
  simp [Dev.setLock, Dev.lock, tgetD_tput_ne, h]
@[simp] theorem Dev.setQueue_queue_self (d : Dev) (n : Nat) (x : Queue) : (d.setQueue n x).queue n = x := by simp [Dev.setQueue, Dev.queue]
theorem Dev.setQueue_queue_ne (d : Dev) {n k : Nat} (x : Queue) (h : k ≠ n) : (d.setQueue n x).queue k = d.queue k := by
  simp [Dev.setQueue, Dev.queue, tgetD_tput_ne, h]
@[simp] theorem Dev.setPn_pn_self (d : Dev) (n : Nat) (x : Pin) : (d.setPn n x).pn n = x := by simp [Dev.setPn, Dev.pn]
theorem Dev.setPn_pn_ne (d : Dev) {n k : Nat} (x : Pin) (h : k ≠ n) : (d.setPn n x).pn k = d.pn k := by
  simp [Dev.setPn, Dev.pn, tgetD_tput_ne, h]
@[simp] theorem Dev.setSeq_seq_self (d : Dev) (n : Nat) (x : Seq) : (d.setSeq n x).seq n = x := by simp [Dev.setSeq, Dev.seq]
theorem Dev.setSeq_seq_ne (d : Dev) {n k : Nat} (x : Seq) (h : k ≠ n) : (d.setSeq n x).seq k = d.seq k := by
  simp [Dev.setSeq, Dev.seq, tgetD_tput_ne, h]
@[simp] theorem Dev.setGrp_grp_self (d : Dev) (n : Nat) (x : Grp) : (d.setGrp n x).grp n = x := by simp [Dev.setGrp, Dev.grp]
theorem Dev.setGrp_grp_ne (d : Dev) {n k : Nat} (x : Grp) (h : k ≠ n) : (d.setGrp n x).grp k = d.grp k := by
  simp [Dev.setGrp, Dev.grp, tgetD_tput_ne, h]
@[simp] theorem Dev.setMatrix_matrix_self (d : Dev) (n : Nat) (x : Matrix) : (d.setMatrix n x).matrix n = x := by simp [Dev.setMatrix, Dev.matrix]
theorem Dev.setMatrix_matrix_ne (d : Dev) {n k : Nat} (x : Matrix) (h : k ≠ n) : (d.setMatrix n x).matrix k = d.matrix k := by
  simp [Dev.setMatrix, Dev.matrix, tgetD_tput_ne, h]
@[simp] theorem Dev.setStream_stream_self (d : Dev) (n : Nat) (x : Stream) : (d.setStream n x).stream n = x := by simp [Dev.setStream, Dev.stream]
theorem Dev.setStream_stream_ne (d : Dev) {n k : Nat} (x : Stream) (h : k ≠ n) : (d.setStream n x).stream k = d.stream k := by
  simp [Dev.setStream, Dev.stream, tgetD_tput_ne, h]
@[simp] theorem Dev.setChan_chan_self (d : Dev) (n : Nat) (x : Chan) : (d.setChan n x).chan n = x := by simp [Dev.setChan, Dev.chan]
theorem Dev.setChan_chan_ne (d : Dev) {n k : Nat} (x : Chan) (h : k ≠ n) : (d.setChan n x).chan k = d.chan k := by
  simp [Dev.setChan, Dev.chan, tgetD_tput_ne, h]
@[simp] theorem Dev.setPort_port_self (d : Dev) (n : Nat) (x : Port) : (d.setPort n x).port n = x := by simp [Dev.setPort, Dev.port]
theorem Dev.setPort_port_ne (d : Dev) {n k : Nat} (x : Port) (h : k ≠ n) : (d.setPort n x).port k = d.port k := by
  simp [Dev.setPort, Dev.port, tgetD_tput_ne, h]
@[simp] theorem Dev.setTrn_trn_self (d : Dev) (n : Nat) (x : Ring) : (d.setTrn n x).trn n = x := by simp [Dev.setTrn, Dev.trn]
theorem Dev.setTrn_trn_ne (d : Dev) {n k : Nat} (x : Ring) (h : k ≠ n) : (d.setTrn n x).trn k = d.trn k := by
  simp [Dev.setTrn, Dev.trn, tgetD_tput_ne, h]
@[simp] theorem Dev.setPn_seq (d : Dev) (n k : Nat) (x : Pin) : (d.setPn n x).seq k = d.seq k := rfl
@[simp] theorem Dev.setPn_grp (d : Dev) (n k : Nat) (x : Pin) : (d.setPn n x).grp k = d.grp k := rfl
@[simp] theorem Dev.setSeq_pn (d : Dev) (n k : Nat) (x : Seq) : (d.setSeq n x).pn k = d.pn k := rfl
@[simp] theorem Dev.setSeq_grp (d : Dev) (n k : Nat) (x : Seq) : (d.setSeq n x).grp k = d.grp k := rfl
@[simp] theorem Dev.setGrp_pn (d : Dev) (n k : Nat) (x : Grp) : (d.setGrp n x).pn k = d.pn k := rfl
@[simp] theorem Dev.setGrp_seq (d : Dev) (n k : Nat) (x : Grp) : (d.setGrp n x).seq k = d.seq k := rfl

@[simp] theorem Dev.modEng_eng_self (d : Dev) (n : Nat) (f : Eng → Eng) : (d.modEng n f).eng n = f (d.eng n) := by simp [Dev.modEng]
theorem Dev.modEng_eng_ne (d : Dev) {n k : Nat} (f : Eng → Eng) (h : k ≠ n) : (d.modEng n f).eng k = d.eng k := by
  simp [Dev.modEng, Dev.setEng_eng_ne, h]
@[simp] theorem Dev.modTrn_trn_self (d : Dev) (n : Nat) (f : Ring → Ring) : (d.modTrn n f).trn n = f (d.trn n) := by simp [Dev.modTrn]
theorem Dev.modTrn_trn_ne (d : Dev) {n k : Nat} (f : Ring → Ring) (h : k ≠ n) : (d.modTrn n f).trn k = d.trn k := by
  simp [Dev.modTrn, Dev.setTrn_trn_ne, h]

/-! ### Register fields -/

theorem Dev.rd_congr {d e : Dev} (h : d.regs = e.regs) (f : Fld) : d.rd f = e.rd f := by simp [Dev.rd, h]

/-- A field reads what was last written to it, cut to its width (R6). -/
@[simp] theorem Dev.rd_wr_self (d : Dev) (f : Fld) (v : Nat) : (d.wr f v).rd f = v % 2 ^ f.width := by
  unfold Dev.rd Dev.wr
  by_cases h : v % 2 ^ f.width = f.reset <;> simp [h]

/-- A write of one field leaves every field with another home alone. -/
theorem Dev.rd_wr_ne (d : Dev) {f g : Fld} (v : Nat) (h : g.key ≠ f.key) : (d.wr f v).rd g = d.rd g := by
  unfold Dev.rd Dev.wr
  by_cases h1 : v % 2 ^ f.width = f.reset <;> simp [h1, tget_tput_ne _ _ h, tget_tdel_ne _ h]

@[simp] theorem Dev.rd_clr_self (d : Dev) (f : Fld) : (d.clr f).rd f = f.reset := by simp [Dev.rd, Dev.clr]

theorem Dev.rd_clr_ne (d : Dev) {f g : Fld} (h : g.key ≠ f.key) : (d.clr f).rd g = d.rd g := by
  simp [Dev.rd, Dev.clr, tget_tdel_ne _ h]

theorem Dev.rd_put_ne (d : Dev) {f g : Fld} (b : Bool) (h : g.key ≠ f.key) : (d.put f b).rd g = d.rd g := Dev.rd_wr_ne d _ h

theorem Dev.on_put_self (d : Dev) (f : Fld) (b : Bool) (h : f.width = 1) : (d.put f b).on f = b := by
  cases b <;> simp [Dev.put, Dev.on, h]

theorem Dev.rd_incBy_self (d : Dev) (f : Fld) (n : Nat) : (d.incBy f n).rd f = min (d.rd f + n) (2 ^ f.width - 1) := by
  have h : 0 < 2 ^ f.width := Nat.two_pow_pos _
  simp only [Dev.incBy, Dev.rd_wr_self, satAdd]
  exact Nat.mod_eq_of_lt (by omega)

theorem Dev.rd_inc_self (d : Dev) (f : Fld) : (d.inc f).rd f = min (d.rd f + 1) (2 ^ f.width - 1) := Dev.rd_incBy_self d f 1

theorem Dev.rd_incBy_ne (d : Dev) {f g : Fld} (n : Nat) (h : g.key ≠ f.key) : (d.incBy f n).rd g = d.rd g := Dev.rd_wr_ne d _ h

theorem Dev.rd_inc_ne (d : Dev) {f g : Fld} (h : g.key ≠ f.key) : (d.inc f).rd g = d.rd g := Dev.rd_wr_ne d _ h

@[simp] theorem Dev.emit_rd (d : Dev) (e : Emit) (r : Fld) : (d.emit e).rd r = d.rd r := rfl
@[simp] theorem Dev.emit_on (d : Dev) (e : Emit) (r : Fld) : (d.emit e).on r = d.on r := rfl
@[simp] theorem Dev.setDom_rd (d : Dev) (n : Nat) (x : Domain) (r : Fld) : (d.setDom n x).rd r = d.rd r := rfl
@[simp] theorem Dev.setDom_on (d : Dev) (n : Nat) (x : Domain) (r : Fld) : (d.setDom n x).on r = d.on r := rfl
@[simp] theorem Dev.setDepQ_rd (d : Dev) (n : Nat) (x : DepQ) (r : Fld) : (d.setDepQ n x).rd r = d.rd r := rfl
@[simp] theorem Dev.setDepQ_on (d : Dev) (n : Nat) (x : DepQ) (r : Fld) : (d.setDepQ n x).on r = d.on r := rfl
@[simp] theorem Dev.setCan_rd (d : Dev) (n : Nat) (x : Can) (r : Fld) : (d.setCan n x).rd r = d.rd r := rfl
@[simp] theorem Dev.setCan_on (d : Dev) (n : Nat) (x : Can) (r : Fld) : (d.setCan n x).on r = d.on r := rfl
@[simp] theorem Dev.setEng_rd (d : Dev) (n : Nat) (x : Eng) (r : Fld) : (d.setEng n x).rd r = d.rd r := rfl
@[simp] theorem Dev.setEng_on (d : Dev) (n : Nat) (x : Eng) (r : Fld) : (d.setEng n x).on r = d.on r := rfl
@[simp] theorem Dev.modEng_rd (d : Dev) (n : Nat) (g : Eng → Eng) (r : Fld) : (d.modEng n g).rd r = d.rd r := rfl
@[simp] theorem Dev.modEng_on (d : Dev) (n : Nat) (g : Eng → Eng) (r : Fld) : (d.modEng n g).on r = d.on r := rfl
@[simp] theorem Dev.setDepot_rd (d : Dev) (n : Nat) (x : Depot) (r : Fld) : (d.setDepot n x).rd r = d.rd r := rfl
@[simp] theorem Dev.setDepot_on (d : Dev) (n : Nat) (x : Depot) (r : Fld) : (d.setDepot n x).on r = d.on r := rfl
@[simp] theorem Dev.setBox_rd (d : Dev) (n : Nat) (x : Mailbox) (r : Fld) : (d.setBox n x).rd r = d.rd r := rfl
@[simp] theorem Dev.setBox_on (d : Dev) (n : Nat) (x : Mailbox) (r : Fld) : (d.setBox n x).on r = d.on r := rfl
@[simp] theorem Dev.setLock_rd (d : Dev) (n : Nat) (x : Lock) (r : Fld) : (d.setLock n x).rd r = d.rd r := rfl
@[simp] theorem Dev.setLock_on (d : Dev) (n : Nat) (x : Lock) (r : Fld) : (d.setLock n x).on r = d.on r := rfl
@[simp] theorem Dev.setQueue_rd (d : Dev) (n : Nat) (x : Queue) (r : Fld) : (d.setQueue n x).rd r = d.rd r := rfl
@[simp] theorem Dev.setQueue_on (d : Dev) (n : Nat) (x : Queue) (r : Fld) : (d.setQueue n x).on r = d.on r := rfl
@[simp] theorem Dev.setPn_rd (d : Dev) (n : Nat) (x : Pin) (r : Fld) : (d.setPn n x).rd r = d.rd r := rfl
@[simp] theorem Dev.setPn_on (d : Dev) (n : Nat) (x : Pin) (r : Fld) : (d.setPn n x).on r = d.on r := rfl
@[simp] theorem Dev.setSeq_rd (d : Dev) (n : Nat) (x : Seq) (r : Fld) : (d.setSeq n x).rd r = d.rd r := rfl
@[simp] theorem Dev.setSeq_on (d : Dev) (n : Nat) (x : Seq) (r : Fld) : (d.setSeq n x).on r = d.on r := rfl
@[simp] theorem Dev.setGrp_rd (d : Dev) (n : Nat) (x : Grp) (r : Fld) : (d.setGrp n x).rd r = d.rd r := rfl
@[simp] theorem Dev.setGrp_on (d : Dev) (n : Nat) (x : Grp) (r : Fld) : (d.setGrp n x).on r = d.on r := rfl
@[simp] theorem Dev.setStream_rd (d : Dev) (n : Nat) (x : Stream) (r : Fld) : (d.setStream n x).rd r = d.rd r := rfl
@[simp] theorem Dev.setStream_on (d : Dev) (n : Nat) (x : Stream) (r : Fld) : (d.setStream n x).on r = d.on r := rfl
@[simp] theorem Dev.setPort_rd (d : Dev) (n : Nat) (x : Port) (r : Fld) : (d.setPort n x).rd r = d.rd r := rfl
@[simp] theorem Dev.setPort_on (d : Dev) (n : Nat) (x : Port) (r : Fld) : (d.setPort n x).on r = d.on r := rfl
@[simp] theorem Dev.setTrn_rd (d : Dev) (n : Nat) (x : Ring) (r : Fld) : (d.setTrn n x).rd r = d.rd r := rfl
@[simp] theorem Dev.setTrn_on (d : Dev) (n : Nat) (x : Ring) (r : Fld) : (d.setTrn n x).on r = d.on r := rfl
@[simp] theorem Dev.modTrn_rd (d : Dev) (n : Nat) (g : Ring → Ring) (r : Fld) : (d.modTrn n g).rd r = d.rd r := rfl
@[simp] theorem Dev.modTrn_on (d : Dev) (n : Nat) (g : Ring → Ring) (r : Fld) : (d.modTrn n g).on r = d.on r := rfl
@[simp] theorem Dev.modSup_rd (d : Dev) (g : Sup → Sup) (r : Fld) : (d.modSup g).rd r = d.rd r := rfl
@[simp] theorem Dev.modSup_on (d : Dev) (g : Sup → Sup) (r : Fld) : (d.modSup g).on r = d.on r := rfl
@[simp] theorem Dev.modLdr_rd (d : Dev) (g : Ldr → Ldr) (r : Fld) : (d.modLdr g).rd r = d.rd r := rfl
@[simp] theorem Dev.modLdr_on (d : Dev) (g : Ldr → Ldr) (r : Fld) : (d.modLdr g).on r = d.on r := rfl
@[simp] theorem Dev.modHif_rd (d : Dev) (g : Hif → Hif) (r : Fld) : (d.modHif g).rd r = d.rd r := rfl
@[simp] theorem Dev.modHif_on (d : Dev) (g : Hif → Hif) (r : Fld) : (d.modHif g).on r = d.on r := rfl
@[simp] theorem Dev.modJtag_rd (d : Dev) (g : Jtag → Jtag) (r : Fld) : (d.modJtag g).rd r = d.rd r := rfl
@[simp] theorem Dev.modJtag_on (d : Dev) (g : Jtag → Jtag) (r : Fld) : (d.modJtag g).on r = d.on r := rfl

@[simp] theorem Dev.modSup_sup (d : Dev) (g : Sup → Sup) : (d.modSup g).sup = g d.sup := rfl
@[simp] theorem Dev.modLdr_ldr (d : Dev) (g : Ldr → Ldr) : (d.modLdr g).ldr = g d.ldr := rfl
@[simp] theorem Dev.modHif_hif (d : Dev) (g : Hif → Hif) : (d.modHif g).hif = g d.hif := rfl
@[simp] theorem Dev.modJtag_jtag (d : Dev) (g : Jtag → Jtag) : (d.modJtag g).jtag = g d.jtag := rfl

@[simp] theorem Dev.wr_inReset (d : Dev) (f : Fld) (v : Nat) : (d.wr f v).inReset = d.inReset := rfl

theorem Dev.setRtc_same (d : Dev) (y : Nat) : (d.modSup (fun s => { s with rtc := y })).tb = d.tb
    ∧ (d.modSup (fun s => { s with rtc := y })).inReset = d.inReset := ⟨rfl, rfl⟩

theorem Dev.rtcCount_same (d : Dev) (x : Nat) : (d.rtcCount x).tb = d.tb ∧ (d.rtcCount x).inReset = d.inReset := by
  unfold Dev.rtcCount
  split
  · exact d.setRtc_same x
  · exact ((d.wr _ _).wr _ _).setRtc_same _

/-- The RTC's count changes no state of the timebase, and not whether the core is held in reset. -/
theorem Dev.rtcTick_same (d : Dev) : d.rtcTick.tb = d.tb ∧ d.rtcTick.inReset = d.inReset := d.rtcCount_same _

@[simp] theorem Dev.setLt_lt (d : Dev) (t : Nat) : (d.setLt t).tb.lt = t := rfl
@[simp] theorem Dev.setLt_dom (d : Dev) (t n : Nat) : (d.setLt t).dom n = d.dom n := rfl

/-! ### Repeated and conditional updates -/

@[simp] theorem Dev.when_true (d : Dev) (f : Dev → Dev) : d.when true f = f d := rfl
@[simp] theorem Dev.when_false (d : Dev) (f : Dev → Dev) : d.when false f = d := rfl

/-- What every step of a fold keeps, the fold keeps. -/
theorem forNums_keeps {P : Dev → Prop} {n : Nat} {f : Nat → Dev → Dev} (h : ∀ i < n, ∀ d, P d → P (f i d)) {d : Dev} (hd : P d) :
    P (forNums n f d) := by
  unfold forNums
  have key : ∀ (l : List Nat) (d : Dev), (∀ i ∈ l, i < n) → P d → P (l.foldl (fun d i => f i d) d) := by
    intro l
    induction l with
    | nil => intro d _ hd; exact hd
    | cons a r ih =>
      intro d hl hd
      exact ih _ (fun i hi => hl i (List.mem_cons_of_mem _ hi)) (h a (hl a (List.mem_cons_self ..)) d hd)
  exact key _ d (fun i hi => List.mem_range.mp hi) hd

/-- A field that every step of a fold leaves alone, the fold leaves alone. -/
theorem forNums_same {β : Type} (g : Dev → β) {n : Nat} {f : Nat → Dev → Dev} (h : ∀ i < n, ∀ d, g (f i d) = g d) (d : Dev) :
    g (forNums n f d) = g d :=
  forNums_keeps (P := fun x => g x = g d) (fun i hi x hx => (h i hi x).trans hx) rfl

/-- Clearing fields changes nothing but registers. -/
theorem Dev.clrs_only (d : Dev) (fs : List Fld) : ∃ r, d.clrs fs = { d with regs := r } := by
  induction fs generalizing d with
  | nil => exact ⟨d.regs, rfl⟩
  | cons f r ih => obtain ⟨x, hx⟩ := ih (d.clr f); exact ⟨x, hx⟩

@[simp] theorem Dev.clrs_staged (d : Dev) (fs : List Fld) : (d.clrs fs).staged = d.staged := by
  obtain ⟨r, h⟩ := d.clrs_only fs; rw [h]
@[simp] theorem Dev.clrs_latched (d : Dev) (fs : List Fld) : (d.clrs fs).latched = d.latched := by
  obtain ⟨r, h⟩ := d.clrs_only fs; rw [h]
@[simp] theorem Dev.clrs_tb (d : Dev) (fs : List Fld) : (d.clrs fs).tb = d.tb := by
  obtain ⟨r, h⟩ := d.clrs_only fs; rw [h]
@[simp] theorem Dev.clrs_pin (d : Dev) (fs : List Fld) : (d.clrs fs).pin = d.pin := by
  obtain ⟨r, h⟩ := d.clrs_only fs; rw [h]
@[simp] theorem Dev.clrs_mem (d : Dev) (fs : List Fld) : (d.clrs fs).mem = d.mem := by
  obtain ⟨r, h⟩ := d.clrs_only fs; rw [h]
@[simp] theorem Dev.clrs_engs (d : Dev) (fs : List Fld) : (d.clrs fs).engs = d.engs := by
  obtain ⟨r, h⟩ := d.clrs_only fs; rw [h]
@[simp] theorem Dev.clrs_deps (d : Dev) (fs : List Fld) : (d.clrs fs).deps = d.deps := by
  obtain ⟨r, h⟩ := d.clrs_only fs; rw [h]
@[simp] theorem Dev.clrs_can (d : Dev) (fs : List Fld) : (d.clrs fs).can = d.can := by
  obtain ⟨r, h⟩ := d.clrs_only fs; rw [h]
@[simp] theorem Dev.clrs_ports (d : Dev) (fs : List Fld) : (d.clrs fs).ports = d.ports := by
  obtain ⟨r, h⟩ := d.clrs_only fs; rw [h]
@[simp] theorem Dev.clrs_fab (d : Dev) (fs : List Fld) : (d.clrs fs).fab = d.fab := by
  obtain ⟨r, h⟩ := d.clrs_only fs; rw [h]
@[simp] theorem Dev.clrs_rings (d : Dev) (fs : List Fld) : (d.clrs fs).rings = d.rings := by
  obtain ⟨r, h⟩ := d.clrs_only fs; rw [h]
@[simp] theorem Dev.clrs_sau (d : Dev) (fs : List Fld) : (d.clrs fs).sau = d.sau := by
  obtain ⟨r, h⟩ := d.clrs_only fs; rw [h]
@[simp] theorem Dev.clrs_mbx (d : Dev) (fs : List Fld) : (d.clrs fs).mbx = d.mbx := by
  obtain ⟨r, h⟩ := d.clrs_only fs; rw [h]
@[simp] theorem Dev.clrs_evr (d : Dev) (fs : List Fld) : (d.clrs fs).evr = d.evr := by
  obtain ⟨r, h⟩ := d.clrs_only fs; rw [h]
@[simp] theorem Dev.clrs_hif (d : Dev) (fs : List Fld) : (d.clrs fs).hif = d.hif := by
  obtain ⟨r, h⟩ := d.clrs_only fs; rw [h]
@[simp] theorem Dev.clrs_ldr (d : Dev) (fs : List Fld) : (d.clrs fs).ldr = d.ldr := by
  obtain ⟨r, h⟩ := d.clrs_only fs; rw [h]
@[simp] theorem Dev.clrs_sup (d : Dev) (fs : List Fld) : (d.clrs fs).sup = d.sup := by
  obtain ⟨r, h⟩ := d.clrs_only fs; rw [h]
@[simp] theorem Dev.clrs_jtag (d : Dev) (fs : List Fld) : (d.clrs fs).jtag = d.jtag := by
  obtain ⟨r, h⟩ := d.clrs_only fs; rw [h]
@[simp] theorem Dev.clrs_refused (d : Dev) (fs : List Fld) : (d.clrs fs).refused = d.refused := by
  obtain ⟨r, h⟩ := d.clrs_only fs; rw [h]
@[simp] theorem Dev.clrs_out (d : Dev) (fs : List Fld) : (d.clrs fs).out = d.out := by
  obtain ⟨r, h⟩ := d.clrs_only fs; rw [h]
@[simp] theorem Dev.clrs_free (d : Dev) (fs : List Fld) : (d.clrs fs).free = d.free := by
  obtain ⟨r, h⟩ := d.clrs_only fs; rw [h]

theorem Dev.rd_clrs_ne (d : Dev) (fs : List Fld) (g : Fld) (h : ∀ f ∈ fs, g.key ≠ f.key) : (d.clrs fs).rd g = d.rd g := by
  induction fs generalizing d with
  | nil => rfl
  | cons f r ih =>
    exact (ih (d.clr f) (fun x hx => h x (List.mem_cons_of_mem _ hx))).trans (Dev.rd_clr_ne d (h f (List.mem_cons_self ..)))

/-! ### The event recorder's ingress -/

/-- A device that differs from another in nothing but the recorder, registers, and the note of a refusal. -/
def Dev.RecOnly (d x : Dev) : Prop := ∃ r e b, x = { d with regs := r, evr := e, refused := b }

theorem Dev.RecOnly.refl (d : Dev) : d.RecOnly d := ⟨_, _, _, rfl⟩
theorem Dev.RecOnly.trans {d x y : Dev} (h : d.RecOnly x) (k : x.RecOnly y) : d.RecOnly y := by
  obtain ⟨r, e, b, rfl⟩ := h
  obtain ⟨r', e', b', rfl⟩ := k
  exact ⟨r', e', b', rfl⟩
theorem Dev.RecOnly.wr {d x : Dev} (h : d.RecOnly x) (f : Fld) (v : Nat) : d.RecOnly (x.wr f v) := h.trans ⟨_, _, _, rfl⟩
theorem Dev.RecOnly.evr {d x : Dev} (h : d.RecOnly x) (e : Evr) : d.RecOnly { x with evr := e } := h.trans ⟨_, _, _, rfl⟩
theorem Dev.RecOnly.ite {d x y : Dev} {p : Prop} [Decidable p] (h : d.RecOnly x) (k : d.RecOnly y) : d.RecOnly (if p then x else y) := by
  by_cases hp : p <;> simp [hp, h, k]

/-- A post changes nothing but the recorder, its registers, and the note of a refusal (R461, R462). -/
theorem Dev.postEvent_only (d : Dev) (typ src detail : Nat) (test : Bool) : d.RecOnly (d.postEvent typ src detail test) := by
  have h0 : d.RecOnly (if refusalTypes.contains typ then { d with refused := true } else d) :=
    .ite ⟨_, _, _, rfl⟩ (.refl d)
  unfold Dev.postEvent
  generalize (if refusalTypes.contains typ then { d with refused := true } else d) = x at h0
  dsimp only
  split
  · exact (h0.evr _).wr _ _
  · refine .ite ?_ ?_
    · exact .ite h0 ((h0.wr _ _).evr _)
    · refine (Dev.RecOnly.wr ?_ _ _).wr _ _
      refine Dev.RecOnly.evr (Dev.RecOnly.evr ?_ _) _
      unfold Dev.when
      exact .ite (h0.wr _ _) h0

@[simp] theorem Dev.postEvent_staged (d : Dev) (typ src detail : Nat) (test : Bool) : (d.postEvent typ src detail test).staged = d.staged := by
  obtain ⟨r, e, b, h⟩ := d.postEvent_only typ src detail test; rw [h]
@[simp] theorem Dev.postEvent_latched (d : Dev) (typ src detail : Nat) (test : Bool) : (d.postEvent typ src detail test).latched = d.latched := by
  obtain ⟨r, e, b, h⟩ := d.postEvent_only typ src detail test; rw [h]
@[simp] theorem Dev.postEvent_tb (d : Dev) (typ src detail : Nat) (test : Bool) : (d.postEvent typ src detail test).tb = d.tb := by
  obtain ⟨r, e, b, h⟩ := d.postEvent_only typ src detail test; rw [h]
@[simp] theorem Dev.postEvent_pin (d : Dev) (typ src detail : Nat) (test : Bool) : (d.postEvent typ src detail test).pin = d.pin := by
  obtain ⟨r, e, b, h⟩ := d.postEvent_only typ src detail test; rw [h]
@[simp] theorem Dev.postEvent_mem (d : Dev) (typ src detail : Nat) (test : Bool) : (d.postEvent typ src detail test).mem = d.mem := by
  obtain ⟨r, e, b, h⟩ := d.postEvent_only typ src detail test; rw [h]
@[simp] theorem Dev.postEvent_engs (d : Dev) (typ src detail : Nat) (test : Bool) : (d.postEvent typ src detail test).engs = d.engs := by
  obtain ⟨r, e, b, h⟩ := d.postEvent_only typ src detail test; rw [h]
@[simp] theorem Dev.postEvent_deps (d : Dev) (typ src detail : Nat) (test : Bool) : (d.postEvent typ src detail test).deps = d.deps := by
  obtain ⟨r, e, b, h⟩ := d.postEvent_only typ src detail test; rw [h]
@[simp] theorem Dev.postEvent_can (d : Dev) (typ src detail : Nat) (test : Bool) : (d.postEvent typ src detail test).can = d.can := by
  obtain ⟨r, e, b, h⟩ := d.postEvent_only typ src detail test; rw [h]
@[simp] theorem Dev.postEvent_ports (d : Dev) (typ src detail : Nat) (test : Bool) : (d.postEvent typ src detail test).ports = d.ports := by
  obtain ⟨r, e, b, h⟩ := d.postEvent_only typ src detail test; rw [h]
@[simp] theorem Dev.postEvent_fab (d : Dev) (typ src detail : Nat) (test : Bool) : (d.postEvent typ src detail test).fab = d.fab := by
  obtain ⟨r, e, b, h⟩ := d.postEvent_only typ src detail test; rw [h]
@[simp] theorem Dev.postEvent_rings (d : Dev) (typ src detail : Nat) (test : Bool) : (d.postEvent typ src detail test).rings = d.rings := by
  obtain ⟨r, e, b, h⟩ := d.postEvent_only typ src detail test; rw [h]
@[simp] theorem Dev.postEvent_sau (d : Dev) (typ src detail : Nat) (test : Bool) : (d.postEvent typ src detail test).sau = d.sau := by
  obtain ⟨r, e, b, h⟩ := d.postEvent_only typ src detail test; rw [h]
@[simp] theorem Dev.postEvent_mbx (d : Dev) (typ src detail : Nat) (test : Bool) : (d.postEvent typ src detail test).mbx = d.mbx := by
  obtain ⟨r, e, b, h⟩ := d.postEvent_only typ src detail test; rw [h]
@[simp] theorem Dev.postEvent_hif (d : Dev) (typ src detail : Nat) (test : Bool) : (d.postEvent typ src detail test).hif = d.hif := by
  obtain ⟨r, e, b, h⟩ := d.postEvent_only typ src detail test; rw [h]
@[simp] theorem Dev.postEvent_ldr (d : Dev) (typ src detail : Nat) (test : Bool) : (d.postEvent typ src detail test).ldr = d.ldr := by
  obtain ⟨r, e, b, h⟩ := d.postEvent_only typ src detail test; rw [h]
@[simp] theorem Dev.postEvent_sup (d : Dev) (typ src detail : Nat) (test : Bool) : (d.postEvent typ src detail test).sup = d.sup := by
  obtain ⟨r, e, b, h⟩ := d.postEvent_only typ src detail test; rw [h]
@[simp] theorem Dev.postEvent_jtag (d : Dev) (typ src detail : Nat) (test : Bool) : (d.postEvent typ src detail test).jtag = d.jtag := by
  obtain ⟨r, e, b, h⟩ := d.postEvent_only typ src detail test; rw [h]
@[simp] theorem Dev.postEvent_out (d : Dev) (typ src detail : Nat) (test : Bool) : (d.postEvent typ src detail test).out = d.out := by
  obtain ⟨r, e, b, h⟩ := d.postEvent_only typ src detail test; rw [h]
@[simp] theorem Dev.postEvent_free (d : Dev) (typ src detail : Nat) (test : Bool) : (d.postEvent typ src detail test).free = d.free := by
  obtain ⟨r, e, b, h⟩ := d.postEvent_only typ src detail test; rw [h]

/-- The homes of the register fields that a post may change. -/
abbrev postKeys : List Nat := [EVR_LOST_CNT.key, EVR_ACCEPT_CNT.key, EVR_FIFO_HWM.key, EVR_STAT_LOSS.key]

/-- A post leaves every register field but the recorder's counters alone. -/
theorem Dev.rd_postEvent (d : Dev) (typ src detail : Nat) (test : Bool) (g : Fld) (h : g.key ∉ postKeys) :
    (d.postEvent typ src detail test).rd g = d.rd g := by
  simp only [postKeys, List.mem_cons, List.not_mem_nil, or_false, not_or] at h
  obtain ⟨h1, h2, h3, h4⟩ := h
  have a1 (x : Dev) (v : Nat) := Dev.rd_wr_ne x (f := EVR_LOST_CNT) (g := g) v h1
  have a2 (x : Dev) (v : Nat) := Dev.rd_wr_ne x (f := EVR_ACCEPT_CNT) (g := g) v h2
  have a3 (x : Dev) (v : Nat) := Dev.rd_wr_ne x (f := EVR_FIFO_HWM) (g := g) v h3
  have a4 (x : Dev) (v : Nat) := Dev.rd_wr_ne x (f := EVR_STAT_LOSS) (g := g) v h4
  have h0 : (if refusalTypes.contains typ then { d with refused := true } else d).rd g = d.rd g := by split <;> rfl
  unfold Dev.postEvent
  generalize (if refusalTypes.contains typ then { d with refused := true } else d) = x at h0
  dsimp only
  split
  · exact (a2 _ _).trans h0
  · split
    · exact Eq.trans (by unfold Dev.evrDiscard; exact a1 x _) h0
    · refine (a2 _ _).trans ((a3 _ _).trans (Eq.trans (b := (x.when x.evr.lossDue (fun d => d.put EVR_STAT_LOSS true)).rd g) rfl ?_))
      cases x.evr.lossDue
      · exact h0
      · exact (a4 _ _).trans h0

end Sys2Proof.Machine
end

