-- ==== Sys2Proof/Laws/Map.lean ====
section
/-! SUPPORT. Where registers lie: the register that an offset names, by a search of the map that is checked once for all instances of a
register. -/

namespace Sys2Proof.Machine

/-- Whether no instance of a row holds any of the offsets `B + s * i + 4 * k`, i < n. -/
def RegRow.avoids (r : RegRow) (B s n k : Nat) : Bool :=
  decide (B + s * n + 4 * k < r.base)
  || (match r.dims with
      | [] => decide (r.base + 4 * r.words ≤ B + 4 * k)
      | [(t, m)] => decide (0 < t) && (decide (r.base + t * (m - 1) + 4 * r.words ≤ B + 4 * k)
          || (t == s && decide (r.base ≤ B + 4 * k) && decide (B + 4 * k - r.base < s)
              && decide (4 * r.words ≤ B + 4 * k - r.base))
          || (t == s && decide (B + 4 * k < r.base) && decide (r.base - (B + 4 * k) ≤ s)
              && decide (4 * r.words ≤ s - (r.base - (B + 4 * k)))))
      | (t, m) :: _ :: _ => decide (0 < t) && decide (r.base + t * m ≤ B + 4 * k))

theorem RegRow.at_avoids {r : RegRow} {B s n k i : Nat} (h : r.avoids B s n k = true) (hi : i < n) :
    r.at_ (B + s * i + 4 * k) = none := by
  have hs : s * i + s ≤ s * n := by
    have := Nat.mul_le_mul_left s (show i + 1 ≤ n from hi)
    simpa [Nat.mul_add] using this
  have far (t m : Nat) (ht : 0 < t) (hf : r.base + t * m ≤ B + 4 * k) : ¬ (B + s * i + 4 * k - r.base) / t < m := by
    intro hlt
    have := (Nat.div_lt_iff_lt_mul ht).mp hlt
    rw [Nat.mul_comm m t] at this
    omega
  unfold RegRow.avoids at h
  unfold RegRow.at_
  by_cases hb : B + s * i + 4 * k < r.base
  · rw [if_pos hb]
  · rw [if_neg hb]
    rw [Bool.or_eq_true] at h
    rcases h with h | h
    · have h := of_decide_eq_true h
      omega
    · rcases hd : r.dims with _ | ⟨⟨t, m⟩, _ | ⟨e, ds⟩⟩
      · rw [hd] at h
        have h := of_decide_eq_true h
        simp only [instances]
        rw [if_neg (by omega)]
      · rw [hd] at h
        simp only [Bool.and_eq_true, Bool.or_eq_true, decide_eq_true_eq, beq_iff_eq] at h
        obtain ⟨ht, h⟩ := h
        simp only [instances]
        rcases h with (h | ⟨⟨⟨rfl, h1⟩, h2⟩, h3⟩) | ⟨⟨⟨rfl, h1⟩, h2⟩, h3⟩
        · by_cases hq : (B + s * i + 4 * k - r.base) / t < m
          · simp only [hq, if_true, Option.map_some]
            have hd := Nat.div_add_mod (B + s * i + 4 * k - r.base) t
            have hle : t * ((B + s * i + 4 * k - r.base) / t) ≤ t * (m - 1) := Nat.mul_le_mul_left t (by omega)
            rw [if_neg (by omega)]
          · simp only [hq, if_false]
        · have e : B + t * i + 4 * k - r.base = (B + 4 * k - r.base) + t * i := by omega
          have hm : (B + t * i + 4 * k - r.base) % t = B + 4 * k - r.base := by
            rw [e, Nat.add_mul_mod_self_left, Nat.mod_eq_of_lt h2]
          by_cases hq : (B + t * i + 4 * k - r.base) / t < m
          · simp only [hq, if_true, Option.map_some, hm]
            rw [if_neg (by omega)]
          · simp only [hq, if_false]
        · have hi0 : 0 < i := by
            rcases Nat.eq_zero_or_pos i with h0 | h0
            · subst h0; simp at hb; omega
            · exact h0
          obtain ⟨j, rfl⟩ : ∃ j, i = j + 1 := ⟨i - 1, by omega⟩
          rw [Nat.mul_add, Nat.mul_one] at hb ⊢
          have e : B + (t * j + t) + 4 * k - r.base = (t - (r.base - (B + 4 * k))) + t * j := by omega
          have hm : (B + (t * j + t) + 4 * k - r.base) % t = t - (r.base - (B + 4 * k)) := by
            rw [e, Nat.add_mul_mod_self_left, Nat.mod_eq_of_lt (by omega)]
          by_cases hq : (B + (t * j + t) + 4 * k - r.base) / t < m
          · simp only [hq, if_true, Option.map_some, hm]
            rw [if_neg (by omega)]
          · simp only [hq, if_false]
      · rw [hd] at h
        simp only [Bool.and_eq_true, decide_eq_true_eq] at h
        simp only [instances]
        rw [if_neg (far t m h.1 h.2)]

/-- The first row of a list that holds the offsets `B + s * i + 4 * k`, i < n, in its word k, every row before it holding none. -/
def pick (B s n k : Nat) : List RegRow → Option RegRow
  | [] => none
  | r :: l =>
    if decide (r.base = B) && decide (r.dims = [(s, n)]) && decide (k < r.words) && decide (4 * r.words ≤ s) then some r
    else if r.avoids B s n k then pick B s n k l else none

/-- A search that `pick` has checked. -/
theorem findSome_of_pick {B s n k : Nat} {l : List RegRow} {r : RegRow} (h : pick B s n k l = some r) {i : Nat} (hi : i < n) :
    l.findSome? (fun r => r.at_ (B + s * i + 4 * k)) = some ⟨r, [i], k⟩ := by
  induction l with
  | nil => simp [pick] at h
  | cons a l ih =>
    unfold pick at h
    split at h
    · rename_i hc
      simp only [Bool.and_eq_true, decide_eq_true_eq] at hc
      obtain ⟨⟨⟨hb, hd⟩, hk⟩, hw⟩ := hc
      cases h
      have hs : 0 < s := by omega
      have e : B + s * i + 4 * k - r.base = 4 * k + s * i := by omega
      have hq : (4 * k + s * i) / s = i := by
        rw [Nat.add_mul_div_left _ _ hs, Nat.div_eq_of_lt (by omega), Nat.zero_add]
      have hm : (4 * k + s * i) % s = 4 * k := by rw [Nat.add_mul_mod_self_left, Nat.mod_eq_of_lt (by omega)]
      have : r.at_ (B + s * i + 4 * k) = some ⟨r, [i], k⟩ := by
        unfold RegRow.at_
        rw [if_neg (by omega), hd, e]
        simp only [instances, hq, hm, hi, if_true, Option.map_some]
        rw [if_pos (by omega), Nat.mul_div_cancel_left k (by omega)]
      rw [List.findSome?_cons, this]
    · split at h
      · rename_i ha
        rw [List.findSome?_cons, RegRow.at_avoids ha hi]
        exact ih h
      · cases h

end Sys2Proof.Machine
end

