-- ==== Sys2Proof/Laws/Places.lean ====
section
/-! SUPPORT. The registers that commands write or read by name: each lies at its offset (R523), in the last word of it, which commits. -/

namespace Sys2Proof.Machine

/-! ### Blocks -/

theorem rowsAt_rowsDev {off : Nat} (h2 : off < 0x100) : rowsAt off = rowsDev := by
  unfold rowsAt
  rw [if_pos (by omega)]

theorem rowsAt_rowsHost {off : Nat} (h1 : 0x100 ≤ off) (h2 : off < 0x10000) : rowsAt off = rowsHost := by
  unfold rowsAt
  rw [if_neg (by omega)]
  rw [if_pos (by omega)]

theorem rowsAt_rowsSup {off : Nat} (h1 : 0x10000 ≤ off) (h2 : off < 0x20000) : rowsAt off = rowsSup := by
  unfold rowsAt
  iterate 2 rw [if_neg (by omega)]
  rw [if_pos (by omega)]

theorem rowsAt_rowsLoader {off : Nat} (h1 : 0x20000 ≤ off) (h2 : off < 0x30000) : rowsAt off = rowsLoader := by
  unfold rowsAt
  iterate 3 rw [if_neg (by omega)]
  rw [if_pos (by omega)]

theorem rowsAt_rowsEvent {off : Nat} (h1 : 0x30000 ≤ off) (h2 : off < 0x40000) : rowsAt off = rowsEvent := by
  unfold rowsAt
  iterate 4 rw [if_neg (by omega)]
  rw [if_pos (by omega)]

theorem rowsAt_rowsMbx {off : Nat} (h1 : 0x40000 ≤ off) (h2 : off < 0x50000) : rowsAt off = rowsMbx := by
  unfold rowsAt
  iterate 5 rw [if_neg (by omega)]
  rw [if_pos (by omega)]

theorem rowsAt_rowsMem {off : Nat} (h1 : 0x50000 ≤ off) (h2 : off < 0x70000) : rowsAt off = rowsMem := by
  unfold rowsAt
  iterate 6 rw [if_neg (by omega)]
  rw [if_pos (by omega)]

theorem rowsAt_rowsTime {off : Nat} (h1 : 0x70000 ≤ off) (h2 : off < 0x100000) : rowsAt off = rowsTime := by
  unfold rowsAt
  iterate 7 rw [if_neg (by omega)]
  rw [if_pos (by omega)]

theorem rowsAt_rowsPort {off : Nat} (h1 : 0x100000 ≤ off) (h2 : off < 0x200000) : rowsAt off = rowsPort := by
  unfold rowsAt
  iterate 8 rw [if_neg (by omega)]
  rw [if_pos (by omega)]

theorem rowsAt_rowsFabric {off : Nat} (h1 : 0x200000 ≤ off) (h2 : off < 0x300000) : rowsAt off = rowsFabric := by
  unfold rowsAt
  iterate 9 rw [if_neg (by omega)]
  rw [if_pos (by omega)]

theorem rowsAt_rowsSched {off : Nat} (h1 : 0x300000 ≤ off) (h2 : off < 0x400000) : rowsAt off = rowsSched := by
  unfold rowsAt
  iterate 10 rw [if_neg (by omega)]
  rw [if_pos (by omega)]

theorem rowsAt_rowsTrain {off : Nat} (h1 : 0x400000 ≤ off) (h2 : off < 0x500000) : rowsAt off = rowsTrain := by
  unfold rowsAt
  iterate 11 rw [if_neg (by omega)]
  rw [if_pos (by omega)]

theorem rowsAt_rowsSau {off : Nat} (h1 : 0x500000 ≤ off) (h2 : off < 0x600000) : rowsAt off = rowsSau := by
  unfold rowsAt
  iterate 12 rw [if_neg (by omega)]
  rw [if_pos (by omega)]

theorem rowsAt_rowsPin {off : Nat} (h1 : 0x600000 ≤ off) (h2 : off < 0x700000) : rowsAt off = rowsPin := by
  unfold rowsAt
  iterate 13 rw [if_neg (by omega)]
  rw [if_pos (by omega)]

theorem rowsAt_rowsCan {off : Nat} (h1 : 0x700000 ≤ off) (h2 : off < 0x800000) : rowsAt off = rowsCan := by
  unfold rowsAt
  iterate 14 rw [if_neg (by omega)]
  rw [if_pos (by omega)]

theorem rowsAt_rowsDepot {off : Nat} (h1 : 0x800000 ≤ off) (h2 : off < 0x1000000) : rowsAt off = rowsDepot := by
  unfold rowsAt
  iterate 15 rw [if_neg (by omega)]
  rw [if_pos (by omega)]

/-! ### Registers -/

theorem at_TB_SNAPn_CTRL {i : Nat} (h : i < 4) : findReg (0x80100 + 0x40 * i) = some ⟨row_TB_SNAPn_CTRL, [i], 0⟩ := by
  have h3 := findSome_of_pick (B := 0x80100) (s := 0x40) (n := 4) (k := 0) (l := rowsTime) (r := row_TB_SNAPn_CTRL) rfl h
  have e : 0x80100 + 0x40 * i = 0x80100 + 0x40 * i + 4 * 0 := by omega
  unfold findReg
  rw [e, rowsAt_rowsTime (by omega) (by omega)]
  exact h3

theorem at_TB_TDn_CFG {i : Nat} (h : i < 4) : findReg (0x81000 + 0x100 * i) = some ⟨row_TB_TDn_CFG, [i], 0⟩ := by
  have h3 := findSome_of_pick (B := 0x81000) (s := 0x100) (n := 4) (k := 0) (l := rowsTime) (r := row_TB_TDn_CFG) rfl h
  have e : 0x81000 + 0x100 * i = 0x81000 + 0x100 * i + 4 * 0 := by omega
  unfold findReg
  rw [e, rowsAt_rowsTime (by omega) (by omega)]
  exact h3

theorem at_TB_TDn_INCR_NOM {i : Nat} (h : i < 4) : findReg (0x8100C + 0x100 * i) = some ⟨row_TB_TDn_INCR_NOM, [i], 1⟩ := by
  have h3 := findSome_of_pick (B := 0x81008) (s := 0x100) (n := 4) (k := 1) (l := rowsTime) (r := row_TB_TDn_INCR_NOM) rfl h
  have e : 0x8100C + 0x100 * i = 0x81008 + 0x100 * i + 4 * 1 := by omega
  unfold findReg
  rw [e, rowsAt_rowsTime (by omega) (by omega)]
  exact h3

theorem at_TB_TDn_SET {i : Nat} (h : i < 4) : findReg (0x81020 + 0x100 * i) = some ⟨row_TB_TDn_SET, [i], 2⟩ := by
  have h3 := findSome_of_pick (B := 0x81018) (s := 0x100) (n := 4) (k := 2) (l := rowsTime) (r := row_TB_TDn_SET) rfl h
  have e : 0x81020 + 0x100 * i = 0x81018 + 0x100 * i + 4 * 2 := by omega
  unfold findReg
  rw [e, rowsAt_rowsTime (by omega) (by omega)]
  exact h3

theorem at_TB_TDn_STEP {i : Nat} (h : i < 4) : findReg (0x8102C + 0x100 * i) = some ⟨row_TB_TDn_STEP, [i], 1⟩ := by
  have h3 := findSome_of_pick (B := 0x81028) (s := 0x100) (n := 4) (k := 1) (l := rowsTime) (r := row_TB_TDn_STEP) rfl h
  have e : 0x8102C + 0x100 * i = 0x81028 + 0x100 * i + 4 * 1 := by omega
  unfold findReg
  rw [e, rowsAt_rowsTime (by omega) (by omega)]
  exact h3

theorem at_TB_TDn_OFFS {i : Nat} (h : i < 4) : findReg (0x81034 + 0x100 * i) = some ⟨row_TB_TDn_OFFS, [i], 1⟩ := by
  have h3 := findSome_of_pick (B := 0x81030) (s := 0x100) (n := 4) (k := 1) (l := rowsTime) (r := row_TB_TDn_OFFS) rfl h
  have e : 0x81034 + 0x100 * i = 0x81030 + 0x100 * i + 4 * 1 := by omega
  unfold findReg
  rw [e, rowsAt_rowsTime (by omega) (by omega)]
  exact h3

theorem at_TB_Pp_DRQ {i : Nat} (h : i < 22) : findReg (0x9002C + 0x100 * i) = some ⟨row_TB_Pp_DRQ, [i], 3⟩ := by
  have h3 := findSome_of_pick (B := 0x90020) (s := 0x100) (n := 22) (k := 3) (l := rowsTime) (r := row_TB_Pp_DRQ) rfl h
  have e : 0x9002C + 0x100 * i = 0x90020 + 0x100 * i + 4 * 3 := by omega
  unfold findReg
  rw [e, rowsAt_rowsTime (by omega) (by omega)]
  exact h3

theorem at_PRT_CTRL {i : Nat} (h : i < 22) : findReg (0x100000 + 0x8000 * i) = some ⟨row_PRT_CTRL, [i], 0⟩ := by
  have h3 := findSome_of_pick (B := 0x100000) (s := 0x8000) (n := 22) (k := 0) (l := rowsPort) (r := row_PRT_CTRL) rfl h
  have e : 0x100000 + 0x8000 * i = 0x100000 + 0x8000 * i + 4 * 0 := by omega
  unfold findReg
  rw [e, rowsAt_rowsPort (by omega) (by omega)]
  exact h3

theorem at_PRT_CFG {i : Nat} (h : i < 22) : findReg (0x100004 + 0x8000 * i) = some ⟨row_PRT_CFG, [i], 0⟩ := by
  have h3 := findSome_of_pick (B := 0x100004) (s := 0x8000) (n := 22) (k := 0) (l := rowsPort) (r := row_PRT_CFG) rfl h
  have e : 0x100004 + 0x8000 * i = 0x100004 + 0x8000 * i + 4 * 0 := by omega
  unfold findReg
  rw [e, rowsAt_rowsPort (by omega) (by omega)]
  exact h3

theorem at_SCH_CTRL {i : Nat} (h : i < 22) : findReg (0x300000 + 0x8000 * i) = some ⟨row_SCH_CTRL, [i], 0⟩ := by
  have h3 := findSome_of_pick (B := 0x300000) (s := 0x8000) (n := 22) (k := 0) (l := rowsSched) (r := row_SCH_CTRL) rfl h
  have e : 0x300000 + 0x8000 * i = 0x300000 + 0x8000 * i + 4 * 0 := by omega
  unfold findReg
  rw [e, rowsAt_rowsSched (by omega) (by omega)]
  exact h3

theorem at_FAB_TBLCMD : findReg 0x202000 = some ⟨row_FAB_TBLCMD, [], 0⟩ := rfl

theorem at_KS_KEY {i : Nat} (h : i < 256) : findReg (0x23003C + 0x40 * i) = some ⟨row_KS_KEY, [i], 7⟩ := by
  have h3 := findSome_of_pick (B := 0x230020) (s := 0x40) (n := 256) (k := 7) (l := rowsFabric) (r := row_KS_KEY) rfl h
  have e : 0x23003C + 0x40 * i = 0x230020 + 0x40 * i + 4 * 7 := by omega
  unfold findReg
  rw [e, rowsAt_rowsFabric (by omega) (by omega)]
  exact h3

theorem at_TRN_CFG {i : Nat} (h : i < 2) : findReg (0x400000 + 0x4000 * i) = some ⟨row_TRN_CFG, [i], 0⟩ := by
  have h3 := findSome_of_pick (B := 0x400000) (s := 0x4000) (n := 2) (k := 0) (l := rowsTrain) (r := row_TRN_CFG) rfl h
  have e : 0x400000 + 0x4000 * i = 0x400000 + 0x4000 * i + 4 * 0 := by omega
  unfold findReg
  rw [e, rowsAt_rowsTrain (by omega) (by omega)]
  exact h3

theorem at_TRN_MCTRL {i : Nat} (h : i < 2) : findReg (0x400030 + 0x4000 * i) = some ⟨row_TRN_MCTRL, [i], 0⟩ := by
  have h3 := findSome_of_pick (B := 0x400030) (s := 0x4000) (n := 2) (k := 0) (l := rowsTrain) (r := row_TRN_MCTRL) rfl h
  have e : 0x400030 + 0x4000 * i = 0x400030 + 0x4000 * i + 4 * 0 := by omega
  unfold findReg
  rw [e, rowsAt_rowsTrain (by omega) (by omega)]
  exact h3

theorem at_TRN_MCMD {i : Nat} (h : i < 2) : findReg (0x400080 + 0x4000 * i) = some ⟨row_TRN_MCMD, [i], 0⟩ := by
  have h3 := findSome_of_pick (B := 0x400080) (s := 0x4000) (n := 2) (k := 0) (l := rowsTrain) (r := row_TRN_MCMD) rfl h
  have e : 0x400080 + 0x4000 * i = 0x400080 + 0x4000 * i + 4 * 0 := by omega
  unfold findReg
  rw [e, rowsAt_rowsTrain (by omega) (by omega)]
  exact h3

theorem at_TRN_CMDFIFO {i : Nat} (h : i < 2) : findReg (0x400098 + 0x4000 * i) = some ⟨row_TRN_CMDFIFO, [i], 2⟩ := by
  have h3 := findSome_of_pick (B := 0x400090) (s := 0x4000) (n := 2) (k := 2) (l := rowsTrain) (r := row_TRN_CMDFIFO) rfl h
  have e : 0x400098 + 0x4000 * i = 0x400090 + 0x4000 * i + 4 * 2 := by omega
  unfold findReg
  rw [e, rowsAt_rowsTrain (by omega) (by omega)]
  exact h3

theorem at_SAU_S_CFG {i : Nat} (h : i < 256) : findReg (0x510000 + 0x80 * i) = some ⟨row_SAU_S_CFG, [i], 0⟩ := by
  have h3 := findSome_of_pick (B := 0x510000) (s := 0x80) (n := 256) (k := 0) (l := rowsSau) (r := row_SAU_S_CFG) rfl h
  have e : 0x510000 + 0x80 * i = 0x510000 + 0x80 * i + 4 * 0 := by omega
  unfold findReg
  rw [e, rowsAt_rowsSau (by omega) (by omega)]
  exact h3

theorem at_SAU_Mm_CFG {i : Nat} (h : i < 4) : findReg (0x501000 + 0x100 * i) = some ⟨row_SAU_Mm_CFG, [i], 0⟩ := by
  have h3 := findSome_of_pick (B := 0x501000) (s := 0x100) (n := 4) (k := 0) (l := rowsSau) (r := row_SAU_Mm_CFG) rfl h
  have e : 0x501000 + 0x100 * i = 0x501000 + 0x100 * i + 4 * 0 := by omega
  unfold findReg
  rw [e, rowsAt_rowsSau (by omega) (by omega)]
  exact h3

theorem at_PIN_ESQ : findReg 0x60004C = some ⟨row_PIN_ESQ, [], 3⟩ := rfl

theorem at_PIN_IOn_SAFE {i : Nat} (h : i < 48) : findReg (0x60100C + 0x10 * i) = some ⟨row_PIN_IOn_SAFE, [i], 0⟩ := by
  have h3 := findSome_of_pick (B := 0x60100C) (s := 0x10) (n := 48) (k := 0) (l := rowsPin) (r := row_PIN_IOn_SAFE) rfl h
  have e : 0x60100C + 0x10 * i = 0x60100C + 0x10 * i + 4 * 0 := by omega
  unfold findReg
  rw [e, rowsAt_rowsPin (by omega) (by omega)]
  exact h3

theorem at_PIN_IOn_XDRV {i : Nat} (h : i < 48) : findReg (0x601008 + 0x10 * i) = some ⟨row_PIN_IOn_XDRV, [i], 0⟩ := by
  have h3 := findSome_of_pick (B := 0x601008) (s := 0x10) (n := 48) (k := 0) (l := rowsPin) (r := row_PIN_IOn_XDRV) rfl h
  have e : 0x601008 + 0x10 * i = 0x601008 + 0x10 * i + 4 * 0 := by omega
  unfold findReg
  rw [e, rowsAt_rowsPin (by omega) (by omega)]
  exact h3

theorem at_PIN_GRP_CLK {i : Nat} (h : i < 2) : findReg (0x602000 + 0x1000 * i) = some ⟨row_PIN_GRP_CLK, [i], 0⟩ := by
  have h3 := findSome_of_pick (B := 0x602000) (s := 0x1000) (n := 2) (k := 0) (l := rowsPin) (r := row_PIN_GRP_CLK) rfl h
  have e : 0x602000 + 0x1000 * i = 0x602000 + 0x1000 * i + 4 * 0 := by omega
  unfold findReg
  rw [e, rowsAt_rowsPin (by omega) (by omega)]
  exact h3

theorem at_PIN_GRP_START {i : Nat} (h : i < 2) : findReg (0x602004 + 0x1000 * i) = some ⟨row_PIN_GRP_START, [i], 0⟩ := by
  have h3 := findSome_of_pick (B := 0x602004) (s := 0x1000) (n := 2) (k := 0) (l := rowsPin) (r := row_PIN_GRP_START) rfl h
  have e : 0x602004 + 0x1000 * i = 0x602004 + 0x1000 * i + 4 * 0 := by omega
  unfold findReg
  rw [e, rowsAt_rowsPin (by omega) (by omega)]
  exact h3

theorem at_PIN_GRP_HALT {i : Nat} (h : i < 2) : findReg (0x602008 + 0x1000 * i) = some ⟨row_PIN_GRP_HALT, [i], 0⟩ := by
  have h3 := findSome_of_pick (B := 0x602008) (s := 0x1000) (n := 2) (k := 0) (l := rowsPin) (r := row_PIN_GRP_HALT) rfl h
  have e : 0x602008 + 0x1000 * i = 0x602008 + 0x1000 * i + 4 * 0 := by omega
  unfold findReg
  rw [e, rowsAt_rowsPin (by omega) (by omega)]
  exact h3

theorem at_PIN_GRP_FLAGSET {i : Nat} (h : i < 2) : findReg (0x602024 + 0x1000 * i) = some ⟨row_PIN_GRP_FLAGSET, [i], 0⟩ := by
  have h3 := findSome_of_pick (B := 0x602024) (s := 0x1000) (n := 2) (k := 0) (l := rowsPin) (r := row_PIN_GRP_FLAGSET) rfl h
  have e : 0x602024 + 0x1000 * i = 0x602024 + 0x1000 * i + 4 * 0 := by omega
  unfold findReg
  rw [e, rowsAt_rowsPin (by omega) (by omega)]
  exact h3

theorem at_DEP_CTRL {i : Nat} (h : i < 8) : findReg (0x800000 + 0x100000 * i) = some ⟨row_DEP_CTRL, [i], 0⟩ := by
  have h3 := findSome_of_pick (B := 0x800000) (s := 0x100000) (n := 8) (k := 0) (l := rowsDepot) (r := row_DEP_CTRL) rfl h
  have e : 0x800000 + 0x100000 * i = 0x800000 + 0x100000 * i + 4 * 0 := by omega
  unfold findReg
  rw [e, rowsAt_rowsDepot (by omega) (by omega)]
  exact h3

theorem at_DEP_SWAP {i : Nat} (h : i < 8) : findReg (0x800008 + 0x100000 * i) = some ⟨row_DEP_SWAP, [i], 0⟩ := by
  have h3 := findSome_of_pick (B := 0x800008) (s := 0x100000) (n := 8) (k := 0) (l := rowsDepot) (r := row_DEP_SWAP) rfl h
  have e : 0x800008 + 0x100000 * i = 0x800008 + 0x100000 * i + 4 * 0 := by omega
  unfold findReg
  rw [e, rowsAt_rowsDepot (by omega) (by omega)]
  exact h3

theorem at_MEM_BANKb {i : Nat} (h : i < 64) : findReg (0x60000 + 0x10 * i) = some ⟨row_MEM_BANKb, [i], 0⟩ := by
  have h3 := findSome_of_pick (B := 0x60000) (s := 0x10) (n := 64) (k := 0) (l := rowsMem) (r := row_MEM_BANKb) rfl h
  have e : 0x60000 + 0x10 * i = 0x60000 + 0x10 * i + 4 * 0 := by omega
  unfold findReg
  rw [e, rowsAt_rowsMem (by omega) (by omega)]
  exact h3

theorem at_QM_Qn_POP_low {i : Nat} (h : i < 1024) : findReg (0x54000 + 0x10 * i) = some ⟨row_QM_Qn_POP, [i], 0⟩ := by
  have h3 := findSome_of_pick (B := 0x54000) (s := 0x10) (n := 1024) (k := 0) (l := rowsMem) (r := row_QM_Qn_POP) rfl h
  have e : 0x54000 + 0x10 * i = 0x54000 + 0x10 * i + 4 * 0 := by omega
  unfold findReg
  rw [e, rowsAt_rowsMem (by omega) (by omega)]
  exact h3

theorem at_QM_Qn_POP {i : Nat} (h : i < 1024) : findReg (0x54004 + 0x10 * i) = some ⟨row_QM_Qn_POP, [i], 1⟩ := by
  have h3 := findSome_of_pick (B := 0x54000) (s := 0x10) (n := 1024) (k := 1) (l := rowsMem) (r := row_QM_Qn_POP) rfl h
  have e : 0x54004 + 0x10 * i = 0x54000 + 0x10 * i + 4 * 1 := by omega
  unfold findReg
  rw [e, rowsAt_rowsMem (by omega) (by omega)]
  exact h3

theorem at_QM_Qn_PUSH_low {i : Nat} (h : i < 1024) : findReg (0x54008 + 0x10 * i) = some ⟨row_QM_Qn_PUSH, [i], 0⟩ := by
  have h3 := findSome_of_pick (B := 0x54008) (s := 0x10) (n := 1024) (k := 0) (l := rowsMem) (r := row_QM_Qn_PUSH) rfl h
  have e : 0x54008 + 0x10 * i = 0x54008 + 0x10 * i + 4 * 0 := by omega
  unfold findReg
  rw [e, rowsAt_rowsMem (by omega) (by omega)]
  exact h3

theorem at_QM_Qn_PUSH {i : Nat} (h : i < 1024) : findReg (0x5400C + 0x10 * i) = some ⟨row_QM_Qn_PUSH, [i], 1⟩ := by
  have h3 := findSome_of_pick (B := 0x54008) (s := 0x10) (n := 1024) (k := 1) (l := rowsMem) (r := row_QM_Qn_PUSH) rfl h
  have e : 0x5400C + 0x10 * i = 0x54008 + 0x10 * i + 4 * 1 := by omega
  unfold findReg
  rw [e, rowsAt_rowsMem (by omega) (by omega)]
  exact h3

theorem at_MBX_DBRING : findReg 0x40400 = some ⟨row_MBX_DBRING, [], 0⟩ := rfl

theorem at_MBX_LKn {i : Nat} (h : i < 64) : findReg (0x42000 + 0x10 * i) = some ⟨row_MBX_LKn, [i], 0⟩ := by
  have h3 := findSome_of_pick (B := 0x42000) (s := 0x10) (n := 64) (k := 0) (l := rowsMbx) (r := row_MBX_LKn) rfl h
  have e : 0x42000 + 0x10 * i = 0x42000 + 0x10 * i + 4 * 0 := by omega
  unfold findReg
  rw [e, rowsAt_rowsMbx (by omega) (by omega)]
  exact h3

theorem at_MBX_LKn_PEEK {i : Nat} (h : i < 64) : findReg (0x42004 + 0x10 * i) = some ⟨row_MBX_LKn_PEEK, [i], 0⟩ := by
  have h3 := findSome_of_pick (B := 0x42004) (s := 0x10) (n := 64) (k := 0) (l := rowsMbx) (r := row_MBX_LKn_PEEK) rfl h
  have e : 0x42004 + 0x10 * i = 0x42004 + 0x10 * i + 4 * 0 := by omega
  unfold findReg
  rw [e, rowsAt_rowsMbx (by omega) (by omega)]
  exact h3

theorem at_MBX_LKn_FORCE {i : Nat} (h : i < 64) : findReg (0x42008 + 0x10 * i) = some ⟨row_MBX_LKn_FORCE, [i], 0⟩ := by
  have h3 := findSome_of_pick (B := 0x42008) (s := 0x10) (n := 64) (k := 0) (l := rowsMbx) (r := row_MBX_LKn_FORCE) rfl h
  have e : 0x42008 + 0x10 * i = 0x42008 + 0x10 * i + 4 * 0 := by omega
  unfold findReg
  rw [e, rowsAt_rowsMbx (by omega) (by omega)]
  exact h3

theorem at_CAN_CTRL {i : Nat} (h : i < 2) : findReg (0x700000 + 0x8000 * i) = some ⟨row_CAN_CTRL, [i], 0⟩ := by
  have hi : i = 0 ∨ i = 1 := by omega
  rcases hi with rfl | rfl <;> rfl

theorem at_CAN_TXREQ {i : Nat} (h : i < 2) : findReg (0x700040 + 0x8000 * i) = some ⟨row_CAN_TXREQ, [i], 0⟩ := by
  have hi : i = 0 ∨ i = 1 := by omega
  rcases hi with rfl | rfl <;> rfl

theorem at_CAN_TXABT {i : Nat} (h : i < 2) : findReg (0x700048 + 0x8000 * i) = some ⟨row_CAN_TXABT, [i], 0⟩ := by
  have hi : i = 0 ∨ i = 1 := by omega
  rcases hi with rfl | rfl <;> rfl

theorem at_LDR_NORCMD : findReg 0x20050 = some ⟨row_LDR_NORCMD, [], 0⟩ := rfl

theorem at_SUP_LOCK : findReg 0x10004 = some ⟨row_SUP_LOCK, [], 0⟩ := rfl

theorem at_SUP_FNRST : findReg 0x10010 = some ⟨row_SUP_FNRST, [], 0⟩ := rfl

theorem at_SUP_RST : findReg 0x10018 = some ⟨row_SUP_RST, [], 0⟩ := rfl

theorem at_SUP_FAULT : findReg 0x10020 = some ⟨row_SUP_FAULT, [], 0⟩ := rfl

theorem at_SUP_WDKICK : findReg 0x10038 = some ⟨row_SUP_WDKICK, [], 0⟩ := rfl

theorem at_SUP_PWR : findReg 0x10060 = some ⟨row_SUP_PWR, [], 0⟩ := rfl

theorem at_SUP_CGATE : findReg 0x10050 = some ⟨row_SUP_CGATE, [], 0⟩ := rfl

theorem at_EVR_CTRL : findReg 0x30008 = some ⟨row_EVR_CTRL, [], 0⟩ := rfl

theorem at_EVR_INJECT : findReg 0x30060 = some ⟨row_EVR_INJECT, [], 0⟩ := rfl

theorem at_EVR_INJDATA : findReg 0x30064 = some ⟨row_EVR_INJDATA, [], 0⟩ := rfl

theorem at_HIF_CHc_CTAIL {i : Nat} (h : i < 8) : findReg (0x9014 + 0x100 * i) = some ⟨row_HIF_CHc_CTAIL, [i], 0⟩ := by
  have h3 := findSome_of_pick (B := 0x9014) (s := 0x100) (n := 8) (k := 0) (l := rowsHost) (r := row_HIF_CHc_CTAIL) rfl h
  have e : 0x9014 + 0x100 * i = 0x9014 + 0x100 * i + 4 * 0 := by omega
  unfold findReg
  rw [e, rowsAt_rowsHost (by omega) (by omega)]
  exact h3

theorem at_HIF_CHc_RTAIL {i : Nat} (h : i < 8) : findReg (0x902C + 0x100 * i) = some ⟨row_HIF_CHc_RTAIL, [i], 0⟩ := by
  have h3 := findSome_of_pick (B := 0x902C) (s := 0x100) (n := 8) (k := 0) (l := rowsHost) (r := row_HIF_CHc_RTAIL) rfl h
  have e : 0x902C + 0x100 * i = 0x902C + 0x100 * i + 4 * 0 := by omega
  unfold findReg
  rw [e, rowsAt_rowsHost (by omega) (by omega)]
  exact h3

theorem at_PIN_GRP_IMEMw {g w : Nat} (hg : g < 2) (hw : w < 64) : findReg (0x602100 + 0x1000 * g + 4 * w) = some ⟨row_PIN_GRP_IMEMw, [g, w], 0⟩ := by
  obtain ⟨x, y, rfl, hx, hy⟩ : ∃ x y, w = 8 * x + y ∧ x < 8 ∧ y < 8 := ⟨w / 8, w % 8, by omega, by omega, by omega⟩
  have hg : g = 0 ∨ g = 1 := by omega
  have hx : x = 0 ∨ x = 1 ∨ x = 2 ∨ x = 3 ∨ x = 4 ∨ x = 5 ∨ x = 6 ∨ x = 7 := by omega
  have hy : y = 0 ∨ y = 1 ∨ y = 2 ∨ y = 3 ∨ y = 4 ∨ y = 5 ∨ y = 6 ∨ y = 7 := by omega
  clear hw
  rcases hg with rfl | rfl <;> rcases hx with rfl | rfl | rfl | rfl | rfl | rfl | rfl | rfl <;> rcases hy with rfl | rfl | rfl | rfl | rfl | rfl | rfl | rfl <;> rfl

theorem at_PIN_SEQ_CTRL {q : Nat} (h : q < 8) : findReg (0x60242C + 0x1000 * (q / 4) + 0x80 * (q % 4)) = some ⟨row_PIN_SEQ_CTRL, [q / 4, q % 4], 0⟩ := by
  have hx : q / 4 < 2 := by omega
  have hy : q % 4 < 4 := by omega
  generalize q / 4 = x at hx ⊢
  generalize q % 4 = y at hy ⊢
  have hx : x = 0 ∨ x = 1 := by omega
  have hy : y = 0 ∨ y = 1 ∨ y = 2 ∨ y = 3 := by omega
  rcases hx with rfl | rfl <;> rcases hy with rfl | rfl | rfl | rfl <;> rfl

theorem at_PIN_SEQ_TXF {q : Nat} (h : q < 8) : findReg (0x602440 + 0x1000 * (q / 4) + 0x80 * (q % 4)) = some ⟨row_PIN_SEQ_TXF, [q / 4, q % 4], 0⟩ := by
  have hx : q / 4 < 2 := by omega
  have hy : q % 4 < 4 := by omega
  generalize q / 4 = x at hx ⊢
  generalize q % 4 = y at hy ⊢
  have hx : x = 0 ∨ x = 1 := by omega
  have hy : y = 0 ∨ y = 1 ∨ y = 2 ∨ y = 3 := by omega
  rcases hx with rfl | rfl <;> rcases hy with rfl | rfl | rfl | rfl <;> rfl

theorem at_PIN_SEQ_RXF_low {q : Nat} (h : q < 8) : findReg (0x602448 + 0x1000 * (q / 4) + 0x80 * (q % 4)) = some ⟨row_PIN_SEQ_RXF, [q / 4, q % 4], 0⟩ := by
  have hx : q / 4 < 2 := by omega
  have hy : q % 4 < 4 := by omega
  generalize q / 4 = x at hx ⊢
  generalize q % 4 = y at hy ⊢
  have hx : x = 0 ∨ x = 1 := by omega
  have hy : y = 0 ∨ y = 1 ∨ y = 2 ∨ y = 3 := by omega
  rcases hx with rfl | rfl <;> rcases hy with rfl | rfl | rfl | rfl <;> rfl

theorem at_PIN_SEQ_RXF {q : Nat} (h : q < 8) : findReg (0x60244C + 0x1000 * (q / 4) + 0x80 * (q % 4)) = some ⟨row_PIN_SEQ_RXF, [q / 4, q % 4], 1⟩ := by
  have hx : q / 4 < 2 := by omega
  have hy : q % 4 < 4 := by omega
  generalize q / 4 = x at hx ⊢
  generalize q % 4 = y at hy ⊢
  have hx : x = 0 ∨ x = 1 := by omega
  have hy : y = 0 ∨ y = 1 ∨ y = 2 ∨ y = 3 := by omega
  rcases hx with rfl | rfl <;> rcases hy with rfl | rfl | rfl | rfl <;> rfl

theorem at_ENG_CTRL {q : Nat} (h : q < 64) : findReg (0x810000 + 0x100000 * (q / 8) + 0x1000 * (q % 8)) = some ⟨row_ENG_CTRL, [q / 8, q % 8], 0⟩ := by
  have hx : q / 8 < 8 := by omega
  have hy : q % 8 < 8 := by omega
  generalize q / 8 = x at hx ⊢
  generalize q % 8 = y at hy ⊢
  have hx : x = 0 ∨ x = 1 ∨ x = 2 ∨ x = 3 ∨ x = 4 ∨ x = 5 ∨ x = 6 ∨ x = 7 := by omega
  have hy : y = 0 ∨ y = 1 ∨ y = 2 ∨ y = 3 ∨ y = 4 ∨ y = 5 ∨ y = 6 ∨ y = 7 := by omega
  rcases hx with rfl | rfl | rfl | rfl | rfl | rfl | rfl | rfl <;> rcases hy with rfl | rfl | rfl | rfl | rfl | rfl | rfl | rfl <;> rfl

theorem at_ENG_SWAP {q : Nat} (h : q < 64) : findReg (0x810050 + 0x100000 * (q / 8) + 0x1000 * (q % 8)) = some ⟨row_ENG_SWAP, [q / 8, q % 8], 0⟩ := by
  have hx : q / 8 < 8 := by omega
  have hy : q % 8 < 8 := by omega
  generalize q / 8 = x at hx ⊢
  generalize q % 8 = y at hy ⊢
  have hx : x = 0 ∨ x = 1 ∨ x = 2 ∨ x = 3 ∨ x = 4 ∨ x = 5 ∨ x = 6 ∨ x = 7 := by omega
  have hy : y = 0 ∨ y = 1 ∨ y = 2 ∨ y = 3 ∨ y = 4 ∨ y = 5 ∨ y = 6 ∨ y = 7 := by omega
  rcases hx with rfl | rfl | rfl | rfl | rfl | rfl | rfl | rfl <;> rcases hy with rfl | rfl | rfl | rfl | rfl | rfl | rfl | rfl <;> rfl

theorem at_none0 {r : RegRow} {off : Nat} (hd : r.dims = []) (h : off < r.base ∨ 4 * r.words ≤ off - r.base) : r.at_ off = none := by
  unfold RegRow.at_
  split
  · rfl
  · rw [hd]
    simp only [instances]
    rw [if_neg (by omega)]

theorem at_none1 {r : RegRow} {off s n : Nat} (hd : r.dims = [(s, n)])
    (h : off < r.base ∨ n ≤ (off - r.base) / s ∨ 4 * r.words ≤ (off - r.base) % s) : r.at_ off = none := by
  unfold RegRow.at_
  split
  · rfl
  · rw [hd]
    simp only [instances]
    by_cases h1 : (off - r.base) / s < n
    · rw [if_pos h1]
      simp only [Option.map_some]
      rw [if_neg (by omega)]
    · rw [if_neg h1]

theorem at_some2 {r : RegRow} {off s n u k i j w : Nat} (hd : r.dims = [(s, n), (u, k)]) (hb : r.base ≤ off)
    (h1 : (off - r.base) / s = i) (h2 : (off - r.base) % s / u = j) (h3 : (off - r.base) % s % u = 4 * w) (hi : i < n) (hj : j < k)
    (hw : w < r.words) : r.at_ off = some ⟨r, [i, j], w⟩ := by
  unfold RegRow.at_
  rw [if_neg (by omega), hd]
  simp only [instances]
  rw [h1, if_pos hi, h2, if_pos hj, h3]
  simp only [Option.map_some]
  rw [if_pos (by omega), Nat.mul_div_cancel_left w (by decide)]

theorem at_MBX_MBm_Ww {m w : Nat} (hm : m < 256) (hw : w < 8) :
    findReg (0x44020 + 0x40 * m + 4 * w) = some ⟨row_MBX_MBm_Ww, [m, w], 0⟩ := by
  have z : row_MBX_MBm_Ww.at_ (0x44020 + 0x40 * m + 4 * w) = some ⟨row_MBX_MBm_Ww, [m, w], 0⟩ :=
    at_some2 (r := row_MBX_MBm_Ww) rfl (by simp only [row_MBX_MBm_Ww]; omega) (by simp only [row_MBX_MBm_Ww]; omega)
      (by simp only [row_MBX_MBm_Ww]; omega) (by simp only [row_MBX_MBm_Ww]; omega) hm hw (by decide)
  unfold findReg
  rw [rowsAt_rowsMbx (by omega) (by omega)]
  have n0 (r : RegRow) (h : r.dims = []) (hb : r.base + 4 * r.words ≤ 0x44020) : r.at_ (0x44020 + 0x40 * m + 4 * w) = none :=
    at_none0 h (by omega)
  simp only [rowsMbx, List.findSome?_cons, z]
  rw [n0 row_MBX_STAT rfl (by decide), at_none1 (r := row_MBX_EPOCHu) rfl (by simp only [row_MBX_EPOCHu]; omega),
    n0 row_MBX_DBRING rfl (by decide), at_none1 (r := row_MBX_DBPENDi) rfl (by simp only [row_MBX_DBPENDi]; omega),
    at_none1 (r := row_MBX_DBn_CFG) rfl (by simp only [row_MBX_DBn_CFG]; omega),
    at_none1 (r := row_MBX_DBn_CNT) rfl (by simp only [row_MBX_DBn_CNT]; omega),
    at_none1 (r := row_MBX_LKn) rfl (by simp only [row_MBX_LKn]; omega),
    at_none1 (r := row_MBX_LKn_PEEK) rfl (by simp only [row_MBX_LKn_PEEK]; omega),
    at_none1 (r := row_MBX_LKn_FORCE) rfl (by simp only [row_MBX_LKn_FORCE]; omega),
    at_none1 (r := row_MBX_LKn_CNT) rfl (by simp only [row_MBX_LKn_CNT]; omega),
    at_none1 (r := row_MBX_MBm_CFG) rfl (by simp only [row_MBX_MBm_CFG]; omega),
    at_none1 (r := row_MBX_MBm_STAT) rfl (by simp only [row_MBX_MBm_STAT]; omega),
    at_none1 (r := row_MBX_MBm_SEQ) rfl (by simp only [row_MBX_MBm_SEQ]; omega)]
end Sys2Proof.Machine
end

