-- ==== Sys2Proof/Laws/Bus.lean ====
section
/-! SUPPORT. What a meaning answers, and what a master's write comes to at a register: the lemmas through which every proof about a
command that is an access goes. -/

namespace Sys2Proof.Machine

/-! ### Meanings -/

theorem State.act_ok (s : State) {ok : Bool} (h : ok = true) (f : Dev → Dev) : s.act ok f = .next { s with dev := f s.dev } := by
  simp [State.act, h]

theorem State.act_bad (s : State) {ok : Bool} (h : ok = false) (f : Dev → Dev) : s.act ok f = .refused .illFormed := by
  simp [State.act, h]

theorem State.core_ok (s : State) {ok : Bool} (h : ok = true) (hr : s.dev.inReset = false) (f : Dev → Dev) :
    s.core ok f = .next { s with dev := f s.dev } := by
  simp [State.core, State.act, h, hr]

/-- While the core is held in reset a command of the core changes nothing. -/
theorem State.core_held (s : State) {ok : Bool} (h : ok = true) (hr : s.dev.inReset = true) (f : Dev → Dev) : s.core ok f = .next s := by
  simp [State.core, State.act, h, hr]

theorem State.busW_ok (s : State) {ok : Bool} {m : Master} (h : (m.ok && ok) = true) (hr : s.dev.inReset = false) (off : Nat)
    (v : BitVec 32) : s.busW ok m off v = .next { s with dev := s.dev.put32 m off v.toNat } :=
  s.core_ok h hr _

theorem State.busR_ok (s : State) {ok : Bool} {m : Master} (h : (m.ok && ok) = true) (hr : s.dev.inReset = false) (off : Nat) :
    s.busR ok m off = .next { s with dev := s.dev.get32 m off } :=
  s.core_ok h hr _

/-! ### Writes -/

theorem bitVec32_mod (v : BitVec 32) : v.toNat % 2 ^ 32 = v.toNat := Nat.mod_eq_of_lt v.isLt

/-- The value that a one-word register's write commits is the word written. -/
theorem Dev.committed_one (d : Dev) (w : Master) (a : RegAt) (p v : Nat) (h : a.row.words = 1) :
    d.committed w a p v = v % 2 ^ 32 := by
  simp [Dev.committed, h, List.range_succ]

/-- An access that is admitted reaches its register. -/
theorem Dev.busWrite_at (d : Dev) (w : Master) {off : Nat} (v : Nat) {a : RegAt} (hf : findReg off = some a)
    (ho : a.off + 4 * a.word = off) (h1 : off < 0x1000000) (h2 : offReserved off = false) (h3 : winAt off = none)
    (h : d.admits w a = true) : d.busWrite w off v = d.regWrite w a v := by
  simp only [Dev.admits, ho, Bool.and_eq_true, Bool.not_eq_true'] at h
  unfold Dev.busWrite
  rw [if_neg (by simp [h.1]), if_neg (by omega), if_neg (by simp [h2]), if_neg (by simp [h.1]), if_neg (by simp [h.2]), h3, hf]

theorem Dev.busRead_at (d : Dev) (w : Master) {off : Nat} {a : RegAt} (hf : findReg off = some a)
    (ho : a.off + 4 * a.word = off) (h1 : off < 0x1000000) (h2 : offReserved off = false) (h3 : winAt off = none)
    (h : d.admits w a = true) : d.busRead w off = d.regRead w a := by
  simp only [Dev.admits, ho, Bool.and_eq_true, Bool.not_eq_true'] at h
  unfold Dev.busRead
  rw [if_neg (by simp [h.1]), if_neg (by omega), if_neg (by simp [h2]), if_neg (by simp [h.1]), if_neg (by simp [h.2]), h3, hf]

/-- The write of the last word of an ordinary register commits it (R535). -/
theorem Dev.regWrite_last (d : Dev) (w : Master) (a : RegAt) (v : Nat) (hk : a.row.kind.window = false)
    (hw : a.word + 1 = a.row.words) :
    d.regWrite w a v = ((d.dropStaged w a).regWriteWhole w a (d.committed w a (d.presentValue a) v), .done 0) := by
  unfold Dev.regWrite
  have : ¬ a.word + 1 < a.row.words := by omega
  split <;> simp_all [RegKind.window]

/-- The write of a word below an ordinary register's last is staged (R535). -/
theorem Dev.put32_stage (d : Dev) (w : Master) {off : Nat} (v : Nat) {a : RegAt} (hf : findReg off = some a)
    (ho : a.off + 4 * a.word = off) (h1 : off < 0x1000000) (h2 : offReserved off = false) (h3 : winAt off = none)
    (hk : a.row.kind.window = false) (hw : a.word + 1 < a.row.words) (h : d.admits w a = true) :
    d.put32 w off v = d.stageWord w off v := by
  unfold Dev.put32
  rw [Dev.busWrite_at d w v hf ho h1 h2 h3 h]
  unfold Dev.regWrite
  split <;> simp_all [RegKind.window]

/-- A write that is accepted takes the effect of its register (R6, R9, R534). -/
theorem Dev.put32_accepts (d : Dev) (w : Master) {off : Nat} (v : Nat) {a : RegAt} (hf : findReg off = some a)
    (ho : a.off + 4 * a.word = off) (h1 : off < 0x1000000) (h2 : offReserved off = false) (h3 : winAt off = none)
    (hk : a.row.kind.window = false) (hw : a.word + 1 = a.row.words) (hwr : a.row.writable = true) {x : Nat}
    (hx : d.committed w a (d.presentValue a) v = x) (h : d.accepts w a x = true) :
    d.put32 w off v = (d.dropStaged w a).regApply w a x := by
  simp only [Dev.accepts, Bool.and_eq_true, Bool.not_eq_true'] at h
  unfold Dev.put32
  rw [Dev.busWrite_at d w v hf ho h1 h2 h3 h.1.1.1, Dev.regWrite_last d w a v hk hw, hx]
  have hl : (d.dropStaged w a).on SUP_LOCK_LOCK = false := h.2
  simp [Dev.regWriteWhole, RegRow.judged, hwr, h.1.1.2, h.1.2, hl]

end Sys2Proof.Machine
end

