-- ==== Sys2Proof/Laws/Answers.lean ====
section
/-! SUPPORT. What a command answers, for the shapes a meaning has: an effect of the core, an accepted write of a register, an admitted
read, and a function reset; and the bits of a word with a field of it replaced. -/

namespace Sys2Proof.Machine

theorem setBits_lt {v lo w x : Nat} (hv : v < 2 ^ 32) (h : lo + w ≤ 32) : setBits v lo w x < 2 ^ 32 := by
  unfold setBits
  have h1 : v % 2 ^ lo < 2 ^ lo := Nat.mod_lt _ (Nat.two_pow_pos lo)
  have h2 : x % 2 ^ w < 2 ^ w := Nat.mod_lt _ (Nat.two_pow_pos w)
  have h3 : v / 2 ^ (lo + w) < 2 ^ (32 - (lo + w)) := by
    rw [Nat.div_lt_iff_lt_mul (Nat.two_pow_pos _), ← Nat.pow_add, Nat.sub_add_cancel h]
    exact hv
  have h4 : x % 2 ^ w * 2 ^ lo + 2 ^ lo ≤ 2 ^ (lo + w) := by
    rw [Nat.pow_add, ← Nat.succ_mul, Nat.mul_comm (2 ^ lo)]
    exact Nat.mul_le_mul_right _ h2
  have h5 : v / 2 ^ (lo + w) * 2 ^ (lo + w) + 2 ^ (lo + w) ≤ 2 ^ 32 := by
    rw [← Nat.succ_mul]
    calc _ ≤ 2 ^ (32 - (lo + w)) * 2 ^ (lo + w) := Nat.mul_le_mul_right _ h3
      _ = 2 ^ 32 := by rw [← Nat.pow_add, Nat.sub_add_cancel h]
  omega

/-- The word with a field at a value, as a number. -/
theorem withField_toNat (v : BitVec 32) {lo w : Nat} (x : Nat) (h : lo + w ≤ 32) :
    (withField v lo w x).toNat = setBits v.toNat lo w x := by
  unfold withField
  rw [BitVec.toNat_ofNat, Nat.mod_eq_of_lt (setBits_lt v.isLt h)]

/-- The field of the word is the value. -/
theorem bits_withField (v : BitVec 32) {lo w : Nat} (x : Nat) (h : lo + w ≤ 32) : bits (withField v lo w x).toNat lo w = x % 2 ^ w := by
  rw [withField_toNat v x h, setBits_bits]

theorem bit_withField_one (v : BitVec 32) {lo : Nat} (h : lo + 1 ≤ 32) : bit (withField v lo 1 1).toNat lo = true := by
  unfold bit
  rw [bits_withField v 1 h]
  rfl

theorem bit_withField_zero (v : BitVec 32) {lo : Nat} (h : lo + 1 ≤ 32) : bit (withField v lo 1 0).toNat lo = false := by
  unfold bit
  rw [bits_withField v 0 h]
  rfl

/-! ### Places -/

@[simp] theorem RegRow.last_i (r : RegRow) (ix : List Nat) : (r.last ix).i = ix.getD 0 0 := rfl
@[simp] theorem RegRow.last_j (r : RegRow) (ix : List Nat) : (r.last ix).j = ix.getD 1 0 := rfl
@[simp] theorem RegRow.last_k (r : RegRow) (ix : List Nat) : (r.last ix).k = ix.getD 2 0 := rfl
@[simp] theorem RegRow.last_seq (r : RegRow) (g s : Nat) : (r.last [g, s]).seq = 4 * g + s := rfl
@[simp] theorem RegRow.last_engine (r : RegRow) (n e : Nat) : (r.last [n, e]).engine = 8 * n + e := rfl
@[simp] theorem Dev.dropStaged_rd (d : Dev) (m : Master) (a : RegAt) (f : Fld) : (d.dropStaged m a).rd f = d.rd f := rfl
@[simp] theorem Dev.dropStaged_on (d : Dev) (m : Master) (a : RegAt) (f : Fld) : (d.dropStaged m a).on f = d.on f := rfl
@[simp] theorem Dev.dropStaged_dom (d : Dev) (m : Master) (a : RegAt) (n : Nat) : (d.dropStaged m a).dom n = d.dom n := rfl
@[simp] theorem Dev.dropStaged_tb (d : Dev) (m : Master) (a : RegAt) : (d.dropStaged m a).tb = d.tb := rfl

/-! ### Windows -/

theorem winAt_low {off : Nat} (h1 : 0x8000 ≤ off) (h2 : off < 0x480000) : winAt off = none := by
  unfold winAt
  rw [if_neg (by omega), if_neg (by omega), if_neg (by omega)]

theorem winAt_mid {off : Nat} (h1 : 0x500000 ≤ off) (h2 : off < 0x800000) : winAt off = none := by
  unfold winAt
  rw [if_neg (by omega), if_neg (by omega), if_neg (by omega)]

theorem winAt_depot {off : Nat} (h1 : 0x800000 ≤ off) (h2 : off < 0x1000000) (h3 : off % 0x100000 < 0x20000) : winAt off = none := by
  unfold winAt
  rw [if_neg (by omega), if_neg (by omega), if_pos (by omega)]
  dsimp only
  rw [if_neg (by omega), if_neg (by omega)]

/-! ### Ports of the engines (R279) -/

theorem ioPortOf_rxRel {i : Nat} (h : i < 2) : ioPortOf (0x304 + i) = some (.rxRel i) := by
  unfold ioPortOf
  iterate 7 rw [if_neg (by omega)]
  rw [if_pos (by omega), Nat.add_sub_cancel_left]

theorem ioPortOf_ingress {i : Nat} (h : i < 2) : ioPortOf (0x300 + 2 * i) = some (.ingress i false) := by
  unfold ioPortOf
  iterate 6 rw [if_neg (by omega)]
  rw [if_pos (by omega), show (0x300 + 2 * i - 0x300) / 2 = i by omega, show (0x300 + 2 * i) % 2 = 0 by omega]
  rfl

theorem ioPortOf_egress {j w : Nat} (hj : j < 2) (hw : w < 6) : ioPortOf (0x320 + 8 * j + w) = some (.egress j w) := by
  unfold ioPortOf
  iterate 8 rw [if_neg (by omega)]
  rw [if_pos (by omega), show (0x320 + 8 * j + w - 0x320) / 8 = j by omega,
    show (0x320 + 8 * j + w) % 8 = w by omega]

theorem ioPortOf_doorbell {n : Nat} (h : n < 512) : ioPortOf (0x400 + n) = some (.doorbell n) := by
  unfold ioPortOf
  iterate 9 rw [if_neg (by omega)]
  rw [if_pos (by omega), Nat.add_sub_cancel_left]

theorem ioPortOf_lock {n : Nat} (h : n < 64) : ioPortOf (0x600 + n) = some (.lock n) := by
  unfold ioPortOf
  iterate 10 rw [if_neg (by omega)]
  rw [if_pos (by omega), Nat.add_sub_cancel_left]

theorem ioPortOf_mailbox {m w : Nat} (hm : m < 256) (hw : w < 8) : ioPortOf (0x800 + 8 * m + w) = some (.mailbox m w) := by
  unfold ioPortOf
  iterate 11 rw [if_neg (by omega)]
  rw [if_pos (by omega),
    show (0x800 + 8 * m + w - 0x800) / 8 = m by omega, show (0x800 + 8 * m + w) % 8 = w by omega]

theorem ioPortOf_pop {q : Nat} (h : q < 1024) : ioPortOf (0x1000 + 2 * q) = some (.pop q false) := by
  unfold ioPortOf
  iterate 12 rw [if_neg (by omega)]
  rw [if_pos (by omega), show (0x1000 + 2 * q - 0x1000) / 2 = q by omega, show (0x1000 + 2 * q) % 2 = 0 by omega]
  rfl

theorem ioPortOf_push {q : Nat} (h : q < 1024) : ioPortOf (0x1800 + 2 * q) = some (.push q false) := by
  unfold ioPortOf
  iterate 13 rw [if_neg (by omega)]
  rw [if_pos (by omega), show (0x1800 + 2 * q - 0x1800) / 2 = q by omega, show (0x1800 + 2 * q) % 2 = 0 by omega]
  rfl

theorem ioPortOf_pushHigh {q : Nat} (h : q < 1024) : ioPortOf (0x1801 + 2 * q) = some (.push q true) := by
  unfold ioPortOf
  iterate 13 rw [if_neg (by omega)]
  rw [if_pos (by omega), show (0x1801 + 2 * q - 0x1800) / 2 = q by omega, show (0x1801 + 2 * q) % 2 = 1 by omega]
  rfl

/-! ### Sequencers -/

/-- One group edge of a sequencer at an instruction that does not stall or halt. -/
theorem Dev.seqStep_go (d : Dev) {q op : Nat} {mine : Nat → Bool} {f : Dev → Nat → SeqOut} {e : Dev} {jump : Option Nat}
    (h : d.atInstr q op) (hm : mine op = true) (hf : f (d.sideSet q (d.seqWord q)) (d.seqWord q) = .go e jump) :
    d.seqStep q mine f = e.seqDone q jump := by
  obtain ⟨h1, h2, h3, h4⟩ := h
  unfold Dev.seqStep
  rw [if_neg (by simp [h1, h2, hm, h3])]
  simp only [h4, ne_eq, not_true_eq_false, if_false, hf]

/-- A record that nothing common to all records refuses is applied (R406, R416). -/
theorem Dev.record_at (d : Dev) {r : Rec} {n typ : Nat} {want : Nat → Bool} {apply : Dev → List Byte → Dev × RecRes}
    (h : d.atRecord r n typ) (hw : want typ = true) :
    d.record want apply = Dev.recordEnd r n (d.recBytes (d.rd LDR_STAT_SLOT) r) (apply d (d.payloadOf r)) := by
  obtain ⟨h1, h2, h3, h4, h5, h6, h7⟩ := h
  unfold Dev.record
  rw [h1]
  simp only [h2, hw, h3, h4, h7, Bool.not_true, Option.isSome_none, Bool.or_self, Bool.false_eq_true, if_false]
  rw [if_neg (by omega)]
  cases hb : r.buffered
  · simp only [Bool.false_and, Bool.false_eq_true, if_false]; rfl
  · obtain ⟨h8, h9⟩ := h6 hb
    have h10 : decide (65536 < r.len) = false := by simp; omega
    simp only [Bool.true_and, h9, h10, Bool.not_true, Bool.and_false, Bool.false_eq_true, if_false]; rfl

/-- A record that waits at an entry goes on there (R408). -/
theorem Dev.recordGoes_at (d : Dev) {r : Rec} {n op i : Nat} {go : Dev → List Byte → Nat → Dev × RecRes} (h1 : d.nextRec = some (r, n))
    (h2 : d.ldr.wait = some i) (h3 : ((regEnts (d.payloadOf r))[i]?).any (fun e => e.op == op) = true) :
    d.recordGoes op go = Dev.recordEnd r n (d.recBytes (d.rd LDR_STAT_SLOT) r) (go d (d.payloadOf r) i) := by
  unfold Dev.recordGoes
  rw [h1, h2]
  exact if_pos h3

/-- A DELAY that is over: the record goes on with the entry after it (R408). -/
theorem Dev.delay_at (d : Dev) {r : Rec} {n i : Nat} {e : RegEnt} {es : List RegEnt} (h1 : d.nextRec = some (r, n))
    (h2 : d.ldr.wait = some i) (h3 : (regEnts (d.payloadOf r)).drop i = e :: es) (h4 : e.op = 2)
    (h5 : d.ldr.waitAt + e.value * (1000 * 65536) ≤ d.tb.lt) :
    d.recordGoes 2 Dev.delayOver = Dev.recordEnd r n (d.recBytes (d.rd LDR_STAT_SLOT) r) (d.regEntries (i + 1) es) := by
  have h6 : (regEnts (d.payloadOf r))[i]? = some e := by
    have := List.getElem?_drop (xs := regEnts (d.payloadOf r)) (i := i) (j := 0)
    rw [h3] at this
    simpa using this.symm
  rw [d.recordGoes_at h1 h2 (by simp [h6, h4])]
  unfold Dev.delayOver Dev.waitOver
  simp only [h3]
  rw [if_pos (by simpa using h5)]

/-- A NOR command that R423 does not refuse starts. -/
theorem Dev.norCommand_starts {d : Dev} {v : Nat} (h0 : 5 ≤ d.rd LDR_STAT_STATE) (h1 : d.on LDR_NORCMD_BUSY = false)
    (h2 : bits v 0 3 = 0 ∨ 3 < bits v 0 3 ∨ (d.rd LDR_STAT_STATE = 5 →
      d.touchesSlot (bits v 0 3) (d.rd LDR_NORADDR_ADDR) (bits v 8 8 + 1) (d.rd LDR_STAT_SLOT) = false)) :
    d.norCommand v = d.norStarts v := by
  unfold Dev.norCommand
  rw [if_neg]
  rw [h1]
  rintro (h | h | ⟨h, h3, h4⟩)
  · omega
  · cases h
  · simp only [Bool.and_eq_true, decide_eq_true_eq] at h
    rcases h2 with h2 | h2 | h2
    · omega
    · omega
    · rw [h2 h3] at h4
      cases h4

/-- A request of a function reset that R430 accepts. -/
theorem Dev.fnResetWrite_starts {d : Dev} {m : Master} {uid : Nat} (hu : uid < 4096) (h0 : resettable uid = true)
    (h1 : d.on SUP_FNLAST_BUSY = false) (h2 : uid ≠ 2) : d.fnResetWrite m (BitVec.ofNat 32 (0xC3000000 + uid)).toNat
      = (((d.wr SUP_FNRST_UID uid).wr SUP_FNLAST_TARGET uid).wr SUP_FNLAST_REQ m.uid).put SUP_FNLAST_BUSY true := by
  have e : (BitVec.ofNat 32 (0xC3000000 + uid)).toNat = 0xC3000000 + uid := by
    rw [BitVec.toNat_ofNat, Nat.mod_eq_of_lt (by omega)]
  have e1 : bits (0xC3000000 + uid) 0 12 = uid := by unfold bits; omega
  have e2 : bits (0xC3000000 + uid) 24 8 = 0xC3 := by unfold bits; omega
  rw [e]
  unfold Dev.fnResetWrite
  rw [e1, e2, if_neg (by decide), if_neg (by simp [h0]), if_neg (by simp [h1]), if_neg h2]

/-- The entry into Standby that R451 accepts. -/
theorem Dev.standbyWrite_begins {d : Dev} (h0 : d.sup.phase = .on) (h1 : d.norWriting = false) :
    d.standbyWrite (0x5A000001#32).toNat = d.standbyBegins := by
  unfold Dev.standbyWrite
  rw [if_neg, if_neg (by simp [h1])]
  rw [h0]
  decide

/-! ### Answers -/

theorem Dev.answers_core (d : Dev) {c : Instr} {ok : Bool} {f : Dev → Dev} {d' : Dev} (h : ∀ s, exec c s = s.core ok f) (hk : ok = true)
    (hr : d.inReset = false) (he : f d = d') : d.answers c d' := by
  intro rest
  rw [h, State.core_ok _ hk hr, he]

theorem Dev.answers_act (d : Dev) {c : Instr} {ok : Bool} {f : Dev → Dev} {d' : Dev} (h : ∀ s, exec c s = s.act ok f) (hk : ok = true)
    (he : f d = d') : d.answers c d' := by
  intro rest
  rw [h, State.act_ok _ hk, he]

theorem Dev.answers_write (d : Dev) {c : Instr} {ok : Bool} {m : Master} {off : Nat} {v : BitVec 32} {a : RegAt} {x : Nat} {d' : Dev}
    (h : ∀ s, exec c s = s.busW ok m off v) (hk : (m.ok && ok) = true) (hr : d.inReset = false) (hf : findReg off = some a)
    (ho : a.off + 4 * a.word = off) (h1 : off < 0x1000000) (h2 : offReserved off = false) (h3 : winAt off = none)
    (hw : a.row.kind.window = false) (hl : a.word + 1 = a.row.words) (hwr : a.row.writable = true)
    (hx : d.committed m a (d.presentValue a) v.toNat = x) (ha : d.accepts m a x = true) (he : (d.dropStaged m a).regApply m a x = d') :
    d.answers c d' := by
  intro rest
  rw [h, State.busW_ok _ hk hr]
  rw [Dev.put32_accepts d m v.toNat hf ho h1 h2 h3 hw hl hwr hx ha, he]

/-- The write of a status word of a mirror bank's OUT side (R165). -/
theorem Dev.answers_mirror (d : Dev) {m : Master} {r a : Nat} {v : BitVec 32} (hr : d.inReset = false)
    (hw : m.ok = true ∧ (r < 2 ∧ a < 0x800) ∧ (a % 8 == 4) = true) (h0 : d.hostShutOut m (0x480000 + 0x40000 * r + a) = false)
    (h1 : d.gatedAt (0x480000 + 0x40000 * r + a) = false) :
    d.answers (.mirrorCommitWrite m r a v)
      ((d.mirRead r a 4).1.mirWrite r a (toLe 4 (setBits (leNat (d.mirRead r a 4).2) 25 1 1))) := by
  obtain ⟨hm, ⟨h2, h3⟩, h4⟩ := hw
  have h4 : a % 8 = 4 := by simpa using h4
  intro rest
  show State.busW ⟨d, rest⟩ (decide (r < 2) && decide (a < 0x800) && a % 8 == 4) m (0x480000 + 0x40000 * r + a)
    (withField v 25 1 1) = _
  rw [State.busW_ok _ (by simp [hm, h2, h3, h4]) hr]
  refine congrArg (fun x => Host.Outcome.next (⟨x, rest⟩ : State)) ?_
  show d.put32 m _ _ = _
  have hx : winAt (0x480000 + 0x40000 * r + a) = some (.mirror r a) := by
    unfold winAt
    rw [if_neg (by omega), if_pos (by omega)]
    rw [show (0x480000 + 0x40000 * r + a - 0x480000) / 0x40000 = r by omega, show (0x480000 + 0x40000 * r + a) % 0x40000 = a by omega]
  unfold Dev.put32 Dev.busWrite
  rw [if_neg (by simp [h0]), if_neg (by omega), if_neg (by simp [offReserved]; omega), if_neg (by simp [h1]),
    if_neg (by simp [Dev.darkAt]; omega), hx]
  simp only [Dev.winWrite, Dev.mirrorWord, if_pos h3, if_pos h4]
  rw [show bits (withField v 25 1 1).toNat 25 1 = 1 from bits_withField v 1 (by decide)]

theorem Dev.answers_read (d : Dev) {c : Instr} {ok : Bool} {m : Master} {off : Nat} {a : RegAt} {d' : Dev}
    (h : ∀ s, exec c s = s.busR ok m off) (hk : (m.ok && ok) = true) (hr : d.inReset = false) (hf : findReg off = some a)
    (ho : a.off + 4 * a.word = off) (h1 : off < 0x1000000) (h2 : offReserved off = false) (h3 : winAt off = none)
    (ha : d.admits m a = true) (he : (d.regRead m a).1.emit (.read m.uid (d.regRead m a).2.val) = d') : d.answers c d' := by
  intro rest
  rw [h, State.busR_ok _ hk hr]
  show Host.Outcome.next (⟨d.get32 m off, rest⟩ : State) = _
  unfold Dev.get32
  rw [Dev.busRead_at d m hf ho h1 h2 h3 ha, he]

/-- A word written to a sequencer's transmit FIFO (R253). -/
theorem Dev.answers_txf (d : Dev) {m : Master} {q : Nat} {v : BitVec 32} (hr : d.inReset = false) (hw : m.ok = true ∧ q < 8)
    (ha : d.admits m (row_PIN_SEQ_TXF.last [q / 4, q % 4]) = true) (hl : (d.seq q).txf.length < 8) :
    d.answers (.txFifoWrite m q v) (d.setSeq q { d.seq q with txf := (d.seq q).txf ++ [v.toNat] }) := by
  obtain ⟨hm, hq⟩ := hw
  intro rest
  show State.busW ⟨d, rest⟩ (decide (q < 8)) m _ v = _
  rw [State.busW_ok _ (by simp [hm, hq]) hr]
  refine congrArg (fun x => Host.Outcome.next (⟨x, rest⟩ : State)) ?_
  show (d.busWrite m _ v.toNat).1 = _
  rw [Dev.busWrite_at d m (a := row_PIN_SEQ_TXF.last [q / 4, q % 4]) v.toNat (at_PIN_SEQ_TXF hq)
    (by simp only [RegAt.off, instOff, row_PIN_SEQ_TXF, RegRow.last]; omega) (by omega) (by simp [offReserved]; omega)
    (winAt_mid (by omega) (by omega)) ha]
  show (d.txfWrite (row_PIN_SEQ_TXF.last [q / 4, q % 4]).seq v.toNat).1 = _
  rw [RegRow.last_seq, show 4 * (q / 4) + q % 4 = q by omega]
  unfold Dev.txfWrite
  rw [if_neg (by omega), bitVec32_mod]

/-- The low word read from a sequencer's receive FIFO (R253). -/
theorem Dev.answers_rxf (d : Dev) {m : Master} {q x : Nat} {later : List Nat} (hr : d.inReset = false) (hw : m.ok = true ∧ q < 8)
    (ha : d.admits m ⟨row_PIN_SEQ_RXF, [q / 4, q % 4], 0⟩ = true) (hl : (d.seq q).rxf = x :: later) :
    d.answers (.rxFifoRead m q) (((d.setSeq q { d.seq q with rxf := later }).latchWord m
      ((⟨row_PIN_SEQ_RXF, [q / 4, q % 4], 0⟩ : RegAt).off + 4) ((2 ^ 63 + x) / 2 ^ 32)).emit (.read m.uid ((2 ^ 63 + x) % 2 ^ 32))) := by
  obtain ⟨hm, hq⟩ := hw
  intro rest
  show State.busR ⟨d, rest⟩ (decide (q < 8)) m _ = _
  rw [State.busR_ok _ (by simp [hm, hq]) hr]
  refine congrArg (fun x => Host.Outcome.next (⟨x, rest⟩ : State)) ?_
  show d.get32 m _ = _
  unfold Dev.get32
  rw [Dev.busRead_at d m (a := ⟨row_PIN_SEQ_RXF, [q / 4, q % 4], 0⟩) (at_PIN_SEQ_RXF_low hq)
    (by simp only [RegAt.off, instOff, row_PIN_SEQ_RXF]; omega) (by omega) (by simp [offReserved]; omega)
    (winAt_mid (by omega) (by omega)) ha]
  have e : d.regRead m ⟨row_PIN_SEQ_RXF, [q / 4, q % 4], 0⟩
      = d.popWord m ⟨row_PIN_SEQ_RXF, [q / 4, q % 4], 0⟩ (fun d => let r := d.rxfRead (4 * (q / 4) + q % 4); (r.1, .done r.2)) := rfl
  rw [e, show 4 * (q / 4) + q % 4 = q by omega]
  simp only [Dev.popWord, Dev.rxfRead, hl, if_true, IoRes.val]

/-- The place of an engine's registers, as the map numbers them. -/
theorem engBase_eq (e : Nat) : engBase e = 0x810000 + 0x100000 * (e / 8) + 0x1000 * (e % 8) := by
  unfold engBase
  omega

/-- The bits of a number that another bit of it does not touch. -/
theorem bit_setBits_ne (v : Nat) {i j x : Nat} (h : i < j) : bit (setBits v j 1 x) i = bit v i := by
  unfold bit bits setBits
  have e : v % 2 ^ j + x % 2 ^ 1 * 2 ^ j + v / 2 ^ (j + 1) * 2 ^ (j + 1)
      = v % 2 ^ j + 2 ^ j * (x % 2 ^ 1 + v / 2 ^ (j + 1) * 2) := by
    rw [show 2 ^ (j + 1) = 2 ^ j * 2 from Nat.pow_succ ..]
    generalize x % 2 ^ 1 = y; generalize v / (2 ^ j * 2) = b; generalize v % 2 ^ j = c; generalize 2 ^ j = p
    rw [Nat.mul_add, Nat.mul_comm y p, Nat.mul_left_comm b p 2, Nat.add_assoc]
  obtain ⟨k, rfl⟩ : ∃ k, j = i + (k + 1) := ⟨j - i - 1, by omega⟩
  have p : 2 ^ (i + (k + 1)) = 2 ^ i * (2 * 2 ^ k) := by rw [Nat.pow_add, Nat.pow_succ, Nat.mul_comm (2 ^ k)]
  have m (a b : Nat) : (a + 2 ^ (i + (k + 1)) * b) / 2 ^ i % 2 ^ 1 = a / 2 ^ i % 2 ^ 1 := by
    rw [p, Nat.mul_assoc, Nat.add_mul_div_left _ _ (Nat.two_pow_pos i), Nat.mul_assoc]
    omega
  have hv : v = v % 2 ^ (i + (k + 1)) + 2 ^ (i + (k + 1)) * (v / 2 ^ (i + (k + 1))) := (Nat.mod_add_div _ _).symm
  rw [e, m]
  conv => rhs; rw [hv, m]

/-- STEP of a halted engine (R292). -/
theorem Dev.answers_step (d : Dev) {m : Master} {e : Nat} {v : BitVec 32} (hr : d.inReset = false) (hw : m.ok = true ∧ e < 64)
    (ha : d.accepts m (row_ENG_CTRL.last [e / 8, e % 8]) (setBits v.toNat 2 1 1) = true) (h0 : bit v.toNat 0 = false)
    (h1 : bit v.toNat 1 = false) (h2 : d.engState e = engHalted) (h3 : d.depotOn (e / 8) = true) :
    d.answers (.step m e v) (((d.dropStaged m (row_ENG_CTRL.last [e / 8, e % 8])).modEng e
      (fun x => { x with stepping := true })).engWord e) := by
  obtain ⟨hm, he⟩ := hw
  apply Dev.answers_core d (ok := m.ok && decide (e < 64)) (f := fun d =>
    let d := d.put32 m (engBase e) (setBits v.toNat 2 1 1)
    d.when (d.engReady e && (d.eng e).stepping) (fun d => d.engWord e)) (fun s => rfl) (by simp [hm, he]) hr
  have hv : setBits v.toNat 2 1 1 < 2 ^ 32 := setBits_lt v.isLt (by decide)
  have hp : d.put32 m (engBase e) (setBits v.toNat 2 1 1)
      = (d.dropStaged m (row_ENG_CTRL.last [e / 8, e % 8])).modEng e (fun x => { x with stepping := true }) := by
    rw [engBase_eq]
    rw [Dev.put32_accepts d m (a := row_ENG_CTRL.last [e / 8, e % 8]) (setBits v.toNat 2 1 1) (at_ENG_CTRL he)
      (by simp only [RegAt.off, instOff, row_ENG_CTRL, RegRow.last]; omega) (by omega) (by simp [offReserved]; omega)
      (winAt_depot (by omega) (by omega) (by omega)) rfl rfl rfl
      ((Dev.committed_one d m (row_ENG_CTRL.last [e / 8, e % 8]) _ _ rfl).trans (Nat.mod_eq_of_lt hv)) ha]
    show Dev.engCtrl _ (8 * (e / 8) + e % 8) _ = _
    rw [show 8 * (e / 8) + e % 8 = e by omega]
    unfold Dev.engCtrl Dev.when
    rw [bit_setBits_ne _ (by decide), bit_setBits_ne _ (by decide), h0, h1,
      show bit (setBits v.toNat 2 1 1) 2 = true by unfold bit; rw [setBits_bits]; rfl]
    simp only [Bool.false_eq_true, if_false, if_true]
    show Dev.engStepReq _ e = _
    unfold Dev.engStepReq
    rw [if_pos ⟨h2, h3⟩]
  dsimp only
  rw [hp]
  unfold Dev.when
  rw [if_pos]
  have hs : (((d.dropStaged m (row_ENG_CTRL.last [e / 8, e % 8])).modEng e (fun x => { x with stepping := true })).eng e).stepping = true := by
    simp [Dev.modEng, Dev.setEng, Dev.eng]
  have hq : ((d.dropStaged m (row_ENG_CTRL.last [e / 8, e % 8])).modEng e (fun x => { x with stepping := true })).engState e = engHalted := h2
  simp [Dev.engReady, hq]

/-! ### Ports and windows -/

theorem Dev.engOut_done {d d' : Dev} {e port v x : Nat} (h : d.depotOn (e / 8) = true) (hw : d.ioWrite e port v = (d', .done x)) :
    d.engOut e port v = d'.ioNote e port true := by
  unfold Dev.engOut
  rw [if_pos h, hw]

theorem Dev.engIn_done {d d' : Dev} {e port x : Nat} (h : d.depotOn (e / 8) = true) (hw : d.ioRead e port = (d', .done x)) :
    d.engIn e port = (d'.ioNote e port false).emit (.read (0x040 + e) x) := by
  unfold Dev.engIn
  rw [if_pos h, hw]
  rfl

theorem Dev.portPut_bus (d : Dev) {m : Master} (h : m.isEngine = false) (port off v : Nat) : d.portPut m port off v = d.put32 m off v := by
  cases m with
  | engine e => cases h
  | _ => rfl

theorem Dev.portGet_bus (d : Dev) {m : Master} (h : m.isEngine = false) (port off : Nat) : d.portGet m port off = d.get32 m off := by
  cases m with
  | engine e => cases h
  | _ => rfl

/-- A write of the low word of a queue's push register (R340). -/
theorem Dev.put32_push (d : Dev) {m : Master} {q v : Nat} (hq : q < 1024) (ha : d.admits m ⟨row_QM_Qn_PUSH, [q], 0⟩ = true) :
    d.put32 m (0x54008 + 0x10 * q) v
      = ((d.dropStaged m (row_QM_Qn_PUSH.last [q])).queuePushBy m q
        ((wordOf d.staged m.uid (0x5400C + 0x10 * q)).getD 0 * 2 ^ 32 + v % 2 ^ 32)).1 := by
  unfold Dev.put32
  rw [Dev.busWrite_at d m (a := ⟨row_QM_Qn_PUSH, [q], 0⟩) v (at_QM_Qn_PUSH_low hq)
    (by simp only [RegAt.off, instOff, row_QM_Qn_PUSH]; omega) (by omega) (by simp [offReserved]; omega)
    (winAt_low (by omega) (by omega)) ha]
  have e : (⟨row_QM_Qn_PUSH, [q], 0⟩ : RegAt).off + 4 = 0x5400C + 0x10 * q := by
    simp only [RegAt.off, instOff, row_QM_Qn_PUSH]; omega
  show ((d.dropStaged m ⟨row_QM_Qn_PUSH, [q], 0⟩).queuePushBy m q _).1 = _
  rw [e]
  rfl

/-- A write of the high word of a queue's push register (R340). -/
theorem Dev.put32_pushHigh (d : Dev) {m : Master} {q v : Nat} (hq : q < 1024)
    (ha : d.admits m (row_QM_Qn_PUSH.last [q]) = true) (hr : d.queueRight q true m = true) :
    d.put32 m (0x5400C + 0x10 * q) v = d.stageWord m (0x5400C + 0x10 * q) v := by
  unfold Dev.put32
  rw [Dev.busWrite_at d m (a := ⟨row_QM_Qn_PUSH, [q], 1⟩) v (at_QM_Qn_PUSH hq)
    (by simp only [RegAt.off, instOff, row_QM_Qn_PUSH]; omega) (by omega) (by simp [offReserved]; omega)
    (winAt_low (by omega) (by omega)) ha]
  have e : (⟨row_QM_Qn_PUSH, [q], 1⟩ : RegAt).off + 4 = 0x5400C + 0x10 * q := by
    simp only [RegAt.off, instOff, row_QM_Qn_PUSH]; omega
  show (if d.queueRight q true m then (d.stageWord m ((⟨row_QM_Qn_PUSH, [q], 1⟩ : RegAt).off + 4) v, IoRes.done 0)
    else d.queueNoRight m q).1 = _
  rw [if_pos hr, e]

/-- A read of the low word of a queue's pop register (R340). -/
theorem Dev.get32_pop (d : Dev) {m : Master} {q : Nat} (hq : q < 1024) (ha : d.admits m ⟨row_QM_Qn_POP, [q], 0⟩ = true)
    (hr : d.queueRight q false m = true) :
    d.get32 m (0x54000 + 0x10 * q)
      = ((d.queuePop q).1.latchWord m (0x54004 + 0x10 * q) ((d.queuePop q).2 / 2 ^ 32)).emit (.read m.uid ((d.queuePop q).2 % 2 ^ 32)) := by
  unfold Dev.get32
  rw [Dev.busRead_at d m (a := ⟨row_QM_Qn_POP, [q], 0⟩) (at_QM_Qn_POP_low hq)
    (by simp only [RegAt.off, instOff, row_QM_Qn_POP]; omega) (by omega) (by simp [offReserved]; omega)
    (winAt_low (by omega) (by omega)) ha]
  have e : (⟨row_QM_Qn_POP, [q], 0⟩ : RegAt).off + 4 = 0x54004 + 0x10 * q := by
    simp only [RegAt.off, instOff, row_QM_Qn_POP]; omega
  have r : d.regRead m ⟨row_QM_Qn_POP, [q], 0⟩ = d.popWord m ⟨row_QM_Qn_POP, [q], 0⟩ (fun d => d.queuePopBy m q) := rfl
  rw [r]
  have b : d.queuePopBy m q = ((d.queuePop q).1, .done (d.queuePop q).2) := by
    unfold Dev.queuePopBy
    rw [if_pos hr]
  unfold Dev.popWord
  rw [if_pos rfl]
  simp only [b]
  rw [e]
  rfl

/-- A write of a mailbox's word by a master that is no engine (R356). -/
theorem Dev.put32_box (d : Dev) {m : Master} {n w v : Nat} (hn : n < 256) (hw : w < 8) (hm : m.isEngine = false)
    (ha : d.admits m (row_MBX_MBm_Ww.last [n, w]) = true) : d.put32 m (mbWordOff n w) v = (d.mbWrite m n w v).1 := by
  unfold Dev.put32 mbWordOff
  rw [show 0x44000 + n * 0x40 + 0x20 + w * 4 = 0x44020 + 0x40 * n + 4 * w by omega]
  rw [Dev.busWrite_at d m (a := row_MBX_MBm_Ww.last [n, w]) v (at_MBX_MBm_Ww hn hw)
    (by simp only [RegAt.off, instOff, row_MBX_MBm_Ww, RegRow.last]; omega) (by omega) (by simp [offReserved]; omega)
    (winAt_low (by omega) (by omega)) ha]
  show (if m.isEngine then (d, IoRes.trap 0x07) else d.mbWrite m n w v).1 = _
  rw [hm]
  rfl

/-- A read of a mailbox's word by a master that is no engine (R356). -/
theorem Dev.get32_box (d : Dev) {m : Master} {n w : Nat} (hn : n < 256) (hw : w < 8) (hm : m.isEngine = false)
    (ha : d.admits m (row_MBX_MBm_Ww.last [n, w]) = true) :
    d.get32 m (mbWordOff n w) = (d.mbRead m n w).1.emit (.read m.uid (d.mbRead m n w).2.val) := by
  unfold Dev.get32 mbWordOff
  rw [show 0x44000 + n * 0x40 + 0x20 + w * 4 = 0x44020 + 0x40 * n + 4 * w by omega]
  rw [Dev.busRead_at d m (a := row_MBX_MBm_Ww.last [n, w]) (at_MBX_MBm_Ww hn hw)
    (by simp only [RegAt.off, instOff, row_MBX_MBm_Ww, RegRow.last]; omega) (by omega) (by simp [offReserved]; omega)
    (winAt_low (by omega) (by omega)) ha]
  have e : d.regRead m (row_MBX_MBm_Ww.last [n, w]) = if m.isEngine then (d, IoRes.trap 0x07) else d.mbRead m n w := rfl
  rw [e, hm]
  rfl

/-- A read of a lock's register (R368). -/
theorem Dev.get32_lock (d : Dev) {m : Master} {n : Nat} (hn : n < 64) (ha : d.admits m (row_MBX_LKn.last [n]) = true) :
    d.get32 m (0x42000 + 0x10 * n) = (d.lockAcquire m n).1.emit (.read m.uid (d.lockAcquire m n).2) := by
  unfold Dev.get32
  rw [Dev.busRead_at d m (a := row_MBX_LKn.last [n]) (at_MBX_LKn hn)
    (by simp only [RegAt.off, instOff, row_MBX_LKn, RegRow.last]; omega) (by omega) (by simp [offReserved]; omega)
    (winAt_low (by omega) (by omega)) ha]
  rfl

/-- A write of a lock's register (R369). -/
theorem Dev.put32_lock (d : Dev) {m : Master} {n v : Nat} (hn : n < 64) (ha : d.admits m (row_MBX_LKn.last [n]) = true) :
    d.put32 m (0x42000 + 0x10 * n) v = (d.lockRelease m n).1 := by
  unfold Dev.put32
  rw [Dev.busWrite_at d m (a := row_MBX_LKn.last [n]) v (at_MBX_LKn hn)
    (by simp only [RegAt.off, instOff, row_MBX_LKn, RegRow.last]; omega) (by omega) (by simp [offReserved]; omega)
    (winAt_low (by omega) (by omega)) ha]
  rfl

/-- A write of `MBX_DBRING` (R365). -/
theorem Dev.put32_ring (d : Dev) {m : Master} {n : Nat} (hn : n < 512) (ha : d.accepts m (row_MBX_DBRING.last []) n = true) :
    d.put32 m 0x40400 n = (d.dropStaged m (row_MBX_DBRING.last [])).ring n := by
  rw [Dev.put32_accepts d m (a := row_MBX_DBRING.last []) n at_MBX_DBRING rfl (by decide) (by decide) (by decide) rfl rfl rfl
    ((Dev.committed_one d m (row_MBX_DBRING.last []) _ _ rfl).trans (Nat.mod_eq_of_lt (by omega))) ha]
  show Dev.ring _ (bits n 0 9) = _
  unfold bits
  rw [Nat.pow_zero, Nat.div_one, Nat.mod_eq_of_lt (by omega)]

theorem Dev.answers_fn (d : Dev) {c : Instr} {ok : Bool} {u : Nat} {f : Dev → Dev} (h : ∀ s, exec c s = s.core ok (fun d => d.fnReset u f))
    (hk : ok = true) (hr : d.inReset = false) (hb : d.resetting u) : d.answers c ((f d).put SUP_FNLAST_BUSY false) := by
  apply Dev.answers_core d h hk hr
  simp [Dev.fnReset, hb.1, hb.2]

end Sys2Proof.Machine
end

