-- ==== Sys2Proof/Laws/Engine.lean ====
section
/-! SUPPORT. What an engine's word comes to, by what its operation answers: registers, flags and target, a trap, or a pair. -/

namespace Sys2Proof.Machine

@[simp] theorem tput_tput {α : Type} (t : Tab α) (k : Nat) (u v : α) : tput (tput t k u) k v = tput t k v := by
  induction t with
  | nil => simp [tput]
  | cons a r ih =>
    obtain ⟨a, x⟩ := a
    by_cases h : a = k
    · simp [tput, h]
    · by_cases h' : k < a
      · simp [tput, h, h']
      · simp [tput, h, h', ih]

@[simp] theorem Dev.eng_setEng (d : Dev) (e : Nat) (x : Eng) : (d.setEng e x).eng e = x := by simp [Dev.eng, Dev.setEng]
@[simp] theorem Dev.setEng_setEng (d : Dev) (e : Nat) (x y : Eng) : (d.setEng e x).setEng e y = d.setEng e y := by simp [Dev.setEng]
@[simp] theorem FlagUpd.merge_empty (u : FlagUpd) : u.merge {} = u := by simp [FlagUpd.merge]

/-- What an engine's command comes to where the engine fetches a word. -/
theorem Dev.answers_word (d : Dev) {c : Instr} {e : Nat} {row : EngRow} {d' d'' : Dev} {w : Word} (h : ∀ s, exec c s = s.engine e row)
    (hf : d.fetches e d' w) (hk : (decodeWord w.toNat).row = row)
    (hd : (match decodeWord w.toNat with
      | .trap _ c => d'.engTrap e (d'.eng e).pc w c
      | .long _ op => d'.wordRun e (d'.eng e).pc w op none
      | .pair a b => d'.wordRun e (d'.eng e).pc w a (some b)) = d'') : d.answers c d'' := by
  obtain ⟨h0, he, h1, h2, h3, h4⟩ := hf
  apply Dev.answers_core d (fun s => h s) (by simp [he]) h0
  unfold Dev.engExec
  rw [if_pos (by simp [Dev.engReady, h1, h2, h4, Fetch.row, hk])]
  unfold Dev.engWord Dev.wordStep
  simp only [h3, h4, Dev.when, Bool.false_eq_true, if_false]
  exact hd

/-- A long operation that does not trap. -/
theorem Dev.answers_long (d : Dev) {c : Instr} {e : Nat} {row : EngRow} {op : Op} {d' d2 : Dev} {w : Word} {rs : List (Nat × Word)}
    {u : FlagUpd} {t : Option Word} {a : After} {ad : Option Word} (hf : d.fetches e d' w) (hk : decodeWord w.toNat = .long row op)
    (h : ∀ s, exec c s = s.engine e row)
    (ho : (d'.engNext e).opRun e (d'.eng e) (d'.eng e).pc op = { dev := d2, addr := ad, regs := rs, fl := u, target := t, after := a }) :
    d.answers c ((match t with
      | some t => (d2.engPost e rs u).engJump e t
      | none => d2.engPost e rs u).wordAfter e a) := by
  apply Dev.answers_word d h hf (by rw [hk]; rfl)
  rw [hk]
  show Dev.wordRun _ _ _ _ _ _ = _
  have ho' : (d'.modEng e (fun y => { y with pc := (d'.eng e).pc + 4 })).opRun e (d'.eng e) (d'.eng e).pc op
      = { dev := d2, addr := ad, regs := rs, fl := u, target := t, after := a } := ho
  unfold Dev.wordRun
  simp only [ho', List.append_nil, FlagUpd.merge_empty]
  cases t <;> rfl

/-- A long operation that traps, outside a trap (R284). -/
theorem Dev.answers_long_trap (d : Dev) {c : Instr} {e : Nat} {row : EngRow} {op : Op} {d' : Dev} {w : Word} {n : Nat}
    (hf : d.fetches e d' w) (hk : decodeWord w.toNat = .long row op) (h : ∀ s, exec c s = s.engine e row)
    (ht : d'.on (ENG_STAT_TACT e) = false)
    (ho : (d'.engNext e).opRun e (d'.eng e) (d'.eng e).pc op = { dev := d'.engNext e, trap := some n }) :
    d.answers c (d'.trapEntry e w n) := by
  apply Dev.answers_word d h hf (by rw [hk]; rfl)
  rw [hk]
  show Dev.wordRun _ _ _ _ _ _ = _
  have ho' : (d'.modEng e (fun y => { y with pc := (d'.eng e).pc + 4 })).opRun e (d'.eng e) (d'.eng e).pc op
      = { dev := d'.engNext e, trap := some n } := ho
  unfold Dev.wordRun
  simp only [ho']
  unfold Dev.wordTraps Dev.engTrap
  rw [if_neg (by
    have : ((d'.engNext e).setEng e { d'.eng e with
      addr := (none : Option Word).getD (d'.eng e).addr, ioPort := ((d'.engNext e).eng e).ioPort, ioOut := ((d'.engNext e).eng e).ioOut }).on
        (ENG_STAT_TACT e) = d'.on (ENG_STAT_TACT e) := rfl
    rw [this, ht]; decide)]
  have hv (x : Eng) : ((d'.setEng e x).put (ENG_STAT_TACT e) true).rd (ENG_TVEC_TVEC e) = d'.rd (ENG_TVEC_TVEC e) :=
    Dev.rd_put_ne _ _ (by simp [ENG_TVEC_TVEC, ENG_STAT_TACT])
  unfold Dev.trapEntry Dev.engNext Dev.modEng
  simp only [Dev.eng_setEng, Dev.setEng_setEng, Option.getD_none, hv]
  show Dev.setEng ((d'.setEng e _).put (ENG_STAT_TACT e) true) e _ = _
  have hp (x y : Eng) : ((d'.setEng e x).put (ENG_STAT_TACT e) true).setEng e y = (d'.put (ENG_STAT_TACT e) true).setEng e y := by
    show ((d'.put (ENG_STAT_TACT e) true).setEng e x).setEng e y = _
    simp
  have he (x : Eng) : ((d'.setEng e x).put (ENG_STAT_TACT e) true).eng e = x := by
    show (d'.setEng e x).eng e = x
    simp
  rw [hp, he]
  rfl

/-- A word that is undefined or holds a reserved bit, outside a trap (R284, R301). -/
theorem Dev.answers_trap (d : Dev) {c : Instr} {e : Nat} {row : EngRow} {d' : Dev} {w : Word} {n : Nat}
    (hf : d.fetches e d' w) (hk : decodeWord w.toNat = .trap row n) (h : ∀ s, exec c s = s.engine e row)
    (ht : d'.on (ENG_STAT_TACT e) = false) : d.answers c (d'.trapEntry e w n) := by
  apply Dev.answers_word d h hf (by rw [hk]; rfl)
  rw [hk]
  show Dev.engTrap _ _ _ _ _ = _
  unfold Dev.engTrap
  rw [if_neg (by simp [ht])]
  have hv : (d'.put (ENG_STAT_TACT e) true).rd (ENG_TVEC_TVEC e) = d'.rd (ENG_TVEC_TVEC e) :=
    Dev.rd_put_ne _ _ (by simp [ENG_TVEC_TVEC, ENG_STAT_TACT])
  simp only [hv]
  rfl

/-- A pair whose slots do not trap (R298). -/
theorem Dev.answers_pair (d : Dev) {c : Instr} {e : Nat} {a b : Op} {d' : Dev} {w : Word} {ra rb : OpRes} (hf : d.fetches e d' w)
    (hk : decodeWord w.toNat = .pair a b) (h : ∀ s, exec c s = s.engine e .pair)
    (ha : (d'.engNext e).opRun e (d'.eng e) (d'.eng e).pc a = ra) (ht : ra.trap = none ∧ ra.after = .none)
    (hb : ra.dev.opRun e (d'.eng e) (d'.eng e).pc b = rb) :
    d.answers c (match ra.target with
      | some t => (rb.dev.engPost e (ra.regs ++ rb.regs) (ra.fl.merge rb.fl)).engJump e t
      | none => rb.dev.engPost e (ra.regs ++ rb.regs) (ra.fl.merge rb.fl)) := by
  apply Dev.answers_word d h hf (by rw [hk]; rfl)
  rw [hk]
  show Dev.wordRun _ _ _ _ _ _ = _
  have ha' : (d'.modEng e (fun y => { y with pc := (d'.eng e).pc + 4 })).opRun e (d'.eng e) (d'.eng e).pc a = ra := ha
  unfold Dev.wordRun
  simp only [ha', ht.1, ht.2, hb]
  cases ra.target <;> rfl

/-- A fetch that faults, outside a trap (R302). -/
theorem Dev.answers_fetchFault (d d' : Dev) (e n : Nat) (h0 : d.inReset = false) (he : e < 64) (h1 : d.engState e = engRunning)
    (h2 : d.lineToTake e = none) (h3 : (d.eng e).stepping = false) (h4 : d.engFetch e = (d', .fault n))
    (ht : d'.on (ENG_STAT_TACT e) = false) : d.answers (.instructionFetchFault e) (d'.trapEntry e 0 n) := by
  apply Dev.answers_core d (f := fun d => d.engExec e .fetchFault) (ok := decide (e < 64)) (fun s => rfl) (by simp [he]) h0
  unfold Dev.engExec
  rw [if_pos (by simp [Dev.engReady, h1, h2, h4, Fetch.row])]
  unfold Dev.engWord Dev.wordStep
  simp only [h3, h4, Dev.when, Bool.false_eq_true, if_false]
  unfold Dev.engTrap
  rw [if_neg (by simp [ht])]
  have hv : (d'.put (ENG_STAT_TACT e) true).rd (ENG_TVEC_TVEC e) = d'.rd (ENG_TVEC_TVEC e) :=
    Dev.rd_put_ne _ _ (by simp [ENG_TVEC_TVEC, ENG_STAT_TACT])
  simp only [hv]
  rfl

end Sys2Proof.Machine
end

