-- ==== Sys2Proof/Laws/Regs.lean ====
section
/-! SUPPORT. The write of an ordinary register: what the command answers, what the store of the fields changes, that the fields of a
row lie apart from each other, and that those of an enumerated register lie apart from what a rejected write touches. -/

namespace Sys2Proof.Machine

/-- Bit by bit, a number with a field replaced. -/
theorem testBit_setBits (v lo w x i : Nat) :
    (setBits v lo w x).testBit i = if i < lo then v.testBit i else if i < lo + w then x.testBit (i - lo) else v.testBit i := by
  have e : setBits v lo w x = 2 ^ lo * (2 ^ w * (v / 2 ^ (lo + w)) + x % 2 ^ w) + v % 2 ^ lo := by
    unfold setBits
    have h : 2 ^ lo * (2 ^ w * (v / 2 ^ (lo + w))) = v / 2 ^ (lo + w) * 2 ^ (lo + w) := by
      rw [Nat.pow_add, ← Nat.mul_assoc, Nat.mul_comm]
    rw [Nat.mul_add, h, Nat.mul_comm (2 ^ lo) (x % 2 ^ w)]
    omega
  rw [e, Nat.testBit_two_pow_mul_add _ (Nat.mod_lt _ (Nat.two_pow_pos _)), Nat.testBit_two_pow_mul_add _ (Nat.mod_lt _ (Nat.two_pow_pos _)),
    Nat.testBit_mod_two_pow, Nat.testBit_mod_two_pow, Nat.testBit_div_two_pow]
  by_cases h1 : i < lo
  · simp [h1]
  · by_cases h2 : i < lo + w
    · have : i - lo < w := by omega
      simp [h1, h2, this]
    · have : ¬ i - lo < w := by omega
      simp only [h1, h2, this, if_false]
      congr 1
      omega

theorem testBit_bits (v lo w i : Nat) : (bits v lo w).testBit i = (decide (i < w) && v.testBit (lo + i)) := by
  unfold bits
  rw [Nat.testBit_mod_two_pow, Nat.testBit_div_two_pow, Nat.add_comm]

theorem bits_setBits_other (v x : Nat) {lo w lo' w' : Nat} (h : lo + w ≤ lo' ∨ lo' + w' ≤ lo) :
    bits (setBits v lo w x) lo' w' = bits v lo' w' := by
  apply Nat.eq_of_testBit_eq
  intro i
  rw [testBit_bits, testBit_bits, testBit_setBits]
  by_cases hi : i < w'
  · have : ¬(lo ≤ lo' + i ∧ lo' + i < lo + w) := by omega
    split
    · rfl
    · rw [if_neg (by omega)]
  · simp [hi]

/-- What the register write command answers. -/
theorem Dev.answers_registerWrite (d : Dev) {m : Master} {off : Nat} {v : BitVec 32} (hr : d.inReset = false)
    (hw : wellFormed (.registerWrite m off v true) = true) {d' : Dev} (h : d.put32 m off v.toNat = d') :
    d.answers (.registerWrite m off v true) d' := by
  refine Dev.answers_core d (ok := m.ok && offOk off && (true || m == .pcie)) (f := fun d => if true then d.put32 m off v.toNat else d.narrowWrite off)
    (fun s => rfl) ?_ hr h
  simpa [wellFormed] using hw

/-- A write of the last word of a register that is admitted. -/
theorem Dev.put32_last (d : Dev) {m : Master} {a : RegAt} {off v : Nat} (hn : a.named off) (hw : a.word + 1 = a.row.words) (ha : d.admits m a = true) :
    d.put32 m off v = (d.dropStaged m a).regWriteWhole m a (d.committed m a (d.presentValue a) v) := by
  obtain ⟨h1, h2, h3, h4, h5, h6⟩ := hn
  unfold Dev.put32
  rw [Dev.busWrite_at d m v h1 h2 h3 h4 h5 ha, Dev.regWrite_last d m a v h6 hw]

/-- No two fields of a row begin at one bit. -/
def RowsSep (l : List RegRow) : Prop := ∀ r ∈ l, (r.fields.map (·.lo)).Nodup
theorem sep_of (l : List RegRow) (h : l.all (fun r => decide ((r.fields.map (·.lo)).Nodup)) = true) : RowsSep l := by
  intro r hm
  have := List.all_eq_true.mp h r hm
  simpa using this
theorem ite_sep {c : Prop} [Decidable c] {a b : List RegRow} (ha : RowsSep a) (hb : RowsSep b) : RowsSep (if c then a else b) := by
  split <;> assumption
theorem rows_sep (off : Nat) : RowsSep (rowsAt off) := by
  unfold rowsAt
  repeat' first
    | exact sep_of _ (by decide)
    | refine ite_sep ?_ ?_
theorem findReg_row {off : Nat} {a : RegAt} (h : findReg off = some a) : a.row ∈ rowsAt off := by
  unfold findReg at h
  obtain ⟨r, hr, h⟩ := List.exists_of_findSome?_eq_some h
  unfold RegRow.at_ at h
  split at h
  · cases h
  · split at h
    · split at h
      · cases h; exact hr
      · cases h
    · cases h

/-! ### Storing the fields of a register -/

theorem Dev.fieldPut_rd_ne (d : Dev) (a : RegAt) (f : FieldSpec) (v : Nat) (g : Fld) (h : g.key ≠ (a.fld f).key) : (d.fieldPut a f v).rd g = d.rd g := by
  unfold Dev.fieldPut
  cases f.acc <;> first | rfl | exact Dev.rd_wr_ne _ _ h
theorem Dev.fieldPut_only (d : Dev) (a : RegAt) (f : FieldSpec) (v : Nat) : ∃ r, d.fieldPut a f v = { d with regs := r } := by
  unfold Dev.fieldPut
  cases f.acc <;> exact ⟨_, rfl⟩
theorem Dev.fold_fieldPut_only (a : RegAt) (v : Nat) (l : List FieldSpec) (d : Dev) : ∃ r, l.foldl (fun d f => d.fieldPut a f v) d = { d with regs := r } := by
  induction l generalizing d with
  | nil => exact ⟨d.regs, rfl⟩
  | cons f l ih =>
    obtain ⟨r, h⟩ := Dev.fieldPut_only d a f v
    obtain ⟨r', h'⟩ := ih (d.fieldPut a f v)
    exact ⟨r', by simp only [List.foldl_cons, h']; rw [h]⟩
theorem Dev.fold_fieldPut_ne (a : RegAt) (v : Nat) (l : List FieldSpec) (d : Dev) (g : Fld) (h : ∀ f ∈ l, g.key ≠ (a.fld f).key) :
    (l.foldl (fun d f => d.fieldPut a f v) d).rd g = d.rd g := by
  induction l generalizing d with
  | nil => rfl
  | cons f l ih =>
    simp only [List.foldl_cons]
    rw [ih _ (fun x hx => h x (List.mem_cons_of_mem _ hx)), Dev.fieldPut_rd_ne _ _ _ _ _ (h f (List.mem_cons_self ..))]
theorem Dev.fold_fieldPut_mem (a : RegAt) (v : Nat) (l : List FieldSpec) (d : Dev) (hn : (l.map (·.lo)).Nodup) (f : FieldSpec) (hf : f ∈ l) :
    (l.foldl (fun d f => d.fieldPut a f v) d).rd (a.fld f) = (d.fieldPut a f v).rd (a.fld f) := by
  induction l generalizing d with
  | nil => cases hf
  | cons x l ih =>
    simp only [List.map_cons, List.nodup_cons] at hn
    simp only [List.foldl_cons]
    rcases List.mem_cons.mp hf with rfl | hf
    · refine Dev.fold_fieldPut_ne a v l _ _ (fun y hy => ?_)
      have : f.lo ≠ y.lo := fun e => hn.1 (e ▸ List.mem_map_of_mem hy)
      simp only [RegAt.fld]; omega
    · rw [ih _ hn.2 hf]
      have hne : (a.fld f).key ≠ (a.fld x).key := by
        have : x.lo ≠ f.lo := fun e => hn.1 (e ▸ List.mem_map_of_mem hf)
        simp only [RegAt.fld]; omega
      have e := Dev.fieldPut_rd_ne d a x v _ hne
      unfold Dev.fieldPut at *
      cases f.acc <;> simp only [Dev.rd_wr_self] at e ⊢ <;> first | exact e | (rw [e])
theorem Dev.regStore_mem (d : Dev) (a : RegAt) (v : Nat) {off : Nat} (h : findReg off = some a) (f : FieldSpec) (hf : f ∈ a.row.fields) :
    (d.regStore a v).rd (a.fld f) = (d.fieldPut a f v).rd (a.fld f) := Dev.fold_fieldPut_mem a v _ d (rows_sep off _ (findReg_row h)) f hf

/-- What storing a register does: each field by its access code (R6), and nothing else. -/
theorem Dev.regStore_spec (d : Dev) (a : RegAt) (v : Nat) {off : Nat} (h : findReg off = some a) :
    (∀ f ∈ a.row.fields,
      ((f.acc = .rw ∨ f.acc = .rwl) → (d.regStore a v).rd (a.fld f) = bits v f.lo f.width) ∧
      (f.acc = .w1c → (d.regStore a v).rd (a.fld f) = (d.rd (a.fld f) - Nat.land (d.rd (a.fld f)) (bits v f.lo f.width)) % 2 ^ f.width) ∧
      ((f.acc = .ro ∨ f.acc = .wo ∨ f.acc = .rc ∨ f.acc = .rwk) → (d.regStore a v).rd (a.fld f) = d.rd (a.fld f))) ∧
    d.sameBut (d.regStore a v) (a.row.fields.map a.fld) := by
  refine ⟨fun f hf => ?_, fun g hg => ?_, ?_⟩
  · rw [Dev.regStore_mem d a v h f hf]
    have hb : bits v f.lo f.width % 2 ^ f.width = bits v f.lo f.width := Nat.mod_eq_of_lt (bits_lt _ _ _)
    unfold Dev.fieldPut
    refine ⟨?_, ?_, ?_⟩
    · rintro (e | e) <;> simp only [e] <;> exact (Dev.rd_wr_self ..).trans hb
    · intro e; simp only [e]; exact Dev.rd_wr_self ..
    · rintro (e | e | e | e) <;> simp only [e]
  · exact Dev.fold_fieldPut_ne a v _ d g (fun f hf => hg _ (List.mem_map_of_mem hf))
  · obtain ⟨r, hr⟩ := Dev.fold_fieldPut_only a v a.row.fields d
    show ({ d.regStore a v with regs := d.regs, staged := d.staged } : Dev) = d
    unfold Dev.regStore
    rw [hr]


/-- The fields of a row do not overlap. -/
def RegRow.apart (r : RegRow) : Bool :=
  decide (r.fields.Pairwise (fun f g => f.lo + f.width ≤ g.lo ∨ g.lo + g.width ≤ f.lo))

theorem ite_all {p : RegRow → Bool} {c : Prop} [Decidable c] {a b : List RegRow} (ha : a.all p = true) (hb : b.all p = true) :
    (if c then a else b).all p = true := by
  split <;> assumption

theorem rows_apart (off : Nat) : (rowsAt off).all RegRow.apart = true := by
  unfold rowsAt
  repeat' first
    | decide
    | refine ite_all ?_ ?_

theorem findReg_apart {off : Nat} {a : RegAt} (h : findReg off = some a) :
    a.row.fields.Pairwise (fun f g => f.lo + f.width ≤ g.lo ∨ g.lo + g.width ≤ f.lo) := by
  simpa [RegRow.apart] using List.all_eq_true.mp (rows_apart off) _ (findReg_row h)

/-! ### A rejected write -/

/-- How far the instances of a row reach from its base. -/
def RegRow.span (r : RegRow) : Nat := r.dims.foldl (fun n x => n + x.1 * (x.2 - 1)) 0 + 4 * r.words
/-- Whether a row's table asks more of a value than its fields' ranges. -/
def RegRow.placed (r : RegRow) : Bool :=
  r.kind == .pin .seqSide || r.kind == .dep .rxRing || r.kind == .dep .txCfg || r.kind == .sau .hostAddr
theorem RegRow.placed_of_misplaced {r : RegRow} {v : Nat} (h : r.misplaced v = true) : r.placed = true := by
  unfold RegRow.misplaced at h
  unfold RegRow.placed
  split at h <;> simp_all
/-- A row some of whose values are reserved has none of the fields that a rejected write touches. -/
def RegRow.farOk (r : RegRow) : Bool := !(r.placed || r.fields.any (fun f => !f.legal.isEmpty || f.width == 96)) ||
  ((SUP_STAT_RANGE.key :: postKeys).all (fun k => decide (k < 8 * r.base) || decide (8 * (r.base + r.span) ≤ k)) && r.fields.all (fun f => decide (f.lo < 32 * r.words)))
/-- Every row keeps away from the status that a rejected write sets and from what a post writes. -/
def RowsFar (l : List RegRow) : Prop := ∀ r ∈ l, RegRow.farOk r = true
theorem far_of (l : List RegRow) (h : l.all RegRow.farOk = true) : RowsFar l := fun r hm => List.all_eq_true.mp h r hm
theorem ite_far {c : Prop} [Decidable c] {a b : List RegRow} (ha : RowsFar a) (hb : RowsFar b) : RowsFar (if c then a else b) := by
  split <;> assumption
theorem rows_far (off : Nat) : RowsFar (rowsAt off) := by
  unfold rowsAt
  repeat' first
    | exact far_of _ (by decide)
    | refine ite_far ?_ ?_
theorem inst_le (ds : List (Nat × Nat)) (r : Nat) (ix : List Nat) (rest n : Nat) (h : instances ds r = some (ix, rest)) :
    instOff ds ix + n ≤ ds.foldl (fun n x => n + x.1 * (x.2 - 1)) n ∧ instOff ds ix + rest = r := by
  induction ds generalizing r ix rest n with
  | nil =>
    simp only [instances, Option.some.injEq, Prod.mk.injEq] at h
    obtain ⟨rfl, rfl⟩ := h
    simp [instOff]
  | cons x ds ih =>
    obtain ⟨s, k⟩ := x
    simp only [instances] at h
    split at h
    · rename_i hlt
      cases hi : instances ds (r % s) with
      | none => rw [hi] at h; cases h
      | some p =>
        obtain ⟨jx, rest'⟩ := p
        rw [hi] at h
        simp only [Option.map_some, Option.some.injEq, Prod.mk.injEq] at h
        obtain ⟨rfl, rfl⟩ := h
        have a1 := (ih (r % s) jx rest' (n + s * (k - 1)) hi).1
        have a2 := (ih (r % s) jx rest' 0 hi).2
        simp only [instOff, List.foldl_cons]
        have b1 : s * (r / s) ≤ s * (k - 1) := Nat.mul_le_mul_left s (by omega)
        have b2 := Nat.div_add_mod r s
        refine ⟨by omega, by omega⟩
    · cases h
theorem fields_far {off : Nat} {a : RegAt} (h : findReg off = some a) {v : Nat} (hv : a.row.reservedIn v = true) (f : FieldSpec) (hf : f ∈ a.row.fields) :
    (a.fld f).key ≠ SUP_STAT_RANGE.key ∧ (a.fld f).key ∉ postKeys := by
  have hrow := rows_far off _ (findReg_row h)
  unfold findReg at h
  obtain ⟨r, _, h⟩ := List.exists_of_findSome?_eq_some h
  unfold RegRow.at_ at h
  split at h
  · cases h
  · rename_i hb
    split at h
    · rename_i ix rest hi
      split at h
      · cases h
        have hs := (inst_le _ _ _ _ 0 hi).1
        simp only [RegRow.farOk, Bool.or_eq_true, Bool.and_eq_true, Bool.not_eq_true', List.all_eq_true, decide_eq_true_eq] at hrow
        rcases hrow with hrow | ⟨hk, hl⟩
        · exfalso
          rw [Bool.or_eq_false_iff] at hrow
          unfold RegRow.reservedIn at hv
          rw [Bool.or_eq_true] at hv
          rcases hv with hv | hv
          · exact Bool.false_ne_true (hrow.1.symm.trans (RegRow.placed_of_misplaced hv))
          obtain ⟨g, hg, hv⟩ := List.any_eq_true.mp hv
          have := List.any_eq_false.mp hrow.2 g hg
          simp only [Bool.or_eq_true, Bool.and_eq_true, Bool.not_eq_true', not_or] at this hv
          rcases hv with hv | hv
          · exact this.1 hv.1
          · exact this.2 hv.1
        · have hlo := hl f hf
          have hkey (k : Nat) (hk' : k ∈ SUP_STAT_RANGE.key :: postKeys) : ((⟨r, ix, rest / 4⟩ : RegAt).fld f).key ≠ k := by
            have := hk k hk'
            simp only [RegAt.fld, RegAt.off]
            unfold RegRow.span at this
            omega
          exact ⟨hkey _ (List.mem_cons_self ..), fun hm => hkey _ (List.mem_cons_of_mem _ hm) rfl⟩
      · cases h
    · cases h


end Sys2Proof.Machine
end

