-- ==== Sys2Proof/Tests/Slice0.lean ====
section
/-! SUPPORT. Tests of the model against values that the spec states, commands that name no unit, and for every statement a state and operands
that meet its hypotheses, clause by clause. -/

open Sys2Proof Sys2Proof.Machine

set_option maxRecDepth 20000

namespace Sys2Proof.Tests

/-! ### Devices and operands -/

/-- A device that came up from reset and runs. -/
def up : Dev := State.reset.dev.wr LDR_STAT_STATE 5

/-- A device long after its timers were set. -/
def later (d : Dev) : Dev := d.setLt (10 ^ 20)

/-- PPSO output 0 in LT: a pulse of 100 ns at the start of each second. -/
def pps0 (d : Dev) : Dev := ((d.wr (TB_PPSOk_CFG_DOM 0) 4).wr (TB_PPSOk_WIDTH_WIDTH 0) 100).wr (TB_PPSOk_PERIOD_PERIOD 0) 1000000000

def rxf : RxFrame := ⟨[], 0, 0, false, false⟩
def desc0 : Desc := { bytes := [], tc := 0, origin := .copy }
def tx0 : Tx := { desc := desc0, wire := [], reason := 0, start := 0 }
def ev0 : EvRec := { typ := 0x0107, src := 0, test := false, loss := false, fb := false, opsec := 0, pwrcyc := 0, time := 0, detail := 0, rep := 0 }

/-- A frame to the coaches' address with the EtherType 0x88B5. -/
def coach0 : List Byte := [0x03, 0x52, 0x50, 0, 0, 0, 0, 0, 0, 0, 0, 0, 0x88, 0xB5]

/-- Sequencer 0 running at an instruction with this operation and these operand bits. -/
def seqAt (op arg : Nat) : Dev :=
  (up.wr (PIN_GRP_IMEMw_INSTR 0 0) (op * 2 ^ 20 + arg)).wr (PIN_SEQ_STAT_STATE 0 0) 1

def can0 : CanFrame := { id := 5 * 2 ^ 18, ide := false, rtr := false, fdf := false, brs := false, esi := false, dlc := 0, data := [] }
def canErr0 : CanErr := { lec := 1, tx := false, exempt := false, primary := false, tdcv := none }
def norCmd0 : NorCmd := { op := 1, slot := 0, addr := 0, len := 0, data := [], got := 0, fails := 0 }
def hd0 : HDesc := { at_ := 0, rxRing := false, w0 := 0, w1 := 0, haddr := 0, arg := 0 }
def row0 : RowXfer := { matrix := 0, seq := 0, src := 0, len := 0, haddr := 0, note := false }

/-- Channel 0 on, with a descriptor of this kind fetched. -/
def chanCmd (kind : Nat) : Dev := (up.put (HIF_CHc_CTRL_EN 0) true).setChan 0 { cmd := [{ hd0 with w0 := kind }] }

/-- Frames of the service port: READ at 0, WRITE of 1, RESET. -/
def spiR : List Byte := [32, 0, 0, 0, 206]
def spiW : List Byte := [64, 0, 64, 2, 0, 0, 0, 1, 105]
def spiX : List Byte := [128, 0, 0, 60, 133]

/-- Slot 0 holds one record, whose bytes are all read, and loads. -/
def slotOf (rec : List Byte) : Dev :=
  let nor := cellsPut (cellsPut [] 12
    (([BitVec.ofNat 8 (128 + rec.length), 0, 0, 0, 1, 0, 0, 0] : List Byte).map (fun b => ~~~b))) 128 (rec.map (fun b => ~~~b))
  { (up.wr LDR_STAT_STATE 2) with ldr := { up.ldr with nor := nor, got := 1000, off := 128, idx := 0 } }

/-- A record without payload, with this CRC. -/
def rec24 (t : Byte) (crc : List Byte) : Dev := slotOf ([t, 0, 0, 0, 24] ++ List.replicate 15 0 ++ crc)

/-- A REGWRITE record with one entry, POLL or DELAY, and this CRC. -/
def recEntry (kind : Byte) (crc : List Byte) : Dev := slotOf ([1, 0, 0, 0, 32] ++ List.replicate 14 0 ++ [kind] ++ List.replicate 8 0 ++ crc)

/-- A port that is enabled, powered and linked. -/
def portOn (d : Dev) (p : Nat) : Dev := ((d.put (PRT_CTRL_EN p) true).put (PRT_CTRL_PWRDN p) false).put (PRT_STAT_LINK p) true

/-- Port 0 schedules by one gate entry with this operation, on a link that preempts. -/
def gateOp (d : Dev) (op : Nat) : Dev :=
  ((((((d.put (SCH_CTRL_GATEEN 0) true).wr (PRT_STAT_VERSTAT 0) 3).put (PRT_PREEMPT_PREEN 0) true).wr (SCH_OPERLEN_LEN 0) 1).wr
    (SCH_OPERCYCLE_CYCLE 0) (10 ^ 6 * 65536)).wr (SCH_OPERLISTe_ENTRY 0 0) (10 ^ 6 * 2 ^ 32 + op * 256 + 255))

/-- Sequencer 0 drives pin 0. -/
def own0 (d : Dev) : Dev := (d.put (PIN_IOn_CFG_FUNC 0) true).wr (PIN_IOn_CFG_SEL 0) 0

/-- A port whose lane has power. -/
def laneOn (d : Dev) (p : Nat) : Dev := (d.put (PRT_STAT_PWRDY p) true).put (PRT_CTRL_PWRDN p) false

/-- A device whose pads have their supplies, and PERST_N high. -/
def io (d : Dev) : Dev := d.modSup (fun x => { x with ioA := true, ioB := true, perst := false })

/-- A READ of the NOR. -/
def norRd0 : NorCmd := { norCmd0 with op := 0 }
def mp0 : MPacket := ⟨.start 0, 0, [], true, 0, 0, false⟩

/-- Engine 0 runs, and its instruction memory holds a word at address 0. -/
def engAt (w : Nat) : Dev := (up.wr (ENG_STAT_STATE 0) engRunning).modEng 0 (fun x => { x with im := cellsPut [] 0 (toLe 4 w) })

/-- A device after engine 0 fetched. -/
def fetched (d : Dev) : Dev := (d.engFetch 0).1

theorem fetches_engAt {d : Dev} {w : Word} (h0 : d.inReset = false) (h1 : d.engState 0 = engRunning) (h2 : d.lineToTake 0 = none)
    (h3 : (d.eng 0).stepping = false) (h4 : (d.engFetch 0).2 = .word w) : d.fetches 0 (fetched d) w :=
  ⟨h0, by decide, h1, h2, h3, Prod.ext rfl h4⟩

theorem pair_of {α β : Type} {x : α × β} {b : β} (h : x.2 = b) : x = (x.1, b) := by rw [← h]

/-! ### Values that the spec works out -/

/-- R36, Flow A: the PI terms of updates 2, 3 and 11. -/
theorem test_servo_pi : piTerm none 500 0 1000000000 0 1 = (-750, 500) ∧ piTerm none 250 500 1000000000 0 1 = (-625, 750)
    ∧ piTerm none (125 / 128) (127750 / 128) 1000000000 0 1 = (-128125 / 256, 127875 / 128) := by decide +kernel

/-- The words of spec/11's worked routine. -/
theorem test_engine_words : decodeWord 0xAB09B3A0 = .pair (.load 4 false 4 1 12) (.alu .mov 7 2 0)
    ∧ decodeWord 0xA380B180 = .pair (.move 6 1) (.alu .mov 3 0 0)
    ∧ decodeWord 0x2C08A000 = .long .cmp (.alu .cmp 0 4 5) ∧ decodeWord 0x6440000D = .long .br (.branch 2 52)
    ∧ decodeWord 0x52820000 = .long .ldd (.load 8 false 4 1 0)
    ∧ decodeWord 0xA0440BFC = .pair (.aluImm .add 1 1 8) (.alu .sub 7 7 6) ∧ decodeWord 0x44668300 = .long .crc32c (.alu (.crcCastagnoli 4) 3 3 4)
    ∧ decodeWord 0x645FFFFC = .long .br (.branch 2 (-16)) ∧ decodeWord 0x46660200 = .long .not (.alu .not 3 3 0)
    ∧ decodeWord 0x6A000000 = .long .ret .ret := by decide +kernel

/-- The pair at 0x0214 of spec/11's worked routine: W1 += 8; W7 −= 1 sets Z at 0. -/
def pair0 : Dev := (engAt 0xA0440BFC).modEng 0 (fun x => ((x.setReg 1 0x20).setReg 7 1).setReg 6 1)

theorem test_engine_pair : wellFormed (.instructionPair 0) = true ∧ ((pair0.engWord 0).eng 0).reg 1 = 0x28 ∧
    ((pair0.engWord 0).eng 0).reg 7 = 0 ∧ ((pair0.engWord 0).eng 0).fl.z = true ∧
    ((pair0.engWord 0).eng 0).pc = 4 := by decide +kernel

/-- R491: the watchdog kick over SPI; status OK, and its CRC-8 0x00. -/
theorem test_spi_kick : (up.spiWrite [0x40, 0x00, 0x40, 0x0E, 0x96, 0, 0, 0, 0xDA]).out = up.out ++ [.spi spiOk [] 0] := by decide +kernel

/-- R170, Flow C, node 50: DLYF = 2,210 ns, DLYR = 6,710 ns. -/
theorem test_survey_node_50 :
    TrnSurvey.delays { sseq := 1, cycle := 0, tF := some (2210 * 65536), tR := some (6910 * 65536), depF := 0, depR := 200 * 65536 }
      ⟨1, 1, 8960 * 65536, 0⟩ (40 * 65536) = some (2210 * 65536, some (6710 * 65536)) := by decide +kernel

/-- R166, Flow C, cycle 1,000: the header of the master's coach 0. -/
theorem test_coach_header :
    (((up.wr (TRN_CFG_RINGID 0) 1).wr (TRN_CFG_STA 0) 1).coachHead 0 1 0 false false 1000 1 1 false 0
      (compact (500 * sec16 + 10000001 * 65536 + 0x8000))).drop 14
      = [0x11, 0, 0x10, 0x01, 0, 0, 0x03, 0xE8, 0x24, 0, 0, 0, 0x01, 0xF4, 0, 0x98, 0x96, 0x81, 0x80, 0, 0, 0, 0, 0] := by decide +kernel

/-- R217, Flow A, stream S5: the weights at μ = 0.25, and the value of channel 0. -/
theorem test_cubic_weights : cubicWeights (1 / 4) = [5 / 128, -27 / 128, 135 / 128, 15 / 128]
    ∧ (5 / 128 * 10000 - 27 / 128 * 12000 + 135 / 128 * 13000 + 15 / 128 * 13500 : Rat) = 1683500 / 128 := by decide +kernel

/-- R223, Flow A: 1,216 bytes for a row of 128 members; row 49,200 of a ring of 128 rows lies at byte 58,368. -/
theorem test_row_place : rowSize 128 = 1216
    ∧ ((up.wr (SAU_Mm_RING_ROWS 0) 128).wr (SAU_Mm_MEMB_MCOUNT 0) 128).rowAddr 0 49200 = 58368 := by decide +kernel

/-- Flow B on P6: the gate list, and the fit test at 10,000 ns for 1,000 bytes and at 12,000 ns for 200 (R129). -/
def flowB : Dev :=
  (((((((up.wr (PRT_CFG_MODE 6) 1).put (SCH_CTRL_GATEEN 6) true).wr (SCH_OPERLEN_LEN 6) 3).wr
    (SCH_OPERLISTe_ENTRY 6 0) (17000 * 2 ^ 32 + 0xBF)).wr (SCH_OPERLISTe_ENTRY 6 1) (6000 * 2 ^ 32 + 0xC0)).wr
    (SCH_OPERLISTe_ENTRY 6 2) (46444 * 2 ^ 32 + 0xBF)).wr (SCH_OPERCYCLE_CYCLE 6) (69444 * 65536 + 0x71C7)).put (SCH_CFG_SECALIGN 6) true

theorem test_flowB_gates : flowB.fits 6 0 (10000 * 65536) 1000 = false ∧ flowB.fits 6 0 (12000 * 65536) 200 = true
    ∧ (flowB.gateLook 6 (16999 * 65536)).2.1 = 0xBF ∧ (flowB.gateLook 6 (17000 * 65536)).1 = 1 ∧ (flowB.gateLook 6 (23000 * 65536)).1 = 2 := by
  decide +kernel

/-! ### Commands that name no unit of the device, check by check -/

theorem smoke_illFormed_0 : ∀ c ∈ ([.registerWrite (.engine 64) 0 0 true, .registerWrite (.dma 8) 0 0 true, .registerWrite .pcie 2 0 true,
    .registerWrite .pcie 0x4000000 0 true, .registerWrite .spi 0 0 false, .wideRegisterStage .pcie 0x4000000 0, .wideRegisterStage .pcie 1 0,
    .latchingRead .pcie 0x4000000, .latchingRead .pcie 1, .readClear .pcie 0x4000000, .readClear .pcie 1, .frameReceived 22 rxf, .frameReceived 0
    { rxf with sub := 64 }, .mpacketReceived 20 mp0, .mpacketReceived 0 { mp0 with sub := 64 }, .verifyMpacketReceived 20, .respondMpacketReceived 20,
    .verifyTimer 20, .capture (.engine 64) 0 0, .capture .pcie 4 0, .snapshotValid 4, .domainSet (.engine 64) 0 0, .domainSet .pcie 4 0,
    .domainStepWrite (.engine 64) 0 0, .domainStepWrite .pcie 4 0, .incrNomWrite (.engine 64) 0 0, .incrNomWrite .pcie 4 0, .offsetSubmit (.engine 64)
    0 0, .offsetSubmit .pcie 4 0, .servoDisable (.engine 64) 0 0, .servoDisable .pcie 4 0, .domainStep 4, .servoUpdate 4, .servoHoldTimeout 4,
    .tdcCalibration 22 false 0, .ppsoPulseStart 4, .ppsoPulseEnd 4, .departureRecordRead (.engine 64) 0, .departureRecordRead .pcie 22,
    .linkUpCondition 22 ⟨0, false⟩, .linkDownCondition 22 ⟨1, false⟩, .linkDownCondition 0 ⟨0, false⟩, .linkDownCondition 0 ⟨6, false⟩, .linkUp 22,
    .linkDown 22, .mdioPoll 22 false, .mdioPoll 19 false, .collision 22] : List Instr), wellFormed c = false := by decide +kernel
theorem smoke_illFormed_1 : ∀ c ∈ ([.collision 19, .backoffExpiry 22 0, .backoffExpiry 19 0, .backoffExpiry 20 64, .lateCollision 22 0, .lateCollision
    19 0, .plcaInactive 22, .plcaInactive 19, .pauseTakesEffect 20, .pfcTakesEffect 20, .pauseTimerExpiry 20 0, .pauseTimerExpiry 0 9, .pauseRefresh
    20, .portPowerDown (.engine 64) 0 0, .portPowerDown .pcie 22 0, .lanePowerUp (.engine 64) 0 0, .lanePowerUp .pcie 22 0, .laneReady 22 false 0 0,
    .portReset 22, .tableRead (.engine 64) 0, .tableWrite (.engine 64) 0, .tableInvalidate (.engine 64) 0, .tableFlush (.engine 64) 0, .fdbAgeing
    16384, .keyCommit (.engine 64) 0 0, .keyCommit .pcie 256 0, .descriptorHandover 22, .transmitStart 22 0, .transmitStart 0 64, .transmitEnd 22,
    .gateEvent 22, .change (.engine 64) 0 0, .change .pcie 22 0, .cancel (.engine 64) 0 0, .cancel .pcie 22 0, .configSwap 22, .macHold 22,
    .macRelease 22, .launchTimeReached 22 0 0, .launchTimeReached 0 8 0, .lateToleranceExpiry 22 0 0, .lateToleranceExpiry 0 8 0, .schedulerReset 22,
    .coachReceived 4 rxf, .coachReceived 0 { rxf with sub := 64 }, .surveyDelayCompute 2, .trainDeparture 2 0, .trainDeparture 0 64] : List Instr),
    wellFormed c = false := by decide +kernel
theorem smoke_illFormed_2 : ∀ c ∈ ([.masterOutTake 2, .cycleMark 2 0, .cycleMark 0 8, .mirrorCommitWrite .pcie 2 4 0, .mirrorCommitWrite .pcie 0 0x804
    0, .mirrorCommitWrite .pcie 0 0 0, .ringEnable (.engine 64) 0 0, .ringEnable .pcie 2 0, .silenceTimeout 2, .startCoachSend 2 0, .startCoachSend 0
    64, .startCoachTimeout 2, .claimWindowEnd 2, .survey (.engine 64) 0 0, .survey .pcie 2 0, .surveyAbandon 2, .swgo (.engine 64) 0 0, .swgo .pcie 2
    0, .modeCommit (.engine 64) 0 0, .modeCommit .pcie 2 0, .modeCommitApply 2, .modeInvalidate (.engine 64) 0 0, .modeInvalidate .pcie 2 0,
    .modeReadBack (.engine 64) 0 0, .modeReadBack .pcie 2 0, .lateDeadline 2, .returnTimeout 2, .commandFifoRead (.engine 64) 0, .commandFifoRead
    .pcie 2, .streamTimeout 256, .streamEnable (.engine 64) 0 0, .streamEnable .pcie 256 0, .streamDisable (.engine 64) 0 0, .streamDisable .pcie 256
    0, .matrixEnable (.engine 64) 0 0, .matrixEnable .pcie 4 0, .matrixDisable (.engine 64) 0 0, .matrixDisable .pcie 4 0, .rowOpen 4, .rowDeadline 4,
    .rowComplete 4, .filteredEdge 48 false 0 0, .filteredEdge 0 false 0 64, .edgeStampRead (.engine 64), .rel (.engine 64) 0 0, .rel .pcie 48 0,
    .expressHoldExpiry 48, .xclr (.engine 64) 0 0] : List Instr), wellFormed c = false := by decide +kernel
theorem smoke_illFormed_3 : ∀ c ∈ ([.xclr .pcie 48 0, .groupClockWrite (.engine 64) 0 0, .groupClockWrite .pcie 2 0, .send 8, .take 8, .load 8, .store
    8, .branch 8, .wait 8, .count 8, .drive 8, .signal 8, .nop 8 false, .spfFeed 8, .thdDeliver 8, .groupStart (.engine 64) 0 0, .groupStart .pcie 2
    0, .timedStartFire 2, .groupHalt (.engine 64) 0 0, .groupHalt .pcie 2 0, .instructionWrite (.engine 64) 0 0 0, .instructionWrite .pcie 2 0 0,
    .instructionWrite .pcie 0 64 0, .flagSetWrite (.engine 64) 0 0, .flagSetWrite .pcie 2 0, .kick (.engine 64) 0 0, .kick .pcie 8 0, .clrshift
    (.engine 64) 0 0, .clrshift .pcie 8 0, .txFifoWrite (.engine 64) 0 0, .txFifoWrite .pcie 8 0, .rxFifoRead (.engine 64) 0, .rxFifoRead .pcie 8,
    .groupReset 2, .depotPowerOn (.engine 64) 0 0, .depotPowerOn .pcie 8 0, .depotWakeDone 8, .depotPowerOff (.engine 64) 0 0, .depotPowerOff .pcie 8
    0, .depotOffDone 8, .rxRelease 64 0 0, .rxRelease 0 2 0, .ingressPop 64 0, .ingressPop 0 2, .egressStage 64 0 0 0, .egressStage 0 2 0 0,
    .egressStage 0 0 5 0, .egressPush 64 0 0] : List Instr), wellFormed c = false := by decide +kernel
theorem smoke_illFormed_4 : ∀ c ∈ ([.egressPush 0 2 0, .frameInterfaceFetch 8, .copyComplete 8, .timerCompareFire 8 0, .timerCompareFire 0 4,
    .swapRequest (.engine 64) 0 0, .swapRequest .pcie 64 0, .swapCancel (.engine 64) 0 0, .swapCancel .pcie 64 0, .swapTimeout (.engine 64),
    .swapTimeout (.depot 8), .depotSwapGo (.engine 64) 0 0, .depotSwapGo .pcie 8 0, .depotSwapCancel (.engine 64) 0 0, .depotSwapCancel .pcie 8 0,
    .run (.engine 64) 0 0, .run .pcie 64 0, .halt (.engine 64) 0 0, .halt .pcie 64 0, .step (.engine 64) 0 0, .step .pcie 64 0, .depotReset 8,
    .sharedMemoryAccess (.engine 0) 0 1 ⟨none, []⟩, .sharedMemoryAccess (.dma 8) 0 1 ⟨none, []⟩, .sharedMemoryAccess .pcie 0 0 ⟨none, []⟩,
    .sharedMemoryAccess .pcie 0xFFFFFF 2 ⟨none, []⟩, .sharedMemoryAccess .pcie 0 2 ⟨some [1], []⟩, .sharedMemoryAccess .pcie 0 2 ⟨none, [(.bank (64 *
    32768), false)]⟩, .bankConfigWrite (.engine 64) 0 0, .bankConfigWrite .pcie 64 0, .bankHandover (.engine 64) 0 0, .bankHandover .pcie 64 0,
    .handoverEffect 64, .borrowEnd (some (64, 0)), .borrowEnd (some (0, 2 ^ 64)), .borrowAbort 64, .queuePush (.engine 64) 0 (.low 0), .queuePush
    .pcie 1024 (.low 0), .queuePush .spi 0 (.wide 0 0), .queueStage (.engine 64) 0 0, .queueStage .pcie 1024 0, .queuePop (.engine 64) ⟨0, false⟩,
    .queuePop .pcie ⟨1024, false⟩, .queuePop .spi ⟨0, true⟩, .queueRefill 1024, .queueReset 1024, .mailboxStage .pcie 256 4 0, .mailboxStage .pcie 0 3
    0] : List Instr), wellFormed c = false := by decide +kernel
theorem smoke_illFormed_5 : ∀ c ∈ ([.mailboxStage .pcie 0 7 0, .mailboxPost (.engine 64) 0 0, .mailboxPost .pcie 256 0, .mailboxHeaderRead (.engine
    64) 0, .mailboxHeaderRead .pcie 256, .mailboxTake (.engine 64) 0, .mailboxTake .pcie 256, .mailboxReset 256, .doorbellRing (.engine 64) 0,
    .doorbellRing .pcie 512, .lockAcquire (.engine 64) 0, .lockAcquire .pcie 64, .lockPeek (.engine 64) 0, .lockPeek .pcie 64, .lockRelease (.engine
    64) 0 0, .lockRelease .pcie 64 0, .lockForce (.engine 64) 0 0, .lockForce .pcie 64 0, .txRequest (.engine 64) 0 0, .txRequest .pcie 2 0, .txAbort
    (.engine 64) 0 0, .txAbort .pcie 2 0, .attemptStart 2, .arbitrationLost 2, .canFrameSent 2 0 0, .canFrameReceived 2 can0 0, .canFrameReceived 0
    { can0 with dlc := 16 } 0, .canFrameReceived 0 { can0 with ide := true, id := 2 ^ 29 } 0, .canFrameReceived 0 { can0 with id := 1 } 0,
    .canFrameReceived 0 { can0 with dlc := 1 } 0, .canFrameReceived 0 { can0 with rtr := true, fdf := true } 0, .canFrameReceived 0
    { can0 with brs := true } 0, .canError 2 canErr0, .canError 0 { canErr0 with lec := 0 }, .canError 0 { canErr0 with lec := 7 }, .protocolException
    2, .borec (.engine 64) 0 0, .borec .pcie 2 0, .busOffRecovered 2, .abr (.engine 64) 0 0, .abr .pcie 2 0, .dwellExpiry 2, .canPortReset 2, .supRst
    (.engine 64), .fineClockCheck (2 ^ 20), .norProbe (some 256) 0 0, .norRead (.engine 64) 0, .norProgram (.engine 64) 0] : List Instr), wellFormed c
    = false := by decide +kernel
theorem smoke_illFormed_6 : ∀ c ∈ ([.norErase4k (.engine 64) 0, .norErase64k (.engine 64) 0, .norCheck (.engine 64) 0, .functionResetRequest (.engine
    64) 0, .functionResetRequest .pcie 4096, .domainReset 4, .faultSet (.engine 64) 0, .faultClear (.engine 64) 0, .watchdogKick (.engine 64) 0,
    .temperatureSample (-2049), .temperatureSample 2048, .standby (.engine 64), .clockGateWrite (.engine 64) 0, .supLock (.engine 64), .eventPost 0 0
    0, .eventPost 0x0503 0x0A3 0, .eventPost 0x0A07 0x0A3 0, .eventPost 0x0901 0xFFF 0, .clear (.engine 64), .retest (.engine 64), .inject (.engine
    64) 0, .injectDataStage (.engine 64) 0, .pcieLinkChange .up 3 1, .pcieLinkChange .up 0 5, .pcieLinkChange .down 0 0, .msixPost 256, .msixUnmask
    (.entry 256 0 0 true), .msixUnmask (.entry 0 (2 ^ 64) 0 true), .msixUnmask (.entry 0 0 (2 ^ 32) true), .ringTailWrite (.engine 64) 0 false 0,
    .ringTailWrite .pcie 8 false 0, .descriptorFetch 8 false none, .descriptorFetch 0 false (some [0]), .dmaRead 8 none, .dmaWrite 8 [], .dmaTx 8 [],
    .rxbuf 8 none, .rowTransfer 8 none, .channelReset 8, .spiRead [32, 0, 0, 0], .spiRead [64, 0, 0, 0, 0], .spiWrite [64, 0, 0, 0, 0, 0, 0, 0],
    .spiWrite [32, 0, 0, 0, 0, 0, 0, 0, 0], .spiReset [128, 0, 0, 0], .spiReset [32, 0, 0, 0, 0], .spiFrameDiscard [], .spiFrameDiscard [32, 0, 0, 0,
    0], .extest [none]] : List Instr), wellFormed c = false := by decide +kernel
theorem smoke_illFormed_7 : ∀ c ∈ ([.samplePreload [none], .bypass 32, .bypass 4, .bypass 0x1C, .plcaActive 22, .plcaActive 19, .canRecessiveWaitEnd
    2, .dmaTransferComplete 8] : List Instr), wellFormed c = false := by decide +kernel
theorem smoke_illFormed_engines : ∀ c ∈ ([.interruptEntry, .wfeWake, .engineReset, .instructionPair, .add, .addc, .sub, .subb, .and, .or, .xor, .andn,
    .shl, .shr, .sar, .rol, .ror, .adds, .subs, .addus, .subus, .mulu, .muls, .divu, .divs, .cmp, .tst, .addi, .andi, .ori, .xori, .shi, .cmpi, .movl,
    .movh, .bfx, .bfi, .crc32, .crc32c, .crc16, .ocadd, .bswap, .bswap16, .clz, .berlen, .mov, .not, .neg, .ldb, .ldbs, .ldh, .ldhs, .ldw, .ldd, .stb,
    .sth, .stw, .std, .ldi, .ioIn, .ioOut, .br, .call, .jr, .ret, .reti, .rft, .wfe, .safe, .trap, .brk, .gets, .puts, .push, .pop, .peek, .drop,
    .undefinedInstruction, .instructionFetchFault] : List (Nat → Instr)), wellFormed (c 64) = false ∧ wellFormed (c 63) = true := by decide +kernel

/-! ### What the completion statements need, clause by clause -/

theorem witness_RegisterAccessCommandsComplete :
    (∃ (d : Dev) (m : Master) (off : Nat) (v : BitVec 32) (whole : Bool) (a : RegAt), d.inReset = false ∧ wellFormed (.registerWrite m off v whole) = true
      ∧ whole = true ∧ findReg off = some a ∧ a.off + 4 * a.word = off ∧ off < 0x1000000 ∧ offReserved off = false ∧ winAt off = none ∧
      a.row.kind.window = false ∧ a.word + 1 = a.row.words ∧ a.row.writable = true ∧ d.accepts m a (d.committed m a (d.presentValue a) v.toNat) = true) ∧
    (∃ (d : Dev) (m : Master) (off : Nat) (v : BitVec 32) (whole : Bool), d.inReset = false ∧ wellFormed (.registerWrite m off v whole) = true ∧ whole =
      false ∧ d.hostShutOut .pcie off = false ∧ offReserved off = false) ∧
    (∃ (d : Dev) (m : Master) (off : Nat) (v : BitVec 32) (whole : Bool), d.inReset = false ∧ wellFormed (.registerWrite m off v whole) = true ∧ whole =
      false ∧ d.hostShutOut .pcie off = false ∧ offReserved off = true) ∧
    (∃ (d : Dev) (m : Master) (off : Nat) (v : BitVec 32) (a : RegAt), d.inReset = false ∧ wellFormed (.wideRegisterStage m off v) = true ∧ findReg off =
      some a ∧ a.off + 4 * a.word = off ∧ off < 0x1000000 ∧ offReserved off = false ∧ winAt off = none ∧ a.row.kind.window = false ∧ a.word + 1 <
      a.row.words ∧ d.admits m a = true) ∧
    (∃ (d : Dev) (m : Master) (off : Nat) (a : RegAt), d.inReset = false ∧ wellFormed (.latchingRead m off) = true ∧ findReg off = some a ∧ a.off + 4 *
      a.word = off ∧ off < 0x1000000 ∧ offReserved off = false ∧ winAt off = none ∧ d.admits m a = true) ∧
    (∃ (d : Dev) (m : Master) (off : Nat), d.inReset = false ∧ wellFormed (.latchingRead m off) = true ∧ d.hostShutOut m off = false ∧ off < 0x1000000 ∧
      offReserved off = true) ∧
    (∃ (d : Dev) (m : Master) (off : Nat) (a : RegAt), d.inReset = false ∧ wellFormed (.readClear m off) = true ∧ findReg off = some a ∧ a.off + 4 * a.word
      = off ∧ off < 0x1000000 ∧ offReserved off = false ∧ winAt off = none ∧ a.row.fields.any (fun f => f.acc == .rc) = true ∧ d.admits m a = true) :=
  ⟨⟨up, .supervisor, 0x100008, 0, true, ⟨row_PRT_LINK, [0], 0⟩, by decide, by decide, by decide, rfl, by decide, by decide, by decide, by decide, by
      decide, by decide, by decide, by decide⟩,
    ⟨up, .pcie, 0, 0, false, by decide, by decide, by decide, by decide, by decide⟩,
    ⟨up, .pcie, 0x70000, 0, false, by decide, by decide, by decide, by decide, by decide⟩,
    ⟨up, .supervisor, 0x81008, 0, ⟨row_TB_TDn_INCR_NOM, [0], 0⟩, by decide, by decide, rfl, by decide, by decide, by decide, by decide, by decide, by
      decide, by decide⟩,
    ⟨up, .supervisor, 0x81008, ⟨row_TB_TDn_INCR_NOM, [0], 0⟩, by decide, by decide, rfl, by decide, by decide, by decide, by decide, by decide⟩,
    ⟨up, .pcie, 0x70000, by decide, by decide, by decide, by decide, by decide⟩,
    ⟨up, .supervisor, 0x30028, ⟨row_EVR_FIFO, [], 0⟩, by decide, by decide, rfl, by decide, by decide, by decide, by decide, by decide, by decide⟩⟩

theorem witness_TimebaseCommandsComplete :
    (∃ (d : Dev) (m : Master) (n : Nat) (v : BitVec 32), d.inReset = false ∧ wellFormed (.capture m n v) = true ∧ d.accepts m (row_TB_SNAPn_CTRL.last [n])
      (withField v 0 1 1).toNat = true) ∧
    (∃ (d : Dev) (n : Nat), d.inReset = false ∧ wellFormed (.snapshotValid n) = true ∧ n ∈ d.tb.snapDue) ∧
    (∃ (d : Dev) (m : Master) (n : Nat) (v : BitVec 32), d.inReset = false ∧ wellFormed (.domainSet m n v) = true ∧ d.accepts m (row_TB_TDn_SET.last [n])
      (d.committed m (row_TB_TDn_SET.last [n]) (d.presentValue (row_TB_TDn_SET.last [n])) v.toNat) = true ∧ d.stepAllowed n = true) ∧
    (∃ (d : Dev) (m : Master) (n : Nat) (v : BitVec 32), d.inReset = false ∧ wellFormed (.domainStepWrite m n v) = true ∧ d.accepts m (row_TB_TDn_STEP.last
      [n]) (d.committed m (row_TB_TDn_STEP.last [n]) (d.presentValue (row_TB_TDn_STEP.last [n])) v.toNat) = true ∧ d.stepAllowed n = true) ∧
    (∃ (d : Dev) (m : Master) (n : Nat) (v : BitVec 32), d.inReset = false ∧ wellFormed (.incrNomWrite m n v) = true ∧ d.accepts m
      (row_TB_TDn_INCR_NOM.last [n]) (d.committed m (row_TB_TDn_INCR_NOM.last [n]) (d.presentValue (row_TB_TDn_INCR_NOM.last [n])) v.toNat) = true ∧
      d.on (TB_TDn_CFG_SERVO n) = false) ∧
    (∃ (d : Dev) (m : Master) (n : Nat) (v : BitVec 32), d.inReset = false ∧ wellFormed (.offsetSubmit m n v) = true ∧ d.accepts m (row_TB_TDn_OFFS.last
      [n]) (d.committed m (row_TB_TDn_OFFS.last [n]) (d.presentValue (row_TB_TDn_OFFS.last [n])) v.toNat) = true ∧ d.on (TB_TDn_CFG_SERVO n) = true ∧
      d.rd (TB_TDn_CFG_PSRC n) = 1 ∧ (d.dom n).steps.any (fun e => e.2) = false) ∧
    (∃ (d : Dev) (m : Master) (n : Nat) (v : BitVec 32), d.inReset = false ∧ wellFormed (.servoDisable m n v) = true ∧ d.accepts m (row_TB_TDn_CFG.last
      [n]) (withField v 4 1 0).toNat = true ∧ d.on (TB_TDn_CFG_SERVO n) = true) ∧
    (∃ (d : Dev) (n : Nat) (e : Step × Bool), d.inReset = false ∧ wellFormed (.domainStep n) = true ∧ (d.dom n).steps = [e]) ∧
    (∃ (d : Dev) (n : Nat) (t : Nat) (o : Int) (later : List (Nat × Int)), d.inReset = false ∧ wellFormed (.servoUpdate n) = true ∧ (d.dom n).offsets = (t,
      o) :: later ∧ t < d.tb.lt) ∧
    (∃ (d : Dev) (n : Nat), d.inReset = false ∧ wellFormed (.servoHoldTimeout n) = true ∧ d.on (TB_TDn_CFG_SERVO n) = true ∧ d.rd (TB_TDn_STAT_STATE n) = 1
      ∧ d.servoSilent n = true) ∧
    (∃ (d : Dev), d.inReset = false) ∧
    (∃ (d : Dev) (p : Nat) (tx : Bool) (taps : Nat), d.inReset = false ∧ wellFormed (.tdcCalibration p tx taps) = true ∧ 48 ≤ taps ∧ taps ≤ 96) ∧
    (∃ (d : Dev) (rising : Bool) (width sub : Nat), d.inReset = false ∧ wellFormed (.ppsEdge rising width sub) = true ∧ d.sup.ioB = true ∧ d.on
      TB_PPSIN_CFG_EN = true ∧ rising = !d.on TB_PPSIN_CFG_POL ∧ d.rd TB_PPSIN_CFG_MINW * 16 ≤ width ∧ d.tb.ppsLast = none) ∧
    (∃ (d : Dev) (last : Int), d.inReset = false ∧ d.tb.ppsLast = some last ∧ d.on TB_PPSIN_CFG_EN = true ∧ last + Int.ofNat (sec16 + d.ppsWindow) ≤
      Int.ofNat (d.domTime (d.rd TB_PPSIN_CFG_DOM))) ∧
    (∃ (d : Dev) (present : Bool) (ppb : Int), d.inReset = false ∧ wellFormed (.freqWindowEnd present ppb) = true ∧ d.sup.ioB = true ∧ d.on
      TB_FREQIN_CFG_EN = true ∧ present = true ∧ absNat ppb ≤ d.rd TB_FREQIN_CFG_WIN * 1000) ∧
    (∃ (d : Dev) (k : Nat) (e : Nat × Nat), d.inReset = false ∧ wellFormed (.ppsoPulseStart k) = true ∧ d.on (TB_PPSOk_CFG_EN k) = true ∧ d.ppsoGated k =
      false ∧ d.ppsoPulse k = some e ∧ tget d.tb.pulses k = none) ∧
    (∃ (d : Dev) (k : Nat) (e b : Nat × Nat), d.inReset = false ∧ wellFormed (.ppsoPulseStart k) = true ∧ d.on (TB_PPSOk_CFG_EN k) = true ∧ d.ppsoGated k =
      false ∧ d.ppsoPulse k = some e ∧ tget d.tb.pulses k = some b ∧ b.1 ≠ e.1) ∧
    (∃ (d : Dev) (k : Nat) (e : Nat × Nat), d.inReset = false ∧ wellFormed (.ppsoPulseEnd k) = true ∧ tget d.tb.pulses k = some e ∧ d.on
      (TB_PPSOk_STAT_ACTIVE k) = true ∧ e.2 < d.tb.lt + tick16) ∧
    (∃ (d : Dev) (m : Master) (p : Nat) (w : Nat), d.inReset = false ∧ wellFormed (.departureRecordRead m p) = true ∧ d.admits m (row_TB_Pp_DRQ.last [p]) =
      true ∧ wordOf d.latched m.uid ((row_TB_Pp_DRQ.last [p]).off + 12) = some w) ∧
    (∃ (d : Dev) (n : Nat), d.inReset = false ∧ wellFormed (.domainReset n) = true ∧ d.resetting (0x0D0 + n)) ∧
    (∃ (d : Dev), d.inReset = false ∧ d.resetting 0x0D8) :=
  ⟨⟨up, .supervisor, 0, 0, by decide, by decide, by decide⟩,
    ⟨{ up with tb := { up.tb with snapDue := [0] } }, 0, by decide, by decide, by decide⟩,
    ⟨up, .supervisor, 0, 0, by decide, by decide, by decide, by decide⟩,
    ⟨up, .supervisor, 0, 0, by decide, by decide, by decide, by decide⟩,
    ⟨(up.put (TB_TDn_CFG_SERVO 0) false), .supervisor, 0, 4, by decide, by decide, by decide, by decide⟩,
    ⟨((up.put (TB_TDn_CFG_SERVO 0) true).wr (TB_TDn_CFG_PSRC 0) 1), .supervisor, 0, 0, by decide, by decide, by decide, by decide, by decide, by decide⟩,
    ⟨(up.put (TB_TDn_CFG_SERVO 0) true), .supervisor, 0, 0, by decide, by decide, by decide, by decide⟩,
    ⟨(up.setDom 0 { steps := [(.adv 1, true)] }), 0, (.adv 1, true), by decide, by decide, by decide⟩,
    ⟨(later (up.setDom 0 { offsets := [(5, 7)] })), 0, 5, 7, [], by decide, by decide, by decide, by decide⟩,
    ⟨(later (((up.put (TB_TDn_CFG_SERVO 0) true).wr (TB_TDn_STAT_STATE 0) 1).setDom 0 { lastUpd := some 0 })), 0, by decide, by decide, by decide, by
      decide, by decide⟩,
    ⟨up, by decide⟩,
    ⟨up, 0, false, 48, by decide, by decide, by decide, by decide⟩,
    ⟨(io ((up.put TB_PPSIN_CFG_EN true).put TB_PPSIN_CFG_POL false)), true, 1000000, 1, by decide, by decide, by decide, by decide, by decide, by decide,
      by decide⟩,
    ⟨{ (up.put TB_PPSIN_CFG_EN true) with tb := { (up.put TB_PPSIN_CFG_EN true).tb with ppsLast := some (-200000000000000) } }, -200000000000000, by
      decide, by decide, by decide, by decide⟩,
    ⟨(io (up.put TB_FREQIN_CFG_EN true)), true, 0, by decide, by decide, by decide, by decide, by decide, by decide⟩,
    ⟨(pps0 (up.put (TB_PPSOk_CFG_EN 0) true)), 0, (0, 6553600), by decide, by decide, by decide, by decide, by decide, by decide⟩,
    ⟨{ pps0 (up.put (TB_PPSOk_CFG_EN 0) true) with tb := { (pps0 (up.put (TB_PPSOk_CFG_EN 0) true)).tb with pulses := [(0, (5, 6))] } }, 0, (0, 6553600),
      (5, 6), by decide, by decide, by decide, by decide, by decide, by decide, by decide⟩,
    ⟨{ (up.put (TB_PPSOk_STAT_ACTIVE 0) true) with tb := { (up.put (TB_PPSOk_STAT_ACTIVE 0) true).tb with pulses := [(0, (0, 1))] } }, 0, (0, 1), by
      decide, by decide, by decide, by decide, by decide⟩,
    ⟨{ up with latched := [((0, 0x9002C), 9)] }, .supervisor, 0, 9, by decide, by decide, by decide, by decide⟩,
    ⟨((up.put SUP_FNLAST_BUSY true).wr SUP_FNLAST_TARGET (0x0D0 + 0)), 0, by decide, by decide, ⟨by decide, by decide⟩⟩,
    ⟨((up.put SUP_FNLAST_BUSY true).wr SUP_FNLAST_TARGET 0x0D8), by decide, ⟨by decide, by decide⟩⟩⟩

theorem witness_PortCommandsComplete :
    (∃ (d : Dev) (p : Nat) (f : RxFrame), d.inReset = false ∧ wellFormed (.frameReceived p f) = true ∧ (d.mediumIdle p false (d.tb.lt - f.ago *
      tick16)).takenByTrain p f.bytes = false) ∧
    (∃ (d : Dev) (p : Nat) (f : MPacket) (n : Nat), d.inReset = false ∧ wellFormed (.mpacketReceived p f) = true ∧ d.portUp p = true ∧ f.smd = .start n ∧
      (d.port p).asm = none ∧ f.last = false) ∧
    (∃ (d : Dev) (p : Nat), d.inReset = false ∧ wellFormed (.verifyMpacketReceived p) = true ∧ d.portUp p = true) ∧
    (∃ (d : Dev) (p : Nat), d.inReset = false ∧ wellFormed (.respondMpacketReceived p) = true ∧ d.portUp p = true ∧ d.rd (PRT_STAT_VERSTAT p) = 2) ∧
    (∃ (d : Dev) (p : Nat), d.inReset = false ∧ wellFormed (.verifyTimer p) = true ∧ d.rd (PRT_STAT_VERSTAT p) = 2 ∧ (d.port p).verAt + d.rd
      (PRT_PREEMPT_VERTIME p) * (1000000 * 65536) ≤ d.tb.lt ∧ 3 ≤ (d.port p).verifies) ∧
    (∃ (d : Dev) (p : Nat) (line : LineUp), d.inReset = false ∧ wellFormed (.linkUpCondition p line) = true ∧ d.laneReady p = true ∧ d.on (PRT_CFG_ANEN p)
      = false) ∧
    (∃ (d : Dev) (p : Nat) (line : LineDown), d.inReset = false ∧ wellFormed (.linkDownCondition p line) = true ∧ d.laneReady p = true) ∧
    (∃ (d : Dev) (p : Nat), d.inReset = false ∧ wellFormed (.linkUp p) = true ∧ (d.port p).up = true ∧ d.laneReady p = true ∧ d.on (PRT_STAT_LINK p) =
      false ∧ (d.port p).since + d.rd (PRT_LINK_LUDEB p) * (1000000 * 65536) ≤ d.tb.lt) ∧
    (∃ (d : Dev) (p : Nat) (cause : Nat), d.inReset = false ∧ wellFormed (.linkDown p) = true ∧ (d.port p).down = some cause ∧ d.on (PRT_STAT_LINK p) =
      true ∧ (d.port p).since + d.rd (PRT_LINK_LDDEB p) * (100 * 65536) ≤ d.tb.lt) ∧
    (∃ (d : Dev) (p : Nat) (link : Bool), d.inReset = false ∧ wellFormed (.mdioPoll p link) = true ∧ d.laneReady p = true ∧ (d.port p).pollAt ≤ d.tb.lt ∧
      link = true) ∧
    (∃ (d : Dev) (p : Nat) (t : Tx), d.inReset = false ∧ wellFormed (.collision p) = true ∧ (d.port p).tx = some t ∧ t.waits = false ∧ d.on
      (PRT_STAT_PLCAACT p) = false ∧ (d.port p).colls + 1 < d.rd (PRT_HDX_ATTLIM p)) ∧
    (∃ (d : Dev) (p sub : Nat) (t : Tx), d.inReset = false ∧ wellFormed (.backoffExpiry p sub) = true ∧ (d.port p).tx = some t ∧ t.waits = true ∧ (d.port
      p).backAt ≤ d.tb.lt ∧ d.plcaOpen p = true) ∧
    (∃ (d : Dev) (p bitTime : Nat) (t : Tx), d.inReset = false ∧ wellFormed (.lateCollision p bitTime) = true ∧ (d.port p).tx = some t ∧ t.waits = false ∧
      512 < bitTime) ∧
    (∃ (d : Dev) (p : Nat), d.inReset = false ∧ wellFormed (.plcaActive p) = true ∧ d.rd (PRT_PLCA_NODEID p) ≠ 255 ∧ d.on (PRT_STAT_PLCAACT p) = false) ∧
    (∃ (d : Dev) (p : Nat), d.inReset = false ∧ wellFormed (.plcaInactive p) = true ∧ d.rd (PRT_PLCA_NODEID p) ≠ 255 ∧ d.on (PRT_STAT_PLCAACT p) = true) ∧
    (∃ (d : Dev) (p : Nat) (q : Nat) (later : List Nat), d.inReset = false ∧ wellFormed (.pauseTakesEffect p) = true ∧ (d.port p).pauseDue = q :: later) ∧
    (∃ (d : Dev) (p : Nat) (en : Nat) (qs : List Nat) (later : List (Nat × List Nat)), d.inReset = false ∧ wellFormed (.pfcTakesEffect p) = true ∧ (d.port
      p).pfcDue = (en, qs) :: later) ∧
    (∃ (d : Dev) (p t : Nat), d.inReset = false ∧ wellFormed (.pauseTimerExpiry p t) = true ∧ t = 8 ∧ d.pauseOver p 8 = true) ∧
    (∃ (d : Dev) (p t : Nat), d.inReset = false ∧ wellFormed (.pauseTimerExpiry p t) = true ∧ t < 8 ∧ d.pauseOver p t = true) ∧
    (∃ (d : Dev) (p : Nat), d.inReset = false ∧ wellFormed (.pauseRefresh p) = true ∧ d.refreshDue p ≠ 0 ∧ d.rd (PRT_PAUSETX_QUANTA p) ≠ 0 ∧ d.on
      (PRT_STAT_LINK p) = true) ∧
    (∃ (d : Dev) (m : Master) (p : Nat) (v : BitVec 32), d.inReset = false ∧ wellFormed (.portPowerDown m p v) = true ∧ d.accepts m (row_PRT_CTRL.last [p])
      (withField v 1 1 1).toNat = true) ∧
    (∃ (d : Dev) (m : Master) (p : Nat) (v : BitVec 32), d.inReset = false ∧ wellFormed (.lanePowerUp m p v) = true ∧ d.accepts m (row_PRT_CTRL.last [p])
      (withField v 1 1 0).toNat = true) ∧
    (∃ (d : Dev) (p : Nat) (sdOk : Bool) (rxTaps txTaps : Nat), d.inReset = false ∧ wellFormed (.laneReady p sdOk rxTaps txTaps) = true ∧ d.on
      (PRT_CTRL_PWRDN p) = false ∧ d.on (PRT_STAT_PWRDY p) = false ∧ 20 ≤ p) ∧
    (∃ (d : Dev) (p : Nat), d.inReset = false ∧ wellFormed (.portReset p) = true ∧ d.resetting (prtUid p)) :=
  ⟨⟨up, 0, rxf, by decide, by decide, by decide⟩,
    ⟨(portOn up 0), 0, ⟨.start 1, 0, [], false, 0, 0, false⟩, 1, by decide, by decide, by decide, by decide, by decide, by decide⟩,
    ⟨(portOn up 0), 0, by decide, by decide, by decide⟩,
    ⟨(portOn (up.wr (PRT_STAT_VERSTAT 0) 2) 0), 0, by decide, by decide, by decide, by decide⟩,
    ⟨(later ((up.wr (PRT_STAT_VERSTAT 0) 2).setPort 0 { verifies := 3 })), 0, by decide, by decide, by decide, by decide, by decide⟩,
    ⟨(laneOn (up.put (PRT_CFG_ANEN 0) false) 0), 0, ⟨0, false⟩, by decide, by decide, by decide, by decide⟩,
    ⟨(laneOn up 0), 0, ⟨1, false⟩, by decide, by decide, by decide⟩,
    ⟨(later ((laneOn (up.put (PRT_STAT_LINK 0) false) 0).setPort 0 { up := true })), 0, by decide, by decide, by decide, by decide, by decide, by decide⟩,
    ⟨((up.put (PRT_STAT_LINK 0) true).setPort 0 { down := some 1 }), 0, 1, by decide, by decide, by decide, by decide, by decide⟩,
    ⟨(laneOn up 20), 20, true, by decide, by decide, by decide, by decide, by decide⟩,
    ⟨((up.put (PRT_STAT_PLCAACT 20) false).setPort 20 { tx := some tx0 }), 20, tx0, by decide, by decide, by decide, by decide, by decide, by decide⟩,
    ⟨(up.setPort 20 { tx := some { tx0 with waits := true } }), 20, 0, { tx0 with waits := true }, by decide, by decide, by decide, by decide, by decide,
      by decide⟩,
    ⟨(up.setPort 20 { tx := some tx0 }), 20, 513, tx0, by decide, by decide, by decide, by decide, by decide⟩,
    ⟨((up.put (PRT_STAT_PLCAACT 20) false).wr (PRT_PLCA_NODEID 20) 1), 20, by decide, by decide, by decide, by decide⟩,
    ⟨((up.put (PRT_STAT_PLCAACT 20) true).wr (PRT_PLCA_NODEID 20) 1), 20, by decide, by decide, by decide, by decide⟩,
    ⟨(up.setPort 0 { pauseDue := [3] }), 0, 3, [], by decide, by decide, by decide⟩,
    ⟨(up.setPort 0 { pfcDue := [(1, [4])] }), 0, 1, [4], [], by decide, by decide, by decide⟩,
    ⟨up, 0, 8, by decide, by decide, by decide, by decide⟩,
    ⟨up, 0, 7, by decide, by decide, by decide, by decide⟩,
    ⟨(later ((((up.wr (PRT_PAUSETX_QUANTA 0) 1).put (PRT_STAT_LINK 0) true).wr (PRT_CFG_FCMODE 0) 1).setPort 0 { flow := 0x100 })), 0, by decide, by
      decide, by decide, by decide, by decide⟩,
    ⟨up, .supervisor, 0, 0, by decide, by decide, by decide⟩,
    ⟨up, .supervisor, 0, 0, by decide, by decide, by decide⟩,
    ⟨((up.put (PRT_CTRL_PWRDN 21) false).put (PRT_STAT_PWRDY 21) false), 21, true, 48, 96, by decide, by decide, by decide, by decide, by decide⟩,
    ⟨((up.put SUP_FNLAST_BUSY true).wr SUP_FNLAST_TARGET (prtUid 0)), 0, by decide, by decide, ⟨by decide, by decide⟩⟩⟩

theorem witness_FabricCommandsComplete :
    (∃ (d : Dev) (m : Master) (v : BitVec 32), d.inReset = false ∧ wellFormed (.tableRead m v) = true ∧ d.accepts m (row_FAB_TBLCMD.last []) (withField v 3
      2 0).toNat = true) ∧
    (∃ (d : Dev) (m : Master) (v : BitVec 32), d.inReset = false ∧ wellFormed (.tableWrite m v) = true ∧ d.accepts m (row_FAB_TBLCMD.last []) (withField v
      3 2 1).toNat = true) ∧
    (∃ (d : Dev) (m : Master) (v : BitVec 32), d.inReset = false ∧ wellFormed (.tableInvalidate m v) = true ∧ d.accepts m (row_FAB_TBLCMD.last [])
      (withField v 3 2 2).toNat = true) ∧
    (∃ (d : Dev) (m : Master) (v : BitVec 32), d.inReset = false ∧ wellFormed (.tableFlush m v) = true ∧ d.accepts m (row_FAB_TBLCMD.last []) (withField v
      3 2 3).toNat = true ∧ bits (withField v 3 2 3).toNat 0 3 = 2) ∧
    (∃ (d : Dev), d.inReset = false) ∧
    (∃ (d : Dev) (k : Nat) (e : LearnedFdb), d.inReset = false ∧ wellFormed (.fdbAgeing k) = true ∧ tget d.fab.learned k = some e ∧ d.rd FAB_AGE_AGE ≠ 0 ∧
      e.seen + d.rd FAB_AGE_AGE * sec16 ≤ d.tb.lt) ∧
    (∃ (d : Dev) (m : Master) (k : Nat) (v : BitVec 32), d.inReset = false ∧ wellFormed (.keyCommit m k v) = true ∧ d.accepts m (row_KS_KEY.last [k])
      (d.committed m (row_KS_KEY.last [k]) (d.presentValue (row_KS_KEY.last [k])) v.toNat) = true) ∧
    (∃ (d : Dev), d.inReset = false ∧ d.resetting 0x0A0) ∧
    (∃ (d : Dev), d.inReset = false ∧ d.resetting 0x0A1) ∧
    (∃ (d : Dev), d.inReset = false ∧ d.resetting 0x0A2) ∧
    (∃ (d : Dev), d.inReset = false ∧ d.resetting 0x0A3) :=
  ⟨⟨up, .supervisor, 0, by decide, by decide, by decide⟩,
    ⟨up, .supervisor, 0, by decide, by decide, by decide⟩,
    ⟨up, .supervisor, 0, by decide, by decide, by decide⟩,
    ⟨up, .supervisor, 2, by decide, by decide, by decide, by decide⟩,
    ⟨up, by decide⟩,
    ⟨{ up with fab := { up.fab with learned := [(0, ⟨1, 0, 2, 0⟩)] }, tb := { up.tb with lt := 10 ^ 20 } }, 0, ⟨1, 0, 2, 0⟩, by decide, by decide, by
      decide, by decide, by decide⟩,
    ⟨up, .supervisor, 0, 0, by decide, by decide, by decide⟩,
    ⟨((up.put SUP_FNLAST_BUSY true).wr SUP_FNLAST_TARGET 0x0A0), by decide, ⟨by decide, by decide⟩⟩,
    ⟨((up.put SUP_FNLAST_BUSY true).wr SUP_FNLAST_TARGET 0x0A1), by decide, ⟨by decide, by decide⟩⟩,
    ⟨((up.put SUP_FNLAST_BUSY true).wr SUP_FNLAST_TARGET 0x0A2), by decide, ⟨by decide, by decide⟩⟩,
    ⟨((up.put SUP_FNLAST_BUSY true).wr SUP_FNLAST_TARGET 0x0A3), by decide, ⟨by decide, by decide⟩⟩⟩

theorem witness_SchedulerCommandsComplete :
    (∃ (d : Dev) (p : Nat) (x : Desc) (later : List Desc), d.inReset = false ∧ wellFormed (.descriptorHandover p) = true ∧ (d.port p).hand = x :: later ∧
      d.redTarget p x = none ∧ d.popsNow p x.tc = false) ∧
    (∃ (d : Dev) (p : Nat) (x : Desc) (later : List Desc) (j side : Nat), d.inReset = false ∧ wellFormed (.descriptorHandover p) = true ∧ (d.port p).hand =
      x :: later ∧ d.redTarget p x = some (j, side) ∧ (d.redPair j side).any (fun e => d.popsNow e x.tc) = false) ∧
    (∃ (d : Dev) (p sub : Nat) (c : Nat), d.inReset = false ∧ wellFormed (.transmitStart p sub) = true ∧ d.portUp p = true ∧ d.plcaOpen p = true ∧ d.on
      SUP_STAT_FAULT = false ∧ (d.port p).own = [] ∧ (d.settlePort p).nextClass p = some c ∧ ((d.settlePort p).port p).tx = none ∧ (d.settlePort
      p).preReady p c = false ∧ (d.settlePort p).on (PRT_STAT_PLCAACT p) = false) ∧
    (∃ (d : Dev) (p sub : Nat), d.inReset = false ∧ wellFormed (.transmitStart p sub) = true ∧ d.portUp p = true ∧ d.plcaOpen p = true ∧ d.on
      SUP_STAT_FAULT = false ∧ (d.port p).tx = none ∧ (d.port p).own ≠ []) ∧
    (∃ (d : Dev) (p : Nat) (t : Tx), d.inReset = false ∧ wellFormed (.transmitEnd p) = true ∧ (d.port p).tx = some t ∧ t.waits = false) ∧
    (∃ (d : Dev) (p : Nat), d.inReset = false ∧ wellFormed (.gateEvent p) = true ∧ d.on (SCH_CTRL_GATEEN p) = true ∧ d.rd (SCH_OPERLEN_LEN p) ≠ 0 ∧
      ((d.noteGates p (d.eventAt p)).setPos p).closedUnder p = false) ∧
    (∃ (d : Dev) (m : Master) (p : Nat) (v : BitVec 32), d.inReset = false ∧ wellFormed (.change m p v) = true ∧ d.accepts m (row_SCH_CTRL.last [p])
      (withField v 2 1 1).toNat = true ∧ bit (withField v 2 1 1).toNat 3 = false ∧ d.on (SCH_CTRL_GATEEN p) = true) ∧
    (∃ (d : Dev) (m : Master) (p : Nat) (v : BitVec 32), d.inReset = false ∧ wellFormed (.cancel m p v) = true ∧ d.accepts m (row_SCH_CTRL.last [p])
      (withField v 3 1 1).toNat = true ∧ bit (withField v 3 1 1).toNat 2 = false ∧ d.on (SCH_CTRL_GATEEN p) = true) ∧
    (∃ (d : Dev) (p : Nat) (t : Nat), d.inReset = false ∧ wellFormed (.configSwap p) = true ∧ d.changeAt p = some t ∧ t ≤ d.schNow p) ∧
    (∃ (d : Dev) (p : Nat), d.inReset = false ∧ wellFormed (.macHold p) = true ∧ d.opAt p (d.schNow p + d.rd (SCH_PADV_HOLDADV p) * 2 ^ 16) = 1 ∧ d.on
      (SCH_STAT_HOLD p) = false ∧ (d.port p).tx = none) ∧
    (∃ (d : Dev) (p : Nat), d.inReset = false ∧ wellFormed (.macRelease p) = true ∧ d.opAt p (d.schNow p + d.rd (SCH_PADV_RELADV p) * 2 ^ 16) = 2) ∧
    (∃ (d : Dev) (p c i : Nat) (x : Desc), d.inReset = false ∧ wellFormed (.launchTimeReached p c i) = true ∧ (d.classQ p c)[i]? = some x ∧ d.hasLaunch p x
      = true ∧ d.launchAt p x ≤ d.schNow p) ∧
    (∃ (d : Dev) (p c i : Nat) (x : Desc), d.inReset = false ∧ wellFormed (.lateToleranceExpiry p c i) = true ∧ (d.classQ p c)[i]? = some x ∧ d.tooLate p x
      = true) ∧
    (∃ (d : Dev) (p : Nat), d.inReset = false ∧ wellFormed (.schedulerReset p) = true ∧ d.resetting (schUid p)) :=
  ⟨⟨(up.setPort 0 { hand := [{ desc0 with origin := .fabric 0 }] }), 0, { desc0 with origin := .fabric 0 }, [], by decide, by decide, by decide, by
      decide, by decide⟩,
    ⟨((up.wr (RED_CFG_ROLE 0) 1).setPort (up.rd (RED_CFG_PORTA 0)) { hand := [{ desc0 with origin := .own }] }), 0, { desc0 with origin := .own }, [], 0,
      0, by decide, by decide, by decide, by decide, by decide⟩,
    ⟨((portOn up 0).setPort 0 { queues := [(3, [{ desc0 with tc := 3 }])] }), 0, 0, 3, by decide, by decide, by decide, by decide, by decide, by decide,
      by decide, by decide, by decide, by decide⟩,
    ⟨((portOn (up.put SUP_STAT_FAULT false) 0).setPort 0 { own := [(1, 1)] }), 0, 0, by decide, by decide, by decide, by decide, by decide, by decide, by
      decide⟩,
    ⟨(up.setPort 0 { tx := some tx0 }), 0, tx0, by decide, by decide, by decide, by decide⟩,
    ⟨(((up.put (SCH_CTRL_GATEEN 0) true).wr (SCH_OPERLEN_LEN 0) 1).wr (SCH_OPERLEN_LEN 0) 1), 0, by decide, by decide, by decide, by decide, by decide⟩,
    ⟨(up.put (SCH_CTRL_GATEEN 0) true), .supervisor, 0, 0, by decide, by decide, by decide, by decide, by decide⟩,
    ⟨(up.put (SCH_CTRL_GATEEN 0) true), .supervisor, 0, 0, by decide, by decide, by decide, by decide, by decide⟩,
    ⟨(up.put (SCH_STAT_PENDING 0) true), 0, 0, by decide, by decide, by decide, by decide⟩,
    ⟨(gateOp (up.put (SCH_STAT_HOLD 0) false) 1), 0, by decide, by decide, by decide, by decide, by decide⟩,
    ⟨(gateOp up 2), 0, by decide, by decide, by decide⟩,
    ⟨((up.put (SCH_CTRL_LTEN 0) true).setPort 0 { queues := [(0, [{ desc0 with ltv := true }])] }), 0, 0, 0, { desc0 with ltv := true }, by decide, by
      decide, by decide, by decide, by decide⟩,
    ⟨{ (((up.put (SCH_CTRL_LTEN 0) true).wr (SCH_CFG_DOM 0) 4).setPort 0 { queues := [(0, [{ desc0 with ltv := true, latepol := 1 }])] }) with tb := { up.tb with lt := 10 ^ 9 } },
      0, 0, 0, { desc0 with ltv := true, latepol := 1 }, by decide, by decide, by decide, by decide⟩,
    ⟨((up.put SUP_FNLAST_BUSY true).wr SUP_FNLAST_TARGET (schUid 0)), 0, by decide, by decide, ⟨by decide, by decide⟩⟩⟩

theorem witness_TrainCommandsComplete :
    (∃ (d : Dev) (p : Nat) (f : RxFrame), d.inReset = false ∧ wellFormed (.coachReceived p f) = true ∧ d.takenByTrain p f.bytes = true ∧ d.on
      (PRT_STAT_LINK p) = true ∧ d.on SUP_STAT_FAULT = false ∧ d.rd (PRT_CFG_MODE (outPort (p / 2))) = d.rd (PRT_CFG_MODE (inPort (p / 2)))) ∧
    (∃ (d : Dev) (p : Nat) (f : RxFrame), d.inReset = false ∧ wellFormed (.coachReceived p f) = true ∧ d.takenByTrain p f.bytes = true ∧ d.on
      (PRT_STAT_LINK p) = true ∧ d.on SUP_STAT_FAULT = false ∧ d.rd (PRT_CFG_MODE (outPort (p / 2))) ≠ d.rd (PRT_CFG_MODE (inPort (p / 2)))) ∧
    (∃ (d : Dev) (r : Nat) (q : TrnResult), d.inReset = false ∧ wellFormed (.surveyDelayCompute r) = true ∧ (d.trn r).result = some q) ∧
    (∃ (d : Dev) (r sub : Nat) (c t : Nat), d.inReset = false ∧ wellFormed (.trainDeparture r sub) = true ∧ (d.trn r).master.bind (fun m => m.next) = some
      (c, t) ∧ d.role r = roleMaster ∧ d.derailed r = false ∧ t ≤ d.trnNow r) ∧
    (∃ (d : Dev) (r : Nat) (m : TrnMaster) (c t : Nat), d.inReset = false ∧ wellFormed (.masterOutTake r) = true ∧ (d.trn r).master = some m ∧ m.next =
      some (c, t) ∧ m.taken = false ∧ t ≤ d.trnNow r + lead16 ∧ inSurvey m.plan c = false) ∧
    (∃ (d : Dev) (r j : Nat) (y : TrnCycle), d.inReset = false ∧ wellFormed (.cycleMark r j) = true ∧ d.role r ≠ roleOff ∧ d.derailed r = false ∧
      (d.rollCycle r).derailsNow r = false ∧ tget ((d.rollCycle r).trn r).owed j = none ∧ ((d.rollCycle r).trn r).cur = some y ∧ y.markCome j
      ((d.rollCycle r).trnNow r) = true) ∧
    (∃ (d : Dev) (r j : Nat) (y : TrnCycle), d.inReset = false ∧ wellFormed (.cycleMark r j) = true ∧ d.role r ≠ roleOff ∧ d.derailed r = false ∧
      (d.rollCycle r).derailsNow r = false ∧ tget ((d.rollCycle r).trn r).owed j = some y) ∧
    (∃ (d : Dev) (m : Master) (r a : Nat) (v : BitVec 32), d.inReset = false ∧ wellFormed (.mirrorCommitWrite m r a v) = true ∧ d.hostShutOut m (0x480000 +
      0x40000 * r + a) = false ∧ d.gatedAt (0x480000 + 0x40000 * r + a) = false) ∧
    (∃ (d : Dev) (m : Master) (r : Nat) (v : BitVec 32), d.inReset = false ∧ wellFormed (.ringEnable m r v) = true ∧ d.accepts m (row_TRN_CFG.last [r])
      (withField v 0 1 1).toNat = true ∧ d.on (TRN_CFG_EN r) = false) ∧
    (∃ (d : Dev) (r : Nat), d.inReset = false ∧ wellFormed (.silenceTimeout r) = true ∧ d.on (TRN_CFG_EN r) = true ∧ d.role r = roleNode ∧ d.mayClaim r =
      true ∧ (d.trn r).heard + d.rd (TRN_SILENCE_SILENCE r) * (10000 * 65536) ≤ d.tb.lt) ∧
    (∃ (d : Dev) (r sub : Nat), d.inReset = false ∧ wellFormed (.startCoachSend r sub) = true ∧ d.role r = roleClaiming ∧ d.mayClaim r = true ∧ (d.trn
      r).claim.sent < 3 ∧ ((d.trn r).claim.sent = 0 ∨ (d.trn r).claim.start + (d.trn r).claim.sent * d.maxRt r ≤ d.tb.lt)) ∧
    (∃ (d : Dev) (r : Nat), d.inReset = false ∧ wellFormed (.startCoachTimeout r) = true ∧ d.role r = roleClaiming ∧ d.mayClaim r = true ∧ (d.trn
      r).claim.wait.any (fun w => decide (w.2 + d.maxRt r ≤ d.tb.lt)) = true) ∧
    (∃ (d : Dev) (r : Nat), d.inReset = false ∧ wellFormed (.claimWindowEnd r) = true ∧ d.role r = roleClaiming ∧ d.mayClaim r = true ∧ (d.trn
      r).claim.back = 3 ∧ (d.trn r).claim.start + 3 * d.maxRt r < d.tb.lt) ∧
    (∃ (d : Dev) (m : Master) (r : Nat) (v : BitVec 32), d.inReset = false ∧ wellFormed (.survey m r v) = true ∧ d.accepts m (row_TRN_MCTRL.last [r])
      (withField v 0 1 1).toNat = true ∧ bit (withField v 0 1 1).toNat 1 = false) ∧
    (∃ (d : Dev) (r : Nat) (m : TrnMaster) (q : TrnMeasure) (c t k : Nat), d.inReset = false ∧ wellFormed (.surveyAbandon r) = true ∧ (d.trn r).master =
      some m ∧ m.meas = some q ∧ m.next = some (c, t) ∧ m.plan = some k ∧ c = (k + 1) % 2 ^ 32 ∧ q.whole (d.on (TRN_CFG_TOPO r)) = false ∧ t ≤
      d.trnNow r + lead16) ∧
    (∃ (d : Dev) (m : Master) (r : Nat) (v : BitVec 32) (x : TrnMaster), d.inReset = false ∧ wellFormed (.swgo m r v) = true ∧ d.accepts m
      (row_TRN_MCTRL.last [r]) (withField v 1 1 1).toNat = true ∧ bit (withField v 1 1 1).toNat 0 = false ∧ (d.trn r).master = some x ∧ x.switch =
      none ∧ d.rd (TRN_SWCYC_N r) ≠ 0 ∧ 4 ≤ (d.rd (TRN_SWCYC_N r) + 2 ^ 32 - d.rd (TRN_CYCLE_CYCLE r)) % 2 ^ 32 ∧ (d.rd (TRN_SWCYC_N r) + 2 ^ 32 -
      d.rd (TRN_CYCLE_CYCLE r)) % 2 ^ 32 ≤ 2 ^ 23 ∧ d.modeValid r (d.rd (TRN_SWITCH_NMODE r)) = true) ∧
    (∃ (d : Dev) (m : Master) (r : Nat) (v : BitVec 32), d.inReset = false ∧ wellFormed (.modeCommit m r v) = true ∧ d.accepts m (row_TRN_MCMD.last [r])
      (withField v 3 2 0).toNat = true ∧ bit (withField v 3 2 0).toNat 30 = false ∧ d.on (TRN_MCMD_BUSY r) = false) ∧
    (∃ (d : Dev) (r : Nat), d.inReset = false ∧ wellFormed (.modeCommitApply r) = true ∧ d.on (TRN_MCMD_BUSY r) = true ∧ d.rd (TRN_MCMD_OP r) = 0) ∧
    (∃ (d : Dev) (m : Master) (r : Nat) (v : BitVec 32), d.inReset = false ∧ wellFormed (.modeInvalidate m r v) = true ∧ d.accepts m (row_TRN_MCMD.last
      [r]) (withField v 3 2 1).toNat = true ∧ bit (withField v 3 2 1).toNat 30 = false ∧ d.on (TRN_MCMD_BUSY r) = false) ∧
    (∃ (d : Dev) (m : Master) (r : Nat) (v : BitVec 32), d.inReset = false ∧ wellFormed (.modeReadBack m r v) = true ∧ d.accepts m (row_TRN_MCMD.last [r])
      (withField v 3 2 2).toNat = true ∧ bit (withField v 3 2 2).toNat 30 = false ∧ d.on (TRN_MCMD_BUSY r) = false) ∧
    (∃ (d : Dev) (r : Nat) (c : Nat), d.inReset = false ∧ wellFormed (.lateDeadline r) = true ∧ d.role r = roleNode ∧ (d.rollCycle r).lateFor r = some c ∧
      d.rd (TRN_WDOG_K r) ≠ 0) ∧
    (∃ (d : Dev) (r : Nat) (m : TrnMaster) (t : TrnTrain), d.inReset = false ∧ wellFormed (.returnTimeout r) = true ∧ (d.trn r).master = some m ∧
      m.trains.find? (fun t => t.out && decide (t.s + d.maxRt r ≤ d.trnNow r)) = some t ∧ t.seats = false ∧ t.fwOut = true) ∧
    (∃ (d : Dev) (r : Nat) (m : TrnMaster) (t : TrnTrain), d.inReset = false ∧ wellFormed (.returnTimeout r) = true ∧ (d.trn r).master = some m ∧
      m.trains.find? (fun t => t.out && decide (t.s + d.maxRt r ≤ d.trnNow r)) = some t ∧ t.seats = true ∧ t.fwOut = true) ∧
    (∃ (d : Dev) (m : Master) (r : Nat) (w : Nat), d.inReset = false ∧ wellFormed (.commandFifoRead m r) = true ∧ d.admits m (row_TRN_CMDFIFO.last [r]) =
      true ∧ wordOf d.latched m.uid ((row_TRN_CMDFIFO.last [r]).off + 8) = some w) ∧
    (∃ (d : Dev), d.inReset = false ∧ d.resetting 0x0E0) :=
  ⟨⟨(((up.put (TRN_CFG_EN 0) true).put (PRT_STAT_LINK 0) true).wr (TRN_ETYPE_ETYPE 0) 0x88B5), 0, { rxf with bytes := coach0 }, by decide, by decide, by
      decide, by decide, by decide, by decide⟩,
    ⟨((((up.put (TRN_CFG_EN 0) true).put (PRT_STAT_LINK 0) true).wr (TRN_ETYPE_ETYPE 0) 0x88B5).wr (PRT_CFG_MODE 1) 1), 0, { rxf with bytes := coach0 },
      by decide, by decide, by decide, by decide, by decide, by decide⟩,
    ⟨(up.setTrn 0 { result := some ⟨1, 0, 0, 0⟩ }), 0, ⟨1, 0, 0, 0⟩, by decide, by decide, by decide⟩,
    ⟨((up.wr (TRN_STAT_ROLE 0) roleMaster).setTrn 0 { master := some { next := some (1, 0) } }), 0, 0, 1, 0, by decide, by decide, by decide, by decide,
      by decide, by decide⟩,
    ⟨(up.setTrn 0 { master := some { next := some (1, 0) } }), 0, { next := some (1, 0) }, 1, 0, by decide, by decide, by decide, by decide, by decide, by
      decide, by decide⟩,
    ⟨((up.wr (TRN_STAT_ROLE 0) roleNode).setTrn 0 { cur := some { c := 5, s := 0, mode := 0, tab := { marks := [0, 2 ^ 25] } } }), 0, 1,
      { c := 5, s := 0, mode := 0, tab := { marks := [0, 2 ^ 25] } }, by decide, by decide, by decide, by decide, by decide, by decide, by decide, by
      decide⟩,
    ⟨((up.wr (TRN_STAT_ROLE 0) roleNode).setTrn 0 { owed := [(1, { c := 5, s := 0, mode := 0, tab := { marks := [] } })] }), 0, 1,
      { c := 5, s := 0, mode := 0, tab := { marks := [] } }, by decide, by decide, by decide, by decide, by decide, by decide⟩,
    ⟨up, .supervisor, 0, 4, 0, by decide, by decide, by decide, by decide⟩,
    ⟨(up.put (TRN_CFG_EN 0) false), .supervisor, 0, 0, by decide, by decide, by decide, by decide⟩,
    ⟨(later (((up.put (TRN_CFG_EN 0) true).wr (TRN_STAT_ROLE 0) roleNode).wr (TRN_CFG_PRIO 0) 1)), 0, by decide, by decide, by decide, by decide, by
      decide, by decide⟩,
    ⟨((up.wr (TRN_STAT_ROLE 0) roleClaiming).wr (TRN_CFG_PRIO 0) 1), 0, 0, by decide, by decide, by decide, by decide, by decide, by decide⟩,
    ⟨(later (((up.wr (TRN_STAT_ROLE 0) roleClaiming).wr (TRN_CFG_PRIO 0) 1).setTrn 0 { claim := { sent := 1, wait := [(1, 0)] } })), 0, by decide, by
      decide, by decide, by decide, by decide⟩,
    ⟨(later (((up.wr (TRN_STAT_ROLE 0) roleClaiming).wr (TRN_CFG_PRIO 0) 1).setTrn 0 { claim := { sent := 3, back := 3 } })), 0, by decide, by decide, by
      decide, by decide, by decide, by decide⟩,
    ⟨up, .supervisor, 0, 0, by decide, by decide, by decide, by decide⟩,
    ⟨(up.setTrn 0 { master := some { next := some (8, 0), plan := some 7, meas := some { sseq := 1, depF := 0, depR := 0 } } }), 0,
      { next := some (8, 0), plan := some 7, meas := some { sseq := 1, depF := 0, depR := 0 } }, { sseq := 1, depF := 0, depR := 0 }, 8, 0, 7, by
      decide, by decide, by decide, by decide, by decide, by decide, by decide, by decide, by decide⟩,
    ⟨(((up.wr (TRN_SWCYC_N 0) 4).wr (TRN_MVALID_VALID 0) 1).setTrn 0 { master := some {} }), .supervisor, 0, 0, {}, by decide, by decide, by decide, by
      decide, by decide, by decide, by decide, by decide, by decide, by decide⟩,
    ⟨(up.put (TRN_MCMD_BUSY 0) false), .supervisor, 0, 0, by decide, by decide, by decide, by decide, by decide⟩,
    ⟨((up.put (TRN_MCMD_BUSY 0) true).wr (TRN_MCMD_OP 0) 0), 0, by decide, by decide, by decide, by decide⟩,
    ⟨(up.put (TRN_MCMD_BUSY 0) false), .supervisor, 0, 0, by decide, by decide, by decide, by decide, by decide⟩,
    ⟨(up.put (TRN_MCMD_BUSY 0) false), .supervisor, 0, 0, by decide, by decide, by decide, by decide, by decide⟩,
    ⟨{ ((((up.wr (TRN_STAT_ROLE 0) roleNode).wr (TRN_WDOG_K 0) 1).wr (TRN_CFG_TDOM 0) 4).setTrn 0 { due := [(1, 0, 0)] }) with tb := { up.tb with lt := 10 ^ 9 } },
      0, 1, by decide, by decide, by decide, by decide, by decide⟩,
    ⟨(later (((up.wr (TRN_CFG_TDOM 0) 4)).setTrn 0 { master := some { trains := [{ c := 1, s := 0, seats := false }] } })), 0,
      { trains := [{ c := 1, s := 0, seats := false }] }, { c := 1, s := 0, seats := false }, by decide, by decide, by decide, by decide, by decide,
      by decide⟩,
    ⟨(later (((up.wr (TRN_CFG_TDOM 0) 4)).setTrn 0 { master := some { trains := [{ c := 1, s := 0, seats := true }] } })), 0,
      { trains := [{ c := 1, s := 0, seats := true }] }, { c := 1, s := 0, seats := true }, by decide, by decide, by decide, by decide, by decide, by
      decide⟩,
    ⟨{ up with latched := [((0, (row_TRN_CMDFIFO.last [0]).off + 8), 9)] }, .supervisor, 0, 9, by decide, by decide, by decide, by decide⟩,
    ⟨((up.put SUP_FNLAST_BUSY true).wr SUP_FNLAST_TARGET 0x0E0), by decide, ⟨by decide, by decide⟩⟩⟩

theorem witness_SampleUnitCommandsComplete :
    (∃ (d : Dev) (ecc : Bool) (f : SvFrame) (later : List SvFrame), d.inReset = false ∧ wellFormed (.sampleFrame ecc) = true ∧ d.sau.inq = f :: later ∧
      d.on (SAU_S_CFG_EN f.stream) = false) ∧
    (∃ (d : Dev) (ecc : Bool) (f : SvFrame) (later : List SvFrame), d.inReset = false ∧ wellFormed (.sampleFrame ecc) = true ∧ d.sau.inq = f :: later ∧
      d.on (SAU_S_CFG_EN f.stream) = true ∧ ecc = false ∧ savPdu f.bytes = none) ∧
    (∃ (d : Dev) (ecc : Bool) (f : SvFrame) (later : List SvFrame), d.inReset = false ∧ wellFormed (.sampleFrame ecc) = true ∧ d.sau.inq = f :: later ∧
      d.on (SAU_S_CFG_EN f.stream) = true) ∧
    (∃ (d : Dev) (i : Nat), d.inReset = false ∧ wellFormed (.streamTimeout i) = true ∧ d.rd (SAU_S_STAT_STATE i) = svRun ∧ (d.stream i).heard + d.rd
      (SAU_S_TMO_TMO i) * 1000000 * 65536 ≤ d.tb.lt) ∧
    (∃ (d : Dev) (m : Master) (i : Nat) (v : BitVec 32), d.inReset = false ∧ wellFormed (.streamEnable m i v) = true ∧ d.accepts m (row_SAU_S_CFG.last [i])
      (withField v 0 1 1).toNat = true ∧ d.on (SAU_S_CFG_EN i) = false) ∧
    (∃ (d : Dev) (m : Master) (i : Nat) (v : BitVec 32), d.inReset = false ∧ wellFormed (.streamDisable m i v) = true ∧ d.accepts m (row_SAU_S_CFG.last
      [i]) (withField v 0 1 0).toNat = true ∧ d.on (SAU_S_CFG_EN i) = true) ∧
    (∃ (d : Dev) (m : Master) (i : Nat) (v : BitVec 32), d.inReset = false ∧ wellFormed (.matrixEnable m i v) = true ∧ d.accepts m (row_SAU_Mm_CFG.last
      [i]) (withField v 0 1 1).toNat = true ∧ d.on (SAU_Mm_CFG_EN i) = false) ∧
    (∃ (d : Dev) (m : Master) (i : Nat) (v : BitVec 32), d.inReset = false ∧ wellFormed (.matrixDisable m i v) = true ∧ d.accepts m (row_SAU_Mm_CFG.last
      [i]) (withField v 0 1 0).toNat = true ∧ d.on (SAU_Mm_CFG_EN i) = true) ∧
    (∃ (d : Dev) (i : Nat), d.inReset = false ∧ wellFormed (.rowOpen i) = true ∧ d.on (SAU_Mm_CFG_EN i) = true ∧ (d.nextGrid i (d.matrix i).after).2 ≤
      Int.ofNat (d.domTime (d.matDom i))) ∧
    (∃ (d : Dev) (i : Nat) (r : MRow) (j : Nat), d.inReset = false ∧ wellFormed (.rowDeadline i) = true ∧ (d.matrix i).rows.findIdx? (fun r =>
      r.close.isNone) = some j ∧ (d.matrix i).rows[j]? = some r ∧ r.g + Int.ofNat (d.rd (SAU_Mm_DEADLINE_DEADLINE i) * 1000 * 65536) ≤ Int.ofNat
      (d.domTime (d.matDom i))) ∧
    (∃ (d : Dev) (i : Nat) (r : MRow) (later : List MRow) (why : Close), d.inReset = false ∧ wellFormed (.rowComplete i) = true ∧ (d.matrix i).rows = r ::
      later ∧ r.close = some why) ∧
    (∃ (d : Dev), d.inReset = false ∧ d.resetting 0x0E8) :=
  ⟨⟨{ up with sau := { up.sau with inq := [⟨0, [], [], 0⟩] } }, false, ⟨0, [], [], 0⟩, [], by decide, by decide, by decide, by decide⟩,
    ⟨{ (up.put (SAU_S_CFG_EN 0) true) with sau := { up.sau with inq := [⟨0, [], [], 0⟩] } }, false, ⟨0, [], [], 0⟩, [], by decide, by decide, by decide,
      by decide, by decide, by decide⟩,
    ⟨{ (up.put (SAU_S_CFG_EN 0) true) with sau := { up.sau with inq := [⟨0, [], [], 0⟩] } }, false, ⟨0, [], [], 0⟩, [], by decide, by decide, by decide,
      by decide⟩,
    ⟨(later (up.wr (SAU_S_STAT_STATE 0) svRun)), 0, by decide, by decide, by decide, by decide⟩,
    ⟨(up.put (SAU_S_CFG_EN 0) false), .supervisor, 0, 0x2000000, by decide, by decide, by decide, by decide⟩,
    ⟨(up.put (SAU_S_CFG_EN 0) true), .supervisor, 0, 0x2000000, by decide, by decide, by decide, by decide⟩,
    ⟨(up.put (SAU_Mm_CFG_EN 0) false), .supervisor, 0, 0, by decide, by decide, by decide, by decide⟩,
    ⟨(up.put (SAU_Mm_CFG_EN 0) true), .supervisor, 0, 0, by decide, by decide, by decide, by decide⟩,
    ⟨((((up.put (SAU_Mm_CFG_EN 0) true).wr (SAU_Mm_RATE_RATE 0) 4000).wr (SAU_Mm_CFG_DOM 0) 0).setDom 0 { time := 10 ^ 20 }), 0, by decide, by decide, by
      decide, by decide⟩,
    ⟨(((up.put (SAU_Mm_CFG_EN 0) true).setDom 0 { time := 10 ^ 20 }).setMatrix 0
      { rows := [{ k := 0, g := 0, seq := 0, unc := false, cells := [none] }] }), 0, { k := 0, g := 0, seq := 0, unc := false, cells := [none] }, 0,
      by decide, by decide, by decide, by decide, by decide⟩,
    ⟨(up.setMatrix 0 { rows := [{ k := 0, g := 0, seq := 0, unc := false, cells := [], close := some .settled }] }), 0,
      { k := 0, g := 0, seq := 0, unc := false, cells := [], close := some .settled }, [], .settled, by decide, by decide, by decide, by decide⟩,
    ⟨((up.put SUP_FNLAST_BUSY true).wr SUP_FNLAST_TARGET 0x0E8), by decide, ⟨by decide, by decide⟩⟩⟩

theorem witness_PinCommandsComplete :
    (∃ (d : Dev) (n : Nat) (level : Bool) (ago sub : Nat), d.inReset = false ∧ wellFormed (.filteredEdge n level ago sub) = true ∧ (d.pn n).filt ≠ level ∧
      d.filterReady n (d.tb.lt - ago * tick16 + sub * 4096) = true) ∧
    (∃ (d : Dev) (m : Master) (w : Nat), d.inReset = false ∧ wellFormed (.edgeStampRead m) = true ∧ d.admits m (row_PIN_ESQ.last []) = true ∧ wordOf
      d.latched m.uid ((row_PIN_ESQ.last []).off + 12) = some w) ∧
    (∃ (d : Dev) (m : Master) (n : Nat) (v : BitVec 32), d.inReset = false ∧ wellFormed (.rel m n v) = true ∧ d.accepts m (row_PIN_IOn_SAFE.last [n])
      (withField v 2 1 1).toNat = true ∧ d.rd (PIN_IOn_SAFE_CAUSE n) = 0) ∧
    (∃ (d : Dev) (n : Nat) (x : Nat), d.inReset = false ∧ wellFormed (.expressHoldExpiry n) = true ∧ (d.pn n).hold = some x ∧ x ≤ d.tb.lt ∧ d.on
      (PIN_IOn_XDRV_XLATCH n) = false) ∧
    (∃ (d : Dev) (n : Nat) (x : Nat), d.inReset = false ∧ wellFormed (.expressHoldExpiry n) = true ∧ (d.pn n).hold = some x ∧ x ≤ d.tb.lt ∧ d.on
      (PIN_IOn_XDRV_XLATCH n) = true ∧ (d.pn n).clrDue = false) ∧
    (∃ (d : Dev) (m : Master) (n : Nat) (v : BitVec 32), d.inReset = false ∧ wellFormed (.xclr m n v) = true ∧ d.accepts m (row_PIN_IOn_XDRV.last [n])
      (withField v 3 1 1).toNat = true ∧ n < 16 ∧ d.pinBound n = true ∧ d.on (PIN_IOn_SAFE_XACT n) = true ∧ (d.pn n).hold = none) ∧
    (∃ (d : Dev) (m : Master) (g : Nat) (v : BitVec 32), d.inReset = false ∧ wellFormed (.groupClockWrite m g v) = true ∧ d.accepts m (row_PIN_GRP_CLK.last
      [g]) v.toNat = true ∧ d.grpBusy g = false) ∧
    (∃ (d : Dev) (m : Master) (g : Nat) (v : BitVec 32), d.inReset = false ∧ wellFormed (.groupStart m g v) = true ∧ d.accepts m (row_PIN_GRP_START.last
      [g]) v.toNat = true ∧ (List.range 4).any (fun s => bit (bits v.toNat 0 4) s && d.seqState (4 * g + s) != 0) = false ∧ bit v.toNat 8 = false) ∧
    (∃ (d : Dev) (m : Master) (g : Nat) (v : BitVec 32), d.inReset = false ∧ wellFormed (.groupStart m g v) = true ∧ d.accepts m (row_PIN_GRP_START.last
      [g]) v.toNat = true ∧ (List.range 4).any (fun s => bit (bits v.toNat 0 4) s && d.seqState (4 * g + s) != 0) = false ∧ bit v.toNat 8 = true ∧
      d.domTime (d.rd (PIN_GRP_TDOM_TDOM g)) ≤ ofTs96 (d.rd (PIN_GRP_TSTART_T g))) ∧
    (∃ (d : Dev) (g : Nat) (mask : Nat) (ds : Bool), d.inReset = false ∧ wellFormed (.timedStartFire g) = true ∧ (d.grp g).armed = some (mask, ds) ∧
      d.edgePast g (d.rd (PIN_GRP_TDOM_TDOM g)) (ofTs96 (d.rd (PIN_GRP_TSTART_T g))) = true) ∧
    (∃ (d : Dev) (m : Master) (g : Nat) (v : BitVec 32), d.inReset = false ∧ wellFormed (.groupHalt m g v) = true ∧ d.accepts m (row_PIN_GRP_HALT.last [g])
      v.toNat = true) ∧
    (∃ (d : Dev) (m : Master) (g w : Nat) (v : BitVec 32), d.inReset = false ∧ wellFormed (.instructionWrite m g w v) = true ∧ d.accepts m
      (row_PIN_GRP_IMEMw.last [g, w]) v.toNat = true ∧ (List.range 4).any (fun s => d.seqState (4 * g + s) != 0 && decide (d.rd (PIN_SEQ_PROG_LO g s)
      ≤ w) && decide (w ≤ d.rd (PIN_SEQ_PROG_HI g s))) = false) ∧
    (∃ (d : Dev) (m : Master) (g : Nat) (v : BitVec 32), d.inReset = false ∧ wellFormed (.flagSetWrite m g v) = true ∧ d.accepts m
      (row_PIN_GRP_FLAGSET.last [g]) v.toNat = true) ∧
    (∃ (d : Dev) (m : Master) (q : Nat) (v : BitVec 32), d.inReset = false ∧ wellFormed (.kick m q v) = true ∧ d.accepts m (row_PIN_SEQ_CTRL.last [q / 4, q
      % 4]) (withField v 1 1 1).toNat = true ∧ bit (withField v 1 1 1).toNat 0 = false) ∧
    (∃ (d : Dev) (m : Master) (q : Nat) (v : BitVec 32), d.inReset = false ∧ wellFormed (.clrshift m q v) = true ∧ d.accepts m (row_PIN_SEQ_CTRL.last [q /
      4, q % 4]) (withField v 0 1 1).toNat = true ∧ bit (withField v 0 1 1).toNat 1 = false) ∧
    (∃ (d : Dev) (g : Nat), d.inReset = false ∧ wellFormed (.groupReset g) = true ∧ d.resetting (0x0F0 + g)) ∧
    (∃ (d : Dev), d.inReset = false ∧ d.resetting 0x0F2) ∧
    (∃ (d : Dev) (m : Master) (q : Nat) (v : BitVec 32), d.inReset = false ∧ wellFormed (.txFifoWrite m q v) = true ∧ d.admits m (row_PIN_SEQ_TXF.last [q /
      4, q % 4]) = true ∧ (d.seq q).txf.length < 8) ∧
    (∃ (d : Dev) (m : Master) (q : Nat) (x : Nat) (later : List Nat), d.inReset = false ∧ wellFormed (.rxFifoRead m q) = true ∧ d.admits m
      ⟨row_PIN_SEQ_RXF, [q / 4, q % 4], 0⟩ = true ∧ (d.seq q).rxf = x :: later) :=
  ⟨⟨(later (up.wr (PIN_IOn_CFG_N 0) 0)), 0, true, 2, 0, by decide, by decide, by decide, by decide⟩,
    ⟨{ up with latched := [((0, (row_PIN_ESQ.last []).off + 12), 9)] }, .supervisor, 9, by decide, by decide, by decide, by decide⟩,
    ⟨(up.wr (PIN_IOn_SAFE_CAUSE 0) 0), .supervisor, 0, 0, by decide, by decide, by decide, by decide⟩,
    ⟨((up.put (PIN_IOn_XDRV_XLATCH 0) false).setPn 0 { hold := some 0 }), 0, 0, by decide, by decide, by decide, by decide, by decide⟩,
    ⟨((up.put (PIN_IOn_XDRV_XLATCH 0) true).setPn 0 { hold := some 0 }), 0, 0, by decide, by decide, by decide, by decide, by decide, by decide⟩,
    ⟨((((up.put (SCH_MORDx_DDEN 3) true).wr (SCH_MORDx_DDPIN 3) 0).put (XR_CFG_EN 3) true).put (PIN_IOn_SAFE_XACT 0) true), .supervisor, 0, 256, by
      decide, by decide, by decide, by decide, by decide, by decide, by decide⟩,
    ⟨up, .supervisor, 0, 4, by decide, by decide, by decide, by decide⟩,
    ⟨up, .supervisor, 0, 15, by decide, by decide, by decide, by decide, by decide⟩,
    ⟨up, .supervisor, 0, 0x101, by decide, by decide, by decide, by decide, by decide, by decide⟩,
    ⟨(up.setGrp 0 { armed := some (1, false) }), 0, 1, false, by decide, by decide, by decide, by decide⟩,
    ⟨up, .supervisor, 0, 1, by decide, by decide, by decide⟩,
    ⟨up, .supervisor, 0, 0, 0, by decide, by decide, by decide, by decide⟩,
    ⟨up, .supervisor, 0, 0, by decide, by decide, by decide⟩,
    ⟨up, .supervisor, 0, 0, by decide, by decide, by decide, by decide⟩,
    ⟨up, .supervisor, 0, 0, by decide, by decide, by decide, by decide⟩,
    ⟨((up.put SUP_FNLAST_BUSY true).wr SUP_FNLAST_TARGET (0x0F0 + 0)), 0, by decide, by decide, ⟨by decide, by decide⟩⟩,
    ⟨((up.put SUP_FNLAST_BUSY true).wr SUP_FNLAST_TARGET 0x0F2), by decide, ⟨by decide, by decide⟩⟩,
    ⟨up, .supervisor, 0, 0, by decide, by decide, by decide, by decide⟩,
    ⟨(up.setSeq 0 { rxf := [5] }), .supervisor, 0, 5, [], by decide, by decide, by decide, by decide⟩⟩

theorem witness_SequencerInstructionsComplete :
    (∃ (d : Dev) (q : Nat) (e : Dev), d.inReset = false ∧ wellFormed (.send q) = true ∧ d.atInstr q 1 ∧ (d.sideSet q (d.seqWord q)).seqSend q (bits (seqArg
      (d.seqWord q)) 0 4) = .go e none) ∧
    (∃ (d : Dev) (q : Nat) (e : Dev), d.inReset = false ∧ wellFormed (.take q) = true ∧ d.atInstr q 2 ∧ (d.sideSet q (d.seqWord q)).seqTake q (seqArg
      (d.seqWord q)) = .go e none) ∧
    (∃ (d : Dev) (q : Nat) (e : Dev), d.inReset = false ∧ wellFormed (.load q) = true ∧ d.atInstr q 3 ∧ (d.sideSet q (d.seqWord q)).seqLoad q (seqArg
      (d.seqWord q)) = .go e none) ∧
    (∃ (d : Dev) (q : Nat) (e : Dev), d.inReset = false ∧ wellFormed (.store q) = true ∧ d.atInstr q 4 ∧ (d.sideSet q (d.seqWord q)).seqStore q (seqArg
      (d.seqWord q)) = .go e none) ∧
    (∃ (d : Dev) (q : Nat), d.inReset = false ∧ wellFormed (.branch q) = true ∧ d.atInstr q 5 ∧ bits (seqArg (d.seqWord q)) 6 4 = 0) ∧
    (∃ (d : Dev) (q : Nat) (e : Dev) (jump : Option Nat), d.inReset = false ∧ wellFormed (.branch q) = true ∧ d.atInstr q 5 ∧ (d.sideSet q (d.seqWord
      q)).seqBranch q (seqArg (d.seqWord q)) = .go e jump) ∧
    (∃ (d : Dev) (q : Nat) (e : Dev), d.inReset = false ∧ wellFormed (.wait q) = true ∧ d.atInstr q 6 ∧ (d.sideSet q (d.seqWord q)).seqWait q (if
      (d.sideSet q (d.seqWord q)).on (PIN_SEQ_CFG_SIDEMODE (q / 4) (q % 4)) then 0 else seqSide (d.seqWord q)) (seqArg (d.seqWord q)) = .go e none) ∧
    (∃ (d : Dev) (q : Nat), d.inReset = false ∧ wellFormed (.count q) = true ∧ d.atInstr q 7 ∧ bit (seqArg (d.seqWord q)) 13 = false) ∧
    (∃ (d : Dev) (q : Nat), d.inReset = false ∧ wellFormed (.count q) = true ∧ d.atInstr q 7 ∧ bit (seqArg (d.seqWord q)) 13 = true) ∧
    (∃ (d : Dev) (q : Nat), d.inReset = false ∧ wellFormed (.drive q) = true ∧ d.atInstr q 8 ∧ bits (seqArg (d.seqWord q)) 6 2 = 1) ∧
    (∃ (d : Dev) (q : Nat), d.inReset = false ∧ wellFormed (.signal q) = true ∧ d.atInstr q 9 ∧ bits (seqArg (d.seqWord q)) 0 2 = 0) ∧
    (∃ (d : Dev) (q : Nat), d.inReset = false ∧ wellFormed (.signal q) = true ∧ d.atInstr q 9 ∧ bits (seqArg (d.seqWord q)) 0 2 = 2) ∧
    (∃ (d : Dev) (q : Nat) (ecc : Bool), d.inReset = false ∧ wellFormed (.nop q ecc) = true ∧ ecc = false ∧ d.atInstr q 0) ∧
    (∃ (d : Dev) (q : Nat) (ecc : Bool), d.inReset = false ∧ wellFormed (.nop q ecc) = true ∧ ecc = true ∧ d.seqState q ≠ 0) ∧
    (∃ (d : Dev) (q : Nat) (x : Nat) (later : List Nat), d.inReset = false ∧ wellFormed (.spfFeed q) = true ∧ (d.seq q).spf = none ∧ (d.seq q).txf = x ::
      later ∧ d.on (PIN_SEQ_CFG_FEED (q / 4) (q % 4)) = true ∧ d.grpFree (q / 4) (8 + q % 4) = true) ∧
    (∃ (d : Dev) (q : Nat) (x : Nat), d.inReset = false ∧ wellFormed (.thdDeliver q) = true ∧ (d.seq q).thd = some x ∧ (d.seq q).rxf.length < 8 ∧ d.grpFree
      (q / 4) (4 + q % 4) = true ∧ (d.seq q).kept = false) ∧
    (∃ (d : Dev) (q : Nat) (x : Nat), d.inReset = false ∧ wellFormed (.thdDeliver q) = true ∧ (d.seq q).thd = some x ∧ (d.seq q).rxf.length < 8 ∧ d.grpFree
      (q / 4) (4 + q % 4) = true ∧ (d.seq q).kept = true) :=
  ⟨⟨(own0 (seqAt 1 1)), 0, _, by first | rfl | decide, by first | rfl | decide, ⟨by decide, by decide, by decide⟩, by first | rfl | decide⟩,
    ⟨(seqAt 2 1), 0, _, by first | rfl | decide, by first | rfl | decide, ⟨by decide, by decide, by decide⟩, by first | rfl | decide⟩,
    ⟨(seqAt 3 0xA), 0, _, by first | rfl | decide, by first | rfl | decide, ⟨by decide, by decide, by decide⟩, by first | rfl | decide⟩,
    ⟨(seqAt 4 0x3), 0, _, by first | rfl | decide, by first | rfl | decide, ⟨by decide, by decide, by decide⟩, by first | rfl | decide⟩,
    ⟨(seqAt 5 7), 0, by decide, by decide, ⟨by decide, by decide, by decide⟩, by decide⟩,
    ⟨(seqAt 5 7), 0, _, _, by first | rfl | decide, by first | rfl | decide, ⟨by decide, by decide, by decide⟩, by first | rfl | decide⟩,
    ⟨(seqAt 6 0), 0, _, by first | rfl | decide, by first | rfl | decide, ⟨by decide, by decide, by decide⟩, by first | rfl | decide⟩,
    ⟨(seqAt 7 5), 0, by decide, by decide, ⟨by decide, by decide, by decide⟩, by decide⟩,
    ⟨(seqAt 7 0x2000), 0, by decide, by decide, ⟨by decide, by decide, by decide⟩, by decide⟩,
    ⟨(own0 (seqAt 8 0x40)), 0, by decide, by decide, ⟨by decide, by decide, by decide⟩, by decide⟩,
    ⟨(seqAt 9 0), 0, by decide, by decide, ⟨by decide, by decide, by decide⟩, by decide⟩,
    ⟨(seqAt 9 2), 0, by decide, by decide, ⟨by decide, by decide, by decide⟩, by decide⟩,
    ⟨(seqAt 0 0), 0, false, by decide, by decide, by decide, ⟨by decide, by decide, by decide⟩⟩,
    ⟨(seqAt 0 0), 0, true, by decide, by decide, by decide, by decide⟩,
    ⟨((up.put (PIN_SEQ_CFG_FEED (0 / 4) (0 % 4)) true).setSeq 0 { txf := [7] }), 0, 7, [], by decide, by decide, by decide, by decide, by decide, by
      decide⟩,
    ⟨(up.setSeq 0 { thd := some 7 }), 0, 7, by decide, by decide, by decide, by decide, by decide, by decide⟩,
    ⟨(up.setSeq 0 { thd := some 7, kept := true }), 0, 7, by decide, by decide, by decide, by decide, by decide, by decide⟩⟩

theorem witness_DepotCommandsComplete :
    (∃ (d : Dev) (m : Master) (n : Nat) (v : BitVec 32), d.inReset = false ∧ wellFormed (.depotPowerOn m n v) = true ∧ d.accepts m (row_DEP_CTRL.last [n])
      (withField v 0 1 1).toNat = true ∧ d.rd (DEP_STAT_PWRSTATE n) = 0) ∧
    (∃ (d : Dev) (n : Nat), d.inReset = false ∧ wellFormed (.depotWakeDone n) = true ∧ d.rd (DEP_STAT_PWRSTATE n) = 1) ∧
    (∃ (d : Dev) (m : Master) (n : Nat) (v : BitVec 32), d.inReset = false ∧ wellFormed (.depotPowerOff m n v) = true ∧ d.accepts m (row_DEP_CTRL.last [n])
      (withField v 0 1 0).toNat = true ∧ d.on (DEP_CTRL_PWRON n) = true) ∧
    (∃ (d : Dev) (n : Nat), d.inReset = false ∧ wellFormed (.depotOffDone n) = true ∧ d.rd (DEP_STAT_PWRSTATE n) = 3) ∧
    (∃ (d : Dev) (e i : Nat) (v : BitVec 32), d.inReset = false ∧ wellFormed (.rxRelease e i v) = true ∧ d.depotOn (e / 8) = true ∧ v.toNat ≠ 0 ∧ v.toNat ≤
      (d.rxRing (e / 8) i).occ) ∧
    (∃ (d : Dev) (e i : Nat) (x : Nat) (later : List Nat), d.inReset = false ∧ wellFormed (.ingressPop e i) = true ∧ d.depotOn (e / 8) = true ∧ (d.rxRing
      (e / 8) i).descs = x :: later) ∧
    (∃ (d : Dev) (e j w : Nat) (v : BitVec 32), d.inReset = false ∧ wellFormed (.egressStage e j w v) = true ∧ d.depotOn (e / 8) = true) ∧
    (∃ (d : Dev) (e j : Nat) (v : BitVec 32), d.inReset = false ∧ wellFormed (.egressPush e j v) = true ∧ d.depotOn (e / 8) = true ∧ (tgetD (d.depot (e /
      8)).tx j []).length < 32) ∧
    (∃ (d : Dev) (n : Nat) (ws : List Nat) (later : List (List Nat)), d.inReset = false ∧ wellFormed (.frameInterfaceFetch n) = true ∧ (d.depot n).copying
      = none ∧ tgetD (d.depot n).tx (d.depot n).turn [] = ws :: later) ∧
    (∃ (d : Dev) (n : Nat) (ws : List Nat) (l : List Byte), d.inReset = false ∧ wellFormed (.copyComplete n) = true ∧ (d.depot n).copying = some (ws, l) ∧
      bit (descWord ws 1) 28 = false) ∧
    (∃ (d : Dev) (n k : Nat), d.inReset = false ∧ wellFormed (.timerCompareFire n k) = true ∧ d.on (DEP_TCMPk_EN n k) = true ∧ d.compareAt n k ≤ d.domTime
      (d.rd (DEP_TCMPk_DOM n k))) ∧
    (∃ (d : Dev) (e : Nat) (l : Nat), d.inReset = false ∧ wellFormed (.interruptEntry e) = true ∧ d.engState e = engRunning ∧ d.lineToTake e = some l ∧
      (d.eng e).rsd < 32 ∧ (d.eng e).dsd < 32 ∧ d.rd (ENG_IRQSELL_KIND e l) = 3) ∧
    (∃ (d : Dev) (e : Nat), d.inReset = false ∧ wellFormed (.wfeWake e) = true ∧ d.engState e = engSleeping ∧ d.wakePending e = true ∧ (d.eng e).parked =
      false) ∧
    (∃ (d : Dev) (m : Master) (e : Nat) (v : BitVec 32), d.inReset = false ∧ wellFormed (.swapRequest m e v) = true ∧ d.accepts m (row_ENG_SWAP.last [e /
      8, e % 8]) (withField v 0 1 1).toNat = true ∧ bit (withField v 0 1 1).toNat 1 = false ∧ d.swapPending e = false ∧ d.depotOn (e / 8) = true) ∧
    (∃ (d : Dev) (m : Master) (e : Nat) (v : BitVec 32), d.inReset = false ∧ wellFormed (.swapCancel m e v) = true ∧ d.accepts m (row_ENG_SWAP.last [e / 8,
      e % 8]) (withField v 1 1 1).toNat = true ∧ bit (withField v 1 1 1).toNat 0 = false ∧ d.on (ENG_SWAP_PEND e) = true) ∧
    (∃ (d : Dev) (t : SwapTarget) (e : Nat), d.inReset = false ∧ wellFormed (.swapTimeout t) = true ∧ t = .engine e ∧ d.rd (DEP_SWTMO_SWTMO (e / 8)) ≠ 0 ∧
      (d.eng e).swapAt + d.rd (DEP_SWTMO_SWTMO (e / 8)) * (1000 * 65536) ≤ d.tb.lt) ∧
    (∃ (d : Dev) (t : SwapTarget) (n : Nat), d.inReset = false ∧ wellFormed (.swapTimeout t) = true ∧ t = .depot n ∧ d.rd (DEP_SWTMO_SWTMO n) ≠ 0 ∧
      (d.depot n).swapAt + d.rd (DEP_SWTMO_SWTMO n) * (1000 * 65536) ≤ d.tb.lt) ∧
    (∃ (d : Dev) (m : Master) (n : Nat) (v : BitVec 32), d.inReset = false ∧ wellFormed (.depotSwapGo m n v) = true ∧ d.accepts m (row_DEP_SWAP.last [n])
      (withField v 8 1 1).toNat = true ∧ bit (withField v 8 1 1).toNat 9 = false ∧ (d.depot n).swap = none ∧ d.depotOn n = true) ∧
    (∃ (d : Dev) (m : Master) (n : Nat) (v : BitVec 32), d.inReset = false ∧ wellFormed (.depotSwapCancel m n v) = true ∧ d.accepts m (row_DEP_SWAP.last
      [n]) (withField v 9 1 1).toNat = true ∧ bit (withField v 9 1 1).toNat 8 = false) ∧
    (∃ (d : Dev) (m : Master) (e : Nat) (v : BitVec 32), d.inReset = false ∧ wellFormed (.run m e v) = true ∧ d.accepts m (row_ENG_CTRL.last [e / 8, e %
      8]) (withField v 0 1 1).toNat = true ∧ bit (withField v 0 1 1).toNat 1 = false ∧ bit (withField v 0 1 1).toNat 2 = false ∧ d.engState e =
      engHalted ∧ d.depotOn (e / 8) = true) ∧
    (∃ (d : Dev) (m : Master) (e : Nat) (v : BitVec 32), d.inReset = false ∧ wellFormed (.halt m e v) = true ∧ d.accepts m (row_ENG_CTRL.last [e / 8, e %
      8]) (withField v 1 1 1).toNat = true ∧ bit (withField v 1 1 1).toNat 0 = false ∧ bit (withField v 1 1 1).toNat 2 = false) ∧
    (∃ (d : Dev) (m : Master) (e : Nat) (v : BitVec 32), d.inReset = false ∧ wellFormed (.step m e v) = true ∧ d.accepts m (row_ENG_CTRL.last [e / 8, e %
      8]) (setBits v.toNat 2 1 1) = true ∧ bit v.toNat 0 = false ∧ bit v.toNat 1 = false ∧ d.engState e = engHalted ∧ d.depotOn (e / 8) = true) ∧
    (∃ (d : Dev) (e : Nat), d.inReset = false ∧ wellFormed (.engineReset e) = true ∧ d.resetting (0x040 + e)) ∧
    (∃ (d : Dev) (n : Nat), d.inReset = false ∧ wellFormed (.depotReset n) = true ∧ d.resetting (0x010 + n)) :=
  ⟨⟨(up.wr (DEP_STAT_PWRSTATE 0) 0), .supervisor, 0, 0, by decide, by decide, by decide, by decide⟩,
    ⟨(up.wr (DEP_STAT_PWRSTATE 0) 1), 0, by decide, by decide, by decide⟩,
    ⟨(up.put (DEP_CTRL_PWRON 0) true), .supervisor, 0, 0, by decide, by decide, by decide, by decide⟩,
    ⟨(up.wr (DEP_STAT_PWRSTATE 0) 3), 0, by decide, by decide, by decide⟩,
    ⟨((up.wr (DEP_STAT_PWRSTATE (0 / 8)) 2).setRxRing 0 0 { occ := 3 }), 0, 0, 3, by decide, by decide, by decide, by decide, by decide⟩,
    ⟨((up.wr (DEP_STAT_PWRSTATE (0 / 8)) 2).setRxRing 0 0 { descs := [9] }), 0, 0, 9, [], by decide, by decide, by decide, by decide⟩,
    ⟨(up.wr (DEP_STAT_PWRSTATE (0 / 8)) 2), 0, 0, 0, 0, by decide, by decide, by decide⟩,
    ⟨(up.wr (DEP_STAT_PWRSTATE (0 / 8)) 2), 0, 0, 0, by decide, by decide, by decide, by decide⟩,
    ⟨(up.setDepot 0 { tx := [(0, [[1, 2, 3, 4, 5, 6]])] }), 0, [1, 2, 3, 4, 5, 6], [], by decide, by decide, by decide, by decide⟩,
    ⟨(up.setDepot 0 { copying := some ([0, 0, 0, 0, 0, 0], []) }), 0, [0, 0, 0, 0, 0, 0], [], by decide, by decide, by decide, by decide⟩,
    ⟨((up.put (DEP_TCMPk_EN 0 0) true).wr (DEP_TCMPk_DOM 0 0) 4), 0, 0, by decide, by decide, by decide, by decide⟩,
    ⟨((((up.wr (ENG_STAT_STATE 0) engRunning).wr (ENG_IRQSELL_KIND 0 2) 3).wr (ENG_IRQ_IMASK 0) 4).setRxRing 0 0 { descs := [9] }), 0, 2, by decide, by
      decide, by decide, by decide, by decide, by decide, by decide⟩,
    ⟨((((up.wr (ENG_STAT_STATE 0) engSleeping).wr (ENG_IRQSELL_KIND 0 1) 1).wr (ENG_IRQ_PEND 0) 2).wr (ENG_IRQ_WAKEMASK 0) 2), 0, by decide, by decide, by
      decide, by decide, by decide⟩,
    ⟨(up.wr (DEP_STAT_PWRSTATE (0 / 8)) 2), .supervisor, 0, 0, by decide, by decide, by decide, by decide, by decide, by decide⟩,
    ⟨((up.put (ENG_SWAP_PEND 0) true).wr (DEP_STAT_PWRSTATE 0) 2), .supervisor, 0, 0, by decide, by decide, by decide, by decide, by decide⟩,
    ⟨(later ((up.wr (DEP_SWTMO_SWTMO (0 / 8)) 1).wr (DEP_SWTMO_SWTMO 0) 1)), (.engine 0), 0, by decide, by decide, by decide, by decide, by decide⟩,
    ⟨(later ((up.wr (DEP_SWTMO_SWTMO 0) 1).wr (DEP_SWTMO_SWTMO 0) 1)), (.depot 0), 0, by decide, by decide, by decide, by decide, by decide⟩,
    ⟨(up.wr (DEP_STAT_PWRSTATE 0) 2), .supervisor, 0, 0, by decide, by decide, by decide, by decide, by decide, by decide⟩,
    ⟨up, .supervisor, 0, 0, by decide, by decide, by decide, by decide⟩,
    ⟨((up.wr (ENG_STAT_STATE 0) engHalted).wr (DEP_STAT_PWRSTATE (0 / 8)) 2), .supervisor, 0, 0, by decide, by decide, by decide, by decide, by decide, by
      decide, by decide⟩,
    ⟨(up.wr (DEP_STAT_PWRSTATE 0) 2), .supervisor, 0, 0, by decide, by decide, by decide, by decide, by decide⟩,
    ⟨((up.wr (ENG_STAT_STATE 0) engHalted).wr (DEP_STAT_PWRSTATE (0 / 8)) 2), .supervisor, 0, 0, by decide, by decide, by decide, by decide, by decide, by
      decide, by decide⟩,
    ⟨((up.put SUP_FNLAST_BUSY true).wr SUP_FNLAST_TARGET (0x040 + 0)), 0, by decide, by decide, ⟨by decide, by decide⟩⟩,
    ⟨((up.put SUP_FNLAST_BUSY true).wr SUP_FNLAST_TARGET (0x010 + 0)), 0, by decide, by decide, ⟨by decide, by decide⟩⟩⟩

theorem witness_MemoryAndQueueCommandsComplete :
    (∃ (d : Dev) (m : Master) (a n : Nat) (w : BankAccess), d.inReset = false ∧ wellFormed (.sharedMemoryAccess m a n w) = true ∧ w.upsets = [] ∧
      d.hostShutOut m (0x1000000 + a) = false ∧ w.write = none) ∧
    (∃ (d : Dev) (m : Master) (a n : Nat) (w : BankAccess) (l : List Byte), d.inReset = false ∧ wellFormed (.sharedMemoryAccess m a n w) = true ∧ w.upsets
      = [] ∧ d.hostShutOut m (0x1000000 + a) = false ∧ w.write = some l) ∧
    (∃ (d : Dev) (m : Master) (a n : Nat) (w : BankAccess), d.inReset = false ∧ wellFormed (.sharedMemoryAccess m a n w) = true) ∧
    (∃ (d : Dev) (m : Master) (b : Nat) (v : BitVec 32), d.inReset = false ∧ wellFormed (.bankConfigWrite m b v) = true ∧ d.accepts m (row_MEM_BANKb.last
      [b]) (setBits v.toNat 0 12 (d.rd (MEM_BANKb_OWNER b))) = true) ∧
    (∃ (d : Dev) (m : Master) (b : Nat) (v : BitVec 32), d.inReset = false ∧ wellFormed (.bankHandover m b v) = true ∧ d.accepts m (row_MEM_BANKb.last [b])
      v.toNat = true ∧ d.bankWriter m b = true ∧ bits v.toNat 0 12 ≠ d.rd (MEM_BANKb_OWNER b)) ∧
    (∃ (d : Dev) (b : Nat) (o : Nat), d.inReset = false ∧ wellFormed (.handoverEffect b) = true ∧ tget d.mem.pend b = some o) ∧
    (∃ (d : Dev), d.inReset = false ∧ d.on MEM_SCRUB_EN = true) ∧
    (∃ (d : Dev) (b : Nat), d.inReset = false ∧ d.on BTU_CFG_EN = true ∧ d.mem.borrow = none ∧ d.borrowBank = some b) ∧
    (∃ (d : Dev) (diff : Option (Nat × Nat)) (b : Nat), d.inReset = false ∧ wellFormed (.borrowEnd diff) = true ∧ diff = none ∧ d.mem.borrow = some b ∧
      (tgetD d.mem.rows b 0 + 1) % 512 ≠ 0) ∧
    (∃ (d : Dev) (diff : Option (Nat × Nat)) (b : Nat), d.inReset = false ∧ wellFormed (.borrowEnd diff) = true ∧ d.mem.borrow = some b) ∧
    (∃ (d : Dev) (b : Nat), d.inReset = false ∧ wellFormed (.borrowAbort b) = true ∧ d.mem.borrow = some b) ∧
    (∃ (d : Dev), d.inReset = false ∧ d.resetting 0x0FA) ∧
    (∃ (d : Dev) (m : Master) (q : Nat) (v : PushWord) (e : Nat) (x : BitVec 32), d.inReset = false ∧ wellFormed (.queuePush m q v) = true ∧ m = .engine e
      ∧ v = .low x ∧ d.depotOn (e / 8) = true ∧ d.queueRight q true m = true ∧ (d.queuePush q (d.ioLatched e (0x1801 + 2 * q) * 2 ^ 32 + x.toNat)).2 =
      true) ∧
    (∃ (d : Dev) (m : Master) (q : Nat) (v : PushWord) (x : BitVec 32), d.inReset = false ∧ wellFormed (.queuePush m q v) = true ∧ m.isEngine = false ∧ v =
      .low x ∧ d.admits m ⟨row_QM_Qn_PUSH, [q], 0⟩ = true ∧ d.queueRight q true m = true) ∧
    (∃ (d : Dev) (m : Master) (q : Nat) (v : PushWord) (hi x : BitVec 32), d.inReset = false ∧ wellFormed (.queuePush m q v) = true ∧ m = .pcie ∧ v = .wide
      hi x ∧ d.queueRight q true m = true ∧ d.hostShutOut m (0x54008 + 0x10 * q) = false) ∧
    (∃ (d : Dev) (m : Master) (q : Nat) (v : BitVec 32) (e : Nat), d.inReset = false ∧ wellFormed (.queueStage m q v) = true ∧ m = .engine e ∧ d.depotOn (e
      / 8) = true ∧ d.queueRight q true m = true) ∧
    (∃ (d : Dev) (m : Master) (q : Nat) (v : BitVec 32), d.inReset = false ∧ wellFormed (.queueStage m q v) = true ∧ m.isEngine = false ∧ d.admits m
      (row_QM_Qn_PUSH.last [q]) = true ∧ d.queueRight q true m = true) ∧
    (∃ (d : Dev) (m : Master) (r : PopReg) (e q : Nat), d.inReset = false ∧ wellFormed (.queuePop m r) = true ∧ m = .engine e ∧ r = ⟨q, false⟩ ∧ d.depotOn
      (e / 8) = true ∧ d.queueRight q false m = true) ∧
    (∃ (d : Dev) (m : Master) (r : PopReg) (q : Nat), d.inReset = false ∧ wellFormed (.queuePop m r) = true ∧ m.isEngine = false ∧ r = ⟨q, false⟩ ∧
      d.admits m ⟨row_QM_Qn_POP, [q], 0⟩ = true ∧ d.queueRight q false m = true) ∧
    (∃ (d : Dev) (m : Master) (r : PopReg) (q : Nat), d.inReset = false ∧ wellFormed (.queuePop m r) = true ∧ m = .pcie ∧ r = ⟨q, true⟩ ∧ d.admits m
      ⟨row_QM_Qn_POP, [q], 0⟩ = true ∧ d.queueRight q false m = true) ∧
    (∃ (d : Dev) (q : Nat), d.inReset = false ∧ wellFormed (.queueRefill q) = true ∧ d.on (QM_Qn_CFG_ORG q) = true ∧ (d.queue q).fault = false ∧ (d.queue
      q).win.length ≤ 8 ∧ 0 < (d.queue q).spilled + (d.queue q).tail.length) ∧
    (∃ (d : Dev) (q : Nat), d.inReset = false ∧ wellFormed (.queueReset q) = true ∧ d.resetting (0x100 + q)) ∧
    (∃ (d : Dev), d.inReset = false ∧ d.resetting 0x0FB) :=
  ⟨⟨up, .supervisor, 0, 4, ⟨none, []⟩, by decide, by decide, by decide, by decide, by decide⟩,
    ⟨up, .supervisor, 0, 2, ⟨some [1, 2], []⟩, [1, 2], by decide, by decide, by decide, by decide, by decide⟩,
    ⟨up, .supervisor, 0, 2, ⟨none, [(.dm 63 8191, true), (.entry 0 0, true)]⟩, by decide, by decide⟩,
    ⟨up, .supervisor, 0, 0, by decide, by decide, by decide⟩,
    ⟨up, .supervisor, 0, 1, by decide, by decide, by decide, by decide, by decide⟩,
    ⟨{ up with mem := { up.mem with pend := [(0, 0x001)] } }, 0, 0x001, by decide, by decide, by decide⟩,
    ⟨(up.put MEM_SCRUB_EN true), by decide, by decide⟩,
    ⟨(((up.put BTU_CFG_EN true).wr BTU_MASK_MASK 32).put (MEM_BANKb_LEND 5) true), 5, by decide, by decide, by decide, by decide⟩,
    ⟨{ up with mem := { up.mem with borrow := some 5 } }, none, 5, by decide, by decide, by decide, by decide, by decide⟩,
    ⟨{ up with mem := { up.mem with borrow := some 5 } }, none, 5, by decide, by decide, by decide⟩,
    ⟨{ up with mem := { up.mem with borrow := some 5 } }, 5, by decide, by decide, by decide⟩,
    ⟨((up.put SUP_FNLAST_BUSY true).wr SUP_FNLAST_TARGET 0x0FA), by decide, ⟨by decide, by decide⟩⟩,
    ⟨((((up.wr (DEP_STAT_PWRSTATE (0 / 8)) 2).wr (QM_Qn_CFG_PUSHDEP 0) 1).put (QM_Qn_CFG_EN 0) true).wr (QM_Qn_CFG_LOG2 0) 2), (.engine 0), 0, (.low 0),
      0, 0, by decide, by decide, by decide, by decide, by decide, by decide, by decide⟩,
    ⟨(up.put (QM_Qn_CFG_PUSHHOST 0) true), .pcie, 0, (.low 0), 0, by decide, by decide, by decide, by decide, by decide, by decide⟩,
    ⟨(up.put (QM_Qn_CFG_PUSHHOST 0) true), .pcie, 0, (.wide 1 2), 1, 2, by decide, by decide, by decide, by decide, by decide, by decide⟩,
    ⟨((up.wr (DEP_STAT_PWRSTATE (0 / 8)) 2).wr (QM_Qn_CFG_PUSHDEP 0) 1), (.engine 0), 0, 0, 0, by decide, by decide, by decide, by decide, by decide⟩,
    ⟨(up.put (QM_Qn_CFG_PUSHHOST 0) true), .pcie, 0, 0, by decide, by decide, by decide, by decide, by decide⟩,
    ⟨((up.wr (DEP_STAT_PWRSTATE (0 / 8)) 2).wr (QM_Qn_CFG_POPDEP 0) 1), (.engine 0), ⟨0, false⟩, 0, 0, by decide, by decide, by decide, by decide, by
      decide, by decide⟩,
    ⟨(up.put (QM_Qn_CFG_POPHOST 0) true), .pcie, ⟨0, false⟩, 0, by decide, by decide, by decide, by decide, by decide, by decide⟩,
    ⟨(up.put (QM_Qn_CFG_POPHOST 0) true), .pcie, ⟨0, true⟩, 0, by decide, by decide, by decide, by decide, by decide, by decide⟩,
    ⟨((up.put (QM_Qn_CFG_ORG 0) true).setQueue 0 { tail := [some 1] }), 0, by decide, by decide, by decide, by decide, by decide, by decide⟩,
    ⟨((up.put SUP_FNLAST_BUSY true).wr SUP_FNLAST_TARGET (0x100 + 0)), 0, by decide, by decide, ⟨by decide, by decide⟩⟩,
    ⟨((up.put SUP_FNLAST_BUSY true).wr SUP_FNLAST_TARGET 0x0FB), by decide, ⟨by decide, by decide⟩⟩⟩

theorem witness_MailboxCommandsComplete :
    (∃ (d : Dev) (m : Master) (n w : Nat) (v : BitVec 32) (e : Nat), d.inReset = false ∧ wellFormed (.mailboxStage m n w v) = true ∧ m = .engine e ∧
      d.depotOn (e / 8) = true ∧ d.mbSender n m = true) ∧
    (∃ (d : Dev) (m : Master) (n w : Nat) (v : BitVec 32), d.inReset = false ∧ wellFormed (.mailboxStage m n w v) = true ∧ m.isEngine = false ∧ d.admits m
      (row_MBX_MBm_Ww.last [n, w]) = true ∧ d.mbSender n m = true) ∧
    (∃ (d : Dev) (m : Master) (n : Nat) (v : BitVec 32) (e : Nat), d.inReset = false ∧ wellFormed (.mailboxPost m n v) = true ∧ m = .engine e ∧ d.depotOn
      (e / 8) = true ∧ d.mbSender n m = true ∧ d.on (MBX_MBm_CFG_EN n) = true ∧ (d.box n).msg = none) ∧
    (∃ (d : Dev) (m : Master) (n : Nat) (v : BitVec 32), d.inReset = false ∧ wellFormed (.mailboxPost m n v) = true ∧ m.isEngine = false ∧ d.admits m
      (row_MBX_MBm_Ww.last [n, 7]) = true ∧ d.mbSender n m = true ∧ d.on (MBX_MBm_CFG_EN n) = true ∧ (d.box n).msg = none) ∧
    (∃ (d : Dev) (m : Master) (n : Nat) (e : Nat), d.inReset = false ∧ wellFormed (.mailboxHeaderRead m n) = true ∧ m = .engine e ∧ d.depotOn (e / 8) =
      true ∧ d.mbReceiver n m = true) ∧
    (∃ (d : Dev) (m : Master) (n : Nat), d.inReset = false ∧ wellFormed (.mailboxHeaderRead m n) = true ∧ m.isEngine = false ∧ d.admits m
      (row_MBX_MBm_Ww.last [n, 0]) = true ∧ d.mbReceiver n m = true) ∧
    (∃ (d : Dev) (m : Master) (n : Nat) (e : Nat), d.inReset = false ∧ wellFormed (.mailboxTake m n) = true ∧ m = .engine e ∧ d.depotOn (e / 8) = true ∧
      d.mbReceiver n m = true) ∧
    (∃ (d : Dev) (m : Master) (n : Nat), d.inReset = false ∧ wellFormed (.mailboxTake m n) = true ∧ m.isEngine = false ∧ d.admits m (row_MBX_MBm_Ww.last
      [n, 7]) = true ∧ d.mbReceiver n m = true) ∧
    (∃ (d : Dev) (n : Nat), d.inReset = false ∧ wellFormed (.mailboxReset n) = true ∧ d.resetting (0x600 + n)) ∧
    (∃ (d : Dev), d.inReset = false ∧ d.resetting 0x0FC) ∧
    (∃ (d : Dev) (m : Master) (n : Nat) (e : Nat), d.inReset = false ∧ wellFormed (.doorbellRing m n) = true ∧ m = .engine e ∧ d.depotOn (e / 8) = true) ∧
    (∃ (d : Dev) (m : Master) (n : Nat), d.inReset = false ∧ wellFormed (.doorbellRing m n) = true ∧ m.isEngine = false ∧ d.accepts m (row_MBX_DBRING.last
      []) n = true) ∧
    (∃ (d : Dev) (m : Master) (n : Nat) (e : Nat), d.inReset = false ∧ wellFormed (.lockAcquire m n) = true ∧ m = .engine e ∧ d.depotOn (e / 8) = true ∧
      (d.lock n).holder = none) ∧
    (∃ (d : Dev) (m : Master) (n : Nat), d.inReset = false ∧ wellFormed (.lockAcquire m n) = true ∧ m.isEngine = false ∧ d.admits m (row_MBX_LKn.last [n])
      = true ∧ (d.lock n).holder = none) ∧
    (∃ (d : Dev) (m : Master) (n : Nat), d.inReset = false ∧ wellFormed (.lockPeek m n) = true ∧ d.admits m (row_MBX_LKn_PEEK.last [n]) = true ∧ (d.lock
      n).holder = none) ∧
    (∃ (d : Dev) (m : Master) (n : Nat), d.inReset = false ∧ wellFormed (.lockPeek m n) = true ∧ d.admits m (row_MBX_LKn_PEEK.last [n]) = true ∧ (d.lock
      n).holder ≠ none) ∧
    (∃ (d : Dev) (m : Master) (n : Nat) (v : BitVec 32) (e : Nat), d.inReset = false ∧ wellFormed (.lockRelease m n v) = true ∧ m = .engine e ∧ d.depotOn
      (e / 8) = true ∧ (d.lock n).holder = some m.uid) ∧
    (∃ (d : Dev) (m : Master) (n : Nat) (v : BitVec 32), d.inReset = false ∧ wellFormed (.lockRelease m n v) = true ∧ m.isEngine = false ∧ d.admits m
      (row_MBX_LKn.last [n]) = true ∧ (d.lock n).holder = some m.uid) ∧
    (∃ (d : Dev) (m : Master) (n : Nat) (v : BitVec 32), d.inReset = false ∧ wellFormed (.lockForce m n v) = true ∧ d.accepts m (row_MBX_LKn_FORCE.last
      [n]) (withField v 0 1 1).toNat = true ∧ m = .supervisor ∧ (d.lock n).holder ≠ none) ∧
    (∃ (d : Dev) (m : Master) (n : Nat) (v : BitVec 32), d.inReset = false ∧ wellFormed (.lockForce m n v) = true ∧ d.accepts m (row_MBX_LKn_FORCE.last
      [n]) (withField v 0 1 1).toNat = true ∧ m = .supervisor ∧ (d.lock n).holder = none) :=
  ⟨⟨((up.wr (DEP_STAT_PWRSTATE (0 / 8)) 2).wr (MBX_MBm_CFG_SENDDEP 0) 1), (.engine 0), 0, 4, 0, 0, by decide, by decide, by decide, by decide, by decide⟩,
    ⟨(up.put (MBX_MBm_CFG_SENDSUP 0) true), .supervisor, 0, 6, 0, by decide, by decide, by decide, by decide, by decide⟩,
    ⟨(((up.wr (DEP_STAT_PWRSTATE (0 / 8)) 2).put (MBX_MBm_CFG_EN 0) true).wr (MBX_MBm_CFG_SENDDEP 0) 1), (.engine 0), 0, 0, 0, by decide, by decide, by
      decide, by decide, by decide, by decide, by decide⟩,
    ⟨((up.put (MBX_MBm_CFG_EN 0) true).put (MBX_MBm_CFG_SENDSUP 0) true), .supervisor, 0, 0, by decide, by decide, by decide, by decide, by decide, by
      decide, by decide⟩,
    ⟨((up.wr (DEP_STAT_PWRSTATE (0 / 8)) 2).wr (MBX_MBm_CFG_RCV 0) 0x040), (.engine 0), 0, 0, by decide, by decide, by decide, by decide, by decide⟩,
    ⟨(up.wr (MBX_MBm_CFG_RCV 0) 1), .pcie, 0, by decide, by decide, by decide, by decide, by decide⟩,
    ⟨((up.wr (DEP_STAT_PWRSTATE (0 / 8)) 2).wr (MBX_MBm_CFG_RCV 0) 0x040), (.engine 0), 0, 0, by decide, by decide, by decide, by decide, by decide⟩,
    ⟨(up.wr (MBX_MBm_CFG_RCV 0) 1), .spi, 0, by decide, by decide, by decide, by decide, by decide⟩,
    ⟨((up.put SUP_FNLAST_BUSY true).wr SUP_FNLAST_TARGET (0x600 + 0)), 0, by decide, by decide, ⟨by decide, by decide⟩⟩,
    ⟨((up.put SUP_FNLAST_BUSY true).wr SUP_FNLAST_TARGET 0x0FC), by decide, ⟨by decide, by decide⟩⟩,
    ⟨(up.wr (DEP_STAT_PWRSTATE (0 / 8)) 2), (.engine 0), 0, 0, by decide, by decide, by decide, by decide⟩,
    ⟨up, .supervisor, 0, by decide, by decide, by decide, by decide⟩,
    ⟨(up.wr (DEP_STAT_PWRSTATE (0 / 8)) 2), (.engine 0), 0, 0, by decide, by decide, by decide, by decide, by decide⟩,
    ⟨up, .supervisor, 0, by decide, by decide, by decide, by decide, by decide⟩,
    ⟨up, .supervisor, 0, by decide, by decide, by decide, by decide⟩,
    ⟨(up.setLock 0 ⟨some 5, false⟩), .supervisor, 0, by decide, by decide, by decide, by decide⟩,
    ⟨((up.wr (DEP_STAT_PWRSTATE (0 / 8)) 2).setLock 0 ⟨some 0x040, false⟩), (.engine 0), 0, 0, 0, by decide, by decide, by decide, by decide, by decide⟩,
    ⟨(up.setLock 0 ⟨some 0, false⟩), .supervisor, 0, 0, by decide, by decide, by decide, by decide, by decide⟩,
    ⟨(up.setLock 0 ⟨some 5, false⟩), .supervisor, 0, 1, by decide, by decide, by decide, by decide, by decide⟩,
    ⟨up, .supervisor, 0, 1, by decide, by decide, by decide, by decide, by decide⟩⟩

theorem witness_CanCommandsComplete :
    (∃ (d : Dev) (m : Master) (p : Nat) (v : BitVec 32), d.inReset = false ∧ wellFormed (.txRequest m p v) = true ∧ d.accepts m (row_CAN_TXREQ.last [p])
      v.toNat = true) ∧
    (∃ (d : Dev) (m : Master) (p : Nat) (v : BitVec 32), d.inReset = false ∧ wellFormed (.txAbort m p v) = true ∧ d.accepts m (row_CAN_TXABT.last [p])
      v.toNat = true) ∧
    (∃ (d : Dev) (p : Nat) (b : Nat), d.inReset = false ∧ wellFormed (.attemptStart p) = true ∧ (d.canOf p).joins = true ∧ (d.canOf p).cur = none ∧ d.rd
      (CAN_CTRL_MODE p) ≠ 1 ∧ d.on SUP_STAT_FAULT = false ∧ (d.canOf p).next = none ∧ d.txChoice p = some b) ∧
    (∃ (d : Dev) (p : Nat) (b : Nat), d.inReset = false ∧ wellFormed (.attemptStart p) = true ∧ d.maySend p = true ∧ (d.canOf p).next = some b) ∧
    (∃ (d : Dev) (p : Nat), d.inReset = false ∧ wellFormed (.attemptStart p) = true ∧ d.maySend p = true ∧ (d.canOf p).next = none ∧ d.txChoice p = none) ∧
    (∃ (d : Dev) (p : Nat) (b : Nat), d.inReset = false ∧ wellFormed (.arbitrationLost p) = true ∧ (d.canOf p).cur = some b ∧ (d.canOf p).abort = true) ∧
    (∃ (d : Dev) (p : Nat) (b : Nat), d.inReset = false ∧ wellFormed (.arbitrationLost p) = true ∧ (d.canOf p).cur = some b ∧ (d.canOf p).abort = false) ∧
    (∃ (d : Dev) (p sof tdcv : Nat) (b : Nat), d.inReset = false ∧ wellFormed (.canFrameSent p sof tdcv) = true ∧ (d.canOf p).cur = some b ∧ d.canTdcOver p
      b tdcv = false) ∧
    (∃ (d : Dev) (p : Nat) (f : CanFrame) (sof : Nat), d.inReset = false ∧ wellFormed (.canFrameReceived p f sof) = true ∧ (d.canOf p).joins = true ∧
      (d.canOf p).cur = none ∧ d.on (CAN_STAT_ABRBUSY p) = false ∧ (f.fdf = false ∨ d.on (CAN_CFG_FDEN p) = true)) ∧
    (∃ (d : Dev) (p : Nat) (e : CanErr), d.inReset = false ∧ wellFormed (.canError p e) = true ∧ (d.canOf p).joins = true ∧ (d.canOf p).cur = none ∧ d.on
      (CAN_STAT_ABRBUSY p) = false ∧ e.tx = false ∧ e.lec ≠ 3) ∧
    (∃ (d : Dev) (p : Nat) (e : CanErr) (b : Nat), d.inReset = false ∧ wellFormed (.canError p e) = true ∧ (d.canOf p).joins = true ∧ (d.canOf p).cur =
      some b ∧ d.on (CAN_STAT_ABRBUSY p) = false ∧ e.tx = true ∧ (e.lec ≠ 3 ∨ d.rd (CAN_CTRL_MODE p) ≠ 2)) ∧
    (∃ (d : Dev) (p : Nat), d.inReset = false ∧ wellFormed (.protocolException p) = true ∧ (d.canOf p).joins = true ∧ d.on (CAN_STAT_ABRBUSY p) = false ∧
      d.on (CAN_CFG_PXDIS p) = false) ∧
    (∃ (d : Dev) (p : Nat), d.inReset = false ∧ wellFormed (.canRecessiveWaitEnd p) = true) ∧
    (∃ (d : Dev) (m : Master) (p : Nat) (v : BitVec 32), d.inReset = false ∧ wellFormed (.borec m p v) = true ∧ d.accepts m (row_CAN_CTRL.last [p])
      (withField v 4 1 1).toNat = true ∧ bit (withField v 4 1 1).toNat 3 = false ∧ d.on (CAN_CTRL_EN p) = true ∧ bit (withField v 4 1 1).toNat 0 =
      true ∧ bits (withField v 4 1 1).toNat 1 2 = d.rd (CAN_CTRL_MODE p)) ∧
    (∃ (d : Dev) (p : Nat), d.inReset = false ∧ wellFormed (.busOffRecovered p) = true ∧ (d.canOf p).on = true ∧ (d.canOf p).errState = 2 ∧ (d.canOf
      p).recovering = true) ∧
    (∃ (d : Dev) (m : Master) (p : Nat) (v : BitVec 32), d.inReset = false ∧ wellFormed (.abr m p v) = true ∧ d.accepts m (row_CAN_CTRL.last [p])
      (withField v 3 1 1).toNat = true ∧ bit (withField v 3 1 1).toNat 0 = false ∧ bit (withField v 3 1 1).toNat 4 = false ∧ d.on (CAN_CTRL_EN p) =
      false) ∧
    (∃ (d : Dev) (p : Nat), d.inReset = false ∧ wellFormed (.dwellExpiry p) = true ∧ d.on (CAN_STAT_ABRBUSY p) = true ∧ (d.canOf p).taken + d.rd
      (CAN_ABRCFG_DWELL p) * (1000000 * 65536) ≤ d.tb.lt) ∧
    (∃ (d : Dev) (p : Nat), d.inReset = false ∧ wellFormed (.canPortReset p) = true ∧ d.resetting (0x096 + p)) :=
  ⟨⟨up, .supervisor, 0, 0, by decide, by decide, by decide⟩,
    ⟨up, .supervisor, 0, 0, by decide, by decide, by decide⟩,
    ⟨(((up.put SUP_STAT_FAULT false).wr (CAN_TXBb_STAT_TXST 0 4) txPending).setCan 0 { on := true }), 0, 4, by decide, by decide, by decide, by decide, by
      decide, by decide, by decide, by decide⟩,
    ⟨(up.setCan 0 { on := true, next := some 4 }), 0, 4, by decide, by decide, by decide, by decide⟩,
    ⟨(up.setCan 0 { on := true }), 0, by decide, by decide, by decide, by decide, by decide⟩,
    ⟨(up.setCan 0 { cur := some 4, abort := true }), 0, 4, by decide, by decide, by decide, by decide⟩,
    ⟨(up.setCan 0 { cur := some 4 }), 0, 4, by decide, by decide, by decide, by decide⟩,
    ⟨(up.setCan 0 { cur := some 4 }), 0, 0, 0, 4, by decide, by decide, by decide, by decide⟩,
    ⟨((up.put (CAN_STAT_ABRBUSY 0) false).setCan 0 { on := true }), 0, can0, 0, by decide, by decide, by decide, by decide, by decide, by decide⟩,
    ⟨((up.put (CAN_STAT_ABRBUSY 0) false).setCan 0 { on := true }), 0, canErr0, by decide, by decide, by decide, by decide, by decide, by decide, by
      decide⟩,
    ⟨((up.put (CAN_STAT_ABRBUSY 0) false).setCan 0 { on := true, cur := some 4 }), 0, { canErr0 with tx := true }, 4, by decide, by decide, by decide, by
      decide, by decide, by decide, by decide⟩,
    ⟨(((up.put (CAN_STAT_ABRBUSY 0) false).put (CAN_CFG_PXDIS 0) false).setCan 0 { on := true }), 0, by decide, by decide, by decide, by decide, by
      decide⟩,
    ⟨up, 0, by decide, by decide⟩,
    ⟨(up.put (CAN_CTRL_EN 0) true), .supervisor, 0, 1, by decide, by decide, by decide, by decide, by decide, by decide, by decide⟩,
    ⟨(up.setCan 0 { on := true, txErr := 256, recovering := true }), 0, by decide, by decide, by decide, by decide, by decide⟩,
    ⟨(up.put (CAN_CTRL_EN 0) false), .supervisor, 0, 0, by decide, by decide, by decide, by decide, by decide, by decide⟩,
    ⟨(later (up.put (CAN_STAT_ABRBUSY 0) true)), 0, by decide, by decide, by decide, by decide⟩,
    ⟨((up.put SUP_FNLAST_BUSY true).wr SUP_FNLAST_TARGET (0x096 + 0)), 0, by decide, by decide, ⟨by decide, by decide⟩⟩⟩

theorem witness_StartAndLoaderCommandsComplete :
    (∃ (d : Dev), d.sup.por = true ∧ d.sup.vddLate = false) ∧
    (∃ (d : Dev), d.sup.por = true ∧ d.sup.vddLate = true) ∧
    (∃ (d : Dev), d.sup.por = true) ∧
    (∃ (d : Dev), d.sup.por = false ∧ d.sup.phase ≠ .standby) ∧
    (∃ (d : Dev), d.sup.por = false ∧ d.sup.phase = .standby) ∧
    (∃ (d : Dev), d.sup.phase = .on) ∧
    (∃ (d : Dev), d.sup.phase ≠ .on) ∧
    (∃ (d : Dev) (m : Master), d.inReset = false ∧ wellFormed (.supRst m) = true ∧ d.accepts m (row_SUP_RST.last []) 0x3C000001 = true) ∧
    (∃ (d : Dev), d.sup.por = false ∧ d.sup.phase ≠ .standby) ∧
    (∃ (d : Dev), d.sup.phase = .on) ∧
    (∃ (d : Dev), d.sup.por = false ∧ d.sup.causes ≠ 0 ∧ d.sup.phase = .on ∧ (bit d.sup.causes 8 = false ∨ d.sup.refGood = true)) ∧
    (∃ (d : Dev) (count : Nat), wellFormed (.coarseClockCheck count) = true ∧ d.inReset = false ∧ d.rd LDR_STAT_STATE = 0 ∧ d.on LDR_CLKSTAT_REFOK = false
      ∧ 24414 * 95 ≤ count * 100 ∧ count * 100 ≤ 24414 * 105) ∧
    (∃ (d : Dev) (count : Nat), wellFormed (.coarseClockCheck count) = true ∧ d.inReset = false ∧ d.rd LDR_STAT_STATE = 0 ∧ d.on LDR_CLKSTAT_REFOK = false
      ∧ (count * 100 < 24414 * 95 ∨ 24414 * 105 < count * 100)) ∧
    (∃ (d : Dev), d.inReset = false ∧ d.rd LDR_STAT_STATE = 0 ∧ d.on LDR_CLKSTAT_REFOK = true) ∧
    (∃ (d : Dev) (count : Nat), d.inReset = false ∧ wellFormed (.fineClockCheck count) = true ∧ d.on LDR_CLKSTAT_RCFALL = false ∧ d.on LDR_CLKSTAT_X32OK =
      true ∧ 781094 ≤ count ∧ count ≤ 781406) ∧
    (∃ (d : Dev) (count : Nat), d.inReset = false ∧ wellFormed (.fineClockCheck count) = true ∧ d.on LDR_CLKSTAT_RCFALL = false ∧ d.on LDR_CLKSTAT_X32OK =
      true ∧ (count < 781094 ∨ 781406 < count)) ∧
    (∃ (good : Bool), wellFormed (.xtal32Check good) = true ∧ good = true) ∧
    (∃ (d : Dev) (good : Bool), wellFormed (.xtal32Check good) = true ∧ good = false ∧ d.inReset = false) ∧
    (∃ (d : Dev) (density : Option Nat) (failsA failsB : Nat), d.inReset = false ∧ wellFormed (.norProbe density failsA failsB) = true ∧ d.rd
      LDR_STAT_STATE = 1) ∧
    (∃ (d : Dev) (bytes : Nat) (good : Bool), d.inReset = false ∧ wellFormed (.norBurst bytes good) = true ∧ good = true ∧ d.loading = true) ∧
    (∃ (d : Dev) (bytes : Nat) (good : Bool) (c : NorCmd), d.inReset = false ∧ wellFormed (.norBurst bytes good) = true ∧ good = true ∧ d.cmdReading = some
      c) ∧
    (∃ (d : Dev) (bytes : Nat) (good : Bool), d.inReset = false ∧ wellFormed (.norBurst bytes good) = true ∧ good = false ∧ d.loading = true) ∧
    (∃ (d : Dev) (bytes : Nat) (good : Bool) (c : NorCmd), d.inReset = false ∧ wellFormed (.norBurst bytes good) = true ∧ good = false ∧ d.cmdReading =
      some c) ∧
    (∃ (d : Dev), d.inReset = false ∧ d.loading = true) ∧
    (∃ (d : Dev) (r : Rec) (n : Nat), d.inReset = false ∧ d.atRecord r n 1) ∧
    (∃ (d : Dev) (r : Rec) (n : Nat), d.inReset = false ∧ d.atRecord r n 2) ∧
    (∃ (d : Dev) (r : Rec) (n : Nat), d.inReset = false ∧ d.atRecord r n 3) ∧
    (∃ (d : Dev) (r : Rec) (n : Nat), d.inReset = false ∧ d.atRecord r n 4) ∧
    (∃ (d : Dev) (r : Rec) (n : Nat), d.inReset = false ∧ d.atRecord r n 5) ∧
    (∃ (d : Dev) (r : Rec) (n : Nat), d.inReset = false ∧ d.atRecord r n 6) ∧
    (∃ (d : Dev) (r : Rec) (n typ : Nat), d.inReset = false ∧ d.atRecord r n typ ∧ (typ = 0 ∨ 6 < typ)) ∧
    (∃ (d : Dev) (expired : Bool) (r : Rec) (n i : Nat), d.inReset = false ∧ wellFormed (.poll expired) = true ∧ d.nextRec = some (r, n) ∧ d.ldr.wait =
      some i ∧ ((regEnts (d.payloadOf r))[i]?).any (fun e => e.op == 1) = true) ∧
    (∃ (d : Dev) (r : Rec) (n i : Nat) (e : RegEnt) (es : List RegEnt), d.inReset = false ∧ d.nextRec = some (r, n) ∧ d.ldr.wait = some i ∧ (regEnts
      (d.payloadOf r)).drop i = e :: es ∧ e.op = 2 ∧ d.ldr.waitAt + e.value * (1000 * 65536) ≤ d.tb.lt) ∧
    (∃ (d : Dev), d.inReset = false ∧ d.ldr.rollback = true) ∧
    (∃ (d : Dev), d.inReset = false ∧ d.rd LDR_STAT_STATE = 3 ∧ d.ldr.rollback = false ∧ hdrLength (d.slotHdr (d.rd LDR_STAT_SLOT)) + 128 ≤ d.ldr.got) ∧
    (∃ (d : Dev), d.inReset = false ∧ d.rd LDR_STAT_STATE = 4) ∧
    (∃ (d : Dev) (m : Master) (v : BitVec 32), d.inReset = false ∧ wellFormed (.norRead m v) = true ∧ d.accepts m (row_LDR_NORCMD.last []) (withField v 0 3
      0).toNat = true ∧ 5 ≤ d.rd LDR_STAT_STATE ∧ d.on LDR_NORCMD_BUSY = false) ∧
    (∃ (d : Dev) (m : Master) (v : BitVec 32), d.inReset = false ∧ wellFormed (.norProgram m v) = true ∧ d.accepts m (row_LDR_NORCMD.last []) (withField v
      0 3 1).toNat = true ∧ 5 ≤ d.rd LDR_STAT_STATE ∧ d.on LDR_NORCMD_BUSY = false ∧ (d.rd LDR_STAT_STATE = 5 → d.touchesSlot 1 (d.rd
      LDR_NORADDR_ADDR) (bits (withField v 0 3 1).toNat 8 8 + 1) (d.rd LDR_STAT_SLOT) = false)) ∧
    (∃ (d : Dev) (m : Master) (v : BitVec 32), d.inReset = false ∧ wellFormed (.norErase4k m v) = true ∧ d.accepts m (row_LDR_NORCMD.last []) (withField v
      0 3 2).toNat = true ∧ 5 ≤ d.rd LDR_STAT_STATE ∧ d.on LDR_NORCMD_BUSY = false ∧ (d.rd LDR_STAT_STATE = 5 → d.touchesSlot 2 (d.rd
      LDR_NORADDR_ADDR) (bits (withField v 0 3 2).toNat 8 8 + 1) (d.rd LDR_STAT_SLOT) = false)) ∧
    (∃ (d : Dev) (m : Master) (v : BitVec 32), d.inReset = false ∧ wellFormed (.norErase64k m v) = true ∧ d.accepts m (row_LDR_NORCMD.last []) (withField v
      0 3 3).toNat = true ∧ 5 ≤ d.rd LDR_STAT_STATE ∧ d.on LDR_NORCMD_BUSY = false ∧ (d.rd LDR_STAT_STATE = 5 → d.touchesSlot 3 (d.rd
      LDR_NORADDR_ADDR) (bits (withField v 0 3 3).toNat 8 8 + 1) (d.rd LDR_STAT_SLOT) = false)) ∧
    (∃ (d : Dev) (m : Master) (v : BitVec 32), d.inReset = false ∧ wellFormed (.norCheck m v) = true ∧ d.accepts m (row_LDR_NORCMD.last []) (withField v 0
      3 4).toNat = true ∧ 5 ≤ d.rd LDR_STAT_STATE ∧ d.on LDR_NORCMD_BUSY = false) ∧
    (∃ (d : Dev) (left : Option (List (BitVec 8))) (c : NorCmd), d.inReset = false ∧ wellFormed (.norCommandDone left) = true ∧ left = none ∧ d.ldr.cmd =
      some c ∧ d.on LDR_NORSTAT_INHIB = false ∧ d.on LDR_NORSTAT_SUSP = false) ∧
    (∃ (d : Dev) (left : Option (List (BitVec 8))) (c : NorCmd) (l : List (BitVec 8)), d.inReset = false ∧ wellFormed (.norCommandDone left) = true ∧ left
      = some l ∧ d.ldr.cmd = some c ∧ d.on LDR_NORSTAT_INHIB = false ∧ d.on LDR_NORSTAT_SUSP = false) ∧
    (∃ (d : Dev), d.inReset = false ∧ d.resetting 0x0F9) :=
  ⟨⟨(up.modSup (fun x => { x with por := true })), by decide, by decide⟩,
    ⟨(up.modSup (fun x => { x with por := true, vddLate := true })), by decide, by decide⟩,
    ⟨(up.modSup (fun x => { x with por := true })), by decide⟩,
    ⟨up, by decide, by decide⟩,
    ⟨(up.modSup (fun x => { x with phase := .standby })), by decide, by decide⟩,
    ⟨up, by decide⟩,
    ⟨(up.modSup (fun x => { x with phase := .standby })), by decide⟩,
    ⟨up, .supervisor, by decide, by decide, by decide⟩,
    ⟨up, by decide, by decide⟩,
    ⟨up, by decide⟩,
    ⟨(up.modSup (fun x => { x with causes := 1 })), by decide, by decide, by decide, by decide⟩,
    ⟨State.reset.dev, 24414, by decide, by decide, by decide, by decide, by decide, by decide⟩,
    ⟨State.reset.dev, 20000, by decide, by decide, by decide, by decide, by decide⟩,
    ⟨(State.reset.dev.put LDR_CLKSTAT_REFOK true), by decide, by decide, by decide⟩,
    ⟨((up.put LDR_CLKSTAT_RCFALL false).put LDR_CLKSTAT_X32OK true), 781250, by decide, by decide, by decide, by decide, by decide, by decide⟩,
    ⟨((up.put LDR_CLKSTAT_RCFALL false).put LDR_CLKSTAT_X32OK true), 781407, by decide, by decide, by decide, by decide, by decide⟩,
    ⟨true, by decide, by decide⟩,
    ⟨up, false, by decide, by decide, by decide⟩,
    ⟨(up.wr LDR_STAT_STATE 1), none, 0, 0, by decide, by decide, by decide⟩,
    ⟨(up.wr LDR_STAT_STATE 2), 128, true, by decide, by decide, by decide, by decide⟩,
    ⟨{ up with ldr := { up.ldr with cmd := some norRd0 } }, 128, true, norRd0, by decide, by decide, by decide, by decide⟩,
    ⟨(up.wr LDR_STAT_STATE 2), 128, false, by decide, by decide, by decide, by decide⟩,
    ⟨{ up with ldr := { up.ldr with cmd := some norRd0 } }, 128, false, norRd0, by decide, by decide, by decide, by decide⟩,
    ⟨(up.wr LDR_STAT_STATE 2), by decide, by decide⟩,
    ⟨(rec24 1 [27, 166, 69, 20]), ((rec24 1 [27, 166, 69, 20]).recAt 0 0 128), 1, by decide, ⟨rfl, by decide, by decide, by decide, by decide, by decide,
      by decide⟩⟩,
    ⟨(rec24 2 [220, 190, 129, 77]), ((rec24 2 [220, 190, 129, 77]).recAt 0 0 128), 1, by decide, ⟨rfl, by decide, by decide, by decide, by decide, by
      decide, by decide⟩⟩,
    ⟨(rec24 3 [97, 73, 194, 122]), ((rec24 3 [97, 73, 194, 122]).recAt 0 0 128), 1, by decide, ⟨rfl, by decide, by decide, by decide, by decide, by
      decide, by decide⟩⟩,
    ⟨(rec24 4 [82, 143, 9, 254]), ((rec24 4 [82, 143, 9, 254]).recAt 0 0 128), 1, by decide, ⟨rfl, by decide, by decide, by decide, by decide, by decide,
      by decide⟩⟩,
    ⟨(rec24 5 [239, 120, 74, 201]), ((rec24 5 [239, 120, 74, 201]).recAt 0 0 128), 1, by decide, ⟨rfl, by decide, by decide, by decide, by decide, by
      decide, by decide⟩⟩,
    ⟨(rec24 6 [40, 96, 142, 144]), ((rec24 6 [40, 96, 142, 144]).recAt 0 0 128), 1, by decide, ⟨rfl, by decide, by decide, by decide, by decide, by
      decide, by decide⟩⟩,
    ⟨(rec24 7 [149, 151, 205, 167]), ((rec24 7 [149, 151, 205, 167]).recAt 0 0 128), 1, 7, by decide, ⟨rfl, by decide, by decide, by decide, by decide, by
      decide, by decide⟩, by decide⟩,
    ⟨{ (recEntry 16 [133, 161, 109, 46]) with ldr := { (recEntry 16 [133, 161, 109, 46]).ldr with wait := some 0 } }, false, ((recEntry 16 [133, 161, 109,
      46]).recAt 0 0 128), 1, 0, by decide, by decide, rfl, by decide, by decide⟩,
    ⟨{ (recEntry 32 [228, 21, 113, 177]) with ldr := { (recEntry 32 [228, 21, 113, 177]).ldr with wait := some 0 } }, ((recEntry 32 [228, 21, 113,
      177]).recAt 0 0 128), 1, 0, ⟨0x20000000, 0, 0⟩, [], by decide, rfl, by decide, rfl, by decide, by decide⟩,
    ⟨{ up with ldr := { up.ldr with rollback := true } }, by decide, by decide⟩,
    ⟨((rec24 1 [27, 166, 69, 20]).wr LDR_STAT_STATE 3), by decide, by decide, by decide, by decide⟩,
    ⟨(up.wr LDR_STAT_STATE 4), by decide, by decide⟩,
    ⟨(up.put LDR_NORCMD_BUSY false), .supervisor, 0, by decide, by decide, by decide, by decide, by decide⟩,
    ⟨(up.wr LDR_STAT_STATE 6), .supervisor, 0, by decide, by decide, by decide, by decide, by decide, by decide⟩,
    ⟨(up.wr LDR_STAT_STATE 6), .supervisor, 0, by decide, by decide, by decide, by decide, by decide, by decide⟩,
    ⟨(up.wr LDR_STAT_STATE 6), .supervisor, 0, by decide, by decide, by decide, by decide, by decide, by decide⟩,
    ⟨(up.put LDR_NORCMD_BUSY false), .supervisor, 0, by decide, by decide, by decide, by decide, by decide⟩,
    ⟨{ up with ldr := { up.ldr with cmd := some norCmd0 } }, none, norCmd0, by decide, by decide, by decide, by decide, by decide, by decide⟩,
    ⟨{ up with ldr := { up.ldr with cmd := some norCmd0 } }, (some []), norCmd0, [], by decide, by decide, by decide, by decide, by decide, by decide⟩,
    ⟨((up.put SUP_FNLAST_BUSY true).wr SUP_FNLAST_TARGET 0x0F9), by decide, ⟨by decide, by decide⟩⟩⟩

theorem witness_SupervisorCommandsComplete :
    (∃ (d : Dev) (why : Sag), wellFormed (.writeInhibitStart why) = true ∧ d.sup.por = false) ∧
    (∃ (d : Dev), d.sup.por = false) ∧
    (∃ (d : Dev) (m : Master) (uid : Nat), d.inReset = false ∧ wellFormed (.functionResetRequest m uid) = true ∧ d.accepts m (row_SUP_FNRST.last [])
      (BitVec.ofNat 32 (0xC3000000 + uid)).toNat = true ∧ resettable uid = true ∧ d.on SUP_FNLAST_BUSY = false ∧ uid ≠ 2) ∧
    (∃ (d : Dev), d.inReset = false ∧ d.resetting 0x000) ∧
    (∃ (d : Dev) (m : Master) (v : BitVec 32), d.inReset = false ∧ wellFormed (.faultSet m v) = true ∧ d.accepts m (row_SUP_FAULT.last []) (withField v 8 1
      1).toNat = true ∧ bit (withField v 8 1 1).toNat 9 = false) ∧
    (∃ (d : Dev) (m : Master) (v : BitVec 32), d.inReset = false ∧ wellFormed (.faultClear m v) = true ∧ d.accepts m (row_SUP_FAULT.last []) (withField v 9
      1 1).toNat = true ∧ m = .supervisor ∧ bit (withField v 9 1 1).toNat 0 = false ∧ bit (withField v 9 1 1).toNat 1 = false ∧ bit (withField v 9 1
      1).toNat 4 = false ∧ bit (withField v 9 1 1).toNat 8 = false ∧ d.rd SUP_FAULT_CAUSE = 0 ∧ d.on SUP_STAT_FAULT = true) ∧
    (∃ (d : Dev), d.inReset = false) ∧
    (∃ (d : Dev), d.inReset = false) ∧
    (∃ (d : Dev), d.inReset = false) ∧
    (∃ (d : Dev) (m : Master) (v : BitVec 32), d.inReset = false ∧ wellFormed (.watchdogKick m v) = true ∧ d.accepts m (row_SUP_WDKICK.last []) (withField
      v 24 8 0x96).toNat = true ∧ d.on SUP_WDCFG_EN = true ∧ d.sup.wdKick = none) ∧
    (∃ (d : Dev), d.inReset = false ∧ d.on SUP_WDCFG_EN = true ∧ d.sup.wdOut = false ∧ d.rd SUP_WDCFG_TIMEOUT ≤ d.wdUnits d.sup.wdFrom) ∧
    (∃ (d : Dev), d.inReset = false ∧ d.sup.grace = true ∧ d.sup.graceAt + d.rd SUP_WDGRACE_GRACE * (1000000 * 65536) ≤ d.tb.lt) ∧
    (∃ (d : Dev) (tj : Int), d.inReset = false ∧ wellFormed (.temperatureSample tj) = true) ∧
    (∃ (d : Dev) (m : Master), d.inReset = false ∧ wellFormed (.standby m) = true ∧ d.accepts m (row_SUP_PWR.last []) 0x5A000001 = true ∧ d.sup.phase = .on
      ∧ d.norWriting = false) ∧
    (∃ (d : Dev), d.sup.phase = .entering none) ∧
    (∃ (d : Dev) (src : WakeSrc), d.sup.phase = .entering (some src)) ∧
    (∃ (d : Dev) (src : WakeSrc), wellFormed (.wake src) = true ∧ d.sup.phase = .standby ∧ d.wakeArmed src = true) ∧
    (∃ (d : Dev) (src : WakeSrc), wellFormed (.wake src) = true ∧ d.sup.phase = .entering none ∧ d.wakeArmed src = true) ∧
    (∃ (d : Dev) (m : Master) (v : BitVec 32), d.inReset = false ∧ wellFormed (.clockGateWrite m v) = true ∧ d.accepts m (row_SUP_CGATE.last []) v.toNat =
      true ∧ (List.range 6).any (fun b => bit v.toNat b && !bit (d.rd SUP_CGATE_GATE) b && d.gateInUse b) = false) ∧
    (∃ (d : Dev) (m : Master), d.inReset = false ∧ wellFormed (.supLock m) = true ∧ d.accepts m (row_SUP_LOCK.last []) 1 = true) :=
  ⟨⟨up, .low, by decide, by decide⟩,
    ⟨up, by decide⟩,
    ⟨(up.put SUP_FNLAST_BUSY false), .supervisor, 0x080, by decide, by decide, by decide, by decide, by decide, by decide⟩,
    ⟨((up.put SUP_FNLAST_BUSY true).wr SUP_FNLAST_TARGET 0x000), by decide, ⟨by decide, by decide⟩⟩,
    ⟨up, .supervisor, 0, by decide, by decide, by decide, by decide⟩,
    ⟨(((up.wr SUP_FAULT_CAUSE 0).put SUP_STAT_FAULT true).wr SUP_FAULT_CAUSE 0), .supervisor, 0, by decide, by decide, by decide, by decide, by decide, by
      decide, by decide, by decide, by decide, by decide⟩,
    ⟨up, by decide⟩,
    ⟨up, by decide⟩,
    ⟨up, by decide⟩,
    ⟨(up.put SUP_WDCFG_EN true), .supervisor, 0, by decide, by decide, by decide, by decide, by decide⟩,
    ⟨(later (up.put SUP_WDCFG_EN true)), by decide, by decide, by decide, by decide⟩,
    ⟨(later (up.modSup (fun x => { x with grace := true }))), by decide, by decide, by decide⟩,
    ⟨up, 0, by decide, by decide⟩,
    ⟨up, .supervisor, by decide, by decide, by decide, by decide, by decide⟩,
    ⟨(up.modSup (fun x => { x with phase := .entering none })), by decide⟩,
    ⟨(up.modSup (fun x => { x with phase := .entering (some .rtc) })), .rtc, by decide⟩,
    ⟨(up.modSup (fun x => { x with phase := .standby })), .rstN, by decide, by decide, by decide⟩,
    ⟨((up.put AON_RTCALM_EN true).modSup (fun x => { x with phase := .entering none })), .rtc, by decide, by decide, by decide⟩,
    ⟨up, .supervisor, 0, by decide, by decide, by decide, by decide⟩,
    ⟨up, .supervisor, by decide, by decide, by decide⟩⟩

theorem witness_RecorderCommandsComplete :
    (∃ (d : Dev) (typ src : Nat) (detail : BitVec 32), d.inReset = false ∧ wellFormed (.eventPost typ src detail) = true) ∧
    (∃ (d : Dev) (w : WriteEnd) (r : EvRec), d.inReset = false ∧ wellFormed (.recordWrite w) = true ∧ w = .good ∧ d.rd LDR_STAT_STATE ≠ 0 ∧ d.inhibit =
      false ∧ d.evr.logFail = false ∧ d.evr.dirty = false ∧ d.evr.next = some r) ∧
    (∃ (d : Dev) (w : WriteEnd) (r : EvRec), d.inReset = false ∧ wellFormed (.recordWrite w) = true ∧ w = .bad ∧ d.rd LDR_STAT_STATE ≠ 0 ∧ d.inhibit =
      false ∧ d.evr.logFail = false ∧ d.evr.dirty = false ∧ d.evr.next = some r) ∧
    (∃ (d : Dev) (w : WriteEnd) (r : EvRec), d.inReset = false ∧ wellFormed (.recordWrite w) = true ∧ w = .cut ∧ d.rd LDR_STAT_STATE ≠ 0 ∧ d.inhibit =
      false ∧ d.evr.logFail = false ∧ d.evr.dirty = false ∧ d.evr.next = some r) ∧
    (∃ (d : Dev) (w : WriteEnd) (i : Nat) (r : EvRec), d.inReset = false ∧ wellFormed (.word7Rewrite w) = true ∧ w = .good ∧ d.rd LDR_STAT_STATE ≠ 0 ∧
      d.inhibit = false ∧ d.evr.logFail = false ∧ d.evr.dirty = true ∧ d.evr.last = some (i, r) ∧ d.evr.whole = false) ∧
    (∃ (d : Dev) (w : WriteEnd) (i : Nat) (r : EvRec), d.inReset = false ∧ wellFormed (.word7Rewrite w) = true ∧ w = .bad ∧ d.rd LDR_STAT_STATE ≠ 0 ∧
      d.inhibit = false ∧ d.evr.logFail = false ∧ d.evr.dirty = true ∧ d.evr.last = some (i, r) ∧ d.evr.whole = false) ∧
    (∃ (d : Dev) (w : WriteEnd) (i : Nat) (r : EvRec), d.inReset = false ∧ wellFormed (.word7Rewrite w) = true ∧ w = .good ∧ d.rd LDR_STAT_STATE ≠ 0 ∧
      d.inhibit = false ∧ d.evr.logFail = false ∧ d.evr.dirty = true ∧ d.evr.last = some (i, r) ∧ d.evr.whole = true) ∧
    (∃ (d : Dev) (r : EvRec) (rest : List EvRec), d.inReset = false ∧ d.rd LDR_STAT_STATE ≠ 0 ∧ (d.inhibit = true ∨ d.evr.logFail = true) ∧ d.evr.first =
      none ∧ d.evr.fifo = r :: rest ∧ d.evr.fb.length < 16) ∧
    (∃ (d : Dev), d.sup.por = false ∧ d.sup.phase ≠ .standby) ∧
    (∃ (d : Dev) (m : Master), d.inReset = false ∧ wellFormed (.clear m) = true ∧ d.accepts m (row_EVR_CTRL.last []) 0xE5000001 = true) ∧
    (∃ (d : Dev) (m : Master), d.inReset = false ∧ wellFormed (.retest m) = true ∧ d.accepts m (row_EVR_CTRL.last []) 0xE5000002 = true) ∧
    (∃ (d : Dev) (m : Master) (v : BitVec 32), d.inReset = false ∧ wellFormed (.inject m v) = true ∧ d.accepts m (row_EVR_INJECT.last []) v.toNat = true) ∧
    (∃ (d : Dev) (m : Master) (v : BitVec 32), d.inReset = false ∧ wellFormed (.injectDataStage m v) = true ∧ d.accepts m (row_EVR_INJDATA.last []) v.toNat
      = true) ∧
    (∃ (d : Dev), d.inReset = false ∧ d.resetting 0x0F8) :=
  ⟨⟨up, 0x0901, 0x0A3, 0, by decide, by decide⟩,
    ⟨{ up with evr := { up.evr with fb := [ev0] } }, .good, ev0, by decide, by decide, by decide, by decide, by decide, by decide, by decide, by decide⟩,
    ⟨{ up with evr := { up.evr with fb := [ev0] } }, .bad, ev0, by decide, by decide, by decide, by decide, by decide, by decide, by decide, by decide⟩,
    ⟨{ up with evr := { up.evr with fb := [ev0] } }, .cut, ev0, by decide, by decide, by decide, by decide, by decide, by decide, by decide, by decide⟩,
    ⟨{ up with evr := { up.evr with dirty := true, whole := false, last := some (3, ev0) } }, .good, 3, ev0, by decide, by decide, by decide, by decide,
      by decide, by decide, by decide, by decide, by decide⟩,
    ⟨{ up with evr := { up.evr with dirty := true, whole := false, last := some (3, ev0) } }, .bad, 3, ev0, by decide, by decide, by decide, by decide, by
      decide, by decide, by decide, by decide, by decide⟩,
    ⟨{ up with evr := { up.evr with dirty := true, whole := true, last := some (3, ev0) } }, .good, 3, ev0, by decide, by decide, by decide, by decide, by
      decide, by decide, by decide, by decide, by decide⟩,
    ⟨{ (up.put EVR_STAT_INHIB true) with evr := { up.evr with fifo := [ev0] } }, ev0, [], by decide, by decide, by decide, by decide, by decide, by
      decide⟩,
    ⟨up, by decide, by decide⟩,
    ⟨up, .supervisor, by decide, by decide, by decide⟩,
    ⟨up, .supervisor, by decide, by decide, by decide⟩,
    ⟨up, .supervisor, 0, by decide, by decide, by decide⟩,
    ⟨up, .supervisor, 0, by decide, by decide, by decide⟩,
    ⟨((up.put SUP_FNLAST_BUSY true).wr SUP_FNLAST_TARGET 0x0F8), by decide, ⟨by decide, by decide⟩⟩⟩

theorem witness_HostInterfaceCommandsComplete :
    (∃ (d : Dev) (c : PcieChange) (rate width : Nat), wellFormed (.pcieLinkChange c rate width) = true ∧ c = .up ∧ d.inReset = false ∧ d.perstHeld = false) ∧
    (∃ (d : Dev) (c : PcieChange) (rate width : Nat), wellFormed (.pcieLinkChange c rate width) = true ∧ c = .down ∧ d.inReset = false) ∧
    (∃ (c : PcieChange) (rate width : Nat) (low : Bool), wellFormed (.pcieLinkChange c rate width) = true ∧ c = .perst low) ∧
    (∃ (c : PcieChange) (rate width : Nat) (there : Bool), wellFormed (.pcieLinkChange c rate width) = true ∧ c = .ioB there) ∧
    (∃ (d : Dev) (byFn : Bool), d.inReset = false ∧ wellFormed (.flr byFn) = true ∧ byFn = false) ∧
    (∃ (d : Dev) (byFn : Bool), d.inReset = false ∧ wellFormed (.flr byFn) = true ∧ byFn = true ∧ d.resetting 0x001) ∧
    (∃ (d : Dev) (v : Nat), d.inReset = false ∧ wellFormed (.msixPost v) = true ∧ d.vecPending v = false ∧ d.vecOpen v = true ∧ tget d.hif.posted v ≠ some
      d.tb.lt) ∧
    (∃ (d : Dev) (v : Nat), d.inReset = false ∧ wellFormed (.msixPost v) = true ∧ d.vecPending v = false ∧ d.vecOpen v = false) ∧
    (∃ (d : Dev) (v : Nat), d.inReset = false ∧ wellFormed (.msixPost v) = true ∧ d.vecPending v = true) ∧
    (∃ (d : Dev) (c : HostCfg) (v addr data : Nat) (masked : Bool), d.inReset = false ∧ wellFormed (.msixUnmask c) = true ∧ c = .entry v addr data masked) ∧
    (∃ (d : Dev) (c : HostCfg), d.inReset = false ∧ wellFormed (.msixUnmask c) = true) ∧
    (∃ (d : Dev) (m : Master) (c : Nat) (rx : Bool) (v : BitVec 32), d.inReset = false ∧ wellFormed (.ringTailWrite m c rx v) = true ∧ rx = false ∧
      d.accepts m (row_HIF_CHc_CTAIL.last [c]) v.toNat = true ∧ (v.toNat % 65536 + 65536 - d.ringHead c rx) % 65536 ≤ d.ringSize c rx) ∧
    (∃ (d : Dev) (m : Master) (c : Nat) (rx : Bool) (v : BitVec 32), d.inReset = false ∧ wellFormed (.ringTailWrite m c rx v) = true ∧ rx = true ∧
      d.accepts m (row_HIF_CHc_RTAIL.last [c]) v.toNat = true ∧ (v.toNat % 65536 + 65536 - d.ringHead c rx) % 65536 ≤ d.ringSize c rx) ∧
    (∃ (d : Dev) (c : Nat) (rx : Bool) (answer : Option (List (BitVec 8))), d.inReset = false ∧ wellFormed (.descriptorFetch c rx answer) = true ∧ d.on
      (HIF_CHc_CTRL_EN c) = true ∧ d.on (HIF_CHc_STAT_HALTED c) = false ∧ d.ringHead c rx ≠ d.ringTail c rx) ∧
    (∃ (d : Dev) (c : Nat) (err : Option Nat) (h : HDesc), d.inReset = false ∧ wellFormed (.dmaRead c err) = true ∧ d.cmdHead c 0 = some h) ∧
    (∃ (d : Dev) (c : Nat) (data : List (BitVec 8)) (h : HDesc), d.inReset = false ∧ wellFormed (.dmaWrite c data) = true ∧ d.cmdHead c 1 = some h) ∧
    (∃ (d : Dev) (c : Nat) (data : List (BitVec 8)) (h : HDesc), d.inReset = false ∧ wellFormed (.dmaTx c data) = true ∧ d.cmdHead c 2 = some h) ∧
    (∃ (d : Dev) (c : Nat) (err : Option Nat) (h : HDesc) (l : List Byte × Nat) (r : List (HDesc × List Byte × Nat)), d.inReset = false ∧ wellFormed
      (.rxbuf c err) = true ∧ (d.chan c).deliver = (h, l) :: r ∧ (d.chan c).busy = none ∧ (d.chan c).rows = [] ∧ d.on (HIF_CHc_CTRL_EN c) = true) ∧
    (∃ (d : Dev) (c : Nat) (err : Option Nat) (r : RowXfer) (rest : List RowXfer), d.inReset = false ∧ wellFormed (.rowTransfer c err) = true ∧ (d.chan
      c).rows = r :: rest ∧ (d.chan c).busy = none ∧ d.on (HIF_CHc_CTRL_EN c) = true ∧ d.on (HIF_CHc_STAT_HALTED c) = false) ∧
    (∃ (d : Dev) (c : Nat) (h : HDesc) (st rs n : Nat), d.inReset = false ∧ wellFormed (.dmaTransferComplete c) = true ∧ (d.chan c).busy = some (.desc h st
      rs n)) ∧
    (∃ (d : Dev) (c : Nat), d.inReset = false ∧ wellFormed (.channelReset c) = true ∧ d.resetting (0x008 + c)) ∧
    (∃ (d : Dev) (l : List (BitVec 8)) (ws : List Nat), d.inReset = false ∧ wellFormed (.spiRead l) = true ∧ d.sup.ioB = true ∧ spiCrcOk l = true ∧
      d.spiShut (spiOff l) (spiField l + 1) = false ∧ (d.spiReads (spiOff l) (spiField l + 1)).2 = some ws) ∧
    (∃ (d : Dev) (l : List (BitVec 8)), d.inReset = false ∧ wellFormed (.spiWrite l) = true ∧ d.sup.ioB = true ∧ spiCrcOk l = true ∧ d.spiShut (spiOff l)
      (spiField l + 1) = false ∧ (d.spiWrites (spiOff l) ((List.range (spiField l + 1)).map (fun i => fieldAt l (4 + 4 * i) 4))).2 = true) ∧
    (∃ (d : Dev) (l : List (BitVec 8)), d.inReset = false ∧ wellFormed (.spiReset l) = true ∧ d.sup.ioB = true ∧ spiCrcOk l = true ∧ spiField l = 0 ∧
      fieldAt l 1 3 = 0x00003C) ∧
    (∃ (d : Dev) (l : List (BitVec 8)), d.inReset = false ∧ wellFormed (.spiFrameDiscard l) = true ∧ d.sup.ioB = true ∧ ¬ (5 ≤ l.length ∧ !(spiCmd l == 1
      || spiCmd l == 2 || spiCmd l == 4))) ∧
    (∃ (d : Dev) (l : List (BitVec 8)), d.inReset = false ∧ wellFormed (.spiFrameDiscard l) = true ∧ d.sup.ioB = true ∧ 5 ≤ l.length ∧ (spiCmd l == 1 ||
      spiCmd l == 2 || spiCmd l == 4) = false) ∧
    (∃ (d : Dev) (cells : List (Option Bool)), wellFormed (.extest cells) = true ∧ d.padsB = true) ∧
    (∃ (d : Dev) (cells : List (Option Bool)), wellFormed (.samplePreload cells) = true ∧ d.padsB = true) ∧
    (∃ (d : Dev), d.padsB = true) ∧
    (∃ (d : Dev), d.padsB = true) ∧
    (∃ (d : Dev), d.padsB = true) ∧
    (∃ (d : Dev) (code : Nat), wellFormed (.bypass code) = true ∧ d.padsB = true) ∧
    (∃ (d : Dev) (v : BitVec 64), wellFormed (.dbgacc v) = true ∧ d.padsB = true ∧ d.jtag.done = true ∧ d.inReset = false ∧ bit v.toNat 63 = true) ∧
    (∃ (d : Dev) (v : BitVec 64), wellFormed (.dbgacc v) = true ∧ d.padsB = true ∧ d.jtag.done = true ∧ d.inReset = false ∧ bit v.toNat 63 = false) :=
  ⟨⟨(io up), .up, 2, 4, by decide, by decide, by decide, by decide⟩,
    ⟨up, .down, 2, 4, by decide, by decide, by decide⟩,
    ⟨(.perst true), 2, 4, true, by decide, by decide⟩,
    ⟨(.ioB true), 2, 4, true, by decide, by decide⟩,
    ⟨up, false, by decide, by decide, by decide⟩,
    ⟨((up.put SUP_FNLAST_BUSY true).wr SUP_FNLAST_TARGET 0x001), true, by decide, by decide, by decide, ⟨by decide, by decide⟩⟩,
    ⟨{ (up.put HIF_STAT_LINK true) with hif := { up.hif with busMaster := true, fnMask := false, vectors := [(0, { addr := 0, data := 0, masked := false })] } },
      0, by decide, by decide, by decide, by decide, by decide⟩,
    ⟨up, 0, by decide, by decide, by decide, by decide⟩,
    ⟨(up.wr (HIF_PENDi_PEND 0) 1), 0, by decide, by decide, by decide⟩,
    ⟨up, (.entry 0 0 0 false), 0, 0, 0, false, by decide, by decide, by decide⟩,
    ⟨up, (.entry 0 0 0 false), by decide, by decide⟩,
    ⟨up, .supervisor, 0, false, 0, by decide, by decide, by decide, by decide, by decide⟩,
    ⟨up, .supervisor, 0, true, 0, by decide, by decide, by decide, by decide, by decide⟩,
    ⟨(((up.put (HIF_CHc_CTRL_EN 0) true).put (HIF_CHc_STAT_HALTED 0) false).wr (HIF_CHc_CTAIL_TAIL 0) 1), 0, false, none, by decide, by decide, by decide,
      by decide, by decide⟩,
    ⟨(chanCmd 0), 0, none, { hd0 with w0 := 0 }, by decide, by decide, by decide⟩,
    ⟨(chanCmd 1), 0, [], { hd0 with w0 := 1 }, by decide, by decide, by decide⟩,
    ⟨(chanCmd 2), 0, [], { hd0 with w0 := 2 }, by decide, by decide, by decide⟩,
    ⟨((up.put (HIF_CHc_CTRL_EN 0) true).setChan 0 { deliver := [(hd0, [], 0)] }), 0, none, hd0, ([], 0), [], by decide, by decide, by decide, by decide,
      by decide, by decide⟩,
    ⟨(((up.put (HIF_CHc_CTRL_EN 0) true).put (HIF_CHc_STAT_HALTED 0) false).setChan 0 { rows := [row0] }), 0, none, row0, [], by decide, by decide, by
      decide, by decide, by decide, by decide⟩,
    ⟨(up.setChan 0 { busy := some (.desc hd0 1 0 0) }), 0, hd0, 1, 0, 0, by decide, by decide, by decide⟩,
    ⟨((up.put SUP_FNLAST_BUSY true).wr SUP_FNLAST_TARGET (0x008 + 0)), 0, by decide, by decide, ⟨by decide, by decide⟩⟩,
    ⟨(io up), spiR, _, by first | rfl | decide, by first | rfl | decide, by first | rfl | decide, by first | rfl | decide, by first | rfl | decide, by
      first | rfl | decide⟩,
    ⟨(io up), spiW, by decide, by decide, by decide, by decide, by decide, by decide⟩,
    ⟨(io up), spiX, by decide, by decide, by decide, by decide, by decide, by decide⟩,
    ⟨(io up), [32, 0], by decide, by decide, by decide, by decide⟩,
    ⟨(io up), [0, 0, 0, 0, 0], by decide, by decide, by decide, by decide, by decide⟩,
    ⟨(io up), (List.replicate scanCells none), by decide, by decide⟩,
    ⟨(io up), (List.replicate scanCells none), by decide, by decide⟩,
    ⟨(io up), by decide⟩,
    ⟨(io up), by decide⟩,
    ⟨(io up), by decide⟩,
    ⟨(io up), 31, by decide, by decide⟩,
    ⟨{ (io up) with jtag := { up.jtag with done := true } }, 0x8000000000000000, by decide, by decide, by decide, by decide, by decide⟩,
    ⟨{ (io up) with jtag := { up.jtag with done := true } }, 0, by decide, by decide, by decide, by decide, by decide⟩⟩

theorem witness_EngineArithmeticCompletes :
    (∃ (d : Dev) (w : Word) (D A B : Nat), d.fetches 0 (fetched d) w ∧ decodeWord w.toNat = .long .add (.alu .add D A B)) ∧
    (∃ (d : Dev) (w : Word) (D A B : Nat), d.fetches 0 (fetched d) w ∧ decodeWord w.toNat = .long .addc (.alu .addc D A B)) ∧
    (∃ (d : Dev) (w : Word) (D A B : Nat), d.fetches 0 (fetched d) w ∧ decodeWord w.toNat = .long .sub (.alu .sub D A B)) ∧
    (∃ (d : Dev) (w : Word) (D A B : Nat), d.fetches 0 (fetched d) w ∧ decodeWord w.toNat = .long .subb (.alu .subb D A B)) ∧
    (∃ (d : Dev) (w : Word) (D A B : Nat), d.fetches 0 (fetched d) w ∧ decodeWord w.toNat = .long .cmp (.alu .cmp D A B)) ∧
    (∃ (d : Dev) (w : Word) (D A B : Nat), d.fetches 0 (fetched d) w ∧ decodeWord w.toNat = .long .adds (.alu .adds D A B)) ∧
    (∃ (d : Dev) (w : Word) (D A B : Nat), d.fetches 0 (fetched d) w ∧ decodeWord w.toNat = .long .subs (.alu .subs D A B)) ∧
    (∃ (d : Dev) (w : Word) (D A B : Nat), d.fetches 0 (fetched d) w ∧ decodeWord w.toNat = .long .addus (.alu .addus D A B)) ∧
    (∃ (d : Dev) (w : Word) (D A B : Nat), d.fetches 0 (fetched d) w ∧ decodeWord w.toNat = .long .subus (.alu .subus D A B)) ∧
    (∃ (d : Dev) (w : Word) (D A B : Nat), d.fetches 0 (fetched d) w ∧ decodeWord w.toNat = .long .neg (.alu .neg D A B)) ∧
    (∃ (d : Dev) (w : Word) (D A : Nat) (imm : Word), d.fetches 0 (fetched d) w ∧ decodeWord w.toNat = .long .addi (.aluImm .add D A imm)) ∧
    (∃ (d : Dev) (w : Word) (D A : Nat) (imm : Word), d.fetches 0 (fetched d) w ∧ decodeWord w.toNat = .long .cmpi (.aluImm .cmp D A imm)) ∧
    (∃ (d : Dev) (w : Word) (D A B : Nat), d.fetches 0 (fetched d) w ∧ decodeWord w.toNat = .long .mulu (.alu .mulu D A B)) ∧
    (∃ (d : Dev) (w : Word) (D A B : Nat), d.fetches 0 (fetched d) w ∧ decodeWord w.toNat = .long .muls (.alu .muls D A B)) ∧
    (∃ (d : Dev) (w : Word) (D A B : Nat), d.fetches 0 (fetched d) w ∧ decodeWord w.toNat = .long .divu (.alu .divu D A B) ∧ (((fetched d).eng 0).reg B ≠ 0
      ∨ ((fetched d).eng 0).fl.dzt = false)) ∧
    (∃ (d : Dev) (w : Word) (D A B : Nat), d.fetches 0 (fetched d) w ∧ decodeWord w.toNat = .long .divs (.alu .divs D A B) ∧ (((fetched d).eng 0).reg B ≠ 0
      ∨ ((fetched d).eng 0).fl.dzt = false)) :=
  ⟨⟨(engAt 0x2000000), 0x2000000, 0, 0, 0, fetches_engAt (by decide) (by decide) (by decide) (by decide) (by decide), by decide⟩,
    ⟨(engAt 0x4000000), 0x4000000, 0, 0, 0, fetches_engAt (by decide) (by decide) (by decide) (by decide) (by decide), by decide⟩,
    ⟨(engAt 0x6000000), 0x6000000, 0, 0, 0, fetches_engAt (by decide) (by decide) (by decide) (by decide) (by decide), by decide⟩,
    ⟨(engAt 0x8000000), 0x8000000, 0, 0, 0, fetches_engAt (by decide) (by decide) (by decide) (by decide) (by decide), by decide⟩,
    ⟨(engAt 0x2c000000), 0x2c000000, 0, 0, 0, fetches_engAt (by decide) (by decide) (by decide) (by decide) (by decide), by decide⟩,
    ⟨(engAt 0x1c000000), 0x1c000000, 0, 0, 0, fetches_engAt (by decide) (by decide) (by decide) (by decide) (by decide), by decide⟩,
    ⟨(engAt 0x1e000000), 0x1e000000, 0, 0, 0, fetches_engAt (by decide) (by decide) (by decide) (by decide) (by decide), by decide⟩,
    ⟨(engAt 0x20000000), 0x20000000, 0, 0, 0, fetches_engAt (by decide) (by decide) (by decide) (by decide) (by decide), by decide⟩,
    ⟨(engAt 0x22000000), 0x22000000, 0, 0, 0, fetches_engAt (by decide) (by decide) (by decide) (by decide) (by decide), by decide⟩,
    ⟨(engAt 0x46000400), 0x46000400, 0, 0, 0, fetches_engAt (by decide) (by decide) (by decide) (by decide) (by decide), by decide⟩,
    ⟨(engAt 0x30000000), 0x30000000, 0, 0, 0x00000000#32, fetches_engAt (by decide) (by decide) (by decide) (by decide) (by decide), by decide⟩,
    ⟨(engAt 0x3a000000), 0x3a000000, 0, 0, 0x00000000#32, fetches_engAt (by decide) (by decide) (by decide) (by decide) (by decide), by decide⟩,
    ⟨(engAt 0x24000000), 0x24000000, 0, 0, 0, fetches_engAt (by decide) (by decide) (by decide) (by decide) (by decide), by decide⟩,
    ⟨(engAt 0x26000000), 0x26000000, 0, 0, 0, fetches_engAt (by decide) (by decide) (by decide) (by decide) (by decide), by decide⟩,
    ⟨(engAt 0x28000000), 0x28000000, 0, 0, 0, fetches_engAt (by decide) (by decide) (by decide) (by decide) (by decide), by decide, by decide⟩,
    ⟨(engAt 0x2a000000), 0x2a000000, 0, 0, 0, fetches_engAt (by decide) (by decide) (by decide) (by decide) (by decide), by decide, by decide⟩⟩

theorem witness_EngineLogicCompletes :
    (∃ (d : Dev) (w : Word) (D A B : Nat), d.fetches 0 (fetched d) w ∧ decodeWord w.toNat = .long .and (.alu .and D A B)) ∧
    (∃ (d : Dev) (w : Word) (D A B : Nat), d.fetches 0 (fetched d) w ∧ decodeWord w.toNat = .long .or (.alu .or D A B)) ∧
    (∃ (d : Dev) (w : Word) (D A B : Nat), d.fetches 0 (fetched d) w ∧ decodeWord w.toNat = .long .xor (.alu .xor D A B)) ∧
    (∃ (d : Dev) (w : Word) (D A B : Nat), d.fetches 0 (fetched d) w ∧ decodeWord w.toNat = .long .andn (.alu .andn D A B)) ∧
    (∃ (d : Dev) (w : Word) (D A B : Nat), d.fetches 0 (fetched d) w ∧ decodeWord w.toNat = .long .tst (.alu .tst D A B)) ∧
    (∃ (d : Dev) (w : Word) (D A B : Nat), d.fetches 0 (fetched d) w ∧ decodeWord w.toNat = .long .mov (.alu .mov D A B)) ∧
    (∃ (d : Dev) (w : Word) (D A B : Nat), d.fetches 0 (fetched d) w ∧ decodeWord w.toNat = .long .not (.alu .not D A B)) ∧
    (∃ (d : Dev) (w : Word) (D A : Nat) (imm : Word), d.fetches 0 (fetched d) w ∧ decodeWord w.toNat = .long .andi (.aluImm .and D A imm)) ∧
    (∃ (d : Dev) (w : Word) (D A : Nat) (imm : Word), d.fetches 0 (fetched d) w ∧ decodeWord w.toNat = .long .ori (.aluImm .or D A imm)) ∧
    (∃ (d : Dev) (w : Word) (D A : Nat) (imm : Word), d.fetches 0 (fetched d) w ∧ decodeWord w.toNat = .long .xori (.aluImm .xor D A imm)) ∧
    (∃ (d : Dev) (w : Word) (D : Nat) (imm : Word), d.fetches 0 (fetched d) w ∧ decodeWord w.toNat = .long .movl (.move D imm)) ∧
    (∃ (d : Dev) (w : Word) (D imm : Nat), d.fetches 0 (fetched d) w ∧ decodeWord w.toNat = .long .movh (.moveHigh D imm)) ∧
    (∃ (d : Dev) (w : Word) (D A B : Nat), d.fetches 0 (fetched d) w ∧ decodeWord w.toNat = .long .shl (.alu (.shift .shl) D A B)) ∧
    (∃ (d : Dev) (w : Word) (D A B : Nat), d.fetches 0 (fetched d) w ∧ decodeWord w.toNat = .long .shr (.alu (.shift .shr) D A B)) ∧
    (∃ (d : Dev) (w : Word) (D A B : Nat), d.fetches 0 (fetched d) w ∧ decodeWord w.toNat = .long .sar (.alu (.shift .sar) D A B)) ∧
    (∃ (d : Dev) (w : Word) (D A B : Nat), d.fetches 0 (fetched d) w ∧ decodeWord w.toNat = .long .rol (.alu (.shift .rol) D A B)) ∧
    (∃ (d : Dev) (w : Word) (D A B : Nat), d.fetches 0 (fetched d) w ∧ decodeWord w.toNat = .long .ror (.alu (.shift .ror) D A B)) ∧
    (∃ (d : Dev) (w : Word) (D A : Nat) (imm : Word) (k : ShiftKind), d.fetches 0 (fetched d) w ∧ decodeWord w.toNat = .long .shi (.aluImm (.shift k) D A
      imm)) ∧
    (∃ (d : Dev) (w : Word) (D A pos len : Nat) (s : Bool), d.fetches 0 (fetched d) w ∧ decodeWord w.toNat = .long .bfx (.extract D A pos len s)) ∧
    (∃ (d : Dev) (w : Word) (D A pos len : Nat), d.fetches 0 (fetched d) w ∧ decodeWord w.toNat = .long .bfi (.insert D A pos len)) :=
  ⟨⟨(engAt 0xa000000), 0xa000000, 0, 0, 0, fetches_engAt (by decide) (by decide) (by decide) (by decide) (by decide), by decide⟩,
    ⟨(engAt 0xc000000), 0xc000000, 0, 0, 0, fetches_engAt (by decide) (by decide) (by decide) (by decide) (by decide), by decide⟩,
    ⟨(engAt 0xe000000), 0xe000000, 0, 0, 0, fetches_engAt (by decide) (by decide) (by decide) (by decide) (by decide), by decide⟩,
    ⟨(engAt 0x10000000), 0x10000000, 0, 0, 0, fetches_engAt (by decide) (by decide) (by decide) (by decide) (by decide), by decide⟩,
    ⟨(engAt 0x2e000000), 0x2e000000, 0, 0, 0, fetches_engAt (by decide) (by decide) (by decide) (by decide) (by decide), by decide⟩,
    ⟨(engAt 0x46000000), 0x46000000, 0, 0, 0, fetches_engAt (by decide) (by decide) (by decide) (by decide) (by decide), by decide⟩,
    ⟨(engAt 0x46000200), 0x46000200, 0, 0, 0, fetches_engAt (by decide) (by decide) (by decide) (by decide) (by decide), by decide⟩,
    ⟨(engAt 0x32000000), 0x32000000, 0, 0, 0x00000000#32, fetches_engAt (by decide) (by decide) (by decide) (by decide) (by decide), by decide⟩,
    ⟨(engAt 0x34000000), 0x34000000, 0, 0, 0x00000000#32, fetches_engAt (by decide) (by decide) (by decide) (by decide) (by decide), by decide⟩,
    ⟨(engAt 0x36000000), 0x36000000, 0, 0, 0x00000000#32, fetches_engAt (by decide) (by decide) (by decide) (by decide) (by decide), by decide⟩,
    ⟨(engAt 0x3c000000), 0x3c000000, 0, 0x00000000#32, fetches_engAt (by decide) (by decide) (by decide) (by decide) (by decide), by decide⟩,
    ⟨(engAt 0x3e000000), 0x3e000000, 0, 0, fetches_engAt (by decide) (by decide) (by decide) (by decide) (by decide), by decide⟩,
    ⟨(engAt 0x12000000), 0x12000000, 0, 0, 0, fetches_engAt (by decide) (by decide) (by decide) (by decide) (by decide), by decide⟩,
    ⟨(engAt 0x14000000), 0x14000000, 0, 0, 0, fetches_engAt (by decide) (by decide) (by decide) (by decide) (by decide), by decide⟩,
    ⟨(engAt 0x16000000), 0x16000000, 0, 0, 0, fetches_engAt (by decide) (by decide) (by decide) (by decide) (by decide), by decide⟩,
    ⟨(engAt 0x18000000), 0x18000000, 0, 0, 0, fetches_engAt (by decide) (by decide) (by decide) (by decide) (by decide), by decide⟩,
    ⟨(engAt 0x1a000000), 0x1a000000, 0, 0, 0, fetches_engAt (by decide) (by decide) (by decide) (by decide) (by decide), by decide⟩,
    ⟨(engAt 0x38000000), 0x38000000, 0, 0, 0x00000000#32, .shl, fetches_engAt (by decide) (by decide) (by decide) (by decide) (by decide), by decide⟩,
    ⟨(engAt 0x40000000), 0x40000000, 0, 0, 0, 1, false, fetches_engAt (by decide) (by decide) (by decide) (by decide) (by decide), by decide⟩,
    ⟨(engAt 0x42000000), 0x42000000, 0, 0, 0, 1, fetches_engAt (by decide) (by decide) (by decide) (by decide) (by decide), by decide⟩⟩

theorem witness_EngineHelpersComplete :
    (∃ (d : Dev) (w : Word) (D A B : Nat) (n : Nat), d.fetches 0 (fetched d) w ∧ decodeWord w.toNat = .long .crc32 (.alu (.crcEthernet n) D A B)) ∧
    (∃ (d : Dev) (w : Word) (D A B : Nat) (n : Nat), d.fetches 0 (fetched d) w ∧ decodeWord w.toNat = .long .crc32c (.alu (.crcCastagnoli n) D A B)) ∧
    (∃ (d : Dev) (w : Word) (D A B : Nat) (n : Nat), d.fetches 0 (fetched d) w ∧ decodeWord w.toNat = .long .crc16 (.alu (.crcCcitt n) D A B)) ∧
    (∃ (d : Dev) (w : Word) (D A B : Nat), d.fetches 0 (fetched d) w ∧ decodeWord w.toNat = .long .ocadd (.alu .ocadd D A B)) ∧
    (∃ (d : Dev) (w : Word) (D A B : Nat), d.fetches 0 (fetched d) w ∧ decodeWord w.toNat = .long .bswap (.alu .bswap D A B)) ∧
    (∃ (d : Dev) (w : Word) (D A B : Nat), d.fetches 0 (fetched d) w ∧ decodeWord w.toNat = .long .bswap16 (.alu .bswap16 D A B)) ∧
    (∃ (d : Dev) (w : Word) (D A B : Nat), d.fetches 0 (fetched d) w ∧ decodeWord w.toNat = .long .clz (.alu .clz D A B)) ∧
    (∃ (d : Dev) (w : Word) (D A B : Nat), d.fetches 0 (fetched d) w ∧ decodeWord w.toNat = .long .berlen (.alu .berlen D A B)) :=
  ⟨⟨(engAt 0x44000000), 0x44000000, 0, 0, 0, 1, fetches_engAt (by decide) (by decide) (by decide) (by decide) (by decide), by decide⟩,
    ⟨(engAt 0x44000200), 0x44000200, 0, 0, 0, 1, fetches_engAt (by decide) (by decide) (by decide) (by decide) (by decide), by decide⟩,
    ⟨(engAt 0x44000400), 0x44000400, 0, 0, 0, 1, fetches_engAt (by decide) (by decide) (by decide) (by decide) (by decide), by decide⟩,
    ⟨(engAt 0x44000600), 0x44000600, 0, 0, 0, fetches_engAt (by decide) (by decide) (by decide) (by decide) (by decide), by decide⟩,
    ⟨(engAt 0x44000800), 0x44000800, 0, 0, 0, fetches_engAt (by decide) (by decide) (by decide) (by decide) (by decide), by decide⟩,
    ⟨(engAt 0x44000a00), 0x44000a00, 0, 0, 0, fetches_engAt (by decide) (by decide) (by decide) (by decide) (by decide), by decide⟩,
    ⟨(engAt 0x44000c00), 0x44000c00, 0, 0, 0, fetches_engAt (by decide) (by decide) (by decide) (by decide) (by decide), by decide⟩,
    ⟨(engAt 0x44000e00), 0x44000e00, 0, 0, 0, fetches_engAt (by decide) (by decide) (by decide) (by decide) (by decide), by decide⟩⟩

theorem witness_EngineMemoryAndPortsComplete :
    (∃ (d : Dev) (w : Word) (D A : Nat) (off : Word) (d2 : Dev) (l : List Byte), d.fetches 0 (fetched d) w ∧ decodeWord w.toNat = .long .ldb (.load 1 false
      D A off) ∧ ((fetched d).engNext 0).dataAccess 0 1 (((fetched d).eng 0).reg A + off) none = (d2, .ok l)) ∧
    (∃ (d : Dev) (w : Word) (D A : Nat) (off : Word) (d2 : Dev) (l : List Byte), d.fetches 0 (fetched d) w ∧ decodeWord w.toNat = .long .ldbs (.load 1 true
      D A off) ∧ ((fetched d).engNext 0).dataAccess 0 1 (((fetched d).eng 0).reg A + off) none = (d2, .ok l)) ∧
    (∃ (d : Dev) (w : Word) (D A : Nat) (off : Word) (d2 : Dev) (l : List Byte), d.fetches 0 (fetched d) w ∧ decodeWord w.toNat = .long .ldh (.load 2 false
      D A off) ∧ ((fetched d).engNext 0).dataAccess 0 2 (((fetched d).eng 0).reg A + off) none = (d2, .ok l)) ∧
    (∃ (d : Dev) (w : Word) (D A : Nat) (off : Word) (d2 : Dev) (l : List Byte), d.fetches 0 (fetched d) w ∧ decodeWord w.toNat = .long .ldhs (.load 2 true
      D A off) ∧ ((fetched d).engNext 0).dataAccess 0 2 (((fetched d).eng 0).reg A + off) none = (d2, .ok l)) ∧
    (∃ (d : Dev) (w : Word) (D A : Nat) (off : Word) (d2 : Dev) (l : List Byte), d.fetches 0 (fetched d) w ∧ decodeWord w.toNat = .long .ldw (.load 4 false
      D A off) ∧ ((fetched d).engNext 0).dataAccess 0 4 (((fetched d).eng 0).reg A + off) none = (d2, .ok l)) ∧
    (∃ (d : Dev) (w : Word) (D A : Nat) (off : Word) (d2 : Dev) (l : List Byte), d.fetches 0 (fetched d) w ∧ decodeWord w.toNat = .long .ldd (.load 8 false
      D A off) ∧ ((fetched d).engNext 0).dataAccess 0 8 (((fetched d).eng 0).reg A + off) none = (d2, .ok l)) ∧
    (∃ (d : Dev) (w : Word) (S A : Nat) (off : Word) (d2 : Dev) (l : List Byte), d.fetches 0 (fetched d) w ∧ decodeWord w.toNat = .long .stb (.store 1 S A
      off) ∧ ((fetched d).engNext 0).dataAccess 0 1 (((fetched d).eng 0).reg A + off) (some (toLe 1 (((fetched d).eng 0).reg S).toNat)) = (d2, .ok l)) ∧
    (∃ (d : Dev) (w : Word) (S A : Nat) (off : Word) (d2 : Dev) (l : List Byte), d.fetches 0 (fetched d) w ∧ decodeWord w.toNat = .long .sth (.store 2 S A
      off) ∧ ((fetched d).engNext 0).dataAccess 0 2 (((fetched d).eng 0).reg A + off) (some (toLe 2 (((fetched d).eng 0).reg S).toNat)) = (d2, .ok l)) ∧
    (∃ (d : Dev) (w : Word) (S A : Nat) (off : Word) (d2 : Dev) (l : List Byte), d.fetches 0 (fetched d) w ∧ decodeWord w.toNat = .long .stw (.store 4 S A
      off) ∧ ((fetched d).engNext 0).dataAccess 0 4 (((fetched d).eng 0).reg A + off) (some (toLe 4 (((fetched d).eng 0).reg S).toNat)) = (d2, .ok l)) ∧
    (∃ (d : Dev) (w : Word) (S A : Nat) (off : Word) (d2 : Dev) (l : List Byte), d.fetches 0 (fetched d) w ∧ decodeWord w.toNat = .long .std (.store 8 S A
      off) ∧ ((fetched d).engNext 0).dataAccess 0 8 (((fetched d).eng 0).reg A + off) (some (toLe 8 ((((fetched d).eng 0).reg S).toNat + (((fetched
      d).eng 0).reg (S + 1)).toNat * 2 ^ 32))) = (d2, .ok l)) ∧
    (∃ (d : Dev) (w : Word) (D A : Nat) (off v : Word) (d2 : Dev), d.fetches 0 (fetched d) w ∧ decodeWord w.toNat = .long .ldi (.loadInstr D A off) ∧
      (((fetched d).eng 0).reg A + off).toNat ≤ 0x7FFC ∧ (((fetched d).eng 0).reg A + off).toNat % 4 = 0 ∧ ((fetched d).engNext 0).localWord 0 .im
      (((fetched d).eng 0).reg A + off).toNat = (d2, some v)) ∧
    (∃ (d : Dev) (w : Word) (D port v : Nat) (A : Option Nat) (d2 : Dev), d.fetches 0 (fetched d) w ∧ decodeWord w.toNat = .long .ioIn (.input D A port) ∧
      (((fetched d).engNext 0).ioNote 0 ((port + (A.map (fun n => (((fetched d).eng 0).reg n).toNat)).getD 0) % 65536) false).ioRead 0 ((port + (A.map
      (fun n => (((fetched d).eng 0).reg n).toNat)).getD 0) % 65536) = (d2, .done v)) ∧
    (∃ (d : Dev) (w : Word) (S port v : Nat) (A : Option Nat) (d2 : Dev), d.fetches 0 (fetched d) w ∧ decodeWord w.toNat = .long .ioOut (.output S A port)
      ∧ (((fetched d).engNext 0).ioNote 0 ((port + (A.map (fun n => (((fetched d).eng 0).reg n).toNat)).getD 0) % 65536) true).ioWrite 0 ((port +
      (A.map (fun n => (((fetched d).eng 0).reg n).toNat)).getD 0) % 65536) (((fetched d).eng 0).reg S).toNat = (d2, .done v)) ∧
    (∃ (d : Dev) (w : Word) (S port : Nat) (A : Option Nat) (d2 : Dev), d.fetches 0 (fetched d) w ∧ decodeWord w.toNat = .long .ioOut (.output S A port) ∧
      (((fetched d).engNext 0).ioNote 0 ((port + (A.map (fun n => (((fetched d).eng 0).reg n).toNat)).getD 0) % 65536) true).ioWrite 0 ((port + (A.map
      (fun n => (((fetched d).eng 0).reg n).toNat)).getD 0) % 65536) (((fetched d).eng 0).reg S).toNat = (d2, .refused)) :=
  ⟨⟨(engAt 0x48000000), 0x48000000, 0, 0, 0x00000000#32, _, [0], fetches_engAt (by decide) (by decide) (by decide) (by decide) (by decide), by decide,
      pair_of (by decide)⟩,
    ⟨(engAt 0x4a000000), 0x4a000000, 0, 0, 0x00000000#32, _, [0], fetches_engAt (by decide) (by decide) (by decide) (by decide) (by decide), by decide,
      pair_of (by decide)⟩,
    ⟨(engAt 0x4c000000), 0x4c000000, 0, 0, 0x00000000#32, _, [0, 0], fetches_engAt (by decide) (by decide) (by decide) (by decide) (by decide), by decide,
      pair_of (by decide)⟩,
    ⟨(engAt 0x4e000000), 0x4e000000, 0, 0, 0x00000000#32, _, [0, 0], fetches_engAt (by decide) (by decide) (by decide) (by decide) (by decide), by decide,
      pair_of (by decide)⟩,
    ⟨(engAt 0x50000000), 0x50000000, 0, 0, 0x00000000#32, _, [0, 0, 0, 0], fetches_engAt (by decide) (by decide) (by decide) (by decide) (by decide), by
      decide, pair_of (by decide)⟩,
    ⟨(((engAt 0x52040000).wr (MEM_BANKb_OWNER 0) 0x010).modEng 0 (fun x => x.setReg 2 0x10000000)), 0x52040000, 0, 2, 0x00000000#32, _, [0, 0, 0, 0, 0, 0,
      0, 0], fetches_engAt (by decide) (by decide) (by decide) (by decide) (by decide), by decide, pair_of (by decide +kernel)⟩,
    ⟨(engAt 0x54000000), 0x54000000, 0, 0, 0x00000000#32, _, [], fetches_engAt (by decide) (by decide) (by decide) (by decide) (by decide), by decide,
      pair_of (by decide)⟩,
    ⟨(engAt 0x56000000), 0x56000000, 0, 0, 0x00000000#32, _, [], fetches_engAt (by decide) (by decide) (by decide) (by decide) (by decide), by decide,
      pair_of (by decide)⟩,
    ⟨(engAt 0x58000000), 0x58000000, 0, 0, 0x00000000#32, _, [], fetches_engAt (by decide) (by decide) (by decide) (by decide) (by decide), by decide,
      pair_of (by decide)⟩,
    ⟨(((engAt 0x5a040000).wr (MEM_BANKb_OWNER 0) 0x010).modEng 0 (fun x => x.setReg 2 0x10000000)), 0x5a040000, 0, 2, 0x00000000#32, _, [], fetches_engAt
      (by decide) (by decide) (by decide) (by decide) (by decide), by decide, pair_of (by decide +kernel)⟩,
    ⟨(engAt 0x5c000000), 0x5c000000, 0, 0, 0x00000000#32, 0x5c000000, _, fetches_engAt (by decide) (by decide) (by decide) (by decide) (by decide), by
      decide, by decide, by decide, pair_of (by decide)⟩,
    ⟨(engAt 0x60000000), 0x60000000, 0, 0, 0, none, _, fetches_engAt (by decide) (by decide) (by decide) (by decide) (by decide), by decide, pair_of (by
      decide)⟩,
    ⟨(engAt 0x62000400), 0x62000400, 0, 1024, 0, none, _, fetches_engAt (by decide) (by decide) (by decide) (by decide) (by decide), by decide, pair_of
      (by decide)⟩,
    ⟨(engAt 0x62000304), 0x62000304, 0, 772, none, _, fetches_engAt (by decide) (by decide) (by decide) (by decide) (by decide), by decide, pair_of (by
      decide)⟩⟩

theorem witness_EngineControlCompletes :
    (∃ (d : Dev) (w : Word) (cond : Nat) (off : Word), d.fetches 0 (fetched d) w ∧ decodeWord w.toNat = .long .br (.branch cond off) ∧ ((fetched d).eng
      0).fl.cond cond = true) ∧
    (∃ (d : Dev) (w : Word) (cond : Nat) (off : Word), d.fetches 0 (fetched d) w ∧ decodeWord w.toNat = .long .br (.branch cond off) ∧ ((fetched d).eng
      0).fl.cond cond = false) ∧
    (∃ (d : Dev) (w : Word) (off : Word), d.fetches 0 (fetched d) w ∧ decodeWord w.toNat = .long .call (.call off) ∧ ((fetched d).eng 0).rsd ≠ 32) ∧
    (∃ (d : Dev) (w : Word) (A : Nat), d.fetches 0 (fetched d) w ∧ decodeWord w.toNat = .long .jr (.jump false A)) ∧
    (∃ (d : Dev) (w : Word) (A : Nat), d.fetches 0 (fetched d) w ∧ decodeWord w.toNat = .long .jr (.jump true A) ∧ ((fetched d).eng 0).rsd ≠ 32) ∧
    (∃ (d : Dev) (w : Word), d.fetches 0 (fetched d) w ∧ decodeWord w.toNat = .long .ret (.ret) ∧ ((fetched d).eng 0).rsd ≠ 0) ∧
    (∃ (d : Dev) (w : Word) (l : Nat), d.fetches 0 (fetched d) w ∧ decodeWord w.toNat = .long .reti (.reti) ∧ ((fetched d).eng 0).rsd ≠ 0 ∧ ((fetched
      d).eng 0).dsd ≠ 0 ∧ (List.range 8).find? (fun l => bit (((fetched d).engNext 0).rd (ENG_IRQ_INSVC 0)) l) = some l) ∧
    (∃ (d : Dev) (w : Word), d.fetches 0 (fetched d) w ∧ decodeWord w.toNat = .long .reti (.reti) ∧ ((fetched d).eng 0).rsd ≠ 0 ∧ ((fetched d).eng 0).dsd ≠
      0 ∧ (List.range 8).find? (fun l => bit (((fetched d).engNext 0).rd (ENG_IRQ_INSVC 0)) l) = none) ∧
    (∃ (d : Dev) (w : Word), d.fetches 0 (fetched d) w ∧ decodeWord w.toNat = .long .rft (.rft)) ∧
    (∃ (d : Dev) (w : Word), d.fetches 0 (fetched d) w ∧ decodeWord w.toNat = .long .wfe (.wfe) ∧ (fetched d).engState 0 = engRunning ∧ (fetched
      d).wakePending 0 = true) ∧
    (∃ (d : Dev) (w : Word), d.fetches 0 (fetched d) w ∧ decodeWord w.toNat = .long .wfe (.wfe) ∧ (fetched d).engState 0 = engRunning ∧ (fetched
      d).wakePending 0 = false) ∧
    (∃ (d : Dev) (w : Word), d.fetches 0 (fetched d) w ∧ decodeWord w.toNat = .long .safe (.safe) ∧ (fetched d).engState 0 = engRunning ∧ (fetched d).on
      (ENG_STAT_TACT 0) = false) ∧
    (∃ (d : Dev) (w : Word) (n : Nat), d.fetches 0 (fetched d) w ∧ decodeWord w.toNat = .long .trap (.trap n) ∧ (fetched d).on (ENG_STAT_TACT 0) = false) ∧
    (∃ (d : Dev) (w : Word), d.fetches 0 (fetched d) w ∧ decodeWord w.toNat = .long .brk (.brk) ∧ (fetched d).on (ENG_STAT_TACT 0) = false) :=
  ⟨⟨(engAt 0x64000000), 0x64000000, 0, 0x00000000#32, fetches_engAt (by decide) (by decide) (by decide) (by decide) (by decide), by decide, by decide⟩,
    ⟨(engAt 0x64200000), 0x64200000, 1, 0x00000000#32, fetches_engAt (by decide) (by decide) (by decide) (by decide) (by decide), by decide, by decide⟩,
    ⟨(engAt 0x66000000), 0x66000000, 0x00000000#32, fetches_engAt (by decide) (by decide) (by decide) (by decide) (by decide), by decide, by decide⟩,
    ⟨(engAt 0x68000000), 0x68000000, 0, fetches_engAt (by decide) (by decide) (by decide) (by decide) (by decide), by decide⟩,
    ⟨(engAt 0x69000000), 0x69000000, 0, fetches_engAt (by decide) (by decide) (by decide) (by decide) (by decide), by decide, by decide⟩,
    ⟨((engAt 0x6a000000).modEng 0 (fun x => x.pushR 8)), 0x6a000000, fetches_engAt (by decide) (by decide) (by decide) (by decide) (by decide), by decide,
      by decide⟩,
    ⟨(((engAt 0x6a200000).modEng 0 (fun x => (x.pushR 8).pushD 1)).wr (ENG_IRQ_INSVC 0) 4), 0x6a200000, 2, fetches_engAt (by decide) (by decide) (by
      decide) (by decide) (by decide), by decide, by decide, by decide, by decide⟩,
    ⟨((engAt 0x6a200000).modEng 0 (fun x => (x.pushR 8).pushD 1)), 0x6a200000, fetches_engAt (by decide) (by decide) (by decide) (by decide) (by decide),
      by decide, by decide, by decide, by decide⟩,
    ⟨(engAt 0x6a400000), 0x6a400000, fetches_engAt (by decide) (by decide) (by decide) (by decide) (by decide), by decide⟩,
    ⟨((((engAt 0x6a600000).wr (ENG_IRQSELL_KIND 0 1) 1).wr (ENG_IRQ_PEND 0) 2).wr (ENG_IRQ_WAKEMASK 0) 2), 0x6a600000, fetches_engAt (by decide) (by
      decide) (by decide) (by decide) (by decide), by decide, by decide, by decide⟩,
    ⟨(engAt 0x6a600000), 0x6a600000, fetches_engAt (by decide) (by decide) (by decide) (by decide) (by decide), by decide, by decide, by decide⟩,
    ⟨(engAt 0x6a800000), 0x6a800000, fetches_engAt (by decide) (by decide) (by decide) (by decide) (by decide), by decide, by decide, by decide⟩,
    ⟨(engAt 0x6aa00000), 0x6aa00000, 0, fetches_engAt (by decide) (by decide) (by decide) (by decide) (by decide), by decide, by decide⟩,
    ⟨(engAt 0x6ac00000), 0x6ac00000, fetches_engAt (by decide) (by decide) (by decide) (by decide) (by decide), by decide, by decide⟩⟩

theorem witness_EngineStacksComplete :
    (∃ (d : Dev) (w : Word) (D : Nat), d.fetches 0 (fetched d) w ∧ decodeWord w.toNat = .long .gets (.gets D 0)) ∧
    (∃ (d : Dev) (w : Word) (D : Nat), d.fetches 0 (fetched d) w ∧ decodeWord w.toNat = .long .gets (.gets D 1)) ∧
    (∃ (d : Dev) (w : Word) (D : Nat), d.fetches 0 (fetched d) w ∧ decodeWord w.toNat = .long .gets (.gets D 2)) ∧
    (∃ (d : Dev) (w : Word) (D : Nat), d.fetches 0 (fetched d) w ∧ decodeWord w.toNat = .long .gets (.gets D 3)) ∧
    (∃ (d : Dev) (w : Word) (D : Nat), d.fetches 0 (fetched d) w ∧ decodeWord w.toNat = .long .gets (.gets D 4)) ∧
    (∃ (d : Dev) (w : Word) (D : Nat), d.fetches 0 (fetched d) w ∧ decodeWord w.toNat = .long .gets (.gets D 5)) ∧
    (∃ (d : Dev) (w : Word) (D : Nat), d.fetches 0 (fetched d) w ∧ decodeWord w.toNat = .long .gets (.gets D 6)) ∧
    (∃ (d : Dev) (w : Word) (D : Nat), d.fetches 0 (fetched d) w ∧ decodeWord w.toNat = .long .gets (.gets D 7) ∧ ((fetched d).eng 0).rsd ≠ 0) ∧
    (∃ (d : Dev) (w : Word) (A : Nat), d.fetches 0 (fetched d) w ∧ decodeWord w.toNat = .long .puts (.puts A 0)) ∧
    (∃ (d : Dev) (w : Word) (A : Nat), d.fetches 0 (fetched d) w ∧ decodeWord w.toNat = .long .puts (.puts A 1)) ∧
    (∃ (d : Dev) (w : Word) (A : Nat), d.fetches 0 (fetched d) w ∧ decodeWord w.toNat = .long .puts (.puts A 2)) ∧
    (∃ (d : Dev) (w : Word) (A : Nat), d.fetches 0 (fetched d) w ∧ decodeWord w.toNat = .long .puts (.puts A 3)) ∧
    (∃ (d : Dev) (w : Word) (A : Nat), d.fetches 0 (fetched d) w ∧ decodeWord w.toNat = .long .push (.push A) ∧ ((fetched d).eng 0).dsd ≠ 32) ∧
    (∃ (d : Dev) (w : Word) (D : Nat), d.fetches 0 (fetched d) w ∧ decodeWord w.toNat = .long .pop (.pop D) ∧ ((fetched d).eng 0).dsd ≠ 0) ∧
    (∃ (d : Dev) (w : Word) (D k : Nat), d.fetches 0 (fetched d) w ∧ decodeWord w.toNat = .long .peek (.peek D k) ∧ k < ((fetched d).eng 0).dsd) ∧
    (∃ (d : Dev) (w : Word), d.fetches 0 (fetched d) w ∧ decodeWord w.toNat = .long .drop (.drop) ∧ ((fetched d).eng 0).dsd ≠ 0) :=
  ⟨⟨(engAt 0x6ae00000), 0x6ae00000, 0, fetches_engAt (by decide) (by decide) (by decide) (by decide) (by decide), by decide⟩,
    ⟨(engAt 0x6ae00001), 0x6ae00001, 0, fetches_engAt (by decide) (by decide) (by decide) (by decide) (by decide), by decide⟩,
    ⟨(engAt 0x6ae00002), 0x6ae00002, 0, fetches_engAt (by decide) (by decide) (by decide) (by decide) (by decide), by decide⟩,
    ⟨(engAt 0x6ae00003), 0x6ae00003, 0, fetches_engAt (by decide) (by decide) (by decide) (by decide) (by decide), by decide⟩,
    ⟨(engAt 0x6ae00004), 0x6ae00004, 0, fetches_engAt (by decide) (by decide) (by decide) (by decide) (by decide), by decide⟩,
    ⟨(engAt 0x6ae00005), 0x6ae00005, 0, fetches_engAt (by decide) (by decide) (by decide) (by decide) (by decide), by decide⟩,
    ⟨(engAt 0x6ae00006), 0x6ae00006, 0, fetches_engAt (by decide) (by decide) (by decide) (by decide) (by decide), by decide⟩,
    ⟨((engAt 0x6ae00007).modEng 0 (fun x => x.pushR 8)), 0x6ae00007, 0, fetches_engAt (by decide) (by decide) (by decide) (by decide) (by decide), by
      decide, by decide⟩,
    ⟨(engAt 0x6b000000), 0x6b000000, 0, fetches_engAt (by decide) (by decide) (by decide) (by decide) (by decide), by decide⟩,
    ⟨(engAt 0x6b000001), 0x6b000001, 0, fetches_engAt (by decide) (by decide) (by decide) (by decide) (by decide), by decide⟩,
    ⟨(engAt 0x6b000002), 0x6b000002, 0, fetches_engAt (by decide) (by decide) (by decide) (by decide) (by decide), by decide⟩,
    ⟨(engAt 0x6b000003), 0x6b000003, 0, fetches_engAt (by decide) (by decide) (by decide) (by decide) (by decide), by decide⟩,
    ⟨(engAt 0x6b200000), 0x6b200000, 0, fetches_engAt (by decide) (by decide) (by decide) (by decide) (by decide), by decide, by decide⟩,
    ⟨((engAt 0x6b400000).modEng 0 (fun x => x.pushD 8)), 0x6b400000, 0, fetches_engAt (by decide) (by decide) (by decide) (by decide) (by decide), by
      decide, by decide⟩,
    ⟨((engAt 0x6b600000).modEng 0 (fun x => x.pushD 8)), 0x6b600000, 0, 0, fetches_engAt (by decide) (by decide) (by decide) (by decide) (by decide), by
      decide, by decide⟩,
    ⟨((engAt 0x6b800000).modEng 0 (fun x => x.pushD 8)), 0x6b800000, fetches_engAt (by decide) (by decide) (by decide) (by decide) (by decide), by decide,
      by decide⟩⟩

theorem witness_EngineWordsComplete :
    (∃ (d : Dev) (w : Word) (n : Nat), d.fetches 0 (fetched d) w ∧ decodeWord w.toNat = .trap .undefinedWord n ∧ (fetched d).on (ENG_STAT_TACT 0) = false) ∧
    (∃ (d : Dev) (w : Word) (f g : AluOp) (D A B D' A' B' : Nat), d.fetches 0 (fetched d) w ∧ decodeWord w.toNat = .pair (.alu f D A B) (.alu g D' A' B') ∧
      f.divTraps (((fetched d).eng 0).reg B) ((fetched d).eng 0).fl = false ∧ g.divTraps (((fetched d).eng 0).reg B') ((fetched d).eng 0).fl = false) ∧
    (∃ (d : Dev) (w : Word) (a b : Op) (d2 d3 : Dev) (ra rb : List (Nat × Word)) (fa fb : FlagUpd) (t : Option Word), d.fetches 0 (fetched d) w ∧
      decodeWord w.toNat = .pair a b ∧ ((fetched d).engNext 0).opRun 0 ((fetched d).eng 0) ((fetched d).eng 0).pc a =
      { dev := d2, regs := ra, fl := fa, target := t } ∧ d2.opRun 0 ((fetched d).eng 0) ((fetched d).eng 0).pc b = { dev := d3, regs := rb, fl := fb }) ∧
    (∃ (d : Dev) (n : Nat), d.inReset = false ∧ d.engState 0 = engRunning ∧ d.lineToTake 0 = none ∧ (d.eng 0).stepping = false ∧ d.engFetch 0 = (fetched d,
      .fault n) ∧ (fetched d).on (ENG_STAT_TACT 0) = false) :=
  ⟨⟨(engAt 0x0), 0x0, 1, fetches_engAt (by decide) (by decide) (by decide) (by decide) (by decide), by decide, by decide⟩,
    ⟨(engAt 0x82000800), 0x82000800, .add, .sub, 0, 0, 0, 0, 0, 0, fetches_engAt (by decide) (by decide) (by decide) (by decide) (by decide), by decide,
      by decide, by decide⟩,
    ⟨(engAt 0xb2000400), 0xb2000400, (.branch 0 0), (.alu .add 0 0 0), _, _, _, _, _, _, _, fetches_engAt (by decide) (by decide) (by decide) (by decide)
      (by decide), by decide, rfl, rfl⟩,
    ⟨(engAt 0).modEng 0 (fun x => { x with pc := 0x8000 }), 7, by decide, by decide, by decide, by decide, pair_of (by decide), by decide⟩⟩

/-! ### What the other statements need -/

theorem witness_EmptyQueueTicks :
    (∃ d : Dev, d.inReset = false ∧ ∀ n < 4, (d.dom n).steps = []) ∧ (∃ d : Dev, d.inReset = true) :=
  ⟨⟨up, by decide, by decide⟩, ⟨State.reset.dev.modSup (fun x => { x with por := true }), by decide⟩⟩

theorem witness_IllFormedCommandRefused :
    (∃ (c : Instr) (s : State), exec c s = .refused .illFormed) ∧ (∃ c : Instr, wellFormed c = false) ∧ (∃ c : Instr, wellFormed c = true) :=
  ⟨⟨.linkUp 22, State.reset, rfl⟩, ⟨.linkUp 22, by decide⟩, ⟨.linkUp 21, by decide⟩⟩

theorem witness_QueueInvariantKept : ∃ s t : State, s.queueOk ∧ step s = .next t :=
  ⟨⟨up, [.mdioPoll 20 false]⟩, _, by simp only [State.queueOk]; decide, rfl⟩

theorem witness_BlockNeverStops : ∃ s : State, s.queueOk ∧ s.pending ≠ [] :=
  ⟨⟨up, [.mdioPoll 20 false]⟩, by simp only [State.queueOk]; decide, by decide⟩

theorem witness_CoreHeldInReset : ∃ (c : Instr) (d : Dev), wellFormed c = true ∧ d.inReset = true ∧ actsInReset c = false :=
  ⟨.mdioPoll 20 false, up.modSup (fun x => { x with por := true }), by decide, by decide, by decide⟩

/-- HIF_STAT, which has RO and W1C fields; AON_WAKE, which has RW and W1C fields. -/
theorem witness_PlainRegisterWrite :
    (∃ (d : Dev) (m : Master) (a : RegAt) (off : Nat) (v : BitVec 32), d.inReset = false ∧ wellFormed (.registerWrite m off v true) = true ∧
      a.named off ∧ a.row.kind = .plain ∧ a.row.words = 1 ∧ a.row.writable = true ∧ d.accepts m a v.toNat = true ∧
      a.row.fields.any (fun f => f.acc == .ro) = true ∧ a.row.fields.any (fun f => f.acc == .w1c) = true) ∧
    (∃ (d : Dev) (m : Master) (a : RegAt) (off : Nat) (v : BitVec 32), d.inReset = false ∧ wellFormed (.registerWrite m off v true) = true ∧
      a.named off ∧ a.row.kind = .plain ∧ a.row.words = 1 ∧ a.row.writable = true ∧ d.accepts m a v.toNat = true ∧
      a.row.fields.any (fun f => f.acc == .rw) = true) :=
  ⟨⟨up, .spi, row_HIF_STAT.last [], 0x8000, 0xFFFFFFFF, by decide, by decide, ⟨rfl, by decide, by decide, by decide, by decide, by decide⟩,
      by decide, by decide, by decide, by decide, by decide, by decide⟩,
    ⟨up, .spi, row_AON_WAKE.last [], 0x18018, 0xFFFFFFFF, by decide, by decide, ⟨rfl, by decide, by decide, by decide, by decide, by decide⟩,
      by decide, by decide, by decide, by decide, by decide⟩⟩

/-- TB_TD0_INCR_NOM with its integer part 2, the greatest reserved value. -/
theorem witness_ReservedValueRejected :
    ∃ (d : Dev) (m : Master) (a : RegAt) (off : Nat) (v : BitVec 32), d.inReset = false ∧ wellFormed (.registerWrite m off v true) = true ∧
      a.named off ∧ a.word + 1 = a.row.words ∧ a.row.writable = true ∧ d.admits m a = true ∧
      a.row.reservedIn (d.committed m a (d.presentValue a) v.toNat) = true :=
  ⟨up, .pcie, row_TB_TDn_INCR_NOM.last [0], 0x8100C, 2, by decide, by decide, ⟨rfl, by decide, by decide, by decide, by decide, by decide⟩,
    by decide, by decide, by decide, by decide⟩

theorem witness_LockedFieldsKeep :
    (∃ (d : Dev) (m : Master) (a : RegAt) (off : Nat) (v : BitVec 32), d.inReset = false ∧ wellFormed (.registerWrite m off v true) = true ∧
      a.named off ∧ a.row.kind = .plain ∧ a.row.words = 1 ∧ a.row.writable = true ∧ d.admits m a = true ∧
      a.row.reservedIn v.toNat = false ∧ d.on SUP_LOCK_LOCK = true ∧ d.lockedValue a v.toNat ≠ v.toNat ∧
      a.row.fields.any (fun f => f.acc == .rwl) = true) ∧
    (∃ (d : Dev) (m : Master) (a : RegAt) (off : Nat) (v : BitVec 32), d.inReset = false ∧ wellFormed (.registerWrite m off v true) = true ∧
      a.named off ∧ a.row.kind = .plain ∧ a.row.words = 1 ∧ a.row.writable = true ∧ d.admits m a = true ∧
      a.row.reservedIn v.toNat = false ∧ d.on SUP_LOCK_LOCK = true ∧ d.lockedValue a v.toNat = v.toNat) :=
  ⟨⟨up.put SUP_LOCK_LOCK true, .spi, row_SUP_WDGRACE.last [], 0x10034, 7, by decide, by decide,
      ⟨rfl, by decide, by decide, by decide, by decide, by decide⟩, by decide, by decide, by decide, by decide, by decide, by decide, by decide,
      by decide⟩,
    ⟨up.put SUP_LOCK_LOCK true, .spi, row_HIF_STAT.last [], 0x8000, 7, by decide, by decide,
      ⟨rfl, by decide, by decide, by decide, by decide, by decide⟩, by decide, by decide, by decide, by decide, by decide, by decide, by decide⟩⟩

theorem witness_WideRegisterCommitsAsOne :
    ∃ (d : Dev) (m : Master) (a : RegAt) (off : Nat) (v w : BitVec 32), d.inReset = false ∧ wellFormed (.wideRegisterStage m off v) = true ∧
      a.word = 0 ∧ a.row.words = 2 ∧ a.named off ∧ RegAt.named { a with word := 1 } (off + 4) ∧ a.row.writable = true ∧
      d.accepts m { a with word := 1 } (v.toNat + w.toNat * 2 ^ 32) = true ∧ d.admits m a = true :=
  ⟨up, .spi, ⟨row_TB_TDn_INCR_NOM, [0], 0⟩, 0x81008, 0xFFFFFFFF, 3, by decide, by decide, by decide, by decide,
    ⟨rfl, by decide, by decide, by decide, by decide, by decide⟩, ⟨rfl, by decide, by decide, by decide, by decide, by decide⟩,
    by decide, by decide, by decide⟩

theorem witness_AccessTurnedAway :
    (∃ (d : Dev) (m : Master) (off : Nat) (v : BitVec 32), d.inReset = false ∧ wellFormed (.registerWrite m off v true) = true ∧
      m.isHost = true ∧ d.rd LDR_STAT_STATE < 5 ∧ (0x8000 ≤ off ∧ off < 0x10000)) ∧
    (∃ (d : Dev) (m : Master) (off : Nat) (v : BitVec 32), d.inReset = false ∧ wellFormed (.registerWrite m off v true) = true ∧
      m.isHost = true ∧ d.rd LDR_STAT_STATE < 5 ∧ 0x40000 ≤ off) ∧
    (∃ (d : Dev) (m : Master) (off : Nat) (v : BitVec 32), d.inReset = false ∧ wellFormed (.registerWrite m off v true) = true ∧
      d.hostShutOut m off = false ∧ off < 0x1000000 ∧ offReserved off = false ∧ d.gatedAt off = true) ∧
    (∃ (d : Dev) (m : Master) (off : Nat) (v : BitVec 32), d.inReset = false ∧ wellFormed (.registerWrite m off v true) = true ∧
      m.isHost = true ∧ d.hostShutOut m off = false ∧ off < 0x1000000 ∧ offReserved off = true) :=
  ⟨⟨up.wr LDR_STAT_STATE 4, .spi, 0xFFFC, 0, by decide, by decide, by decide, by decide, by decide⟩,
    ⟨up.wr LDR_STAT_STATE 4, .pcie, 0x40000, 0, by decide, by decide, by decide, by decide, by decide⟩,
    ⟨up.wr SUP_CGATE_GATE 1, .engine 63, 0x500000, 0, by decide, by decide, by decide, by decide, by decide, by decide⟩,
    ⟨up, .spi, 0x7FFFC, 0, by decide, by decide, by decide, by decide, by decide, by decide⟩⟩

/-- Port 21 at its longest MAXLEN, enabled and changed; port 0 at the shortest, disabled. -/
theorem witness_PortConfigurationProtected :
    (∃ (d : Dev) (m : Master) (p : Nat) (v : BitVec 32), d.inReset = false ∧ m.ok = true ∧ p < 22 ∧
      d.accepts m (row_PRT_CFG.last [p]) v.toNat = true ∧ modeOk p (bits v.toNat 0 3) = true ∧
      64 ≤ bits v.toNat 16 14 ∧ bits v.toNat 16 14 ≤ (if p < 20 then 9728 else 1536) ∧ d.on (PRT_CTRL_EN p) = true ∧
      (bits v.toNat 0 3 ≠ d.rd (PRT_CFG_MODE p) ∨ bits v.toNat 3 1 ≠ d.rd (PRT_CFG_ANEN p) ∨ bits v.toNat 16 14 ≠ d.rd (PRT_CFG_MAXLEN p))) ∧
    (∃ (d : Dev) (m : Master) (p : Nat) (v : BitVec 32), d.inReset = false ∧ m.ok = true ∧ p < 22 ∧
      d.accepts m (row_PRT_CFG.last [p]) v.toNat = true ∧ modeOk p (bits v.toNat 0 3) = true ∧
      64 ≤ bits v.toNat 16 14 ∧ bits v.toNat 16 14 ≤ (if p < 20 then 9728 else 1536) ∧ d.on (PRT_CTRL_EN p) = false) :=
  ⟨⟨(up.put (PRT_CTRL_EN 21) true).wr (PRT_CFG_MAXLEN 21) 64, .spi, 21, BitVec.ofNat 32 (4 + 1536 * 2 ^ 16), by decide, by decide, by decide, by decide,
      by decide, by decide, by decide, by decide, by decide⟩,
    ⟨up, .spi, 0, BitVec.ofNat 32 (1 + 64 * 2 ^ 16), by decide, by decide, by decide, by decide, by decide, by decide, by decide, by decide⟩⟩

theorem witness_DuplicateWindowRejectsRepeat :
    (∃ (w : DupWin) (seq : Nat), w.base < 65536 ∧ w.win < 2 ^ 128 ∧ seq < 65536 ∧ (DupWin.judge (some w) seq).2.1 = dupDuplicate) ∧
    (∃ (w : DupWin) (seq : Nat), w.base < 65536 ∧ w.win < 2 ^ 128 ∧ seq < 65536 ∧ (DupWin.judge (some w) seq).2.2 = false ∧
      (DupWin.judge (some w) seq).2.1 ≠ dupDuplicate) :=
  ⟨⟨⟨0, 2 ^ 127⟩, 65409, by decide, by decide, by decide, by decide⟩,
    ⟨⟨65535, 1⟩, 0, by decide, by decide, by decide, by decide, by decide⟩⟩

theorem witness_GateChangeTime :
    (∃ (d : Dev) (p : Nat), p < 22 ∧ d.on (SCH_STAT_PENDING p) = true) ∧
    (∃ (d : Dev) (p : Nat), p < 22 ∧ d.on (SCH_STAT_PENDING p) = false ∧
      (∀ e < d.rd (SCH_ADMLEN_LEN p), gateEntryOk (d.rd (SCH_ADMLISTe_ENTRY p e)) = true) ∧ d.rd (SCH_ADMLEN_LEN p) = 1 ∧
      d.schNow p < ofTs96 (d.rd (SCH_ADMBASE_BASE p))) ∧
    (∃ (d : Dev) (p : Nat), p < 22 ∧ d.on (SCH_STAT_PENDING p) = false ∧
      (∀ e < d.rd (SCH_ADMLEN_LEN p), gateEntryOk (d.rd (SCH_ADMLISTe_ENTRY p e)) = true) ∧
      ofTs96 (d.rd (SCH_ADMBASE_BASE p)) ≤ d.schNow p ∧ 0 < d.admCycle p) ∧
    (∃ (d : Dev) (p e : Nat), p < 22 ∧ d.on (SCH_STAT_PENDING p) = false ∧ e < d.rd (SCH_ADMLEN_LEN p) ∧
      gateEntryOk (d.rd (SCH_ADMLISTe_ENTRY p e)) = false ∧ ∀ k < e, gateEntryOk (d.rd (SCH_ADMLISTe_ENTRY p k)) = true) :=
  ⟨⟨up.put (SCH_STAT_PENDING 21) true, 21, by decide, by decide⟩,
    ⟨((up.wr (SCH_ADMLEN_LEN 0) 1).wr (SCH_ADMLISTe_ENTRY 0 0) (8 * 2 ^ 32)).wr (SCH_ADMBASE_BASE 0) (ts96 sec16), 0, by decide, by decide, by decide,
      by decide, by decide⟩,
    ⟨((up.wr (SCH_ADMCYCLE_NS 0) 1).wr (SCH_ADMLEN_LEN 0) 1).wr (SCH_ADMLISTe_ENTRY 0 0) (8 * 2 ^ 32), 0, by decide, by decide, by decide, by decide, by decide⟩,
    ⟨((up.wr (SCH_ADMLEN_LEN 0) 2).wr (SCH_ADMLISTe_ENTRY 0 0) (8 * 2 ^ 32)).wr (SCH_ADMLISTe_ENTRY 0 1) (7 * 2 ^ 32), 0, 1, by decide, by decide,
      by decide, by decide, by decide⟩⟩

theorem witness_TrainCommandFifoOrder :
    (∃ (d : Dev) (r : Nat), (d.trn r).fifo.length < 16 ∧ d.on (TRN_CMDDB_DBEN r) = false) ∧
    (∃ (d : Dev) (r : Nat), (d.trn r).fifo.length < 16 ∧ d.on (TRN_CMDDB_DBEN r) = true) ∧
    (∃ (d : Dev) (r : Nat), 16 ≤ (d.trn r).fifo.length ∧ ∃ x later, (d.trn r).fifo = x :: later) :=
  ⟨⟨up.setTrn 0 { fifo := List.replicate 15 (1, 2) }, 0, by decide, by decide⟩, ⟨up.put (TRN_CMDDB_DBEN 1) true, 1, by decide, by decide⟩,
    ⟨up.setTrn 0 { fifo := List.replicate 16 (1, 2) }, 0, by decide, (1, 2), List.replicate 15 (1, 2), by decide⟩⟩

theorem witness_SyncSampleInstant : ∃ (d : Dev) (s k : Nat), d.rd (SAU_S_CFG_MODE s) = 0 ∧ k < 4 :=
  ⟨up.wr (SAU_S_CFG_MODE 255) 0, 255, 3, by decide, by decide⟩

theorem witness_ForcedPinRelease :
    (∃ (d : Dev) (m : Master) (n : Nat) (v : BitVec 32), d.inReset = false ∧ m.ok = true ∧ n < 48 ∧
      d.accepts m (row_PIN_IOn_SAFE.last [n]) (withField v 2 1 1).toNat = true ∧ d.rd (PIN_IOn_SAFE_CAUSE n) = 0 ∧
      d.on (PIN_IOn_SAFE_FORCED n) = true ∧ d.hitNow n = false) ∧
    (∃ (d : Dev) (m : Master) (n : Nat) (v : BitVec 32), d.inReset = false ∧ m.ok = true ∧ n < 48 ∧
      d.accepts m (row_PIN_IOn_SAFE.last [n]) (withField v 2 1 1).toNat = true ∧ d.rd (PIN_IOn_SAFE_CAUSE n) ≠ 0) :=
  ⟨⟨up.wr (PIN_IOn_SAFE_CAUSE 47) 0, .spi, 47, 1, by decide, by decide, by decide, by decide, by decide, by decide, by decide⟩,
    ⟨up, .engine 63, 0, 1, by decide, by decide, by decide, by decide, by decide⟩⟩

theorem witness_SequencerFifosAndFlags :
    (∃ (d : Dev) (q : Nat), q < 8 ∧ (d.seq q).txf.length = 7 ∧ (d.seq q).rxf = []) ∧
    (∃ (d : Dev) (q : Nat), q < 8 ∧ (d.seq q).txf.length = 8 ∧ ∃ x later, (d.seq q).rxf = x :: later) ∧
    (∃ g v s i : Nat, g < 2 ∧ s < 4 ∧ v < 2 ^ 32 ∧ i < 32) :=
  ⟨⟨up.setSeq 7 { txf := List.replicate 7 3 }, 7, by decide, by decide, by decide⟩,
    ⟨up.setSeq 0 { txf := List.replicate 8 3, rxf := [4] }, 0, by decide, by decide, 4, [], by decide⟩, ⟨1, 2 ^ 32 - 1, 3, 24, by decide⟩⟩

theorem witness_ReceiveSlotsFreedInOrder :
    (∃ (d : Dev) (e i : Nat) (v : BitVec 32), d.inReset = false ∧ e < 64 ∧ i < 2 ∧ d.depotOn (e / 8) = true ∧ v.toNat ≠ 0 ∧
      v.toNat ≤ (d.rxRing (e / 8) i).occ) ∧
    (∃ (d : Dev) (e i : Nat) (v : BitVec 32), d.inReset = false ∧ e < 64 ∧ i < 2 ∧ d.depotOn (e / 8) = true ∧ v.toNat = 0) ∧
    (∃ (d : Dev) (e i : Nat) (v : BitVec 32), d.inReset = false ∧ e < 64 ∧ i < 2 ∧ d.depotOn (e / 8) = true ∧
      (d.rxRing (e / 8) i).occ < v.toNat) :=
  ⟨⟨(up.wr (DEP_STAT_PWRSTATE 7) 2).setRxRing 7 1 { occ := 3 }, 63, 1, 3, by decide, by decide, by decide, by decide, by decide, by decide⟩,
    ⟨up.wr (DEP_STAT_PWRSTATE 0) 2, 0, 0, 0, by decide, by decide, by decide, by decide, by decide⟩,
    ⟨(up.wr (DEP_STAT_PWRSTATE 0) 2).setRxRing 0 0 { occ := 3 }, 0, 0, 4, by decide, by decide, by decide, by decide, by decide⟩⟩

/-- The largest signed sum, ADDS D1, R2, R3 with R2 and R3 at 2^31 - 1; SUBUS with 0 minus 1. -/
theorem witness_EngineSaturates :
    (∃ (d : Dev) (w : Word) (D A B : Nat), d.fetches 0 (fetched d) w ∧ decodeWord w.toNat = .long .adds (.alu .adds D A B) ∧ D < 16 ∧
      2147483647 < ((fetched d).eng 0 |>.reg A).toInt + ((fetched d).eng 0 |>.reg B).toInt) ∧
    (∃ (d : Dev) (w : Word) (D A B : Nat), d.fetches 0 (fetched d) w ∧ decodeWord w.toNat = .long .subs (.alu .subs D A B) ∧ D < 16 ∧
      ((fetched d).eng 0 |>.reg A).toInt - ((fetched d).eng 0 |>.reg B).toInt < -2147483648) ∧
    (∃ (d : Dev) (w : Word) (D A B : Nat), d.fetches 0 (fetched d) w ∧ decodeWord w.toNat = .long .addus (.alu .addus D A B) ∧ D < 16) ∧
    (∃ (d : Dev) (w : Word) (D A B : Nat), d.fetches 0 (fetched d) w ∧ decodeWord w.toNat = .long .subus (.alu .subus D A B) ∧ D < 16) :=
  ⟨⟨(engAt 0x1C246000).modEng 0 (fun x => (x.setReg 2 0x7FFFFFFF).setReg 3 1), 0x1C246000, 1, 2, 3,
      fetches_engAt (by decide) (by decide) (by decide) (by decide) (by decide), by decide, by decide, by decide⟩,
    ⟨(engAt 0x1E246000).modEng 0 (fun x => (x.setReg 2 0x80000000).setReg 3 1), 0x1E246000, 1, 2, 3,
      fetches_engAt (by decide) (by decide) (by decide) (by decide) (by decide), by decide, by decide, by decide⟩,
    ⟨engAt 0x21E46000, 0x21E46000, 15, 2, 3, fetches_engAt (by decide) (by decide) (by decide) (by decide) (by decide), by decide, by decide⟩,
    ⟨engAt 0x23E46000, 0x23E46000, 15, 2, 3, fetches_engAt (by decide) (by decide) (by decide) (by decide) (by decide), by decide, by decide⟩⟩

theorem witness_EngineShiftsAndDivides :
    ∃ (a b : Word) (n : Nat), n < 64 ∧ b ≠ 0 ∧ ¬(a = 0x80000000#32 ∧ b = 0xFFFFFFFF#32) :=
  ⟨0x80000000, 0xFFFFFFFE, 63, by decide, by decide, by decide⟩

theorem witness_DoubleTrapHalts :
    (∃ (d : Dev) (e : Nat), d.on (ENG_STAT_TACT e) = true ∧ e < 64) ∧
    (∃ (d : Dev) (w : Word) (n : Nat), d.fetches 0 (fetched d) w ∧ decodeWord w.toNat = .trap .undefinedWord n) ∧
    (∃ (d : Dev) (n : Nat), d.inReset = false ∧ d.engState 0 = engRunning ∧ d.lineToTake 0 = none ∧ (d.eng 0).stepping = false ∧
      d.engFetch 0 = (fetched d, .fault n)) :=
  ⟨⟨up.put (ENG_STAT_TACT 63) true, 63, by decide, by decide⟩,
    ⟨engAt 0, 0, 1, fetches_engAt (by decide) (by decide) (by decide) (by decide) (by decide), by decide⟩,
    ⟨(engAt 0).modEng 0 (fun x => { x with pc := 0x8000 }), 7, by decide, by decide, by decide, by decide, pair_of (by decide)⟩⟩

theorem witness_InterruptEntrySaves :
    (∃ (d : Dev) (e l : Nat), d.inReset = false ∧ e < 64 ∧ d.engState e = engRunning ∧ d.lineToTake e = some l ∧ (d.eng e).rsd < 32 ∧
      (d.eng e).dsd < 32) ∧
    (∃ (d : Dev) (e l : Nat), d.inReset = false ∧ e < 64 ∧ d.engState e = engRunning ∧ d.lineToTake e = some l ∧ (d.eng e).rsd = 32) :=
  ⟨⟨((((up.wr (ENG_STAT_STATE 63) engRunning).wr (ENG_IRQSELL_KIND 63 7) 1).wr (ENG_IRQ_PEND 63) 128).wr (ENG_IRQ_IMASK 63) 128).modEng 63
      (fun x => { x with rsd := 31, dsd := 31 }), 63, 7, by decide, by decide, by decide, by decide, by decide, by decide⟩,
    ⟨((((up.wr (ENG_STAT_STATE 0) engRunning).wr (ENG_IRQSELL_KIND 0 0) 2).wr (ENG_IRQ_PEND 0) 1).wr (ENG_IRQ_IMASK 0) 1).modEng 0
      (fun x => { x with rsd := 32 }), 0, 0, by decide, by decide, by decide, by decide, by decide⟩⟩

theorem witness_EngineWordsDecode : ∃ D A B imm : Nat, D < 16 ∧ A < 16 ∧ B < 16 ∧ imm < 2 ^ 17 := ⟨15, 15, 15, 2 ^ 17 - 1, by decide⟩

/-- A word that crosses from bank 0 into bank 1; the last byte of the memory, which another owns. -/
theorem witness_SharedMemoryAccesses :
    (∃ (d : Dev) (m : Master) (a : Nat) (l : List Byte), d.inReset = false ∧ wellFormed (.sharedMemoryAccess m a l.length ⟨some l, []⟩) = true ∧
      d.hostShutOut m (0x1000000 + a) = false ∧ d.memOk = true ∧ d.mem.ecc = [] ∧ d.mem.pend = [] ∧ d.mem.borrow = none ∧
      ∀ b < 64, a / 0x40000 ≤ b → b ≤ (a + l.length - 1) / 0x40000 → d.rd (MEM_BANKb_OWNER b) = m.actor) ∧
    (∃ (d : Dev) (m : Master) (a b : Nat) (v : Byte), d.inReset = false ∧ wellFormed (.sharedMemoryAccess m a 1 ⟨some [v], []⟩) = true ∧
      d.hostShutOut m (0x1000000 + a) = false ∧ b = a / 0x40000 ∧ tget d.mem.pend b = none ∧ d.rd (MEM_BANKb_OWNER b) ≠ m.actor ∧
      m.isHost = false) ∧
    (∃ (d : Dev) (m : Master) (a b : Nat) (v : Byte), d.inReset = false ∧ wellFormed (.sharedMemoryAccess m a 1 ⟨some [v], []⟩) = true ∧
      d.hostShutOut m (0x1000000 + a) = false ∧ b = a / 0x40000 ∧ tget d.mem.pend b = none ∧ d.rd (MEM_BANKb_OWNER b) ≠ m.actor ∧
      m.isHost = true) :=
  ⟨⟨(up.wr (MEM_BANKb_OWNER 0) 0x001).wr (MEM_BANKb_OWNER 1) 0x001, .pcie, 0x3FFFC, [1, 2, 3, 4], by decide, by decide, by decide, by decide, by decide,
      by decide, by decide, by decide⟩,
    ⟨up.wr (MEM_BANKb_OWNER 0) 0x001, .supervisor, 0, 0, 1, by decide, by decide, by decide, by decide, by decide, by decide, by decide⟩,
    ⟨up.wr (MEM_BANKb_OWNER 63) 0x010, .pcie, 0xFFFFFF, 63, 1, by decide, by decide, by decide, by decide, by decide, by decide, by decide⟩⟩

theorem witness_EmptyQueuePops :
    (∃ (d : Dev) (m : Master) (q e : Nat), d.inReset = false ∧ m.ok = true ∧ q < 1024 ∧ (d.queue q).depth = 0 ∧ d.queueRight q false m = true ∧
      m = .engine e ∧ d.depotOn (e / 8) = true) ∧
    (∃ (d : Dev) (m : Master) (q : Nat), d.inReset = false ∧ m.ok = true ∧ q < 1024 ∧ (d.queue q).depth = 0 ∧ d.queueRight q false m = true ∧
      m.isEngine = false ∧ d.admits m ⟨row_QM_Qn_POP, [q], 0⟩ = true) :=
  ⟨⟨(up.wr (QM_Qn_CFG_POPDEP 1023) 128).wr (DEP_STAT_PWRSTATE 7) 2, .engine 63, 1023, 63, by decide, by decide, by decide, by decide, by decide, rfl,
      by decide⟩,
    ⟨up.put (QM_Qn_CFG_POPHOST 0) true, .pcie, 0, by decide, by decide, by decide, by decide, by decide, by decide, by decide⟩⟩

/-- A queue of two entries with one, and with two. -/
theorem witness_QueueKeepsOrder :
    (∃ (d : Dev) (q : Nat), d.on (QM_Qn_CFG_EN q) = true ∧ (d.queue q).fault = false ∧ d.on (QM_Qn_CFG_ORG q) = false ∧
      (d.queue q).depth + 1 = d.queueSize q ∧ ∃ x later, (d.queue q).win = some x :: later) ∧
    (∃ (d : Dev) (q : Nat), d.on (QM_Qn_CFG_EN q) = true ∧ (d.queue q).fault = false ∧ d.on (QM_Qn_CFG_ORG q) = false ∧
      d.queueSize q = (d.queue q).depth ∧ (d.queue q).refused = true) ∧
    (∃ (d : Dev) (q : Nat), d.on (QM_Qn_CFG_EN q) = true ∧ (d.queue q).fault = false ∧ d.on (QM_Qn_CFG_ORG q) = false ∧
      d.queueSize q = (d.queue q).depth ∧ (d.queue q).refused = false) :=
  ⟨⟨((up.put (QM_Qn_CFG_EN 0) true).wr (QM_Qn_CFG_LOG2 0) 1).setQueue 0 { win := [some 5] }, 0, by decide, by decide, by decide, by decide, 5, [],
      by decide⟩,
    ⟨((up.put (QM_Qn_CFG_EN 0) true).wr (QM_Qn_CFG_LOG2 0) 1).setQueue 0 { win := [some 5, some 6], refused := true }, 0, by decide, by decide,
      by decide, by decide, by decide⟩,
    ⟨((up.put (QM_Qn_CFG_EN 0) true).wr (QM_Qn_CFG_LOG2 0) 1).setQueue 0 { win := [some 5, some 6] }, 0, by decide, by decide, by decide, by decide,
      by decide⟩⟩

theorem witness_MailboxDeliversOnce :
    (∃ (d : Dev) (who : Master) (n x y z : Nat), d.mbSender n who = true ∧ d.on (MBX_MBm_CFG_EN n) = true ∧
      tgetD (d.box n).staging who.uid [0, 0, 0] = [x, y, z] ∧ (d.box n).msg = none) ∧
    (∃ (d : Dev) (who : Master) (n x y z : Nat) (g : Msg), d.mbSender n who = true ∧ d.on (MBX_MBm_CFG_EN n) = true ∧
      tgetD (d.box n).staging who.uid [0, 0, 0] = [x, y, z] ∧ (d.box n).msg = some g) :=
  ⟨⟨(up.wr (MBX_MBm_CFG_SENDDEP 255) 1).put (MBX_MBm_CFG_EN 255) true, .engine 7, 255, 0, 0, 0, by decide, by decide, by decide, by decide⟩,
    ⟨((up.put (MBX_MBm_CFG_SENDHOST 0) true).put (MBX_MBm_CFG_EN 0) true).setBox 0 { msg := some ⟨1, 0, 0, 1, 0, [1, 2, 3, 4]⟩ }, .pcie, 0, 0, 0, 0,
      ⟨1, 0, 0, 1, 0, [1, 2, 3, 4]⟩, by decide, by decide, by decide, by decide⟩⟩

theorem witness_LockHasOneHolder : ∃ (d : Dev) (a b : Master) (n : Nat), a.uid ≠ b.uid ∧ (d.lock n).holder = none :=
  ⟨up, .engine 63, .pcie, 63, by decide, by decide⟩

theorem witness_CanTransmitRequests :
    (∃ (d : Dev) (p b : Nat), p < 2 ∧ b < 32 ∧ d.txst p b ≠ txPending ∧ d.txst p b ≠ txActive ∧
      (d.on (CAN_TXBb_CTL_FDF p b) = true → d.on (CAN_CFG_FDEN p) = true ∧ d.on (CAN_TXBb_ID_RTR p b) = false) ∧
      (d.on (CAN_TXBb_CTL_FDF p b) = false → d.on (CAN_TXBb_CTL_BRS p b) = false)) ∧
    (∃ (d : Dev) (p b : Nat), p < 2 ∧ b < 32 ∧ d.txst p b = txPending) ∧ (∃ (d : Dev) (p b : Nat), p < 2 ∧ b < 32 ∧ d.txst p b = txActive) ∧
    (∃ (d : Dev) (p b : Nat), p < 2 ∧ b < 32 ∧ d.txst p b ≠ txPending ∧ d.txst p b ≠ txActive ∧
      d.on (CAN_TXBb_CTL_FDF p b) = true ∧ d.on (CAN_CFG_FDEN p) = false) ∧
    (∃ (d : Dev) (p b : Nat), p < 2 ∧ b < 32 ∧ d.txst p b ≠ txPending ∧ d.txst p b ≠ txActive ∧
      d.on (CAN_TXBb_CTL_FDF p b) = true ∧ d.on (CAN_TXBb_ID_RTR p b) = true) ∧
    (∃ (d : Dev) (p b : Nat), p < 2 ∧ b < 32 ∧ d.txst p b ≠ txPending ∧ d.txst p b ≠ txActive ∧
      d.on (CAN_TXBb_CTL_FDF p b) = false ∧ d.on (CAN_TXBb_CTL_BRS p b) = true) :=
  ⟨⟨(up.put (CAN_TXBb_CTL_FDF 1 31) true).put (CAN_CFG_FDEN 1) true, 1, 31, by decide, by decide, by decide, by decide, by decide, by decide⟩,
    ⟨up.wr (CAN_TXBb_STAT_TXST 0 0) txPending, 0, 0, by decide, by decide, by decide⟩,
    ⟨up.wr (CAN_TXBb_STAT_TXST 0 31) txActive, 0, 31, by decide, by decide, by decide⟩,
    ⟨(up.put (CAN_TXBb_CTL_FDF 0 0) true).put (CAN_CFG_FDEN 0) false, 0, 0, by decide, by decide, by decide, by decide, by decide, by decide⟩,
    ⟨(up.put (CAN_TXBb_CTL_FDF 0 0) true).put (CAN_TXBb_ID_RTR 0 0) true, 0, 0, by decide, by decide, by decide, by decide, by decide, by decide⟩,
    ⟨up.put (CAN_TXBb_CTL_BRS 0 0) true, 0, 0, by decide, by decide, by decide, by decide, by decide, by decide⟩⟩

theorem witness_FunctionResetRequests :
    (∃ (d : Dev) (m : Master) (uid : Nat), d.inReset = false ∧ wellFormed (.functionResetRequest m uid) = true ∧
      d.accepts m (row_SUP_FNRST.last []) (BitVec.ofNat 32 (0xC3000000 + uid)).toNat = true ∧ resettable uid = true ∧ uid ≠ 2 ∧
      d.on SUP_FNLAST_BUSY = false) ∧
    (∃ (d : Dev) (m : Master) (uid : Nat), d.inReset = false ∧ wellFormed (.functionResetRequest m uid) = true ∧
      d.accepts m (row_SUP_FNRST.last []) (BitVec.ofNat 32 (0xC3000000 + uid)).toNat = true ∧ resettable uid = true ∧ uid ≠ 2 ∧
      d.on SUP_FNLAST_BUSY = true) ∧
    (∃ d : Dev, d.inReset = false ∧ (∀ q < 1024, ¬ d.resetting (0x100 + q)) ∧ ∀ n < 256, ¬ d.resetting (0x600 + n)) :=
  ⟨⟨up, .pcie, 0x6FF, by decide, by decide, by decide, by decide, by decide, by decide⟩,
    ⟨up.put SUP_FNLAST_BUSY true, .spi, 0x100, by decide, by decide, by decide, by decide, by decide, by decide⟩,
    ⟨up, by decide, fun _ _ h => absurd h.1 (by decide), fun _ _ h => absurd h.1 (by decide)⟩⟩

theorem witness_EventsFoldOrQueue :
    (∃ (d : Dev) (l : List EvRec) (r : EvRec), d.evr.fifo = l ++ [r] ∧ d.evr.tailOk = true ∧ d.evr.lossDue = false ∧ r.rep = 0xFFFE) ∧
    (∃ d : Dev, (d.evr.tailOk = false ∨ d.evr.lossDue = true) ∧ d.evr.fifo.length = 255 ∧ d.inhibit = false ∧ d.evr.logFail = false) ∧
    (∃ d : Dev, (d.evr.tailOk = false ∨ d.evr.lossDue = true) ∧ d.evr.fifo.length = 256) :=
  ⟨⟨{ up with evr := { up.evr with fifo := [ev0, { ev0 with rep := 0xFFFE }], tailOk := true } }, [ev0], { ev0 with rep := 0xFFFE }, by decide, by decide,
      by decide, by decide⟩,
    ⟨{ up with evr := { up.evr with fifo := List.replicate 255 ev0, lossDue := true } }, by decide, by decide, by decide, by decide⟩,
    ⟨{ up with evr := { up.evr with fifo := List.replicate 256 ev0, tailOk := false } }, by decide, by decide⟩⟩

theorem witness_SoftwareRecords :
    ∃ (d : Dev) (m : Master) (v w : BitVec 32), d.inReset = false ∧ m.ok = true ∧ d.accepts m (row_EVR_INJDATA.last []) v.toNat = true ∧
      d.accepts m (row_EVR_INJECT.last []) w.toNat = true :=
  ⟨up, .engine 63, 0xFFFFFFFF, 15, by decide, by decide, by decide, by decide⟩

theorem witness_InterruptMessages :
    (∃ (d : Dev) (v : Nat), d.inReset = false ∧ v < 256 ∧ d.vecPending v = true) ∧
    (∃ (d : Dev) (v : Nat), d.inReset = false ∧ v < 256 ∧ d.vecPending v = false ∧ d.vecOpen v = false) ∧
    (∃ (d : Dev) (v : Nat), d.inReset = false ∧ v < 256 ∧ d.vecPending v = false ∧ d.vecOpen v = true ∧
      tget d.hif.posted v = some d.tb.lt) ∧
    (∃ (d : Dev) (v : Nat), d.inReset = false ∧ v < 256 ∧ d.vecPending v = false ∧ d.vecOpen v = true ∧
      tget d.hif.posted v ≠ some d.tb.lt) :=
  ⟨⟨up.wr (HIF_PENDi_PEND 7) (2 ^ 31), 255, by decide, by decide, by decide⟩, ⟨up, 0, by decide, by decide, by decide, by decide⟩,
    ⟨{ (up.put HIF_STAT_LINK true) with hif := { up.hif with
        busMaster := true, fnMask := false, vectors := [(255, ⟨0x1000, 7, false⟩)], posted := [(255, up.tb.lt)] } }, 255,
      by decide, by decide, by decide, by decide, by decide⟩,
    ⟨{ (up.put HIF_STAT_LINK true) with hif := { up.hif with busMaster := true, fnMask := false, vectors := [(255, ⟨0x1000, 7, false⟩)] } }, 255,
      by decide, by decide, by decide, by decide, by decide⟩⟩

end Sys2Proof.Tests
end

/-! The accesses to registers in general (spec/00, R6, R9, R477, R534, R535): O33, O34, O35, O36 and O2. -/

namespace Sys2Proof.Machine

/-! ### Writes of registers in general -/

/-- A write of the last word of a register that is admitted comes to the judgement of its whole value. -/
theorem Dev.answers_registerWrite_last (d : Dev) {m : Master} {a : RegAt} {off : Nat} {v : BitVec 32} (hr : d.inReset = false)
    (hw : wellFormed (.registerWrite m off v true) = true) (hn : a.named off) (hl : a.word + 1 = a.row.words)
    (ha : d.admits m a = true) :
    d.answers (.registerWrite m off v true)
      ((d.dropStaged m a).regWriteWhole m a (d.committed m a (d.presentValue a) v.toNat)) :=
  d.answers_registerWrite hr hw (d.put32_last hn hl ha)

/-- A write of the last word of a register that is accepted takes the effect of the register. -/
theorem Dev.answers_registerWrite_accepts (d : Dev) {m : Master} {a : RegAt} {off : Nat} {v : BitVec 32} {x : Nat}
    (hr : d.inReset = false) (hw : wellFormed (.registerWrite m off v true) = true) (hn : a.named off)
    (hl : a.word + 1 = a.row.words) (hwr : a.row.writable = true) (hx : d.committed m a (d.presentValue a) v.toNat = x)
    (ha : d.accepts m a x = true) : d.answers (.registerWrite m off v true) ((d.dropStaged m a).regApply m a x) := by
  obtain ⟨hf, ho, h1, h2, h3, hk⟩ := hn
  exact d.answers_registerWrite hr hw (d.put32_accepts m v.toNat hf ho h1 h2 h3 hk hl hwr hx ha)

/-- A word that the map names lies within its register. -/
theorem RegAt.named.word_lt {a : RegAt} {off : Nat} (hn : a.named off) : a.word < a.row.words := by
  obtain ⟨hf, -⟩ := hn
  unfold findReg at hf
  obtain ⟨r, -, hf⟩ := List.exists_of_findSome?_eq_some hf
  unfold RegRow.at_ at hf
  split at hf
  · cases hf
  · split at hf
    · split at hf
      · cases hf
        dsimp only
        omega
      · cases hf
    · cases hf

/-- The one word of a one-word register is its last. -/
theorem RegAt.named.last_of_one {a : RegAt} {off : Nat} (hn : a.named off) (h1 : a.row.words = 1) : a.word + 1 = a.row.words := by
  have := hn.word_lt
  omega

/-- The write of a one-word register commits the word written, whatever the register holds. -/
theorem Dev.committed_word (d : Dev) (m : Master) {a : RegAt} (p : Nat) (v : BitVec 32) (h1 : a.row.words = 1) :
    d.committed m a p v.toNat = v.toNat :=
  (d.committed_one m a p v.toNat h1).trans (bitVec32_mod v)

/-! ### Plain registers -/

/-- An ordinary register's effect is the store of its fields. -/
theorem Dev.regApply_plain (d : Dev) (m : Master) {a : RegAt} (v : Nat) (hk : a.row.kind = .plain) :
    d.regApply m a v = d.regStore a v := by
  unfold Dev.regApply
  rw [hk]

/-- What differs from a device without a register's staging in registers and staging alone, differs so from the device itself. -/
theorem Dev.sameBut_of_dropStaged {d d' : Dev} {m : Master} {a : RegAt} {fs : List Fld} (h : (d.dropStaged m a).sameBut d' fs) :
    d.sameBut d' fs := by
  obtain ⟨hrd, hrest⟩ := h
  exact ⟨hrd, congrArg (fun x : Dev => { x with staged := d.staged }) hrest⟩

/-- Settles O33: an accepted write of an ordinary register is the store of its fields. -/
theorem plainRegisterWrite : Obligations.PlainRegisterWrite := by
  unfold Obligations.PlainRegisterWrite
  intro d m a off v hr hw hn hk h1 hwr ha
  obtain ⟨hfields, hsame⟩ := (d.dropStaged m a).regStore_spec a v.toNat hn.1
  refine ⟨(d.dropStaged m a).regStore a v.toNat, ?_, hfields, Dev.sameBut_of_dropStaged hsame⟩
  rw [← Dev.regApply_plain _ m _ hk]
  exact d.answers_registerWrite_accepts hr hw hn (hn.last_of_one h1) hwr (d.committed_word m _ v h1) ha

/-! ### Reserved values -/

/-- A register with a field that is neither RO nor RC is judged. -/
theorem RegRow.judged_of_writable {r : RegRow} (h : r.writable = true) : r.judged = true := by
  simp [RegRow.judged, h]

/-- A reserved value that no leniency lets through is an ignored write of kind 3 (R9, R533). -/
theorem Dev.regWriteWhole_reserved (d : Dev) (m : Master) {a : RegAt} {v : Nat} (hwr : a.row.writable = true)
    (hab : a.absent = false) (hl : d.lenient a v = false) (hv : a.row.reservedIn v = true) :
    d.regWriteWhole m a v = d.ignoredWrite 3 a.off := by
  unfold Dev.regWriteWhole
  rw [if_neg (by simp [RegRow.judged_of_writable hwr, hab]), if_neg (by simp [hl]), if_pos hv]

/-- An ignored write of a reserved value sets SUP_STAT.RANGE. -/
theorem Dev.ignoredWrite_range (d : Dev) (off : Nat) : (d.ignoredWrite 3 off).on SUP_STAT_RANGE = true := by
  have hpost : (d.ignoredWrite 3 off).rd SUP_STAT_RANGE = (d.put SUP_STAT_RANGE true).rd SUP_STAT_RANGE :=
    Dev.rd_postEvent _ _ _ _ _ _ (by decide)
  unfold Dev.on
  rw [hpost]
  exact Dev.on_put_self d SUP_STAT_RANGE true rfl

/-- An ignored write of a reserved value leaves the fields outside the supervisor's status and the recorder's counters. -/
theorem Dev.rd_ignoredWrite_range (d : Dev) (off : Nat) {g : Fld} (h1 : g.key ≠ SUP_STAT_RANGE.key) (h2 : g.key ∉ postKeys) :
    (d.ignoredWrite 3 off).rd g = d.rd g :=
  (Dev.rd_postEvent _ _ _ _ _ _ h2).trans (Dev.rd_put_ne d true h1)

/-- Settles O34: the judgement rejects the value, and no enumerated register shares a field with what the rejection records. -/
theorem reservedValueRejected : Obligations.ReservedValueRejected := by
  unfold Obligations.ReservedValueRejected
  intro d m a off v hr hw hn hl hwr ha hab hlen hv
  refine ⟨(d.dropStaged m a).ignoredWrite 3 a.off, ?_, rfl, Dev.ignoredWrite_range _ _, fun f hf => ?_⟩
  · rw [← Dev.regWriteWhole_reserved (d.dropStaged m a) m hwr hab hlen hv]
    exact d.answers_registerWrite_last hr hw hn hl ha
  · obtain ⟨hrange, hpost⟩ := fields_far hn.1 hv f hf
    exact Dev.rd_ignoredWrite_range _ _ hrange hpost

/-! ### Locked configuration -/

/-- What locking makes of a value in one field: the present value in an RWL field (R534). -/
def Dev.lockField (d : Dev) (a : RegAt) (v : Nat) (f : FieldSpec) : Nat :=
  if f.acc = .rwl then setBits v f.lo f.width (d.rd (a.fld f)) else v

theorem Dev.lockedValue_eq_foldl (d : Dev) (a : RegAt) (v : Nat) : d.lockedValue a v = a.row.fields.foldl (d.lockField a) v := rfl

theorem Dev.bits_lockField_self (d : Dev) (a : RegAt) (v : Nat) (f : FieldSpec) :
    bits (d.lockField a v f) f.lo f.width = if f.acc = .rwl then d.rd (a.fld f) % 2 ^ f.width else bits v f.lo f.width := by
  unfold Dev.lockField
  split
  · exact setBits_bits ..
  · rfl

theorem Dev.bits_lockField_apart (d : Dev) (a : RegAt) (v : Nat) {f : FieldSpec} {lo w : Nat}
    (h : f.lo + f.width ≤ lo ∨ lo + w ≤ f.lo) : bits (d.lockField a v f) lo w = bits v lo w := by
  unfold Dev.lockField
  split
  · exact bits_setBits_other v _ h
  · rfl

/-- Locking a list of fields leaves the bits of a field that lies apart from each of them. -/
theorem Dev.bits_lockFields_apart (d : Dev) (a : RegAt) {l : List FieldSpec} {lo w : Nat}
    (h : ∀ f ∈ l, f.lo + f.width ≤ lo ∨ lo + w ≤ f.lo) (v : Nat) : bits (l.foldl (d.lockField a) v) lo w = bits v lo w := by
  induction l generalizing v with
  | nil => rfl
  | cons g l ih =>
    rw [List.foldl_cons, ih (fun f hf => h f (List.mem_cons_of_mem _ hf)), d.bits_lockField_apart a v (h g (List.mem_cons_self ..))]

/-- Among fields that lie apart, locking them all acts on each as locking it alone. -/
theorem Dev.bits_lockFields_mem (d : Dev) (a : RegAt) {l : List FieldSpec}
    (hp : l.Pairwise (fun f g => f.lo + f.width ≤ g.lo ∨ g.lo + g.width ≤ f.lo)) {f : FieldSpec} (hf : f ∈ l) (v : Nat) :
    bits (l.foldl (d.lockField a) v) f.lo f.width
      = if f.acc = .rwl then d.rd (a.fld f) % 2 ^ f.width else bits v f.lo f.width := by
  induction l generalizing v with
  | nil => cases hf
  | cons g l ih =>
    obtain ⟨hg, hl⟩ := List.pairwise_cons.mp hp
    rw [List.foldl_cons]
    rcases List.mem_cons.mp hf with rfl | hf
    · rw [d.bits_lockFields_apart a (fun k hk => (hg k hk).symm), d.bits_lockField_self]
    · rw [ih hl hf, d.bits_lockField_apart a v (hg f hf)]

/-- The bits of a register's field in the locked value. -/
theorem Dev.bits_lockedValue (d : Dev) {a : RegAt} {off : Nat} (hf : findReg off = some a) {f : FieldSpec} (hm : f ∈ a.row.fields)
    (v : Nat) : bits (d.lockedValue a v) f.lo f.width
      = if f.acc = .rwl then d.rd (a.fld f) % 2 ^ f.width else bits v f.lo f.width := by
  rw [d.lockedValue_eq_foldl, d.bits_lockFields_mem a (findReg_apart hf) hm]

/-- Under SUP_LOCK an ordinary register stores the locked value, and the write is recorded where that differs (R534). -/
theorem Dev.regWriteWhole_locked (d : Dev) (m : Master) {a : RegAt} {v : Nat} (hwr : a.row.writable = true)
    (hk : a.row.kind = .plain) (hv : a.row.reservedIn v = false) (hlock : d.on SUP_LOCK_LOCK = true) :
    d.regWriteWhole m a v
      = (d.when (decide (d.lockedValue a v ≠ v)) (fun d => d.ignoredWrite 2 a.off)).regStore a (d.lockedValue a v) := by
  have hab : a.absent = false := by simp [RegAt.absent, hk]
  have hlen : d.lenient a v = false := by simp [Dev.lenient, hk]
  unfold Dev.regWriteWhole
  rw [if_neg (by simp [RegRow.judged_of_writable hwr, hab]), if_neg (by simp [hlen]), if_neg (by simp [hv]), if_pos hlock]
  exact Dev.regApply_plain _ m _ hk

/-- Settles O35: the value stored has the present bits in its RWL fields, for the fields of a register lie apart. -/
theorem lockedFieldsKeep : Obligations.LockedFieldsKeep := by
  unfold Obligations.LockedFieldsKeep
  intro d m a off v hr hw hn hk h1 hwr ha hv hlock
  have hans := d.answers_registerWrite_last hr hw hn (hn.last_of_one h1) ha
  rw [d.committed_word m _ v h1, Dev.regWriteWhole_locked (d.dropStaged m a) m hwr hk hv hlock] at hans
  refine ⟨_, hans, fun hsame => ?_, fun hdiff => ?_, fun f hf hacc => ?_, fun f hf hacc => ?_⟩
  · have hsame' : (d.dropStaged m a).lockedValue a v.toNat = v.toNat := hsame
    simp [hsame']
  · have hdiff' : (d.dropStaged m a).lockedValue a v.toNat ≠ v.toNat := hdiff
    simp only [hdiff', decide_true, ne_eq, not_false_eq_true, Dev.when_true]
    rfl
  · rw [d.bits_lockedValue hn.1 hf, if_pos hacc]
  · rw [d.bits_lockedValue hn.1 hf, if_neg hacc]

/-! ### Registers of two words -/

/-- A word of an ordinary register below its highest is staged, and nothing else happens (R535). -/
theorem Dev.answers_wideRegisterStage (d : Dev) {m : Master} {a : RegAt} {off : Nat} {v : BitVec 32} (hr : d.inReset = false)
    (hw : wellFormed (.wideRegisterStage m off v) = true) (hn : a.named off) (hl : a.word + 1 < a.row.words)
    (ha : d.admits m a = true) : d.answers (.wideRegisterStage m off v) (d.stageWord m off v.toNat) := by
  obtain ⟨hf, ho, h1, h2, h3, hk⟩ := hn
  have hthere : regThere off (fun a => decide (a.word + 1 < a.row.words)) = true := by simp [regThere, hf, hl]
  refine Dev.answers_core d (ok := m.ok && offOk off) (f := fun d =>
    if regThere off (fun a => decide (a.word + 1 < a.row.words)) then d.put32 m off v.toNat else d) (fun s => rfl) hw hr ?_
  rw [if_pos hthere]
  exact d.put32_stage m v.toNat hf ho h1 h2 h3 hk hl ha

/-- The word that a master has just staged is the one found at its offset. -/
theorem Dev.wordOf_stageWord (d : Dev) (m : Master) (off : Nat) (v : BitVec 32) :
    wordOf (d.stageWord m off v.toNat).staged m.uid off = some v.toNat := by
  simpa [wordOf, Dev.stageWord] using v.isLt

/-- A two-word register commits the low word staged and the high word written as one value (R535). -/
theorem Dev.committed_two (d : Dev) (m : Master) {a : RegAt} (p x : Nat) (w : BitVec 32) (h2 : a.row.words = 2)
    (hlow : wordOf d.staged m.uid a.off = some x) : d.committed m a p w.toNat = x + w.toNat * 2 ^ 32 := by
  have hlow : wordOf d.staged m.uid (a.off + 4 * 0) = some x := hlow
  unfold Dev.committed
  rw [h2, show List.range 2 = [0, 1] from rfl, List.foldl_cons, List.foldl_cons, List.foldl_nil]
  rw [if_neg (by decide), if_pos (by decide), hlow, bitVec32_mod, Option.getD_some, Nat.mul_zero, Nat.pow_zero, Nat.mul_one,
    Nat.zero_add]

/-- Settles O36: the low word stages, and the committed value is made of the word staged and the word written. -/
theorem wideRegisterCommitsAsOne : Obligations.WideRegisterCommitsAsOne := by
  unfold Obligations.WideRegisterCommitsAsOne
  intro d m a off v w hr hw h0 h2 hn hn1 hwr hacc ha
  have hoff : a.off = off := by
    obtain ⟨-, ho, -⟩ := hn
    omega
  have hwf : wellFormed (.registerWrite m (off + 4) w true) = true := by
    obtain ⟨-, -, hlt, -⟩ := hn
    simp only [wellFormed, offOk, Bool.and_eq_true, beq_iff_eq, decide_eq_true_eq, Bool.true_or, and_true] at hw ⊢
    obtain ⟨hm, hal, -⟩ := hw
    exact ⟨hm, by omega, by omega⟩
  have hstage := d.answers_wideRegisterStage hr hw hn (by omega) ha
  have hlow : wordOf (d.stageWord m off v.toNat).staged m.uid a.off = some v.toNat := by rw [hoff, Dev.wordOf_stageWord]
  have hcom := (d.stageWord m off v.toNat).committed_two m (a := { a with word := 1 })
    ((d.stageWord m off v.toNat).presentValue { a with word := 1 }) v.toNat w h2 hlow
  exact ⟨_, _, hstage, rfl, (d.stageWord m off v.toNat).answers_registerWrite_accepts hr hwf hn1 h2.symm hwr hcom hacc, rfl⟩

/-! ### Register accesses by command -/

/-- A PCIe write of less than a word (R477). -/
theorem Dev.answers_narrowWrite (d : Dev) {m : Master} {off : Nat} {v : BitVec 32} (hr : d.inReset = false)
    (hw : wellFormed (.registerWrite m off v false) = true) {d' : Dev} (h : d.narrowWrite off = d') :
    d.answers (.registerWrite m off v false) d' :=
  Dev.answers_core d (ok := m.ok && offOk off && (false || (m == .pcie && !inShared off)))
    (f := fun d => if false then d.put32 m off v.toNat else d.narrowWrite off) (fun _ => rfl) hw hr h

/-- A narrow write outside the reserved ranges is refused (R477). -/
theorem Dev.narrowWrite_refused (d : Dev) {off : Nat} (h1 : d.hostShutOut .pcie off = false) (h2 : offReserved off = false) :
    d.narrowWrite off = (d.put HIF_STAT_REFUSED true).postEvent 0x0305 0x001 (off % 2 ^ 26) := by
  unfold Dev.narrowWrite
  rw [if_neg (by simp [h1]), if_neg (by simp [h2])]

/-- A narrow write in a reserved range ends as a bus error (R524). -/
theorem Dev.narrowWrite_reserved (d : Dev) {off : Nat} (h1 : d.hostShutOut .pcie off = false) (h2 : offReserved off = true) :
    d.narrowWrite off = (d.busErrorAt .pcie off).1 := by
  unfold Dev.narrowWrite
  rw [if_neg (by simp [h1]), if_pos h2]

/-- A read in a reserved range below the shared-memory window ends as a bus error (R524). -/
theorem Dev.busRead_reserved (d : Dev) {m : Master} {off : Nat} (h1 : d.hostShutOut m off = false) (h2 : off < 0x1000000)
    (h3 : offReserved off = true) : d.busRead m off = d.busErrorAt m off := by
  unfold Dev.busRead
  rw [if_neg (by simp [h1]), if_neg (by omega), if_pos h3]

/-- Settles O2, clause by clause: an accepted write, the two ends of a narrow write, a staged word, and the reads. -/
theorem registerAccessCommandsComplete : Obligations.RegisterAccessCommandsComplete := by
  unfold Obligations.RegisterAccessCommandsComplete
  intro d hr
  refine ⟨?write, ?narrow, ?narrowReserved, ?stage, ?read, ?readReserved, ?readClear⟩
  case write =>
    rintro m off v _ a hw rfl hf ho h1 h2 h3 hk hl hwr ha
    exact d.answers_registerWrite_accepts hr hw ⟨hf, ho, h1, h2, h3, hk⟩ hl hwr rfl ha
  case narrow =>
    rintro m off v _ hw rfl h1 h2
    exact d.answers_narrowWrite hr hw (d.narrowWrite_refused h1 h2)
  case narrowReserved =>
    rintro m off v _ hw rfl h1 h2
    exact d.answers_narrowWrite hr hw (d.narrowWrite_reserved h1 h2)
  case stage =>
    intro m off v a hw hf ho h1 h2 h3 hk hl ha
    exact d.answers_wideRegisterStage hr hw ⟨hf, ho, h1, h2, h3, hk⟩ hl ha
  case read =>
    intro m off a hw hf ho h1 h2 h3 ha
    exact d.answers_read (fun _ => rfl) hw hr hf ho h1 h2 h3 ha rfl
  case readReserved =>
    intro m off hw h1 h2 h3
    refine d.answers_core (f := fun d => d.get32 m off) (fun _ => rfl) hw hr ?_
    unfold Dev.get32
    rw [d.busRead_reserved h1 h2 h3]
  case readClear =>
    intro m off a hw hf ho h1 h2 h3 _ ha
    exact d.answers_read (fun _ => rfl) hw hr hf ho h1 h2 h3 ha rfl

end Sys2Proof.Machine

/-! The commands of the supervisor and the always-on island (spec/16): O16. -/

namespace Sys2Proof.Machine

/-! ### Registers of the supervisor -/

/-- A row is that of a single writable one-word register of the supervisor, at an offset. -/
structure RegRow.SupReg (r : RegRow) (off : Nat) (k : SupKind) : Prop where
  base : r.base = off := by rfl
  dims : r.dims = [] := by rfl
  words : r.words = 1 := by rfl
  kind : r.kind = .sup k := by rfl
  writable : r.writable = true := by rfl
  low : 0x10000 ≤ off := by decide
  high : off < 0x20000 := by decide

/-- A command that writes a register of the supervisor, where the write is accepted. -/
theorem Dev.answers_supWrite (d : Dev) {c : Instr} {ok : Bool} {m : Master} {off : Nat} {v : BitVec 32} {r : RegRow} {k : SupKind}
    {d' : Dev} (h : ∀ s, exec c s = s.busW ok m off v) (hk : (m.ok && ok) = true) (hr : d.inReset = false)
    (hf : findReg off = some (r.last [])) (hs : r.SupReg off k) (ha : d.accepts m (r.last []) v.toNat = true)
    (he : (d.dropStaged m (r.last [])).writeSup m (r.last []) k v.toNat = d') : d.answers c d' := by
  obtain ⟨hbase, hdims, hwords, hkind, hwr, hlow, hhigh⟩ := hs
  have hkind' : (r.last []).row.kind = .sup k := hkind
  have ho : (r.last []).off + 4 * (r.last []).word = off := by simp [RegAt.off, RegRow.last, instOff, hdims, hwords, hbase]
  have h2 : offReserved off = false := by simp [offReserved]; omega
  have hl : (r.last []).word + 1 = (r.last []).row.words := by simp [RegRow.last, hwords]
  refine d.answers_write h hk hr hf ho (by omega) h2 (winAt_low (by omega) (by omega)) (by rw [hkind']; rfl) hl hwr
    (d.committed_word m _ v hwords) ha ?_
  unfold Dev.regApply
  rw [hkind']
  exact he

/-! ### What a write of each register comes to, where nothing refuses it -/

/-- CLR by the supervisor, with no other bit of its own set and no cause left, clears the fault (R441). -/
theorem Dev.faultWrite_clear (d : Dev) {v : Nat} (h9 : bit v 9 = true) (h0 : bit v 0 = false) (h1 : bit v 1 = false)
    (h4 : bit v 4 = false) (h8 : bit v 8 = false) (hc : d.rd SUP_FAULT_CAUSE = 0) :
    d.faultWrite .supervisor v = (d.put SUP_FAULT_RINGKEEP (bit v 16)).faultClear := by
  simp [Dev.faultWrite, h9, h0, h1, h4, h8, hc]

/-- The first kick after the watchdog's count began restarts it (R446). -/
theorem Dev.wdKickWrite_first (d : Dev) {v : Nat} (hv : bits v 24 8 = 0x96) (hen : d.on SUP_WDCFG_EN = true)
    (hk : d.sup.wdKick = none) :
    d.wdKickWrite v = (d.modSup (fun x => { x with wdKick := some d.tb.lt })).modSup
      (fun x => { x with wdFrom := d.tb.lt, wdOut := false }) := by
  unfold Dev.wdKickWrite
  rw [if_neg (by simp [hv]), if_neg (by simp [hen]), hk]
  rfl

/-- Once TIMEOUT units have passed since the count began, the watchdog has counted down (R446). -/
theorem Dev.watchdog_expires (d : Dev) (hen : d.on SUP_WDCFG_EN = true) (ho : d.sup.wdOut = false)
    (ht : d.rd SUP_WDCFG_TIMEOUT ≤ d.wdUnits d.sup.wdFrom) : d.watchdog = d.wdExpire false := by
  have hrem : d.wdRemain = 0 := by
    unfold Dev.wdRemain
    rw [if_pos (by simp [hen, ho])]
    omega
  unfold Dev.watchdog
  rw [if_pos (by simp [Dev.wdDone, hen, ho, hrem])]

/-- The grace time that has run out ends in a WARM reset (R447). -/
theorem Dev.graceEnd_over (d : Dev) (hg : d.sup.grace = true)
    (ht : d.sup.graceAt + d.rd SUP_WDGRACE_GRACE * (1000000 * 65536) ≤ d.tb.lt) : d.graceEnd = d.warm 6 := by
  unfold Dev.graceEnd
  rw [if_pos (by simp only [hg, Bool.true_and, decide_eq_true_eq]; exact ht)]

/-- Gates of blocks that are not in use are written (R453). -/
theorem Dev.gateWrite_free (d : Dev) {v : Nat}
    (h : (List.range 6).any (fun b => bit v b && !bit (d.rd SUP_CGATE_GATE) b && d.gateInUse b) = false) :
    d.gateWrite v = d.wr SUP_CGATE_GATE v := by
  unfold Dev.gateWrite
  rw [if_neg (by simp only [h, Bool.false_eq_true, not_false_eq_true])]

/-! ### Standby and wake -/

/-- The core goes into Standby, no wake source having come (R451). -/
theorem Dev.coreOff_sleeps (d : Dev) (h : d.sup.phase = .entering none) :
    d.coreOff = (d.coreReset false).modSup (fun x => { x with phase := .standby }) := by
  simp only [Dev.coreOff, h]

/-- A wake source that came during the entry into Standby applies at once (R454). -/
theorem Dev.coreOff_wakes (d : Dev) {src : WakeSrc} (h : d.sup.phase = .entering (some src)) :
    d.coreOff = ((d.coreReset false).modSup (fun x => { x with phase := .standby })).wakeNow src := by
  simp only [Dev.coreOff, h]

/-- An enabled wake source acts at once in Standby (R452). -/
theorem Dev.wake_standby (d : Dev) {src : WakeSrc} (h : d.sup.phase = .standby) (ha : d.wakeArmed src = true) :
    d.wake src = d.wakeNow src := by
  simp [Dev.wake, h, ha]

/-- An enabled wake source is kept during the entry into Standby (R454). -/
theorem Dev.wake_entering (d : Dev) {src : WakeSrc} (h : d.sup.phase = .entering none) (ha : d.wakeArmed src = true) :
    d.wake src = d.modSup (fun x => { x with phase := .entering (some src) }) := by
  simp [Dev.wake, h, ha]

/-- Settles O16: the commands of the core first, then those that act also while it is held in reset. -/
theorem supervisorCommandsComplete : Obligations.SupervisorCommandsComplete := by
  unfold Obligations.SupervisorCommandsComplete
  intro d
  refine ⟨fun hr => ⟨?functionReset, ?supervisorReset, ?faultSet, ?faultClear, ?pllLoss, ?pllRelock, ?engineError, ?kick, ?expiry,
    ?grace, ?temperature, ?standby, ?gates, ?lock⟩, ?inhibitStart, ?inhibitEnd, ?coreOff, ?coreOffWake, ?wakeStandby, ?wakeEntering⟩
  case functionReset =>
    intro m uid hw ha hres hbusy h2
    have huid : uid < 4096 := by
      simp only [wellFormed, Bool.and_eq_true, decide_eq_true_eq] at hw
      exact hw.2
    exact d.answers_supWrite (k := .fnRst) (fun _ => rfl) hw hr at_SUP_FNRST {} ha (Dev.fnResetWrite_starts huid hres hbusy h2)
  case supervisorReset => exact fun hb => d.answers_fn (fun _ => rfl) rfl hr hb
  case faultSet =>
    intro m v hw ha _
    exact d.answers_supWrite (k := .fault) (fun _ => rfl) ((Bool.and_true _).trans hw) hr at_SUP_FAULT {} ha rfl
  case faultClear =>
    rintro m v hw ha rfl h0 h1 h4 h8 hc _
    exact d.answers_supWrite (k := .fault) (fun _ => rfl) rfl hr at_SUP_FAULT {} ha
      (Dev.faultWrite_clear _ (bit_withField_one v (by decide)) h0 h1 h4 h8 hc)
  case pllLoss => exact d.answers_core (f := fun d => d.faultSet 3) (fun _ => rfl) rfl hr rfl
  case pllRelock => exact d.answers_core (f := fun d => d.faultDrop 3) (fun _ => rfl) rfl hr rfl
  case engineError => exact d.answers_core (f := fun d => d.faultSet 4) (fun _ => rfl) rfl hr rfl
  case kick =>
    intro m v hw ha hen hk
    exact d.answers_supWrite (k := .wdKick) (fun _ => rfl) ((Bool.and_true _).trans hw) hr at_SUP_WDKICK {} ha
      (Dev.wdKickWrite_first _ (bits_withField v 0x96 (by decide)) hen hk)
  case expiry => exact fun hen ho ht => d.answers_core (fun _ => rfl) rfl hr (d.watchdog_expires hen ho ht)
  case grace => exact fun hg ht => d.answers_core (fun _ => rfl) rfl hr (d.graceEnd_over hg ht)
  case temperature => exact fun tj hw => d.answers_core (f := fun d => d.temperature tj) (fun _ => rfl) hw hr rfl
  case standby =>
    intro m hw ha hp hn
    exact d.answers_supWrite (k := .pwr) (fun _ => rfl) ((Bool.and_true _).trans hw) hr at_SUP_PWR {} ha
      (Dev.standbyWrite_begins hp hn)
  case gates =>
    intro m v hw ha hfree
    exact d.answers_supWrite (k := .cGate) (fun _ => rfl) ((Bool.and_true _).trans hw) hr at_SUP_CGATE {} ha
      (Dev.gateWrite_free _ hfree)
  case lock =>
    intro m hw ha
    exact d.answers_supWrite (k := .lock) (fun _ => rfl) ((Bool.and_true _).trans hw) hr at_SUP_LOCK {} ha rfl
  case inhibitStart =>
    intro why _ hp
    exact d.answers_act (f := fun d => if d.sup.por then d else d.inhibitStart why) (fun _ => rfl) rfl (by rw [if_neg (by simp [hp])])
  case inhibitEnd =>
    intro hp
    exact d.answers_act (f := fun d => if d.sup.por then d else d.inhibitEnd) (fun _ => rfl) rfl (by rw [if_neg (by simp [hp])])
  case coreOff => exact fun hp => d.answers_act (fun _ => rfl) rfl (d.coreOff_sleeps hp)
  case coreOffWake => exact fun src hp => d.answers_act (fun _ => rfl) rfl (d.coreOff_wakes hp)
  case wakeStandby => exact fun src _ hp ha => d.answers_act (f := fun d => d.wake src) (fun _ => rfl) rfl (d.wake_standby hp ha)
  case wakeEntering => exact fun src _ hp ha => d.answers_act (f := fun d => d.wake src) (fun _ => rfl) rfl (d.wake_entering hp ha)

end Sys2Proof.Machine

/-! The timebase under a tick, and the state after reset (spec/02, R25; R432): O26 and O27. -/

namespace Sys2Proof.Machine

/-! ### What the parts of a tick leave alone -/

/-- A conditional update keeps what the update keeps. -/
theorem Dev.when_same {β : Type} (g : Dev → β) {d : Dev} {f : Dev → Dev} (h : g (f d) = g d) (c : Bool) : g (d.when c f) = g d := by
  cases c
  · rfl
  · exact h

@[simp] theorem Dev.setDom_lt (d : Dev) (n : Nat) (x : Domain) : (d.setDom n x).tb.lt = d.tb.lt := rfl

@[simp] theorem Dev.pendFlags_tb (d : Dev) (g mask : Nat) : (d.pendFlags g mask).tb = d.tb :=
  forNums_same Dev.tb (fun _ _ d => d.wr_tb _ _) d

@[simp] theorem Dev.grpEdge_tb (d : Dev) (g : Nat) : (d.grpEdge g).tb = d.tb :=
  Dev.when_same (d := d.setGrp g _) Dev.tb (Dev.pendFlags_tb _ _ _) _

/-- A group's divider has no part in the timebase (R248). -/
@[simp] theorem Dev.grpTick_tb (d : Dev) (g : Nat) : (d.grpTick g).tb = d.tb := by
  unfold Dev.grpTick
  dsimp only
  split
  · exact d.setGrp_tb g _
  · exact Dev.grpEdge_tb (d.setGrp g _) g

/-- PLCA sends BEACONs and has no part in the timebase (R69). -/
@[simp] theorem Dev.plcaTick_tb (d : Dev) (p : Nat) : (d.plcaTick p).tb = d.tb := by
  unfold Dev.plcaTick
  dsimp only
  split
  · exact Dev.when_same Dev.tb (d.emit_tb _) _
  · rfl

/-- An engine's cycle counts have no part in the timebase (R276). -/
@[simp] theorem Dev.engTick_tb (d : Dev) (e : Nat) : (d.engTick e).tb = d.tb := by
  unfold Dev.engTick
  split
  · exact d.incBy_tb _ _
  · exact d.incBy_tb _ _
  · rfl

/-- The RTC, which counts also while the core is held in reset, has no part in the timebase (R450, R456). -/
@[simp] theorem Dev.islandTick_tb (d : Dev) : (d.when (!d.sup.por) Dev.rtcTick).tb = d.tb :=
  Dev.when_same Dev.tb d.rtcTick_same.left _

@[simp] theorem Dev.islandTick_inReset (d : Dev) : (d.when (!d.sup.por) Dev.rtcTick).inReset = d.inReset :=
  Dev.when_same Dev.inReset d.rtcTick_same.right _

@[simp] theorem Dev.islandTick_dom (d : Dev) (n : Nat) : (d.when (!d.sup.por) Dev.rtcTick).dom n = d.dom n := by
  rw [Dev.dom, Dev.islandTick_tb, Dev.dom]

/-! ### LT and the domains -/

/-- One tick of the timebase adds 4 ns to LT (R25). -/
@[simp] theorem Dev.advance_lt (d : Dev) : d.advance.tb.lt = (d.tb.lt + 4 * 2 ^ 16) % (2 ^ 48 * sec16) :=
  forNums_same (fun x => x.tb.lt) (fun _ _ x => x.setDom_lt _ _) (d.setLt _)

/-- A replacement of a domain's state that keeps its waiting steps keeps those of every domain. -/
theorem Dev.setDom_steps {d : Dev} {n : Nat} {x : Domain} (h : x.steps = (d.dom n).steps) (k : Nat) :
    ((d.setDom n x).dom k).steps = (d.dom k).steps := by
  by_cases hk : k = n
  · subst hk
    rw [d.setDom_dom_self, h]
  · rw [d.setDom_dom_ne x hk]

/-- The advance of the domains' times takes no waiting step. -/
theorem Dev.advance_steps (d : Dev) (k : Nat) : (d.advance.dom k).steps = (d.dom k).steps := by
  unfold Dev.advance
  dsimp only
  rw [forNums_same (fun x => (x.dom k).steps) (fun _ _ _ => Dev.setDom_steps (by rfl) k), d.setLt_dom]

/-- With no step of a domain waiting, the tick boundary takes none. -/
theorem Dev.domainStep_of_steps_nil {d : Dev} {n : Nat} (h : (d.dom n).steps = []) : d.domainStep n = d := by
  unfold Dev.domainStep
  rw [h]
  rfl

/-- With no step of any domain waiting, the tick boundary leaves the device as it is. -/
theorem Dev.domainSteps_of_steps_nil {d : Dev} (h : ∀ n < 4, (d.dom n).steps = []) :
    forNums 4 (fun n d => d.domainStep n) d = d :=
  forNums_keeps (P := fun x => x = d) (fun n hn _ hx => by rw [hx, Dev.domainStep_of_steps_nil (h n hn)]) rfl

/-! ### One tick -/

/-- While the core is held in reset only the island's part of the tick passes (R428, R450). -/
theorem Dev.tick_held {d : Dev} (h : d.inReset = true) : d.tick = d.when (!d.sup.por) Dev.rtcTick :=
  if_pos (d.islandTick_inReset.trans h)

/-- A tick of the running core leaves the timebase as the advance and the domains' steps make it. -/
theorem Dev.tick_running_tb {d : Dev} (h : d.inReset = false) :
    d.tick.tb = (forNums 4 (fun n d => d.domainStep n) (d.when (!d.sup.por) Dev.rtcTick).advance).tb := by
  have hr : ¬ (d.when (!d.sup.por) Dev.rtcTick).inReset = true := by simp [h]
  unfold Dev.tick
  rw [if_neg hr, forNums_same Dev.tb (fun e _ x => x.engTick_tb e)]
  simp only [Dev.grpTick_tb, Dev.plcaTick_tb]

/-- LT advances by 4 ns in a tick of the running core, where no step of a domain waits (R25). -/
theorem Dev.tick_running_lt {d : Dev} (h : d.inReset = false) (hs : ∀ n < 4, (d.dom n).steps = []) :
    d.tick.tb.lt = (d.tb.lt + 4 * 2 ^ 16) % (2 ^ 48 * sec16) := by
  have hnone : ∀ n < 4, ((d.when (!d.sup.por) Dev.rtcTick).advance.dom n).steps = [] := fun n hn => by
    rw [Dev.advance_steps, Dev.islandTick_dom, hs n hn]
  rw [Dev.tick_running_tb h, Dev.domainSteps_of_steps_nil hnone, Dev.advance_lt, Dev.islandTick_tb]

/-- LT and the domains stand still while the core is held in reset (R428). -/
theorem Dev.tick_held_tb {d : Dev} (h : d.inReset = true) : d.tick.tb = d.tb := by
  rw [Dev.tick_held h, Dev.islandTick_tb]

/-- With no command waiting a step is a tick (notes/assumptions/1). -/
theorem step_nil (d : Dev) : step ⟨d, []⟩ = .next ⟨d.tick, []⟩ := rfl

/-- Settles O26: the step of an empty queue is the tick, and of the tick's parts only the advance moves LT. -/
theorem emptyQueueTicks : Obligations.EmptyQueueTicks := by
  unfold Obligations.EmptyQueueTicks
  exact fun d => ⟨step_nil d, Dev.tick_running_lt, Dev.tick_held_tb⟩

/-! ### Reset -/

/-- After reset no register field is listed, so each holds its reset value. -/
theorem State.reset_rd (f : Fld) : State.reset.dev.rd f = f.reset := by
  have hregs : State.reset.dev.regs = [] := rfl
  rw [Dev.rd, hregs, tget_nil, Option.getD_none]

/-- After reset no byte of the shared memory is listed, so each reads 0. -/
theorem State.reset_cellGet (a : Nat) : cellGet State.reset.dev.mem.cells a = 0 := by
  have hcells : State.reset.dev.mem.cells = [] := rfl
  rw [hcells, cellGet_nil]

/-- After reset no command waits, so none that waits is ill formed. -/
theorem State.reset_queueOk : State.reset.queueOk := fun _ hc => absurd hc List.not_mem_nil

/-- After reset every mailbox is free. -/
theorem State.reset_box (n : Nat) : State.reset.dev.box n = {} := rfl

/-- After reset every hardware queue is as a new one. -/
theorem State.reset_queue (n : Nat) : State.reset.dev.queue n = {} := rfl

/-- After reset every lock is free. -/
theorem State.reset_lock (n : Nat) : State.reset.dev.lock n = {} := rfl

/-- Settles O27: what the reset state does not list has its default. -/
theorem resetState : Obligations.ResetState := by
  unfold Obligations.ResetState
  refine ⟨State.reset_queueOk, rfl, rfl, rfl, rfl, State.reset_rd, State.reset_cellGet, fun n => ?_⟩
  rw [State.reset_box, State.reset_queue, State.reset_lock]
  exact ⟨rfl, rfl, rfl⟩

end Sys2Proof.Machine

/-! The configuration of a port (spec/03, R61): O38. -/

namespace Sys2Proof.Machine

/-- A value of PRT_CFG that port p has (R59, R9). -/
def prtCfgLegal (p v : Nat) : Prop :=
  modeOk p (bits v 0 3) = true ∧ 64 ≤ bits v 16 14 ∧ bits v 16 14 ≤ (if p < 20 then 9728 else 1536)

/-- Whether a value of PRT_CFG differs from what port p holds in a field that R61 protects. -/
def Dev.prtCfgChanges (d : Dev) (p v : Nat) : Bool :=
  bits v 0 3 != d.rd (PRT_CFG_MODE p) || bits v 3 1 != d.rd (PRT_CFG_ANEN p) || bits v 16 14 != d.rd (PRT_CFG_MAXLEN p)

/-- The refusal of a write of PRT_CFG (R61). -/
def Dev.prtCfgRefuse (d : Dev) (p : Nat) : Dev :=
  (d.put (PRT_STAT_CFGREF p) true).postEvent 0x0806 (0x080 + p) (0x100004 + 0x8000 * p)

/-! ### The place of the register -/

theorem prtCfg_named {p : Nat} (hp : p < 22) : (row_PRT_CFG.last [p]).named (0x100004 + 0x8000 * p) :=
  ⟨at_PRT_CFG hp, rfl, by omega, by simp [offReserved]; omega, winAt_low (by omega) (by omega), rfl⟩

/-- The homes of the fields of PRT_CFG, in the order of its row. -/
theorem prtCfg_homes (p : Nat) : row_PRT_CFG.fields.map (row_PRT_CFG.last [p]).fld
    = [PRT_CFG_MODE p, PRT_CFG_ANEN p, PRT_CFG_FCMODE p, PRT_CFG_LOOP p, PRT_CFG_MAXLEN p] := by
  simp only [row_PRT_CFG, List.map_cons, List.map_nil, RegAt.fld, RegAt.off, RegRow.last, instOff, RegAt.i, List.getD_cons_zero,
    PRT_CFG_MODE, PRT_CFG_ANEN, PRT_CFG_FCMODE, PRT_CFG_LOOP, PRT_CFG_MAXLEN, List.cons.injEq, Fld.mk.injEq, and_true]
  omega

theorem prtCfg_wellFormed {m : Master} {p : Nat} (v : BitVec 32) (hm : m.ok = true) (hp : p < 22) :
    wellFormed (.registerWrite m (0x100004 + 0x8000 * p) v true) = true := by
  simp only [wellFormed, offOk, hm, Bool.true_and, Bool.true_or, Bool.and_true, Bool.and_eq_true, beq_iff_eq, decide_eq_true_eq]
  omega

/-! ### What a write of the register comes to -/

theorem Dev.prtCfgChanges_iff (d : Dev) (p v : Nat) : d.prtCfgChanges p v = true ↔
    bits v 0 3 ≠ d.rd (PRT_CFG_MODE p) ∨ bits v 3 1 ≠ d.rd (PRT_CFG_ANEN p) ∨ bits v 16 14 ≠ d.rd (PRT_CFG_MAXLEN p) := by
  simp [Dev.prtCfgChanges, or_assoc]

@[simp] theorem Dev.dropStaged_prtCfgChanges (d : Dev) (m : Master) (a : RegAt) (p v : Nat) :
    (d.dropStaged m a).prtCfgChanges p v = d.prtCfgChanges p v := rfl

/-- A legal value is stored, but for one that changes what R61 protects on an enabled port. -/
theorem Dev.regApply_prtCfg (d : Dev) (m : Master) {p v : Nat} (hv : prtCfgLegal p v) :
    d.regApply m (row_PRT_CFG.last [p]) v = if d.on (PRT_CTRL_EN p) && d.prtCfgChanges p v then d.prtCfgRefuse p
      else d.regStore (row_PRT_CFG.last [p]) v := by
  obtain ⟨hmode, hmin, hmax⟩ := hv
  have hlegal : (!modeOk p (bits v 0 3) || decide (bits v 16 14 < 64)
      || decide ((if p < 20 then 9728 else 1536) < bits v 16 14)) = false := by
    simp only [hmode, Bool.not_true, Bool.false_or, Bool.or_eq_false_iff, decide_eq_false_iff_not]
    omega
  exact if_neg (ne_true_of_eq_false hlegal)

/-- The store of PRT_CFG leaves the value's bits in the fields that R61 protects. -/
theorem Dev.regStore_prtCfg (d : Dev) {p : Nat} (hp : p < 22) (v : Nat) :
    (d.regStore (row_PRT_CFG.last [p]) v).rd (PRT_CFG_MODE p) = bits v 0 3 ∧
    (d.regStore (row_PRT_CFG.last [p]) v).rd (PRT_CFG_ANEN p) = bits v 3 1 ∧
    (d.regStore (row_PRT_CFG.last [p]) v).rd (PRT_CFG_MAXLEN p) = bits v 16 14 := by
  obtain ⟨hfields, -⟩ := d.regStore_spec (row_PRT_CFG.last [p]) v (at_PRT_CFG hp)
  have hacc : ∀ f ∈ row_PRT_CFG.fields, f.acc = .rw := by simp [row_PRT_CFG]
  have hstored : [PRT_CFG_MODE p, PRT_CFG_ANEN p, PRT_CFG_FCMODE p, PRT_CFG_LOOP p, PRT_CFG_MAXLEN p].map
      (d.regStore (row_PRT_CFG.last [p]) v).rd = row_PRT_CFG.fields.map (fun f => bits v f.lo f.width) := by
    rw [← prtCfg_homes, List.map_map]
    refine List.map_congr_left fun f hf => ?_
    obtain ⟨hrw, -⟩ := hfields f hf
    exact hrw (.inl (hacc f hf))
  simp only [row_PRT_CFG, List.map_cons, List.map_nil, List.cons.injEq, and_true] at hstored
  obtain ⟨hmode, hanen, -, -, hmaxlen⟩ := hstored
  exact ⟨hmode, hanen, hmaxlen⟩

/-- A refused write leaves the fields of the ports but CFGREF. -/
theorem Dev.rd_prtCfgRefuse (d : Dev) (p : Nat) {g : Fld} (hlow : 0x800000 ≤ g.key) (hne : g.key ≠ (PRT_STAT_CFGREF p).key) :
    (d.prtCfgRefuse p).rd g = d.rd g := by
  have hpost : g.key ∉ postKeys := by
    simp only [postKeys, EVR_LOST_CNT, EVR_ACCEPT_CNT, EVR_FIFO_HWM, EVR_STAT_LOSS, List.mem_cons, List.not_mem_nil, or_false]
    omega
  exact (Dev.rd_postEvent _ _ _ _ _ _ hpost).trans (Dev.rd_put_ne d true hne)

/-- A refused write leaves the fields that R61 protects. -/
theorem Dev.prtCfgRefuse_keeps (d : Dev) (p : Nat) :
    (d.prtCfgRefuse p).rd (PRT_CFG_MODE p) = d.rd (PRT_CFG_MODE p) ∧
    (d.prtCfgRefuse p).rd (PRT_CFG_ANEN p) = d.rd (PRT_CFG_ANEN p) ∧
    (d.prtCfgRefuse p).rd (PRT_CFG_MAXLEN p) = d.rd (PRT_CFG_MAXLEN p) :=
  ⟨d.rd_prtCfgRefuse p (by simp only [PRT_CFG_MODE]; omega) (by simp only [PRT_CFG_MODE, PRT_STAT_CFGREF]; omega),
    d.rd_prtCfgRefuse p (by simp only [PRT_CFG_ANEN]; omega) (by simp only [PRT_CFG_ANEN, PRT_STAT_CFGREF]; omega),
    d.rd_prtCfgRefuse p (by simp only [PRT_CFG_MAXLEN]; omega) (by simp only [PRT_CFG_MAXLEN, PRT_STAT_CFGREF]; omega)⟩

/-- Settles O38: the effect of an accepted write is the refusal or the store, by whether the port is enabled and the value changes what
R61 protects. -/
theorem portConfigurationProtected : Obligations.PortConfigurationProtected := by
  unfold Obligations.PortConfigurationProtected
  intro d m p v hr hm hp ha hmode hmin hmax
  have hwrite := d.answers_registerWrite_accepts hr (prtCfg_wellFormed v hm hp) (prtCfg_named hp) rfl rfl
    (d.committed_word m _ v rfl) ha
  rw [Dev.regApply_prtCfg _ m ⟨hmode, hmin, hmax⟩, Dev.dropStaged_on, Dev.dropStaged_prtCfgChanges] at hwrite
  refine ⟨fun hen hchange => ?refused, fun hfree => ?stored⟩
  case refused =>
    rw [if_pos (Bool.and_eq_true_iff.mpr ⟨hen, (d.prtCfgChanges_iff p v.toNat).mpr hchange⟩)] at hwrite
    obtain ⟨hkeepMode, hkeepAnen, hkeepLen⟩ := (d.dropStaged m (row_PRT_CFG.last [p])).prtCfgRefuse_keeps p
    exact ⟨_, hwrite, rfl, hkeepMode, hkeepAnen, hkeepLen⟩
  case stored =>
    have hcond : (d.on (PRT_CTRL_EN p) && d.prtCfgChanges p v.toNat) = false := by
      rcases hfree with hoff | ⟨hsameMode, hsameAnen, hsameLen⟩
      · rw [hoff, Bool.false_and]
      · simp [Dev.prtCfgChanges, hsameMode, hsameAnen, hsameLen]
    rw [if_neg (ne_true_of_eq_false hcond)] at hwrite
    obtain ⟨hnewMode, hnewAnen, hnewLen⟩ := (d.dropStaged m (row_PRT_CFG.last [p])).regStore_prtCfg hp v.toNat
    obtain ⟨-, hsame⟩ := (d.dropStaged m (row_PRT_CFG.last [p])).regStore_spec (row_PRT_CFG.last [p]) v.toNat (at_PRT_CFG hp)
    exact ⟨_, hwrite, hnewMode, hnewAnen, hnewLen, Dev.sameBut_of_dropStaged hsame⟩

end Sys2Proof.Machine

/-! The duplicate windows of the redundancy instances (spec/04, R104): O39. -/

namespace Sys2Proof.Machine

/-! ### Bits of a window -/

theorem bit_setBits_one (v i : Nat) : bit (setBits v i 1 1) i = true :=
  beq_iff_eq.mpr (setBits_bits v i 1 1)

theorem bit_zero_of_odd (n : Nat) : bit (n * 2 + 1) 0 = true :=
  beq_iff_eq.mpr (by unfold bits; omega)

/-! ### How a window judges, by where the sequence number lies -/

namespace DupWin

/-- A sequence number lies `b` behind the base of a window. -/
def behind (w : DupWin) (seq b : Nat) : Prop := (seq + b) % 65536 = w.base

/-- A sequence number lies ahead of the base: the window moves on to it. -/
def ahead (w : DupWin) (seq : Nat) : Prop :=
  1 ≤ (seq + 65536 - w.base) % 65536 ∧ (seq + 65536 - w.base) % 65536 ≤ 32767

theorem judge_none (seq : Nat) : judge none seq = (⟨seq, 1⟩, dupFirst, false) := rfl

theorem judge_ahead {w : DupWin} {seq : Nat} (h : w.ahead seq) :
    judge (some w) seq = (⟨seq, w.win * 2 ^ ((seq + 65536 - w.base) % 65536) % 2 ^ 128 / 2 * 2 + 1⟩, dupFirst, false) :=
  if_pos h

variable {w : DupWin} {seq : Nat}

/-- The distance that the algorithm computes is the one by which the number lies behind the base. -/
theorem behind_iff (hw : w.base < 65536) (hs : seq < 65536) {b : Nat} (hb : b < 128) :
    w.behind seq b ↔ (w.base + 65536 - seq) % 65536 = b := by
  unfold behind
  omega

theorem behind.not_ahead {b : Nat} (hb : b < 128) (h : w.behind seq b) :
    ¬w.ahead seq := by
  unfold behind at h
  unfold ahead
  omega

/-- Within the window the bit of WIN decides: set, the number is a duplicate; clear, it is a first and the bit is set. -/
theorem judge_behind (hw : w.base < 65536) (hs : seq < 65536) {b : Nat} (hb : b < 128) (h : w.behind seq b) :
    judge (some w) seq = if bit w.win b then (w, dupDuplicate, false) else (⟨w.base, setBits w.win b 1 1⟩, dupFirst, false) := by
  have hdist := (behind_iff hw hs hb).mp h
  refine (if_neg (h.not_ahead hb)).trans ?_
  rw [hdist, if_pos hb]

theorem judge_out (hw : w.base < 65536) (hs : seq < 65536) (ha : ¬w.ahead seq) (h : ∀ b < 128, ¬w.behind seq b) :
    judge (some w) seq = (w, dupFirst, true) :=
  (if_neg ha).trans (if_neg fun hb => h _ hb ((behind_iff hw hs hb).mpr rfl))

/-- A sequence number lies ahead of the base, in the window, or out of it. -/
theorem ahead_or_behind_or_out (w : DupWin) (seq : Nat) :
    w.ahead seq ∨ (∃ b < 128, w.behind seq b) ∨ (¬w.ahead seq ∧ ∀ b < 128, ¬w.behind seq b) := by
  by_cases ha : w.ahead seq
  · exact .inl ha
  · by_cases hb : ∃ b < 128, w.behind seq b
    · exact .inr (.inl hb)
    · exact .inr (.inr ⟨ha, fun b hlt h => hb ⟨b, hlt, h⟩⟩)

/-! ### Duplicates -/

theorem dupFirst_ne_dupDuplicate : dupFirst ≠ dupDuplicate := by decide

theorem judge_duplicate_of_bit (hw : w.base < 65536) (hs : seq < 65536) {b : Nat} (hb : b < 128) (h : w.behind seq b)
    (hbit : bit w.win b = true) : (judge (some w) seq).2.1 = dupDuplicate := by
  rw [judge_behind hw hs hb h, if_pos hbit]

theorem judge_duplicate_iff (hw : w.base < 65536) (hs : seq < 65536) :
    (judge (some w) seq).2.1 = dupDuplicate ↔ ∃ b < 128, w.behind seq b ∧ bit w.win b = true := by
  refine ⟨fun hdup => ?_, fun ⟨b, hb, h, hbit⟩ => judge_duplicate_of_bit hw hs hb h hbit⟩
  rcases w.ahead_or_behind_or_out seq with ha | ⟨b, hb, h⟩ | ⟨ha, hout⟩
  · rw [judge_ahead ha] at hdup
    exact absurd hdup dupFirst_ne_dupDuplicate
  · rw [judge_behind hw hs hb h] at hdup
    by_cases hbit : bit w.win b = true
    · exact ⟨b, hb, h, hbit⟩
    · rw [if_neg hbit] at hdup
      exact absurd hdup dupFirst_ne_dupDuplicate
  · rw [judge_out hw hs ha hout] at hdup
    exact absurd hdup dupFirst_ne_dupDuplicate

/-- A window whose base is the number, with bit 0 set, calls the number a duplicate. -/
theorem judge_at_base (hs : seq < 65536) (n : Nat) : (judge (some ⟨seq, n * 2 + 1⟩) seq).2.1 = dupDuplicate :=
  judge_duplicate_of_bit (b := 0) hs hs (by decide) (Nat.mod_eq_of_lt hs) (bit_zero_of_odd n)

/-- What a window has judged within its reach it finds again: at the new base, or by the bit it found set or has set. -/
theorem judge_repeat (hw : w.base < 65536) (hs : seq < 65536) (hin : (judge (some w) seq).2.2 = false) :
    (judge (some (judge (some w) seq).1) seq).2.1 = dupDuplicate := by
  rcases w.ahead_or_behind_or_out seq with ha | ⟨b, hb, h⟩ | ⟨ha, hout⟩
  · rw [judge_ahead ha]
    exact judge_at_base hs _
  · rw [judge_behind hw hs hb h]
    split
    case isTrue hset => exact judge_duplicate_of_bit hw hs hb h hset
    case isFalse => exact judge_duplicate_of_bit (w := ⟨w.base, setBits w.win b 1 1⟩) hw hs hb h (bit_setBits_one w.win b)
  · rw [judge_out hw hs ha hout] at hin
    cases hin

end DupWin

/-- Settles O39: a window finds a number by the bit at its distance behind the base, and judging a number leaves that bit set. -/
theorem duplicateWindowRejectsRepeat : Obligations.DuplicateWindowRejectsRepeat := by
  unfold Obligations.DuplicateWindowRejectsRepeat
  intro w seq hw _ hs
  exact ⟨DupWin.judge_duplicate_iff hw hs, DupWin.judge_repeat hw hs, congrArg (·.2.1) (DupWin.judge_none seq),
    DupWin.judge_at_base hs 0⟩

end Sys2Proof.Machine

/-! The configuration changes of the gates (spec/05, R127 and R128): O40. -/

namespace Sys2Proof.Machine

/-! ### The first instant of a schedule that lies in the future -/

/-- The change time of R127 for a schedule from `base` in steps of `c`. -/
def futureInstant (now base c : Nat) : Nat := if now < base then base else base + ((now - base) / c + 1) * c

theorem futureInstant_base {now base : Nat} (c : Nat) (h : now < base) : futureInstant now base c = base := if_pos h

theorem futureInstant_past {now base : Nat} (c : Nat) (h : base ≤ now) :
    futureInstant now base c = base + ((now - base) / c + 1) * c := if_neg (Nat.not_lt.mpr h)

theorem lt_futureInstant (now base : Nat) {c : Nat} (hc : 0 < c) : now < futureInstant now base c := by
  rcases Nat.lt_or_ge now base with hfuture | hpast
  · rwa [futureInstant_base c hfuture]
  · have hstep := Nat.lt_div_mul_add (a := now - base) hc
    rw [futureInstant_past c hpast, Nat.succ_mul]
    omega

/-- No instant of the schedule lies between now and the one chosen: it is at most one step away. -/
theorem futureInstant_le_add {now base : Nat} (c : Nat) (h : base ≤ now) : futureInstant now base c ≤ now + c := by
  have hstep := Nat.div_mul_le_self (now - base) c
  rw [futureInstant_past c h, Nat.succ_mul]
  omega

/-! ### The first invalid entry of the administrative list -/

/-- The first invalid entry of a port's administrative list (R127), where one is invalid. -/
def Dev.badAdmEntry (d : Dev) (p : Nat) : Option Nat :=
  (List.range (d.rd (SCH_ADMLEN_LEN p))).find? (fun e => !gateEntryOk (d.rd (SCH_ADMLISTe_ENTRY p e)))

theorem Dev.badAdmEntry_eq_none_iff (d : Dev) (p : Nat) : d.badAdmEntry p = none ↔
    ∀ e < d.rd (SCH_ADMLEN_LEN p), gateEntryOk (d.rd (SCH_ADMLISTe_ENTRY p e)) = true := by
  simp only [Dev.badAdmEntry, List.find?_range_eq_none, Bool.not_not]

theorem Dev.badAdmEntry_eq_some_iff (d : Dev) (p e : Nat) : d.badAdmEntry p = some e ↔
    gateEntryOk (d.rd (SCH_ADMLISTe_ENTRY p e)) = false ∧ e < d.rd (SCH_ADMLEN_LEN p) ∧
      ∀ k < e, gateEntryOk (d.rd (SCH_ADMLISTe_ENTRY p k)) = true := by
  simp only [Dev.badAdmEntry, List.find?_range_eq_some, Bool.not_not, Bool.not_eq_true', List.mem_range]

/-! ### What CHANGE does -/

theorem Dev.schChange_pending {d : Dev} {p : Nat} (h : d.on (SCH_STAT_PENDING p) = true) : d.schChange p = d.schRefuse p 0 :=
  if_pos h

theorem Dev.schChange_bad {d : Dev} {p e : Nat} (h : d.on (SCH_STAT_PENDING p) = false) (he : d.badAdmEntry p = some e) :
    d.schChange p = (d.put (SCH_STAT_LISTERR p) true).postEvent 0x0A05 (schUid p) e := by
  unfold Dev.badAdmEntry at he
  simp only [Dev.schChange, h, he, Bool.false_eq_true, if_false]

/-- With every entry valid the change is pending; a cycle of 0 counts as the least step of time. -/
theorem Dev.schChange_good {d : Dev} {p : Nat} (h : d.on (SCH_STAT_PENDING p) = false) (hgood : d.badAdmEntry p = none) :
    d.schChange p = ((d.setPort p { d.port p with chgAt := d.schNow p }).wr (SCH_CHGTIME_T p)
      (ts96 (futureInstant (d.schNow p) (ofTs96 (d.rd (SCH_ADMBASE_BASE p))) (max (d.admCycle p) 1)))).put (SCH_STAT_PENDING p) true := by
  unfold Dev.badAdmEntry at hgood
  simp only [Dev.schChange, h, hgood, Bool.false_eq_true, if_false, futureInstant]

/-- Settles O40, by what CHANGE meets: a change already pending, a list that is valid throughout, or a first invalid entry. -/
theorem gateChangeTime : Obligations.GateChangeTime := by
  unfold Obligations.GateChangeTime
  intro d p _
  refine ⟨Dev.schChange_pending, fun hfree hvalid => ?accepted, fun e hfree hlen hbad hbefore => ?listError⟩
  case accepted =>
    refine ⟨_, Dev.schChange_good hfree ((d.badAdmEntry_eq_none_iff p).mpr hvalid),
      lt_futureInstant _ _ (Nat.le_max_right _ 1), futureInstant_base _, fun hpast hcycle => ?_⟩
    rw [Nat.max_eq_left hcycle]
    exact ⟨⟨_, futureInstant_past _ hpast⟩, futureInstant_le_add _ hpast⟩
  case listError =>
    exact Dev.schChange_bad hfree ((d.badAdmEntry_eq_some_iff p e).mpr ⟨hbad, hlen, hbefore⟩)

end Sys2Proof.Machine

/-! The command FIFO of a ring (spec/07, R200): O41. -/

namespace Sys2Proof.Machine

/-- A ring with a command placed behind those that wait (R200). -/
def Ring.enqueue (x : Ring) (cyc arg : Nat) : Ring := { x with fifo := x.fifo ++ [(cyc % 2 ^ 24, arg)] }

/-! ### What a command that a node takes does -/

/-- A full FIFO loses the command. -/
theorem Dev.commandPush_full {d : Dev} {r : Nat} (cyc arg : Nat) (h : 16 ≤ (d.trn r).fifo.length) :
    d.commandPush r cyc arg = (d.inc (TRN_CNT_CMDLOST_CNT r)).postEvent 0x0C16 0x0E0 r := if_pos h

/-- A FIFO with room takes the command, and DBEN decides whether the doorbell rings. -/
theorem Dev.commandPush_room {d : Dev} {r : Nat} (cyc arg : Nat) (h : (d.trn r).fifo.length < 16) :
    d.commandPush r cyc arg = (d.setTrn r ((d.trn r).enqueue cyc arg)).when (d.on (TRN_CMDDB_DBEN r))
      (fun e => e.ring (e.rd (TRN_CMDDB_DB r))) :=
  if_neg (Nat.not_le.mpr h)

theorem Dev.commandPush_silent {d : Dev} {r : Nat} (cyc arg : Nat) (h : (d.trn r).fifo.length < 16)
    (hdb : d.on (TRN_CMDDB_DBEN r) = false) : d.commandPush r cyc arg = d.setTrn r ((d.trn r).enqueue cyc arg) := by
  rw [Dev.commandPush_room cyc arg h, hdb, Dev.when_false]

theorem Dev.commandPush_doorbell {d : Dev} {r : Nat} (cyc arg : Nat) (h : (d.trn r).fifo.length < 16)
    (hdb : d.on (TRN_CMDDB_DBEN r) = true) :
    d.commandPush r cyc arg = (d.setTrn r ((d.trn r).enqueue cyc arg)).ring (d.rd (TRN_CMDDB_DB r)) := by
  rw [Dev.commandPush_room cyc arg h, hdb, Dev.when_true, Dev.setTrn_rd]

/-- The FIFO after the command is placed. -/
theorem Dev.setTrn_enqueue_fifo (d : Dev) (r cyc arg : Nat) :
    ((d.setTrn r ((d.trn r).enqueue cyc arg)).trn r).fifo = (d.trn r).fifo ++ [(cyc % 2 ^ 24, arg)] := by
  rw [Dev.setTrn_trn_self, Ring.enqueue]

/-! ### What a read of the FIFO does -/

theorem Dev.commandPop_fifo (d : Dev) (r : Nat) : ((d.commandPop r).trn r).fifo = (d.trn r).fifo.drop 1 := by
  rw [Dev.commandPop, Dev.modTrn_trn_self]

theorem Dev.commandHead_cons {d : Dev} {r : Nat} {x : Nat × Nat} {later : List (Nat × Nat)}
    (h : (d.trn r).fifo = x :: later) : d.commandHead r = 2 ^ 31 + x.1 + x.2 * 2 ^ 32 := by
  rw [Dev.commandHead, h]

/-- Settles O41, by whether the FIFO has room for the command and, where it has, whether the doorbell is enabled; a read drops the head
that it shows. -/
theorem trainCommandFifoOrder : Obligations.TrainCommandFifoOrder := by
  unfold Obligations.TrainCommandFifoOrder
  intro d r cyc arg
  refine ⟨fun hroom hsilent => ?placed, fun hroom hrings => ?rung, Dev.commandPush_full cyc arg, fun x later hfifo => ?read⟩
  case placed =>
    rw [Dev.commandPush_silent cyc arg hroom hsilent]
    exact ⟨d.setTrn_enqueue_fifo r cyc arg, d.setTrn_regs r _⟩
  case rung =>
    exact ⟨_, d.setTrn_enqueue_fifo r cyc arg, Dev.commandPush_doorbell cyc arg hroom hrings, d.setTrn_regs r _, d.setTrn_mbx r _⟩
  case read =>
    refine ⟨?_, Dev.commandHead_cons hfifo⟩
    rw [Dev.commandPop_fifo, hfifo, List.drop_one, List.tail_cons]

end Sys2Proof.Machine

/-! The instant of a sample in SYNC mode (spec/08, R209; the quotient c / RATE is rounded as R211 says, and a sample is placed in all
four domains as notes/assumptions/36 has it): O42. -/

namespace Sys2Proof.Machine

/-- A table made from a list of numbers answers each of them with its image. -/
theorem tget_map_of_mem {α : Type} (f : Nat → α) {l : List Nat} {k : Nat} (h : k ∈ l) :
    tget (l.map (fun j => (j, f j))) k = some (f k) := by
  induction l with
  | nil => cases h
  | cons j l ih =>
    rw [List.map_cons, tget]
    split
    case isTrue heq => rw [heq]
    case isFalse hne => exact ih (List.mem_of_ne_of_mem (Ne.symm hne) h)

/-! ### The second that a receive stamp selects -/

/-- What R209 adds to a whole second in SYNC mode: c / RATE, as R211 rounds it, and OFFSET. -/
def Dev.syncPhase (d : Dev) (s c : Nat) : Int :=
  rndDiv (Int.ofNat (c * sec16)) (d.rd (SAU_S_RATE_RATE s)) + d.rdS (SAU_S_OFFSET_OFFSET s)

/-- Whether an instant `t` lies in (A − 0.75 s, A + 0.25 s] of a receive stamp `A` (R209), in quarters of a second. -/
def InStampWindow (A t : Int) : Prop := A * 4 - 3 * Int.ofNat sec16 < 4 * t ∧ 4 * t ≤ A * 4 + Int.ofNat sec16

/-- The second S of R209 for a receive stamp `A` and the phase `x` of a sample. -/
def stampSecond (A x : Int) : Int := (A + Int.ofNat sec16 / 4 - x) / Int.ofNat sec16

/-- The window is one second long and closed at its end, so exactly one second puts the sample in it. -/
theorem inStampWindow_iff_eq_stampSecond (A x S : Int) :
    InStampWindow A (S * Int.ofNat sec16 + x) ↔ S = stampSecond A x := by
  have hsec : (0 : Int) < Int.ofNat sec16 := by decide
  have hlower : S ≤ stampSecond A x ↔ S * Int.ofNat sec16 ≤ A + Int.ofNat sec16 / 4 - x := Int.le_ediv_iff_mul_le hsec
  have hupper : stampSecond A x < S + 1 ↔ A + Int.ofNat sec16 / 4 - x < (S + 1) * Int.ofNat sec16 :=
    Int.ediv_lt_iff_lt_mul hsec
  have hquarter : Int.ofNat sec16 = 4 * (Int.ofNat sec16 / 4) := by decide
  rw [InStampWindow]
  rw [Int.add_mul, Int.one_mul] at hupper
  omega

/-! ### What the unit places in SYNC mode -/

/-- The instants of a sample in SYNC mode, by domain. -/
def Dev.syncInstants (d : Dev) (s c : Nat) (A : List Int) : Tab Int :=
  (List.range 4).map (fun k => (k, d.syncPhase s c + stampSecond (A.getD k 0) (d.syncPhase s c) * Int.ofNat sec16))

theorem Dev.svPlace_sync {d : Dev} {s : Nat} (c i n : Nat) (A : List Int) (h : d.rd (SAU_S_CFG_MODE s) = 0) :
    d.svPlace s c i n A = some (d.syncInstants s c A, false) := by
  simp only [Dev.svPlace, h, Dev.syncInstants, Dev.syncPhase, stampSecond]

theorem Dev.tget_syncInstants (d : Dev) (s c : Nat) (A : List Int) {k : Nat} (hk : k < 4) :
    tget (d.syncInstants s c A) k =
      some (stampSecond (A.getD k 0) (d.syncPhase s c) * Int.ofNat sec16 + d.syncPhase s c) := by
  rw [Dev.syncInstants, tget_map_of_mem _ (List.mem_range.mpr hk), Int.add_comm]

/-- Settles O42: in each domain the second placed is the one that puts the sample in the window of its stamp, and no other does. -/
theorem syncSampleInstant : Obligations.SyncSampleInstant := by
  unfold Obligations.SyncSampleInstant
  intro d s c i n A hmode
  refine ⟨d.syncInstants s c A, Dev.svPlace_sync c i n A hmode, fun k hk => ?_⟩
  obtain ⟨hafter, hbefore⟩ := (inStampWindow_iff_eq_stampSecond (A.getD k 0) (d.syncPhase s c) _).mpr rfl
  refine ⟨_, _, d.tget_syncInstants s c A hk, rfl, hafter, hbefore, fun y T hy hyafter hybefore => ?unique⟩
  case unique =>
    subst hy
    rw [(inStampWindow_iff_eq_stampSecond _ (d.syncPhase s c) T).mp ⟨hyafter, hybefore⟩, Dev.syncPhase]

end Sys2Proof.Machine

/-! The release of a forced pin (spec/09, R245; a cause that arose in the cycle of the write refuses it, as R264 and notes/assumptions/73
have it): O43. -/

namespace Sys2Proof.Machine

/-- What decides a release of pin n, and the recorder, are the same in two devices. -/
def Dev.sameForce (d d' : Dev) (n : Nat) : Prop :=
  d'.rd (PIN_IOn_SAFE_FORCED n) = d.rd (PIN_IOn_SAFE_FORCED n) ∧ d'.rd (PIN_IOn_SAFE_CAUSE n) = d.rd (PIN_IOn_SAFE_CAUSE n) ∧
    d'.hitNow n = d.hitNow n ∧ d'.evr = d.evr

theorem Dev.sameForce.refl (d : Dev) (n : Nat) : d.sameForce d n := ⟨rfl, rfl, rfl, rfl⟩

theorem Dev.sameForce.trans {d d1 d2 : Dev} {n : Nat} (h1 : d.sameForce d1 n) (h2 : d1.sameForce d2 n) : d.sameForce d2 n := by
  obtain ⟨hforced1, hcause1, hhit1, hevr1⟩ := h1
  obtain ⟨hforced2, hcause2, hhit2, hevr2⟩ := h2
  exact ⟨hforced2.trans hforced1, hcause2.trans hcause1, hhit2.trans hhit1, hevr2.trans hevr1⟩

/-- A write of a field other than FORCED and CAUSE of the pin keeps what decides its release. -/
theorem Dev.sameForce_put (d : Dev) {f : Fld} {n : Nat} (b : Bool) (h1 : (PIN_IOn_SAFE_FORCED n).key ≠ f.key)
    (h2 : (PIN_IOn_SAFE_CAUSE n).key ≠ f.key) : d.sameForce (d.put f b) n :=
  ⟨d.rd_put_ne b h1, d.rd_put_ne b h2, rfl, rfl⟩

/-- A pin's state replaced by one with the same last cause keeps what decides its release. -/
theorem Dev.sameForce_setPn (d : Dev) {n : Nat} {x : Pin} (h : x.hit = (d.pn n).hit) : d.sameForce (d.setPn n x) n := by
  refine ⟨rfl, rfl, ?_, rfl⟩
  rw [Dev.hitNow, Dev.setPn_pn_self, Dev.setPn_tb, h, Dev.hitNow]

/-! ### What a write of PIN_IOn_SAFE does before it releases the pin -/

/-- The latch takes SAFE; the force stays as it was. -/
theorem Dev.sameForce_latchSafe (d : Dev) (n : Nat) : d.sameForce (d.latchSafe n) n := by
  have hset : d.sameForce (d.setPn n
      { d.pn n with lvl := d.rd (PIN_IOn_SAFE_SAFE n) == 1, oe := d.rd (PIN_IOn_SAFE_SAFE n) != 2, safeHeld := true }) n :=
    d.sameForce_setPn rfl
  refine (hset.trans (Dev.sameForce_put _ _ ?_ ?_)).trans (Dev.sameForce_put _ _ ?_ ?_) <;>
    simp only [PIN_IOn_SAFE_FORCED, PIN_IOn_SAFE_CAUSE, PIN_IOn_CFG_OUT, PIN_IOn_CFG_OE] <;> omega

theorem Dev.sameForce_safeFollow (d : Dev) (n : Nat) : d.sameForce (d.safeFollow n) n := by
  unfold Dev.safeFollow
  split
  · exact d.sameForce_latchSafe n
  · exact .refl d n

/-- Where registers and staging alone differ, the same causes arose in this cycle. -/
theorem Dev.sameBut.hitNow_eq {d d' : Dev} {fs : List Fld} (h : d.sameBut d' fs) (n : Nat) : d'.hitNow n = d.hitNow n := by
  obtain ⟨-, hrest⟩ := h
  rw [← hrest]
  rfl

theorem Dev.sameBut.evr_eq {d d' : Dev} {fs : List Fld} (h : d.sameBut d' fs) : d'.evr = d.evr := by
  obtain ⟨-, hrest⟩ := h
  rw [← hrest]

/-- FORCED and CAUSE are read only, so storing the register leaves them. -/
theorem Dev.sameForce_regStore (d : Dev) {n : Nat} (hn : n < 48) (v : Nat) :
    d.sameForce (d.regStore (row_PIN_IOn_SAFE.last [n]) v) n := by
  obtain ⟨hfields, hsame⟩ := d.regStore_spec (row_PIN_IOn_SAFE.last [n]) v (at_PIN_IOn_SAFE hn)
  have hro {f : FieldSpec} (hf : f ∈ row_PIN_IOn_SAFE.fields) (hacc : f.acc = .ro) {g : Fld}
      (hg : (row_PIN_IOn_SAFE.last [n]).fld f = g) : (d.regStore (row_PIN_IOn_SAFE.last [n]) v).rd g = d.rd g := by
    obtain ⟨-, -, hkeep⟩ := hfields f hf
    exact hg ▸ hkeep (.inl hacc)
  have hhome (lo : Nat) : 8 * (row_PIN_IOn_SAFE.last [n]).off + lo = 0x3008060 + lo + 0x80 * n := by
    simp only [RegAt.off, RegRow.last, row_PIN_IOn_SAFE, instOff]
    omega
  refine ⟨hro (f := ⟨8, 1, .ro, fun _ => 0x1, .warm, []⟩) (by simp [row_PIN_IOn_SAFE]) rfl ?_,
    hro (f := ⟨9, 5, .ro, fun _ => 0x1, .warm, []⟩) (by simp [row_PIN_IOn_SAFE]) rfl ?_,
    hsame.hitNow_eq n, hsame.evr_eq⟩
  · simp only [RegAt.fld, hhome, PIN_IOn_SAFE_FORCED]
  · simp only [RegAt.fld, hhome, PIN_IOn_SAFE_CAUSE]

/-- The device that a release of pin n by a write of `PIN_IOn_SAFE` is judged on (R245). -/
def Dev.safeStored (d : Dev) (m : Master) (n v : Nat) : Dev :=
  ((d.dropStaged m (row_PIN_IOn_SAFE.last [n])).regStore (row_PIN_IOn_SAFE.last [n]) v).safeFollow n

theorem Dev.sameForce_safeStored (d : Dev) (m : Master) {n : Nat} (hn : n < 48) (v : Nat) : d.sameForce (d.safeStored m n v) n := by
  have hstore := (d.dropStaged m (row_PIN_IOn_SAFE.last [n])).sameForce_regStore hn v
  exact Dev.sameForce.trans (d1 := d.dropStaged m (row_PIN_IOn_SAFE.last [n])) ⟨rfl, rfl, rfl, rfl⟩
    (hstore.trans (Dev.sameForce_safeFollow _ n))

/-! ### The release -/

/-- A write of REL that is accepted comes to the release. -/
theorem Dev.answers_rel (d : Dev) {m : Master} {n : Nat} {v : BitVec 32} (hr : d.inReset = false) (hm : m.ok = true) (hn : n < 48)
    (ha : d.accepts m (row_PIN_IOn_SAFE.last [n]) (withField v 2 1 1).toNat = true) :
    d.answers (.rel m n v) ((d.safeStored m n (withField v 2 1 1).toNat).pinRelease n) := by
  have hrel : (d.dropStaged m (row_PIN_IOn_SAFE.last [n])).regApply m (row_PIN_IOn_SAFE.last [n]) (withField v 2 1 1).toNat
      = (d.safeStored m n (withField v 2 1 1).toNat).when (bit (withField v 2 1 1).toNat 2) (fun d => d.pinRelease n) := rfl
  rw [bit_withField_one v (by decide), Dev.when_true] at hrel
  exact d.answers_write (a := row_PIN_IOn_SAFE.last [n]) (fun _ => rfl) (by simp [hm, hn]) hr (at_PIN_IOn_SAFE hn) rfl (by omega)
    (by simp [offReserved]; omega) (winAt_mid (by omega) (by omega)) rfl rfl rfl (d.committed_word m _ _ rfl) ha hrel

/-- A release with every cause ended, and none in this cycle, clears FORCED and records nothing. -/
theorem Dev.pinRelease_ended {d : Dev} {n : Nat} (hcause : d.rd (PIN_IOn_SAFE_CAUSE n) = 0) (hhit : d.hitNow n = false) :
    (d.pinRelease n).on (PIN_IOn_SAFE_FORCED n) = false ∧ (d.pinRelease n).rd (PIN_IOn_SAFE_CAUSE n) = 0 ∧
      (d.pinRelease n).evr = d.evr := by
  unfold Dev.pinRelease
  rw [if_pos ⟨hcause, hhit⟩]
  refine ⟨Dev.on_put_self _ _ _ rfl, (Dev.rd_put_ne _ false ?_).trans hcause, rfl⟩
  simp only [PIN_IOn_SAFE_CAUSE, PIN_IOn_SAFE_FORCED]
  omega

/-- A release while a cause lasts, or in the cycle in which one arose, is refused. -/
theorem Dev.pinRelease_caused {d : Dev} {n : Nat} (h : d.rd (PIN_IOn_SAFE_CAUSE n) ≠ 0 ∨ d.hitNow n = true) :
    d.pinRelease n = d.relRefuse n := by
  refine if_neg fun hended => ?_
  obtain ⟨hcause, hhit⟩ := hended
  rcases h with hlasts | hnow
  · exact hlasts hcause
  · exact absurd (hhit.symm.trans hnow) Bool.false_ne_true

/-- A refusal leaves the fields of the pins. -/
theorem Dev.rd_relRefuse (d : Dev) (n : Nat) {g : Fld} (h : PIN_STAT_REFUSED.key < g.key) : (d.relRefuse n).rd g = d.rd g := by
  have hpost : g.key ∉ postKeys := by
    simp only [postKeys, PIN_STAT_REFUSED, EVR_LOST_CNT, EVR_ACCEPT_CNT, EVR_FIFO_HWM, EVR_STAT_LOSS, List.mem_cons, List.not_mem_nil,
      or_false] at h ⊢
    omega
  exact (Dev.rd_postEvent _ _ _ _ _ _ hpost).trans (Dev.rd_put_ne d true (Nat.ne_of_gt h))

/-- A refusal sets PIN_STAT.REFUSED. -/
theorem Dev.relRefuse_refused (d : Dev) (n : Nat) : (d.relRefuse n).on PIN_STAT_REFUSED = true := by
  have hpost : (d.relRefuse n).rd PIN_STAT_REFUSED = (d.put PIN_STAT_REFUSED true).rd PIN_STAT_REFUSED :=
    Dev.rd_postEvent _ _ _ _ _ _ (by decide)
  rw [Dev.on, hpost]
  exact Dev.on_put_self d PIN_STAT_REFUSED true rfl

/-- Settles O43: storing the register keeps what decides the release, which then clears FORCED or is refused. -/
theorem forcedPinRelease : Obligations.ForcedPinRelease := by
  unfold Obligations.ForcedPinRelease
  intro d m n v hr hm hn ha
  obtain ⟨hforced, hcause, hhit, hevr⟩ := d.sameForce_safeStored m hn (withField v 2 1 1).toNat
  refine ⟨_, d.answers_rel hr hm hn ha, fun hended hquiet => ?released, fun hcaused => ?refused⟩
  case released =>
    obtain ⟨hfree, hnone, hsilent⟩ := Dev.pinRelease_ended (hcause.trans hended) (hhit.trans hquiet)
    exact ⟨hfree, hnone, hsilent.trans hevr⟩
  case refused =>
    rw [← hcause, ← hhit] at hcaused
    rw [Dev.pinRelease_caused hcaused]
    refine ⟨(Dev.rd_relRefuse _ n ?_).trans hforced, (Dev.rd_relRefuse _ n ?_).trans hcause, Dev.relRefuse_refused _ n,
      (d.safeStored m n (withField v 2 1 1).toNat).put PIN_STAT_REFUSED true, hevr, rfl⟩
    · simp only [PIN_STAT_REFUSED, PIN_IOn_SAFE_FORCED]
      omega
    · simp only [PIN_STAT_REFUSED, PIN_IOn_SAFE_CAUSE]
      omega

end Sys2Proof.Machine

/-! The FIFOs and the flags of a sequencer group (spec/09, R253 and R254): O44. -/

namespace Sys2Proof.Machine

/-! ### The FIFOs of a sequencer -/

/-- The FIFO from the engines takes a word behind those that wait while it has room. -/
theorem Dev.txfWrite_room {d : Dev} {q : Nat} (v : Nat) (h : (d.seq q).txf.length < 8) :
    d.txfWrite q v = (d.setSeq q { d.seq q with txf := (d.seq q).txf ++ [v % 2 ^ 32] }, true) :=
  if_neg (Nat.not_le.mpr h)

/-- A full FIFO from the engines refuses the word. -/
theorem Dev.txfWrite_full {d : Dev} {q : Nat} (v : Nat) (h : 8 ≤ (d.seq q).txf.length) :
    d.txfWrite q v = (d.inc (PIN_SEQ_FCNT_TXREF (q / 4) (q % 4)), false) :=
  if_pos h

theorem Dev.rxfRead_nil {d : Dev} {q : Nat} (h : (d.seq q).rxf = []) : d.rxfRead q = (d, 0) := by
  rw [Dev.rxfRead, h]

/-- A read of the FIFO to the engines takes its oldest word, with VALID in bit 63. -/
theorem Dev.rxfRead_cons {d : Dev} {q x : Nat} {later : List Nat} (h : (d.seq q).rxf = x :: later) :
    d.rxfRead q = (d.setSeq q { d.seq q with rxf := later }, 2 ^ 63 + x) := by
  rw [Dev.rxfRead, h]

/-! ### The bits of a number -/

theorem bit_eq_testBit (v i : Nat) : bit v i = v.testBit i := by
  rw [Nat.testBit_eq_decide_div_mod_eq]
  rfl

theorem bit_zero (i : Nat) : bit 0 i = false := by
  rw [bit_eq_testBit, Nat.zero_testBit]

/-- The bits of the union of two sets of flags, cut to 32 flags. -/
theorem bit_lor_mod (a b : Nat) {i : Nat} (hi : i < 32) : bit (Nat.lor a b % 2 ^ 32) i = (bit a i || bit b i) := by
  simp only [bit_eq_testBit, Nat.testBit_mod_two_pow, hi, decide_true, Bool.true_and]
  exact Nat.testBit_or a b i

/-- Setting one bit sets that bit and no other. -/
theorem bit_setBits_set (v k i : Nat) : bit (setBits v k 1 1) i = (bit v i || decide (i = k)) := by
  rcases Nat.lt_trichotomy i k with hbelow | rfl | habove
  · rw [bit_setBits_ne v hbelow, decide_eq_false (Nat.ne_of_lt hbelow), Bool.or_false]
  · rw [bit_setBits_one, decide_eq_true rfl, Bool.or_true]
  · rw [decide_eq_false (Nat.ne_of_gt habove), Bool.or_false]
    exact congrArg (· == 1) (bits_setBits_other v 1 (.inl habove))

/-! ### Folds over numbers -/

theorem forNums_succ (n : Nat) (f : Nat → Dev → Dev) (d : Dev) : forNums (n + 1) f d = f n (forNums n f d) := by
  rw [forNums, List.range_succ, List.foldl_append]
  rfl

/-- A fold that updates fields with homes of their own updates each of them once. -/
theorem Dev.rd_forNums_wr (d : Dev) {fld : Nat → Fld} (hkeys : ∀ s t, s ≠ t → (fld s).key ≠ (fld t).key) (upd : Nat → Nat) (n s : Nat) :
    (forNums n (fun t d => d.wr (fld t) (upd (d.rd (fld t)))) d).rd (fld s)
      = if s < n then upd (d.rd (fld s)) % 2 ^ (fld s).width else d.rd (fld s) := by
  induction n with
  | zero => rfl
  | succ n ih =>
    rw [forNums_succ]
    rcases Nat.lt_trichotomy s n with hdone | rfl | hlater
    · rw [Dev.rd_wr_ne _ _ (hkeys s n (Nat.ne_of_lt hdone)), ih, if_pos hdone, if_pos (Nat.lt_succ_of_lt hdone)]
    · rw [Dev.rd_wr_self, ih, if_neg (Nat.lt_irrefl s), if_pos (Nat.lt_succ_self s)]
    · rw [Dev.rd_wr_ne _ _ (hkeys s n (Nat.ne_of_gt hlater)), ih, if_neg (Nat.lt_asymm hlater), if_neg (Nat.not_lt.mpr hlater)]

/-! ### The flags that software raises -/

/-- SIGNAL of a flag, or its bit in PIN_GRP_FLAGSET, names that flag and no other. -/
theorem Dev.bit_soft_softFlag (d : Dev) (g k i : Nat) :
    bit ((d.softFlag g k).grp g).soft i = (bit (d.grp g).soft i || decide (i = k)) := by
  rw [Dev.softFlag, Dev.setGrp_grp_self]
  exact bit_setBits_set _ k i

/-- What the first n software flags of a written value add to those named before. -/
theorem Dev.bit_soft_forNums (d : Dev) (g v n i : Nat) :
    bit ((forNums n (fun k d => d.when (bit v (24 + k)) (fun d => d.softFlag g (24 + k))) d).grp g).soft i
      = (bit (d.grp g).soft i || (decide (24 ≤ i ∧ i < 24 + n) && bit v i)) := by
  induction n with
  | zero =>
    have hnone : ¬(24 ≤ i ∧ i < 24 + 0) := by omega
    rw [decide_eq_false hnone, Bool.false_and, Bool.or_false]
    rfl
  | succ n ih =>
    have hlast : decide (24 ≤ i ∧ i < 24 + (n + 1)) = (decide (24 ≤ i ∧ i < 24 + n) || decide (i = 24 + n)) := by
      rw [← Bool.decide_or, decide_eq_decide]
      omega
    rw [forNums_succ, hlast, Bool.and_or_distrib_right, ← Bool.or_assoc, ← ih]
    cases hv : bit v (24 + n)
    case false =>
      have hunnamed : (decide (i = 24 + n) && bit v i) = false := by
        rw [Bool.and_eq_false_imp, decide_eq_true_eq]
        rintro rfl
        exact hv
      rw [Dev.when_false, hunnamed, Bool.or_false]
    case true =>
      have hnamed : (decide (i = 24 + n) && bit v i) = decide (i = 24 + n) := by
        rw [Bool.and_eq_left_iff_imp, decide_eq_true_eq]
        rintro rfl
        exact hv
      rw [Dev.when_true, Dev.bit_soft_softFlag, hnamed]

/-- A write of PIN_GRP_FLAGSET names the software flags of its value. -/
theorem Dev.bit_soft_flagSet (d : Dev) (g v : Nat) {i : Nat} (hi : i < 32) :
    bit ((d.flagSet g v).grp g).soft i = (bit (d.grp g).soft i || (decide (24 ≤ i) && bit v i)) := by
  rw [Dev.flagSet, Dev.bit_soft_forNums, decide_eq_decide.mpr (and_iff_left hi)]

@[simp] theorem Dev.flagSet_regs (d : Dev) (g v : Nat) : (d.flagSet g v).regs = d.regs :=
  forNums_same Dev.regs (fun _ _ d => Dev.when_same Dev.regs (d.setGrp_regs g _) _) d

/-! ### The group edge -/

/-- The flags set in all four sequencers of a group. -/
theorem Dev.rd_pendFlags (d : Dev) (g mask : Nat) {s : Nat} (hs : s < 4) :
    (d.pendFlags g mask).rd (PIN_SEQ_PEND_PEND g s) = Nat.lor (d.rd (PIN_SEQ_PEND_PEND g s)) mask % 2 ^ 32 := by
  have hkeys : ∀ s t, s ≠ t → (PIN_SEQ_PEND_PEND g s).key ≠ (PIN_SEQ_PEND_PEND g t).key := by
    intro s t hne
    simp only [PIN_SEQ_PEND_PEND]
    omega
  exact (d.rd_forNums_wr hkeys (Nat.lor · mask) 4 s).trans (if_pos hs)

/-- A group edge adds the flags that software named to those that are pending, in each sequencer. -/
theorem Dev.bit_pend_grpEdge (d : Dev) (g : Nat) {s i : Nat} (hs : s < 4) (hi : i < 32) :
    bit ((d.grpEdge g).rd (PIN_SEQ_PEND_PEND g s)) i = (bit (d.rd (PIN_SEQ_PEND_PEND g s)) i || bit (d.grp g).soft i) := by
  unfold Dev.grpEdge
  dsimp only
  by_cases hsoft : (d.grp g).soft = 0
  · rw [hsoft, bne_self_eq_false, Dev.when_false, Dev.setGrp_rd, bit_zero, Bool.or_false]
  · rw [bne_iff_ne.mpr hsoft, Dev.when_true, Dev.rd_pendFlags _ g _ hs, bit_lor_mod _ _ hi, Dev.setGrp_rd]

/-- Settles O44, FIFO by FIFO and by whether it has room or a word; the flags named wait in the group for its next edge. -/
theorem sequencerFifosAndFlags : Obligations.SequencerFifosAndFlags := by
  unfold Obligations.SequencerFifosAndFlags
  intro d q _
  refine ⟨fun v hroom => ?placed, fun v hfull => Dev.txfWrite_full v hfull, fun x later hword => ?taken, Dev.rxfRead_nil,
    fun g v s _ hs _ => ⟨d.flagSet_regs g v, fun i hi => ?raised⟩⟩
  case placed =>
    rw [Dev.txfWrite_room v hroom]
    exact ⟨congrArg Seq.txf (d.setSeq_seq_self q _), rfl, d.setSeq_regs q _, fun k hk => d.setSeq_seq_ne _ hk⟩
  case taken =>
    rw [Dev.rxfRead_cons hword]
    exact ⟨rfl, congrArg Seq.rxf (d.setSeq_seq_self q _)⟩
  case raised =>
    rw [Dev.bit_pend_grpEdge _ g hs hi, Dev.rd_congr (d.flagSet_regs g v), d.bit_soft_flagSet g v hi, Bool.or_assoc]

end Sys2Proof.Machine

/-! The release of receive slots through the RXREL ports (spec/10, R271 and R291): O45. -/

namespace Sys2Proof.Machine

/-- A receive ring with its k oldest occupied slots freed, in the order of its slots. -/
def RxRing.freed (r : RxRing) (slots k : Nat) : RxRing := { r with old := (r.old + k) % slots, occ := r.occ - k }

@[simp] theorem Dev.rxRing_setRxRing (d : Dev) (n i : Nat) (r : RxRing) : (d.setRxRing n i r).rxRing n i = r := by
  simp [Dev.setRxRing, Dev.rxRing]

@[simp] theorem Dev.ioNote_rxRing (d : Dev) (e port : Nat) (out : Bool) (n i : Nat) : (d.ioNote e port out).rxRing n i = d.rxRing n i := rfl

theorem Dev.rxRelease_occupied {d : Dev} {n i k : Nat} (h0 : k ≠ 0) (hk : k ≤ (d.rxRing n i).occ) :
    d.rxRelease n i k = (d.setRxRing n i ((d.rxRing n i).freed (d.rd (DEP_RXRi_NSLOT n i)) k), true) :=
  if_neg (by omega)

theorem Dev.rxRelease_ignored {d : Dev} {n i k : Nat} (h : k = 0 ∨ (d.rxRing n i).occ < k) : d.rxRelease n i k = (d, false) :=
  if_pos h

theorem Dev.ioWrite_rxRel (d : Dev) (e : Nat) {i : Nat} (v : Nat) (hi : i < 2) : d.ioWrite e (0x304 + i) v
    = ((d.rxRelease (e / 8) i v).1, if (d.rxRelease (e / 8) i v).2 then .done 0 else .refused) := by
  rw [Dev.ioWrite, ioPortOf_rxRel hi]

/-- An OUT that its port refuses sets FL.IOE (R279). -/
theorem Dev.engOut_refused {d d' : Dev} {e port v : Nat} (h : d.depotOn (e / 8) = true) (hw : d.ioWrite e port v = (d', .refused)) :
    d.engOut e port v = (d'.ioNote e port true).modEng e (fun x => { x with fl := { x.fl with ioe := true } }) := by
  rw [Dev.engOut, if_pos h, hw]

theorem Dev.answers_rxRelease (d : Dev) {e i : Nat} (v : BitVec 32) (hr : d.inReset = false) (he : e < 64) (hi : i < 2) :
    d.answers (.rxRelease e i v) (d.engOut e (0x304 + i) v.toNat) :=
  d.answers_core (f := fun d => d.engOut e (0x304 + i) v.toNat) (fun _ => rfl) (by simp [he, hi]) hr rfl

/-- Settles O45: a count of the occupied slots frees them, and any other count is refused. -/
theorem receiveSlotsFreedInOrder : Obligations.ReceiveSlotsFreedInOrder := by
  unfold Obligations.ReceiveSlotsFreedInOrder
  intro d e i v hr he hi hon
  have hout := d.answers_rxRelease v hr he hi
  refine ⟨fun h0 hocc => ?frees, fun hcount => ?ignored⟩
  case frees =>
    have hport := d.ioWrite_rxRel e v.toNat hi
    rw [Dev.rxRelease_occupied h0 hocc] at hport
    rw [Dev.engOut_done hon hport] at hout
    refine ⟨_, hout, ?_⟩
    rw [Dev.ioNote_rxRing, Dev.rxRing_setRxRing]
    exact ⟨rfl, rfl, rfl, rfl⟩
  case ignored =>
    have hport := d.ioWrite_rxRel e v.toNat hi
    rw [Dev.rxRelease_ignored hcount] at hport
    rwa [Dev.engOut_refused hon hport] at hout

end Sys2Proof.Machine

/-! The traps of an engine (spec/10, R284 and R285): O48. A double trap may let a swap take effect (R286, R287), which writes registers
of the engine and of its depot; the report of the double trap and the description of the first trap stand through all of it. -/

namespace Sys2Proof.Machine

/-! ### A trap, and a trap within a trap -/

/-- The engine as a trap leaves it that is raised outside a trap (R284). -/
def Eng.trapped (x : Eng) (tpc tiw : Word) (cause vec : Nat) : Eng :=
  { x with tpc := tpc, tiw := tiw, tcause := cause, pc := BitVec.ofNat 32 (4 * vec) }

theorem Dev.engTrap_first {d : Dev} {e : Nat} (tpc tiw : Word) (n : Nat) (h : d.on (ENG_STAT_TACT e) = false) :
    d.engTrap e tpc tiw n = (d.put (ENG_STAT_TACT e) true).modEng e (fun x => x.trapped tpc tiw n (d.rd (ENG_TVEC_TVEC e))) := by
  have hvec : (d.put (ENG_STAT_TACT e) true).rd (ENG_TVEC_TVEC e) = d.rd (ENG_TVEC_TVEC e) :=
    d.rd_put_ne true (by simp [ENG_TVEC_TVEC, ENG_STAT_TACT])
  rw [← hvec, Dev.engTrap, if_neg (by simp [h])]
  rfl

/-- The engine halted with event 0x0401 (R285). -/
def Dev.doubleTrapRecorded (d : Dev) (e n : Nat) : Dev :=
  (d.wr (ENG_STAT_STATE e) engHalted).postEvent 0x0401 (0x040 + e) (n * 2 ^ 16 + (d.eng e).pc.toNat % 2 ^ 15)

theorem Dev.engTrap_double {d : Dev} {e : Nat} (tpc tiw : Word) (n : Nat) (h : d.on (ENG_STAT_TACT e) = true) :
    d.engTrap e tpc tiw n = ((d.doubleTrapRecorded e n).engReport e 3).haltedSwap e :=
  if_pos h

/-- A fetch that faults raises the trap of its cause (R302). -/
theorem Dev.answers_faultedFetch (d : Dev) {d' : Dev} {e n : Nat} (hr : d.inReset = false) (he : e < 64)
    (hrun : d.engState e = engRunning) (hline : d.lineToTake e = none) (hstep : (d.eng e).stepping = false)
    (hf : d.engFetch e = (d', .fault n)) : d.answers (.instructionFetchFault e) (d'.engTrap e (d'.eng e).pc 0 n) := by
  apply d.answers_core (f := fun d => d.engExec e .fetchFault) (fun _ => rfl) (by simp [he]) hr
  unfold Dev.engExec Dev.engWord Dev.wordStep
  rw [if_pos (by simp [Dev.engReady, hrun, hline, hf, Fetch.row]), hf, hstep]
  rfl

/-! ### What a double trap leaves, and what keeps it -/

/-- The registers of an engine that describe a trap (R284). -/
def Eng.trapRegs (x : Eng) : Word × Word × Nat := (x.tpc, x.tiw, x.tcause)

/-- The register fields that say that an engine halted by a double trap (R285, R291). -/
def doubleTrapFields (e : Nat) : List Fld := [ENG_STAT_STATE e, ENG_RPT0_RCAUSE e, ENG_RPT0_RPTV e]

/-- An engine is halted with a valid report of cause 3, and its trap registers describe the given trap. -/
def Dev.doubleTrapped (d : Dev) (e : Nat) (t : Word × Word × Nat) : Prop :=
  d.engState e = engHalted ∧ d.rd (ENG_RPT0_RCAUSE e) = 3 ∧ d.on (ENG_RPT0_RPTV e) = true ∧ (d.eng e).trapRegs = t

section
variable {d : Dev} {e : Nat} {t : Word × Word × Nat}

theorem Dev.doubleTrapped.engState (h : d.doubleTrapped e t) : d.engState e = engHalted := h.1

theorem Dev.doubleTrapped.of_same {d' : Dev} (h : d.doubleTrapped e t) (hregs : ∀ f ∈ doubleTrapFields e, d'.rd f = d.rd f)
    (heng : (d'.eng e).trapRegs = (d.eng e).trapRegs) : d'.doubleTrapped e t := by
  obtain ⟨hstate, hcause, hvalid, htrap⟩ := h
  refine ⟨(hregs _ ?_).trans hstate, (hregs _ ?_).trans hcause, ?_, heng.trans htrap⟩
  · simp [doubleTrapFields]
  · simp [doubleTrapFields]
  · rw [Dev.on, hregs _ (by simp [doubleTrapFields])]
    exact hvalid

theorem Dev.doubleTrapped.wr {g : Fld} (h : d.doubleTrapped e t) (v : Nat) (hg : ∀ f ∈ doubleTrapFields e, f.key ≠ g.key) :
    (d.wr g v).doubleTrapped e t :=
  h.of_same (fun f hf => d.rd_wr_ne v (hg f hf)) rfl

theorem Dev.doubleTrapped.clr {g : Fld} (h : d.doubleTrapped e t) (hg : ∀ f ∈ doubleTrapFields e, f.key ≠ g.key) :
    (d.clr g).doubleTrapped e t :=
  h.of_same (fun f hf => d.rd_clr_ne (hg f hf)) rfl

/-- The recorder's counters lie below the registers of the engines. -/
theorem doubleTrapFields_not_postKeys {f : Fld} (hf : f ∈ doubleTrapFields e) : f.key ∉ postKeys := by
  have hhigh : 0x4080000 ≤ f.key := by
    simp only [doubleTrapFields, List.mem_cons, List.not_mem_nil, or_false] at hf
    rcases hf with rfl | rfl | rfl <;> simp only [ENG_STAT_STATE, ENG_RPT0_RCAUSE, ENG_RPT0_RPTV] <;> omega
  simp only [postKeys, EVR_LOST_CNT, EVR_ACCEPT_CNT, EVR_FIFO_HWM, EVR_STAT_LOSS, List.mem_cons, List.not_mem_nil, or_false]
  omega

theorem Dev.doubleTrapped.postEvent (h : d.doubleTrapped e t) (typ src detail : Nat) : (d.postEvent typ src detail).doubleTrapped e t :=
  h.of_same (fun _ hf => d.rd_postEvent _ _ _ _ _ (doubleTrapFields_not_postKeys hf)) (by rw [Dev.eng, Dev.postEvent_engs, Dev.eng])

theorem Dev.doubleTrapped.modEng (h : d.doubleTrapped e t) (k : Nat) {f : Eng → Eng} (hf : ∀ x, (f x).trapRegs = x.trapRegs) :
    (d.modEng k f).doubleTrapped e t := by
  refine h.of_same (fun _ _ => rfl) ?_
  by_cases hk : e = k
  · rw [hk, Dev.modEng_eng_self, hf]
  · rw [Dev.modEng_eng_ne _ _ hk]

theorem Dev.doubleTrapped.setDepot (h : d.doubleTrapped e t) (n : Nat) (x : Depot) : (d.setDepot n x).doubleTrapped e t :=
  h.of_same (fun _ _ => rfl) rfl

theorem Dev.doubleTrapped.when {f : Dev → Dev} (h : d.doubleTrapped e t) (c : Bool) (hf : (f d).doubleTrapped e t) :
    (d.when c f).doubleTrapped e t := by
  cases c
  · exact h
  · exact hf

/-! ### The registers that a swap writes -/

/-- The registers of an engine repeat in every window of 4 KiB: a field apart from the three by its place in the window is apart from
them in every window. -/
theorem doubleTrapFields_apart {g : Fld} (hstate : g.key % 0x8000 ≠ 0x20) (hcause : g.key % 0x8000 ≠ 0x300)
    (hvalid : g.key % 0x8000 ≠ 0x31F) : ∀ f ∈ doubleTrapFields e, f.key ≠ g.key := by
  simp only [doubleTrapFields, List.forall_mem_cons, ENG_STAT_STATE, ENG_RPT0_RCAUSE, ENG_RPT0_RPTV]
  refine ⟨by omega, by omega, by omega, by simp⟩

/-- The fields of engine k that a swap of it writes lie apart from those that tell of a double trap (R286). -/
theorem doubleTrapFields_apart_swap (k : Nat) {g : Fld}
    (hg : g ∈ [ENG_IRQ_INSVC k, ENG_SWAP_PEND k, ENG_SWAP_DONE k, ENG_SWAPCNT_SWAPCNT k]) :
    ∀ f ∈ doubleTrapFields e, f.key ≠ g.key := by
  have hlow : 0x200 ≤ g.key % 0x8000 ∧ g.key % 0x8000 < 0x300 := by
    simp only [List.mem_cons, List.not_mem_nil, or_false] at hg
    rcases hg with rfl | rfl | rfl | rfl <;>
      simp only [ENG_IRQ_INSVC, ENG_SWAP_PEND, ENG_SWAP_DONE, ENG_SWAPCNT_SWAPCNT] <;> omega
  exact doubleTrapFields_apart (by omega) (by omega) (by omega)

/-- The status bits of a depot-wide swap lie apart from the fields that tell of a double trap (R287). -/
theorem doubleTrapFields_apart_depotSwap (n : Nat) {g : Fld} (hg : g = DEP_STAT_SWPEND n ∨ g = DEP_STAT_SWDONE n) :
    ∀ f ∈ doubleTrapFields e, f.key ≠ g.key := by
  have hlow : g.key % 0x8000 = 0x23 ∨ g.key % 0x8000 = 0x24 := by
    rcases hg with rfl | rfl <;> simp only [DEP_STAT_SWPEND, DEP_STAT_SWDONE] <;> omega
  exact doubleTrapFields_apart (by omega) (by omega) (by omega)

/-- The STATE of any other engine lies apart from the fields that tell of a double trap. -/
theorem doubleTrapFields_apart_state {k : Nat} (hk : k ≠ e) : ∀ f ∈ doubleTrapFields e, f.key ≠ (ENG_STAT_STATE k).key := by
  simp only [doubleTrapFields, List.forall_mem_cons, ENG_STAT_STATE, ENG_RPT0_RCAUSE, ENG_RPT0_RPTV]
  refine ⟨by omega, by omega, by omega, by simp⟩

/-! ### Swaps -/

/-- The engine as a swap leaves it: the instruction memories exchanged, the stacks kept or emptied, PC at the entry where there is one. -/
def Eng.swapped (x : Eng) (keep : Bool) (entry : Option Word) : Eng := { x with
  im := x.sh, sh := x.im, imEcc := x.shEcc, shEcc := x.imEcc, pc := entry.getD x.pc, parked := false
  dsd := if keep then x.dsd else 0, rsd := if keep then x.rsd else 0
  ds := if keep then x.ds else [], rs := if keep then x.rs else [] }

/-- A swap of any engine (R286): memories, stacks and PC change, and the registers of swaps. -/
theorem Dev.doubleTrapped.swapNow (h : d.doubleTrapped e t) (k : Nat) : (d.swapNow k).doubleTrapped e t := by
  have hswap {g : Fld} (hg : g ∈ [ENG_IRQ_INSVC k, ENG_SWAP_PEND k, ENG_SWAP_DONE k, ENG_SWAPCNT_SWAPCNT k]) :=
    doubleTrapFields_apart_swap (e := e) k hg
  unfold Dev.swapNow
  dsimp only
  refine Dev.doubleTrapped.postEvent ?_ _ _ _
  refine .wr (.wr (.clr ?_ (hswap (by simp))) _ (hswap (by simp))) _ (hswap (by simp))
  have hmod := h.modEng k (f := fun x => x.swapped (d.on (ENG_SWAP_KEEPSTK k))
    (if d.on (ENG_SWAP_USEENTRY k) then some (BitVec.ofNat 32 (4 * d.rd (ENG_SWAP_ENTRY k))) else none)) (fun _ => rfl)
  exact hmod.when _ (hmod.clr (hswap (by simp)))

/-- An engine that goes on after a depot-wide swap was PARKED or asleep, so it is not one that a double trap halted. -/
theorem Dev.doubleTrapped.wfeWake (h : d.doubleTrapped e t) (k : Nat) : (d.wfeWake k).doubleTrapped e t := by
  unfold Dev.wfeWake
  split
  next hsleeps =>
    obtain ⟨hasleep, -, -⟩ := hsleeps
    refine h.wr _ (doubleTrapFields_apart_state ?_)
    rintro rfl
    exact absurd (h.engState.symm.trans hasleep) (by decide)
  next => exact h

theorem Dev.doubleTrapped.unpark (h : d.doubleTrapped e t) (k : Nat) : (d.unpark k).doubleTrapped e t := by
  have hmod := h.modEng k (f := fun x => { x with parked := false, asleep := false }) (fun _ => rfl)
  unfold Dev.unpark
  dsimp only
  split
  next hparked =>
    refine Dev.doubleTrapped.wfeWake (hmod.wr _ (doubleTrapFields_apart_state ?_)) k
    rintro rfl
    exact absurd (hmod.engState.symm.trans hparked) (by decide)
  next => exact hmod

theorem Dev.doubleTrapped.swapAll (h : d.doubleTrapped e t) (es : List Nat) :
    (es.foldl (fun d k => (d.swapNow k).unpark k) d).doubleTrapped e t := by
  induction es generalizing d with
  | nil => exact h
  | cons k es ih => exact ih ((h.swapNow k).unpark k)

theorem Dev.doubleTrapped.depotSwapTry (h : d.doubleTrapped e t) (n : Nat) : (d.depotSwapTry n).doubleTrapped e t := by
  unfold Dev.depotSwapTry
  split
  next => exact h
  next mask _ =>
    dsimp only
    split
    next =>
      exact (((h.swapAll _).setDepot n _).clr (doubleTrapFields_apart_depotSwap n (.inl rfl))).wr _
        (doubleTrapFields_apart_depotSwap n (.inr rfl))
    next => exact h

theorem Dev.doubleTrapped.haltedSwap (h : d.doubleTrapped e t) (k : Nat) : (d.haltedSwap k).doubleTrapped e t :=
  (h.when _ (h.swapNow k)).depotSwapTry (k / 8)

end

/-! ### The report of a double trap -/

/-- The report of an engine that has halted is one of a double trap where its cause is 3 (R291). -/
theorem Dev.engReport_doubleTrapped {d : Dev} {e : Nat} (h : d.engState e = engHalted) :
    (d.engReport e 3).doubleTrapped e (d.eng e).trapRegs := by
  have hhead : (((((d.wr (ENG_RPT0_RCAUSE e) 3).wr (ENG_RPT0_TCAUSE e) (d.eng e).tcause).wr (ENG_RPT0_DSD e) (d.eng e).dsd).wr
      (ENG_RPT0_RSD e) (d.eng e).rsd).put (ENG_RPT0_RPTV e) true).doubleTrapped e (d.eng e).trapRegs := by
    refine ⟨?state, ?cause, Dev.on_put_self _ _ true rfl, rfl⟩
    case state =>
      rw [Dev.engState, Dev.rd_put_ne, Dev.rd_wr_ne, Dev.rd_wr_ne, Dev.rd_wr_ne, Dev.rd_wr_ne, ← h, Dev.engState] <;>
        simp [ENG_STAT_STATE, ENG_RPT0_RCAUSE, ENG_RPT0_TCAUSE, ENG_RPT0_DSD, ENG_RPT0_RSD, ENG_RPT0_RPTV]
    case cause =>
      rw [Dev.rd_put_ne, Dev.rd_wr_ne, Dev.rd_wr_ne, Dev.rd_wr_ne, Dev.rd_wr_self] <;>
        simp [ENG_RPT0_RCAUSE, ENG_RPT0_TCAUSE, ENG_RPT0_DSD, ENG_RPT0_RSD, ENG_RPT0_RPTV]
  have hkeys {g : Fld} (hg : g ∈ [ENG_RPT1_PC e, ENG_RPT2_IOPORT e, ENG_RPT2_IODIR e, ENG_RPT3_LTNS e]) :
      ∀ f ∈ doubleTrapFields e, f.key ≠ g.key := by
    have hlater : 0x320 ≤ g.key % 0x8000 := by
      simp only [List.mem_cons, List.not_mem_nil, or_false] at hg
      rcases hg with rfl | rfl | rfl | rfl <;> simp only [ENG_RPT1_PC, ENG_RPT2_IOPORT, ENG_RPT2_IODIR, ENG_RPT3_LTNS] <;> omega
    exact doubleTrapFields_apart (by omega) (by omega) (by omega)
  exact ((((hhead.wr _ (hkeys (by simp))).wr _ (hkeys (by simp))).wr _ (hkeys (by simp))).wr _ (hkeys (by simp))).postEvent _ _ _

theorem Dev.doubleTrapRecorded_engState (d : Dev) (e n : Nat) : (d.doubleTrapRecorded e n).engState e = engHalted :=
  (Dev.rd_postEvent _ _ _ _ _ _ (doubleTrapFields_not_postKeys (e := e) (by simp [doubleTrapFields]))).trans (d.rd_wr_self _ _)

@[simp] theorem Dev.doubleTrapRecorded_eng (d : Dev) (e n k : Nat) : (d.doubleTrapRecorded e n).eng k = d.eng k := by
  rw [Dev.eng, Dev.doubleTrapRecorded, Dev.postEvent_engs, Dev.wr_engs, Dev.eng]

/-- Settles O48: the report is written on the halted engine, and a swap that waited for it keeps the report and the first trap. -/
theorem doubleTrapHalts : Obligations.DoubleTrapHalts := by
  unfold Obligations.DoubleTrapHalts
  refine ⟨fun d e n tpc tiw htact _ => ?halts, fun d d' e n w hf hk => ?undefined,
    fun d d' e n hr he hrun hline hstep hf => d.answers_faultedFetch hr he hrun hline hstep hf⟩
  case halts =>
    have hreport := (Dev.engReport_doubleTrapped (d.doubleTrapRecorded_engState e n)).haltedSwap e
    rw [d.doubleTrapRecorded_eng, ← Dev.engTrap_double tpc tiw n htact] at hreport
    obtain ⟨hstate, hcause, hvalid, hregs⟩ := hreport
    obtain ⟨htpc, hrest⟩ := Prod.mk.inj hregs
    obtain ⟨htiw, htcause⟩ := Prod.mk.inj hrest
    exact ⟨_, rfl, Dev.engTrap_double tpc tiw n htact, hstate, hcause, hvalid, htpc, htiw, htcause⟩
  case undefined => exact d.answers_word (fun _ => rfl) hf (by rw [hk]; rfl) (by rw [hk])

end Sys2Proof.Machine

/-! The entry of an interrupt line (spec/10, R282 and R284): O49. -/

namespace Sys2Proof.Machine

/-! ### The line that is taken -/

/-- A line is taken outside a trap alone, and there are eight of them. -/
theorem Dev.lineToTake_some {d : Dev} {e l : Nat} (h : d.lineToTake e = some l) : d.on (ENG_STAT_TACT e) = false ∧ l < 8 := by
  unfold Dev.lineToTake at h
  split at h
  next => cases h
  next hfree =>
    simp only [Bool.or_eq_true, not_or, Bool.not_eq_true] at hfree
    obtain ⟨htact, -⟩ := hfree
    exact ⟨htact, List.mem_range.mp (List.mem_of_find?_eq_some h)⟩

/-- The registers as the entry of a line leaves them: its INSVC bit set, and its latched PEND bit cleared where it has one (R281). -/
def Dev.lineServed (d : Dev) (e l : Nat) : Dev :=
  (d.wr (ENG_IRQ_INSVC e) (setBits (d.rd (ENG_IRQ_INSVC e)) l 1 1)).when
    (d.rd (ENG_IRQSELL_KIND e l) == 1 || d.rd (ENG_IRQSELL_KIND e l) == 2)
    (fun d => d.wr (ENG_IRQ_PEND e) (setBits (d.rd (ENG_IRQ_PEND e)) l 1 0))

/-- An engine that enters a handler: PC on the return stack, FL on the data stack, and on at the line's vector. -/
def Eng.interrupted (x : Eng) (vec l : Nat) : Eng :=
  { (x.pushR x.pc).pushD (BitVec.ofNat 32 x.fl.val) with pc := BitVec.ofNat 32 (16 * vec + 16 * l) }

theorem Dev.rd_lineServed_ne (d : Dev) {e l : Nat} {g : Fld} (hins : g.key ≠ (ENG_IRQ_INSVC e).key) (hpend : g.key ≠ (ENG_IRQ_PEND e).key) :
    (d.lineServed e l).rd g = d.rd g := by
  have hset := d.rd_wr_ne (setBits (d.rd (ENG_IRQ_INSVC e)) l 1 1) hins
  unfold Dev.lineServed Dev.when
  split
  · exact (Dev.rd_wr_ne _ _ hpend).trans hset
  · exact hset

/-- The line is in service. -/
theorem Dev.bit_insvc_lineServed (d : Dev) {e l : Nat} (hl : l < 8) : bit ((d.lineServed e l).rd (ENG_IRQ_INSVC e)) l = true := by
  have hset : (d.lineServed e l).rd (ENG_IRQ_INSVC e) = setBits (d.rd (ENG_IRQ_INSVC e)) l 1 1 % 2 ^ 8 := by
    unfold Dev.lineServed Dev.when
    split
    · rw [Dev.rd_wr_ne _ _ (by simp [ENG_IRQ_INSVC, ENG_IRQ_PEND]), Dev.rd_wr_self]
      rfl
    · exact d.rd_wr_self _ _
  rw [hset, bit_eq_testBit, Nat.testBit_mod_two_pow, ← bit_eq_testBit, bit_setBits_one, decide_eq_true hl]
  rfl

@[simp] theorem Dev.lineServed_mem (d : Dev) (e l : Nat) : (d.lineServed e l).mem = d.mem := Dev.when_same Dev.mem rfl _

/-! ### The entry -/

section
variable {d : Dev} {e l : Nat} (hrun : d.engState e = engRunning) (hline : d.lineToTake e = some l)
include hrun hline

theorem Dev.interruptEntry_returnsFull (hrsd : (d.eng e).rsd = 32) :
    d.interruptEntry e = d.engTrap e (d.eng e).pc (BitVec.ofNat 32 l) 0x85 := by
  rw [Dev.interruptEntry, hrun, hline]
  exact if_pos hrsd

theorem Dev.interruptEntry_room (hrsd : (d.eng e).rsd < 32) (hdsd : (d.eng e).dsd < 32) :
    d.interruptEntry e = (d.lineServed e l).setEng e ((d.eng e).interrupted (d.rd (ENG_IVEC_IVEC e)) l) := by
  have hvec : (d.lineServed e l).rd (ENG_IVEC_IVEC e) = d.rd (ENG_IVEC_IVEC e) :=
    d.rd_lineServed_ne (by simp [ENG_IVEC_IVEC, ENG_IRQ_INSVC]) (by simp [ENG_IVEC_IVEC, ENG_IRQ_PEND])
  rw [← hvec, Dev.interruptEntry, hrun, hline]
  exact (if_neg (Nat.ne_of_lt hrsd)).trans (if_neg (Nat.ne_of_lt hdsd))

end

/-- Settles O49, by whether the return stack has room; notes/assumptions/43 has the order of the faults of both stacks. -/
theorem interruptEntrySaves : Obligations.InterruptEntrySaves := by
  unfold Obligations.InterruptEntrySaves
  intro d e l hr he hrun hline
  obtain ⟨htact, hl⟩ := Dev.lineToTake_some hline
  have henter : d.answers (.interruptEntry e) (d.interruptEntry e) :=
    d.answers_core (f := fun d => d.interruptEntry e) (fun _ => rfl) (by simp [he]) hr rfl
  refine ⟨fun hrsd hdsd => ⟨_, henter, ?saves⟩, fun hrsd => ⟨_, henter, ?traps⟩⟩
  case saves =>
    rw [Dev.interruptEntry_room hrun hline hrsd hdsd, Dev.setEng_eng_self]
    exact ⟨tget_tput_self _ _ _, rfl, tget_tput_self _ _ _, rfl, d.bit_insvc_lineServed hl, rfl, fun _ _ => rfl, d.lineServed_mem e l⟩
  case traps =>
    rw [Dev.interruptEntry_returnsFull hrun hline hrsd, Dev.engTrap_first _ _ _ htact, Dev.modEng_eng_self]
    exact ⟨rfl, rfl, rfl, d.on_put_self (ENG_STAT_TACT e) true rfl, rfl, rfl, rfl⟩

end Sys2Proof.Machine

/-! The loads, the stores and the ports of an engine (spec/10 and spec/11, R278, R279, R308, R316, R317): O22. -/

namespace Sys2Proof.Machine

/-! ### What a load, a store and a port operation come to, where the access does not trap -/

/-- The number of the port that an IN or OUT names (R279). -/
def Eng.portNumber (x : Eng) (base : Option Nat) (port : Nat) : Nat := (port + (base.map (fun n => (x.reg n).toNat)).getD 0) % 65536

section
variable {d d2 : Dev} {e : Nat} {x : Eng} {pc : Word}

theorem Dev.opRun_load {size dst a : Nat} {s : Bool} {off : Word} {l : List Byte} (hs : size ≠ 8)
    (h : d.dataAccess e size (x.reg a + off) none = (d2, .ok l)) :
    d.opRun e x pc (.load size s dst a off) = { dev := d2, regs := [(dst, loadValue size s l)] } := by
  simp only [Dev.opRun, h, if_neg hs]

/-- LDD fills two registers, the lower word first. -/
theorem Dev.opRun_loadDouble {dst a : Nat} {off : Word} {l : List Byte} (h : d.dataAccess e 8 (x.reg a + off) none = (d2, .ok l)) :
    d.opRun e x pc (.load 8 false dst a off)
      = { dev := d2, regs := [(dst, loadValue 4 false (l.take 4)), (dst + 1, loadValue 4 false (l.drop 4))] } := by
  simp only [Dev.opRun, h, if_true]

theorem Dev.opRun_store {size src a : Nat} {off : Word} {l : List Byte} (hs : size ≠ 8)
    (h : d.dataAccess e size (x.reg a + off) (some (toLe size (x.reg src).toNat)) = (d2, .ok l)) :
    d.opRun e x pc (.store size src a off) = { dev := d2 } := by
  simp only [Dev.opRun, if_neg hs, Nat.add_zero, h]

theorem Dev.opRun_storeDouble {src a : Nat} {off : Word} {l : List Byte}
    (h : d.dataAccess e 8 (x.reg a + off) (some (toLe 8 ((x.reg src).toNat + (x.reg (src + 1)).toNat * 2 ^ 32))) = (d2, .ok l)) :
    d.opRun e x pc (.store 8 src a off) = { dev := d2 } := by
  simp only [Dev.opRun, if_true, h]

theorem Dev.opRun_loadInstr {dst a : Nat} {off v : Word} (hin : (x.reg a + off).toNat ≤ 0x7FFC) (hal : (x.reg a + off).toNat % 4 = 0)
    (h : d.localWord e .im (x.reg a + off).toNat = (d2, some v)) :
    d.opRun e x pc (.loadInstr dst a off) = { dev := d2, regs := [(dst, v)] } := by
  simp only [Dev.opRun, Dev.opLoadInstr, if_neg (Nat.not_lt.mpr hin), hal, ne_eq, not_true_eq_false, if_false, h]

theorem Dev.opRun_input {dst port v : Nat} {a : Option Nat}
    (h : (d.ioNote e (x.portNumber a port) false).ioRead e (x.portNumber a port) = (d2, .done v)) :
    d.opRun e x pc (.input dst a port) = { dev := d2, regs := [(dst, BitVec.ofNat 32 v)] } := by
  simp only [Eng.portNumber] at h
  simp only [Dev.opRun, h, IoRes.val]

theorem Dev.opRun_output {src port v : Nat} {a : Option Nat}
    (h : (d.ioNote e (x.portNumber a port) true).ioWrite e (x.portNumber a port) (x.reg src).toNat = (d2, .done v)) :
    d.opRun e x pc (.output src a port) = { dev := d2 } := by
  simp only [Eng.portNumber] at h
  simp only [Dev.opRun, h]

/-- An OUT that the port refuses sets FL.IOE and the word completes (R279). -/
theorem Dev.opRun_output_refused {src port : Nat} {a : Option Nat}
    (h : (d.ioNote e (x.portNumber a port) true).ioWrite e (x.portNumber a port) (x.reg src).toNat = (d2, .refused)) :
    d.opRun e x pc (.output src a port) = { dev := d2.modEng e (fun y => { y with fl := { y.fl with ioe := true } }) } := by
  simp only [Eng.portNumber] at h
  simp only [Dev.opRun, h]

end

/-! ### The words -/

section
variable {d d' d2 : Dev} {c : Instr} {e : Nat} {row : EngRow} {w : Word}

theorem Dev.answers_load {size D A : Nat} {s : Bool} {off : Word} {l : List Byte} (hf : d.fetches e d' w)
    (h : ∀ s, exec c s = s.engine e row) (hs : size ≠ 8) (hk : decodeWord w.toNat = .long row (.load size s D A off))
    (ha : (d'.engNext e).dataAccess e size ((d'.eng e).reg A + off) none = (d2, .ok l)) :
    d.answers c (d2.engPost e [(D, loadValue size s l)] {}) :=
  d.answers_long hf hk h (Dev.opRun_load hs ha)

theorem Dev.answers_store {size S A : Nat} {off : Word} {l : List Byte} (hf : d.fetches e d' w)
    (h : ∀ s, exec c s = s.engine e row) (hs : size ≠ 8) (hk : decodeWord w.toNat = .long row (.store size S A off))
    (ha : (d'.engNext e).dataAccess e size ((d'.eng e).reg A + off) (some (toLe size ((d'.eng e).reg S).toNat)) = (d2, .ok l)) :
    d.answers c (d2.engPost e [] {}) :=
  d.answers_long hf hk h (Dev.opRun_store hs ha)

end

/-- Settles O22, row by row: each access that is carried out ends the word. -/
theorem engineMemoryAndPortsComplete : Obligations.EngineMemoryAndPortsComplete := by
  unfold Obligations.EngineMemoryAndPortsComplete
  intro d d' e w hf
  refine ⟨?ldb, ?ldbs, ?ldh, ?ldhs, ?ldw, ?ldd, ?stb, ?sth, ?stw, ?std, ?ldi, ?input, ?output, ?outputRefused⟩
  case ldb => exact fun _ _ _ _ _ => Dev.answers_load hf (fun _ => rfl) (by decide)
  case ldbs => exact fun _ _ _ _ _ => Dev.answers_load hf (fun _ => rfl) (by decide)
  case ldh => exact fun _ _ _ _ _ => Dev.answers_load hf (fun _ => rfl) (by decide)
  case ldhs => exact fun _ _ _ _ _ => Dev.answers_load hf (fun _ => rfl) (by decide)
  case ldw => exact fun _ _ _ _ _ => Dev.answers_load hf (fun _ => rfl) (by decide)
  case ldd => exact fun _ _ _ _ _ hk ha => d.answers_long hf hk (fun _ => rfl) (Dev.opRun_loadDouble ha)
  case stb => exact fun _ _ _ _ _ => Dev.answers_store hf (fun _ => rfl) (by decide)
  case sth => exact fun _ _ _ _ _ => Dev.answers_store hf (fun _ => rfl) (by decide)
  case stw => exact fun _ _ _ _ _ => Dev.answers_store hf (fun _ => rfl) (by decide)
  case std => exact fun _ _ _ _ _ hk ha => d.answers_long hf hk (fun _ => rfl) (Dev.opRun_storeDouble ha)
  case ldi => exact fun _ _ _ _ _ hk hin hal hv => d.answers_long hf hk (fun _ => rfl) (Dev.opRun_loadInstr hin hal hv)
  case input => exact fun _ _ _ _ _ hk hp => d.answers_long hf hk (fun _ => rfl) (Dev.opRun_input hp)
  case output => exact fun _ _ _ _ _ hk hp => d.answers_long hf hk (fun _ => rfl) (Dev.opRun_output hp)
  case outputRefused => exact fun _ _ _ _ hk hp => d.answers_long hf hk (fun _ => rfl) (Dev.opRun_output_refused hp)

end Sys2Proof.Machine

/-! The branches, returns, sleep and traps of an engine (spec/10 and spec/11, R282 to R284, R286, R300, R309): O23. -/

namespace Sys2Proof.Machine

/-! ### What each operation comes to, where it does not trap -/

section
variable {d : Dev} {e : Nat} {x : Eng} {pc : Word}

theorem Dev.opRun_branch_taken {cond : Nat} {off : Word} (h : x.fl.cond cond = true) :
    d.opRun e x pc (.branch cond off) = { dev := d, target := some (pc + off) } := by
  simp only [Dev.opRun, h, if_true]

theorem Dev.opRun_branch_not_taken {cond : Nat} {off : Word} (h : x.fl.cond cond = false) :
    d.opRun e x pc (.branch cond off) = { dev := d } := by
  simp only [Dev.opRun, h, Bool.false_eq_true, if_false]

theorem Dev.opRun_call {off : Word} (h : x.rsd ≠ 32) :
    d.opRun e x pc (.call off) = { dev := d.modEng e (fun y => y.pushR (pc + 4)), target := some (pc + off) } :=
  if_neg h

theorem Dev.opRun_jumpLink {a : Nat} (h : x.rsd ≠ 32) :
    d.opRun e x pc (.jump true a) = { dev := d.modEng e (fun y => y.pushR (pc + 4)), target := some (x.reg a) } :=
  if_neg (by simp [h])

theorem Dev.opRun_ret (h : x.rsd ≠ 0) :
    d.opRun e x pc .ret = { dev := d.modEng e (fun y => { y with rsd := y.rsd - 1 }), target := some x.topR } :=
  if_neg h

/-- The lowest line in service, which RETI ends (R282). -/
def Dev.lowestInService (d : Dev) (e : Nat) : Option Nat := (List.range 8).find? (fun l => bit (d.rd (ENG_IRQ_INSVC e)) l)

/-- RETI takes PC and FL from the stacks (R282). -/
def Eng.returned (x : Eng) (fl : Flags) : Eng := { x with rsd := x.rsd - 1, dsd := x.dsd - 1, fl := fl }

theorem Dev.opRun_reti_inService {l : Nat} (hr : x.rsd ≠ 0) (hd : x.dsd ≠ 0) (hl : d.lowestInService e = some l) :
    d.opRun e x pc .reti =
      { dev := (d.wr (ENG_IRQ_INSVC e) (setBits (d.rd (ENG_IRQ_INSVC e)) l 1 0)).modEng e (·.returned (Flags.of (x.topD 0).toNat))
        target := some x.topR } := by
  rw [Dev.lowestInService] at hl
  simp only [Dev.opRun, if_neg hr, if_neg hd, hl, Eng.returned]

theorem Dev.opRun_reti_noneInService (hr : x.rsd ≠ 0) (hd : x.dsd ≠ 0) (hl : d.lowestInService e = none) :
    d.opRun e x pc .reti = { dev := d.modEng e (·.returned (Flags.of (x.topD 0).toNat)), target := some x.topR } := by
  rw [Dev.lowestInService] at hl
  simp only [Dev.opRun, if_neg hr, if_neg hd, hl, Eng.returned]

end

/-! ### What follows WFE and SAFE -/

section
variable {d : Dev} {e : Nat}

/-- The end of a word that writes nothing leaves what decides the lines of an engine (R281). -/
theorem Dev.wakePending_wordEnd : ((d.engNext e).engPost e [] {}).wakePending e = d.wakePending e := rfl

theorem Dev.engState_wordEnd : ((d.engNext e).engPost e [] {}).engState e = d.engState e := rfl

theorem Dev.wordAfter_wfe_wakes (h : d.wakePending e = true) : d.wordAfter e .wfe = d := if_pos (.inr h)

theorem Dev.wordAfter_wfe_sleeps (hrun : d.engState e = engRunning) (h : d.wakePending e = false) :
    d.wordAfter e .wfe = (d.wr (ENG_STAT_STATE e) engSleeping).swapPoint e true :=
  if_neg (by simp [hrun, h])

theorem Dev.wordAfter_safe (hrun : d.engState e = engRunning) (h : d.on (ENG_STAT_TACT e) = false) :
    d.wordAfter e .safe = d.swapPoint e false :=
  if_neg (by simp [hrun, h])

end

/-- Settles O23, row by row: a jump's target, what WFE and SAFE are followed by, and the traps of TRAP and BRK. -/
theorem engineControlCompletes : Obligations.EngineControlCompletes := by
  unfold Obligations.EngineControlCompletes
  intro d d' e w hf
  refine ⟨?taken, ?notTaken, ?call, ?jump, ?jumpLink, ?ret, ?retiInService, ?retiNone, ?rft, ?wfeWakes, ?wfeSleeps, ?safe, ?trap, ?brk⟩
  case taken => exact fun _ _ hk hc => d.answers_long hf hk (fun _ => rfl) (Dev.opRun_branch_taken hc)
  case notTaken => exact fun _ _ hk hc => d.answers_long hf hk (fun _ => rfl) (Dev.opRun_branch_not_taken hc)
  case call => exact fun _ hk hs => d.answers_long hf hk (fun _ => rfl) (Dev.opRun_call hs)
  case jump => exact fun _ hk => d.answers_long hf hk (fun _ => rfl) rfl
  case jumpLink => exact fun _ hk hs => d.answers_long hf hk (fun _ => rfl) (Dev.opRun_jumpLink hs)
  case ret => exact fun hk hs => d.answers_long hf hk (fun _ => rfl) (Dev.opRun_ret hs)
  case retiInService => exact fun _ hk hr hd hl => d.answers_long hf hk (fun _ => rfl) (Dev.opRun_reti_inService hr hd hl)
  case retiNone => exact fun hk hr hd hl => d.answers_long hf hk (fun _ => rfl) (Dev.opRun_reti_noneInService hr hd hl)
  case rft => exact fun hk => d.answers_long hf hk (fun _ => rfl) rfl
  case wfeWakes =>
    intro hk _ hw
    have hword : d.answers (.wfe e) (((d'.engNext e).engPost e [] {}).wordAfter e .wfe) := d.answers_long hf hk (fun _ => rfl) rfl
    rwa [Dev.wordAfter_wfe_wakes (Dev.wakePending_wordEnd.trans hw)] at hword
  case wfeSleeps =>
    intro hk hrun hw
    have hword : d.answers (.wfe e) (((d'.engNext e).engPost e [] {}).wordAfter e .wfe) := d.answers_long hf hk (fun _ => rfl) rfl
    rwa [Dev.wordAfter_wfe_sleeps (Dev.engState_wordEnd.trans hrun) (Dev.wakePending_wordEnd.trans hw)] at hword
  case safe =>
    intro hk hrun ht
    have hword : d.answers (.safe e) (((d'.engNext e).engPost e [] {}).wordAfter e .safe) := d.answers_long hf hk (fun _ => rfl) rfl
    rwa [Dev.wordAfter_safe (Dev.engState_wordEnd.trans hrun) ht] at hword
  case trap => exact fun _ hk ht => d.answers_long_trap hf hk (fun _ => rfl) ht rfl
  case brk => exact fun hk ht => d.answers_long_trap hf hk (fun _ => rfl) ht rfl

end Sys2Proof.Machine

/-! Pairs, undefined words and fetches that fault, outside a trap (spec/10 and spec/11, R284, R298, R301, R302): O25. -/

namespace Sys2Proof.Machine

/-- A register operation that is no division by zero with DZT set. -/
theorem Dev.opRun_alu {d : Dev} {e : Nat} {x : Eng} {pc : Word} {f : AluOp} {D A B : Nat} (h : f.divTraps (x.reg B) x.fl = false) :
    d.opRun e x pc (.alu f D A B) = aluRes d D (f.run (x.reg A) (x.reg B) x.fl) :=
  if_neg (by simp [h])

/-- Settles O25: both slots of a pair run on the engine as it was before the word; a word or a fetch that cannot run enters a trap. -/
theorem engineWordsComplete : Obligations.EngineWordsComplete := by
  unfold Obligations.EngineWordsComplete
  refine ⟨fun d d' e w hf => ⟨fun n hk ht => d.answers_trap hf hk (fun _ => rfl) ht, ?registers, ?pair⟩, ?fetch⟩
  case registers =>
    intro f g D A B D' A' B' hk hfz hgz
    exact d.answers_pair hf hk (fun _ => rfl) (Dev.opRun_alu hfz) ⟨rfl, rfl⟩ (Dev.opRun_alu hgz)
  case pair =>
    intro a b d2 d3 ra rb fa fb t hk ha hb
    have hpair := d.answers_pair (c := .instructionPair e) hf hk (fun _ => rfl) ha ⟨rfl, rfl⟩ hb
    cases t with
    | none => exact hpair
    | some t => exact hpair
  case fetch => exact fun d d' e n hr he hrun hline hstep hf ht => d.answers_fetchFault d' e n hr he hrun hline hstep hf ht

end Sys2Proof.Machine

/-! The register operations of an engine: arithmetic, logic, moves, shifts and protocol helpers (spec/11, R302, R305 to R307, R312 to R314,
R320 to R322): O19, O20 and O21. -/

namespace Sys2Proof.Machine

section
variable {d d' : Dev} {c : Instr} {e : Nat} {row : EngRow} {w : Word} {f : AluOp}

/-- A division does not trap where the divisor is not 0 or DZT is 0 (R312). -/
theorem AluOp.divTraps_of_safe {b : Word} {fl : Flags} (h : b ≠ 0 ∨ fl.dzt = false) : f.divTraps b fl = false := by
  rcases h with hb | hdzt
  · simp only [AluOp.divTraps, beq_eq_false_iff_ne.mpr hb, Bool.and_false, Bool.false_and]
  · rw [AluOp.divTraps, hdzt, Bool.and_false]

/-- A word whose operation is on registers, no division by zero with DZT set, writes the operation's result and flags. -/
theorem Dev.answers_alu {D A B : Nat} (hf : d.fetches e d' w) (h : ∀ s, exec c s = s.engine e row)
    (hz : f.divTraps ((d'.eng e).reg B) (d'.eng e).fl = false) (hk : decodeWord w.toNat = .long row (.alu f D A B)) :
    d.answers c ((d'.engNext e).engPost e ((f.run ((d'.eng e).reg A) ((d'.eng e).reg B) (d'.eng e).fl).regs D)
      (f.run ((d'.eng e).reg A) ((d'.eng e).reg B) (d'.eng e).fl).fl) :=
  d.answers_long hf hk h (Dev.opRun_alu hz)

/-- A word whose operation takes an immediate writes the operation's result and flags; no division takes one. -/
theorem Dev.answers_aluImm {D A : Nat} {imm : Word} (hf : d.fetches e d' w) (h : ∀ s, exec c s = s.engine e row)
    (hk : decodeWord w.toNat = .long row (.aluImm f D A imm)) :
    d.answers c ((d'.engNext e).engPost e ((f.run ((d'.eng e).reg A) imm (d'.eng e).fl).regs D)
      (f.run ((d'.eng e).reg A) imm (d'.eng e).fl).fl) :=
  d.answers_long hf hk h rfl

end

/-- Settles O19, row by row: each is a register operation, and of these the divisions alone may trap. -/
theorem engineArithmeticCompletes : Obligations.EngineArithmeticCompletes := by
  unfold Obligations.EngineArithmeticCompletes
  intro d d' e w hf
  refine ⟨?add, ?addc, ?sub, ?subb, ?cmp, ?adds, ?subs, ?addus, ?subus, ?neg, ?addi, ?cmpi, ?mulu, ?muls, ?divu, ?divs⟩
  case add => exact fun _ _ _ => Dev.answers_alu hf (fun _ => rfl) rfl
  case addc => exact fun _ _ _ => Dev.answers_alu hf (fun _ => rfl) rfl
  case sub => exact fun _ _ _ => Dev.answers_alu hf (fun _ => rfl) rfl
  case subb => exact fun _ _ _ => Dev.answers_alu hf (fun _ => rfl) rfl
  case cmp => exact fun _ _ _ => Dev.answers_alu hf (fun _ => rfl) rfl
  case adds => exact fun _ _ _ => Dev.answers_alu hf (fun _ => rfl) rfl
  case subs => exact fun _ _ _ => Dev.answers_alu hf (fun _ => rfl) rfl
  case addus => exact fun _ _ _ => Dev.answers_alu hf (fun _ => rfl) rfl
  case subus => exact fun _ _ _ => Dev.answers_alu hf (fun _ => rfl) rfl
  case neg => exact fun _ _ _ => Dev.answers_alu hf (fun _ => rfl) rfl
  case addi => exact fun _ _ _ => Dev.answers_aluImm hf (fun _ => rfl)
  case cmpi => exact fun _ _ _ => Dev.answers_aluImm hf (fun _ => rfl)
  case mulu => exact fun _ _ _ => Dev.answers_alu hf (fun _ => rfl) rfl
  case muls => exact fun _ _ _ => Dev.answers_alu hf (fun _ => rfl) rfl
  case divu => exact fun _ _ _ hk hs => Dev.answers_alu hf (fun _ => rfl) (AluOp.divTraps_of_safe hs) hk
  case divs => exact fun _ _ _ hk hs => Dev.answers_alu hf (fun _ => rfl) (AluOp.divTraps_of_safe hs) hk

/-- Settles O20, row by row: register operations, and the moves and bit fields, which write one register and no flag. -/
theorem engineLogicCompletes : Obligations.EngineLogicCompletes := by
  unfold Obligations.EngineLogicCompletes
  intro d d' e w hf
  refine ⟨?and, ?or, ?xor, ?andn, ?tst, ?mov, ?not, ?andi, ?ori, ?xori, ?movl, ?movh, ?shl, ?shr, ?sar, ?rol, ?ror, ?shi, ?bfx, ?bfi⟩
  case and => exact fun _ _ _ => Dev.answers_alu hf (fun _ => rfl) rfl
  case or => exact fun _ _ _ => Dev.answers_alu hf (fun _ => rfl) rfl
  case xor => exact fun _ _ _ => Dev.answers_alu hf (fun _ => rfl) rfl
  case andn => exact fun _ _ _ => Dev.answers_alu hf (fun _ => rfl) rfl
  case tst => exact fun _ _ _ => Dev.answers_alu hf (fun _ => rfl) rfl
  case mov => exact fun _ _ _ => Dev.answers_alu hf (fun _ => rfl) rfl
  case not => exact fun _ _ _ => Dev.answers_alu hf (fun _ => rfl) rfl
  case andi => exact fun _ _ _ => Dev.answers_aluImm hf (fun _ => rfl)
  case ori => exact fun _ _ _ => Dev.answers_aluImm hf (fun _ => rfl)
  case xori => exact fun _ _ _ => Dev.answers_aluImm hf (fun _ => rfl)
  case movl => exact fun _ _ hk => d.answers_long hf hk (fun _ => rfl) rfl
  case movh => exact fun _ _ hk => d.answers_long hf hk (fun _ => rfl) rfl
  case shl => exact fun _ _ _ => Dev.answers_alu hf (fun _ => rfl) rfl
  case shr => exact fun _ _ _ => Dev.answers_alu hf (fun _ => rfl) rfl
  case sar => exact fun _ _ _ => Dev.answers_alu hf (fun _ => rfl) rfl
  case rol => exact fun _ _ _ => Dev.answers_alu hf (fun _ => rfl) rfl
  case ror => exact fun _ _ _ => Dev.answers_alu hf (fun _ => rfl) rfl
  case shi => exact fun _ _ _ _ => Dev.answers_aluImm hf (fun _ => rfl)
  case bfx => exact fun _ _ _ _ _ hk => d.answers_long hf hk (fun _ => rfl) rfl
  case bfi => exact fun _ _ _ _ hk => d.answers_long hf hk (fun _ => rfl) rfl

/-- Settles O21, row by row: every helper is a register operation. -/
theorem engineHelpersComplete : Obligations.EngineHelpersComplete := by
  unfold Obligations.EngineHelpersComplete
  intro d d' e w hf
  refine ⟨?crc32, ?crc32c, ?crc16, ?ocadd, ?bswap, ?bswap16, ?clz, ?berlen⟩
  case crc32 => exact fun _ _ _ _ => Dev.answers_alu hf (fun _ => rfl) rfl
  case crc32c => exact fun _ _ _ _ => Dev.answers_alu hf (fun _ => rfl) rfl
  case crc16 => exact fun _ _ _ _ => Dev.answers_alu hf (fun _ => rfl) rfl
  case ocadd => exact fun _ _ _ => Dev.answers_alu hf (fun _ => rfl) rfl
  case bswap => exact fun _ _ _ => Dev.answers_alu hf (fun _ => rfl) rfl
  case bswap16 => exact fun _ _ _ => Dev.answers_alu hf (fun _ => rfl) rfl
  case clz => exact fun _ _ _ => Dev.answers_alu hf (fun _ => rfl) rfl
  case berlen => exact fun _ _ _ => Dev.answers_alu hf (fun _ => rfl) rfl

end Sys2Proof.Machine

/-! The stacks and the special registers of an engine (spec/11, R309, R310, R318, R319): O24. -/

namespace Sys2Proof.Machine

section
variable {d : Dev} {e : Nat} {x : Eng} {pc : Word}

theorem Dev.opRun_gets_returnTop {dst : Nat} (h : x.rsd ≠ 0) : d.opRun e x pc (.gets dst 7) = { dev := d, regs := [(dst, x.topR)] } :=
  if_neg h

theorem Dev.opRun_push {a : Nat} (h : x.dsd ≠ 32) :
    d.opRun e x pc (.push a) = { dev := d.modEng e (fun y => y.pushD (x.reg a)) } :=
  if_neg h

theorem Dev.opRun_pop {dst : Nat} (h : x.dsd ≠ 0) :
    d.opRun e x pc (.pop dst) = { dev := d.modEng e (fun y => { y with dsd := y.dsd - 1 }), regs := [(dst, x.topD 0)] } :=
  if_neg h

theorem Dev.opRun_peek {dst k : Nat} (h : k < x.dsd) : d.opRun e x pc (.peek dst k) = { dev := d, regs := [(dst, x.topD k)] } :=
  if_neg (Nat.not_le.mpr h)

theorem Dev.opRun_drop (h : x.dsd ≠ 0) :
    d.opRun e x pc .drop = { dev := d.modEng e (fun y => { y with dsd := y.dsd - 1 }) } :=
  if_neg h

end

/-- Settles O24, row by row: the special registers by their number, and the stack operations where the stack has the room or the entry. -/
theorem engineStacksComplete : Obligations.EngineStacksComplete := by
  unfold Obligations.EngineStacksComplete
  intro d d' e w hf
  refine ⟨?getFl, ?getTpc, ?getTiw, ?getTcause, ?getDsd, ?getRsd, ?getPc, ?getTop, ?putFl, ?putTpc, ?putTiw, ?putTcause, ?push, ?pop,
    ?peek, ?drop⟩
  case getFl => exact fun _ hk => d.answers_long hf hk (fun _ => rfl) rfl
  case getTpc => exact fun _ hk => d.answers_long hf hk (fun _ => rfl) rfl
  case getTiw => exact fun _ hk => d.answers_long hf hk (fun _ => rfl) rfl
  case getTcause => exact fun _ hk => d.answers_long hf hk (fun _ => rfl) rfl
  case getDsd => exact fun _ hk => d.answers_long hf hk (fun _ => rfl) rfl
  case getRsd => exact fun _ hk => d.answers_long hf hk (fun _ => rfl) rfl
  case getPc => exact fun _ hk => d.answers_long hf hk (fun _ => rfl) rfl
  case getTop => exact fun _ hk hs => d.answers_long hf hk (fun _ => rfl) (Dev.opRun_gets_returnTop hs)
  case putFl => exact fun _ hk => d.answers_long hf hk (fun _ => rfl) rfl
  case putTpc => exact fun _ hk => d.answers_long hf hk (fun _ => rfl) rfl
  case putTiw => exact fun _ hk => d.answers_long hf hk (fun _ => rfl) rfl
  case putTcause => exact fun _ hk => d.answers_long hf hk (fun _ => rfl) rfl
  case push => exact fun _ hk hs => d.answers_long hf hk (fun _ => rfl) (Dev.opRun_push hs)
  case pop => exact fun _ hk hs => d.answers_long hf hk (fun _ => rfl) (Dev.opRun_pop hs)
  case peek => exact fun _ _ hk hs => d.answers_long hf hk (fun _ => rfl) (Dev.opRun_peek hs)
  case drop => exact fun hk hs => d.answers_long hf hk (fun _ => rfl) (Dev.opRun_drop hs)

end Sys2Proof.Machine

/-! The saturating operations of an engine (spec/11, R314): O46. -/

namespace Sys2Proof.Machine

/-! ### A value clamped to a range -/

section
variable {x lo hi : Int}

theorem clamp_eq_ite (h : lo ≤ hi) : max lo (min hi x) = if x < lo then lo else if hi < x then hi else x := by
  split
  next => omega
  next => split <;> omega

/-- Clamping changes exactly the values outside the range. -/
theorem ne_clamp_iff (h : lo ≤ hi) : x ≠ max lo (min hi x) ↔ x < lo ∨ hi < x := by omega

theorem aluClamp_regs (h : lo ≤ hi) (D : Nat) :
    (aluClamp x lo hi).regs D = [(D, BitVec.ofInt 32 (if x < lo then lo else if hi < x then hi else x))] := by
  rw [← clamp_eq_ite h]
  rfl

theorem aluClamp_v (h : lo ≤ hi) : (aluClamp x lo hi).fl.v = some (decide (x < lo ∨ hi < x)) := by
  rw [← decide_eq_decide.mpr (ne_clamp_iff h)]
  rfl

end

/-! ### An engine after a word that writes one register -/

section
variable {d : Dev} {e : Nat}

theorem Eng.reg_setReg_self (x : Eng) (r : Nat) (v : Word) : (x.setReg r v).reg r = v := tgetD_tput_self ..

theorem Eng.reg_setReg_ne (x : Eng) {r k : Nat} (v : Word) (h : k ≠ r) : (x.setReg r v).reg k = x.reg k := tgetD_tput_ne _ _ _ h

theorem Dev.eng_wordEnd_one (D : Nat) (v : Word) (u : FlagUpd) : ((d.engNext e).engPost e [(D, v)] u).eng e
    = { ({ d.eng e with pc := (d.eng e).pc + 4 } : Eng).setReg D v with fl := (d.eng e).fl.upd u } := by
  rw [Dev.engPost, Dev.engNext, Dev.modEng_eng_self, Dev.modEng_eng_self]
  rfl

theorem Dev.eng_wordEnd_ne {k : Nat} (rs : List (Nat × Word)) (u : FlagUpd) (h : k ≠ e) :
    ((d.engNext e).engPost e rs u).eng k = d.eng k :=
  (Dev.modEng_eng_ne _ _ h).trans (Dev.modEng_eng_ne _ _ h)

end

/-- Settles O46: each of the four operations clamps its exact result, and such a word writes one register, its flags and PC. -/
theorem engineSaturates : Obligations.EngineSaturates := by
  unfold Obligations.EngineSaturates
  intro d d' e w D A B op c row x lo hi hf hk _ hop
  have hclamps : (∀ s, exec c s = s.engine e row) ∧ op.divTraps ((d'.eng e).reg B) (d'.eng e).fl = false ∧ lo ≤ hi ∧
      op.run ((d'.eng e).reg A) ((d'.eng e).reg B) (d'.eng e).fl = aluClamp x lo hi := by
    rcases hop with ⟨rfl, rfl, rfl, rfl, rfl, rfl⟩ | ⟨rfl, rfl, rfl, rfl, rfl, rfl⟩ | ⟨rfl, rfl, rfl, rfl, rfl, rfl⟩ |
      ⟨rfl, rfl, rfl, rfl, rfl, rfl⟩
    all_goals exact ⟨fun _ => rfl, rfl, by decide, rfl⟩
  obtain ⟨hexec, hz, hrange, hrun⟩ := hclamps
  have hword := Dev.answers_alu hf hexec hz hk
  rw [hrun, aluClamp_regs hrange] at hword
  refine ⟨_, hword, ?dest, ?v, ?c, ?pc, ?others, fun k hk => Dev.eng_wordEnd_ne _ _ hk, rfl, rfl⟩
  all_goals rw [Dev.eng_wordEnd_one]
  case dest => exact Eng.reg_setReg_self ..
  case v => exact congrArg (Option.getD · (d'.eng e).fl.v) (aluClamp_v hrange)
  case c => rfl
  case pc => rfl
  case others => exact fun r _ hne => Eng.reg_setReg_ne _ _ hne

end Sys2Proof.Machine

/-! The shifts and the divisions of an engine (spec/11, R312 and R313): O47. -/

namespace Sys2Proof.Machine

/-! ### Shifts by any amount (R313) -/

/-- A shift's result and carry, with Z and N of the result. -/
def shifted (r : Word) (c : Option Bool) : AluOut := { lo := some r, fl := { zn r with c := c } }

section
variable (a : Word) (n : Nat)

/-- A shift left by any amount; past 32 places nothing is left of the word and its carry. -/
theorem aluShift_shl : aluShift .shl a n = shifted (a <<< n) (if n = 0 then none else some (decide (n ≤ 32) && a.getLsbD (32 - n))) := by
  by_cases h0 : n = 0
  · subst h0
    rw [BitVec.shiftLeft_zero]
    rfl
  · by_cases h : n ≤ 32
    · rw [if_neg h0, decide_eq_true h, Bool.true_and]
      exact (if_neg h0).trans (if_pos h)
    · have hzero : a <<< n = 0 := BitVec.shiftLeft_eq_zero (by omega)
      rw [if_neg h0, decide_eq_false h, Bool.false_and, hzero]
      exact (if_neg h0).trans (if_neg h)

theorem aluShift_shr : aluShift .shr a n = shifted (a >>> n) (if n = 0 then none else some (a.getLsbD (n - 1))) := by
  by_cases h0 : n = 0
  · subst h0
    rw [BitVec.ushiftRight_zero]
    rfl
  · by_cases h : n ≤ 32
    · rw [if_neg h0]
      exact (if_neg h0).trans (if_pos h)
    · have hzero : a >>> n = 0 := BitVec.ushiftRight_eq_zero (by omega)
      have hbit : a.getLsbD (n - 1) = false := BitVec.getLsbD_of_ge _ _ (by omega)
      rw [if_neg h0, hzero, hbit]
      exact (if_neg h0).trans (if_neg h)

/-- Past 31 places every bit of an arithmetic shift is the sign. -/
theorem sshiftRight_past {n : Nat} (h : 32 ≤ n) : a.sshiftRight n = a.sshiftRight 32 := by
  apply BitVec.eq_of_getLsbD_eq
  intro i _
  rw [BitVec.getLsbD_sshiftRight, BitVec.getLsbD_sshiftRight, if_neg (by omega), if_neg (by omega)]

/-- The bit that an arithmetic shift by one place more drops; past 31 places it is the sign. -/
theorem getLsbD_zero_sshiftRight : (a.sshiftRight n).getLsbD 0 = if n < 32 then a.getLsbD n else a.msb := by
  rw [BitVec.getLsbD_sshiftRight]
  rfl

theorem aluShift_sar :
    aluShift .sar a n = shifted (a.sshiftRight n) (if n = 0 then none else some ((a.sshiftRight (n - 1)).getLsbD 0)) := by
  rw [getLsbD_zero_sshiftRight]
  by_cases h0 : n = 0
  · subst h0
    rw [BitVec.sshiftRight_zero]
    rfl
  · rw [if_neg h0]
    by_cases h : n ≤ 31
    · rw [if_pos (by omega)]
      exact (if_neg h0).trans (if_pos h)
    · have hsign : (if n - 1 < 32 then a.getLsbD (n - 1) else a.msb) = a.msb := by
        by_cases h32 : n = 32
        · rw [h32, BitVec.msb_eq_getLsbD_last]
          rfl
        · rw [if_neg (by omega)]
      rw [hsign, sshiftRight_past a (by omega)]
      exact (if_neg h0).trans (if_neg h)

/-! ### The words as numbers -/

theorem shiftLeft_eq_ofNat : a <<< n = BitVec.ofNat 32 (a.toNat * 2 ^ n) :=
  BitVec.eq_of_toNat_eq (by rw [BitVec.toNat_shiftLeft, BitVec.toNat_ofNat, Nat.shiftLeft_eq])

theorem ushiftRight_eq_ofNat : a >>> n = BitVec.ofNat 32 (a.toNat / 2 ^ n) := by
  rw [← Nat.shiftRight_eq_div_pow, ← BitVec.toNat_ushiftRight, BitVec.ofNat_toNat, BitVec.setWidth_eq]

theorem toInt_sshiftRight_div : (a.sshiftRight n).toInt = a.toInt / 2 ^ n := by
  rw [BitVec.toInt_sshiftRight, Int.shiftRight_eq_div_pow, Int.natCast_pow]
  rfl

theorem sshiftRight_eq_ofInt : a.sshiftRight n = BitVec.ofInt 32 (a.toInt / 2 ^ n) := by
  rw [← toInt_sshiftRight_div, BitVec.ofInt_toInt]

/-- Bit 32 of a number shifted left is the last bit that leaves the word. -/
theorem bit_mul_two_pow : bit (a.toNat * 2 ^ n) 32 = (decide (n ≤ 32) && a.getLsbD (32 - n)) := by
  rw [bit_eq_testBit, Nat.testBit_mul_two_pow, BitVec.testBit_toNat]

theorem bit_toNat : bit a.toNat n = a.getLsbD n := by
  rw [bit_eq_testBit, BitVec.testBit_toNat]

/-- A word is odd as a signed number exactly where its lowest bit is 1. -/
theorem toInt_odd : decide (a.toInt % 2 = 1) = a.getLsbD 0 := by
  have hmod : a.toInt % 2 = (a.toNat : Int) % 2 := by
    rw [BitVec.toInt_eq_toNat_cond]
    split <;> omega
  rw [hmod, ← BitVec.testBit_toNat, Nat.testBit_zero]
  exact decide_eq_decide.mpr (by omega)

end

/-! ### Divisions (R312) -/

section
variable {a b : Word} (f : Flags)

theorem run_divu (h : b ≠ 0) :
    AluOp.divu.run a b f = { lo := some (a / b), hi := some (a % b), fl := { zn (a / b) with v := some false } } :=
  if_neg h

/-- Only the least number by -1 has a quotient that is no word. -/
theorem sdiv_eq_ofInt (h : ¬(a = 0x80000000#32 ∧ b = 0xFFFFFFFF#32)) : BitVec.ofInt 32 (a.toInt.tdiv b.toInt) = a.sdiv b := by
  have hfits : a ≠ BitVec.intMin 32 ∨ b ≠ -1#32 := Decidable.not_and_iff_or_not.mp h
  rw [← BitVec.toInt_sdiv_of_ne_or_ne a b hfits, BitVec.ofInt_toInt]

theorem run_divs (hb : b ≠ 0) (h : ¬(a = 0x80000000#32 ∧ b = 0xFFFFFFFF#32)) :
    AluOp.divs.run a b f = { lo := some (a.sdiv b), hi := some (a.srem b), fl := { zn (a.sdiv b) with v := some false } } := by
  have hv : (true && a == 0x80000000 && b == 0xFFFFFFFF) = false := by simpa using h
  rw [← sdiv_eq_ofInt h, ← BitVec.ofInt_toInt (x := a.srem b), BitVec.toInt_srem, ← hv]
  exact if_neg hb

/-- The signed remainder is smaller than the divisor and has the sign of the dividend. -/
theorem srem_spec (hb : b ≠ 0) : (a.srem b).toInt.natAbs < b.toInt.natAbs ∧
    ((a.srem b).toInt = 0 ∨ ((a.srem b).toInt < 0 ↔ a.toInt < 0)) := by
  have hb' : b.toInt ≠ 0 := fun h => hb (BitVec.eq_of_toInt_eq h)
  rw [BitVec.toInt_srem]
  refine ⟨?smaller, ?sign⟩
  case smaller =>
    rw [Int.natAbs_tmod]
    exact Nat.mod_lt _ (Int.natAbs_pos.mpr hb')
  case sign =>
    by_cases hdvd : b.toInt ∣ a.toInt
    · exact .inl (Int.tmod_eq_zero_of_dvd hdvd)
    · have hsign := Int.sign_tmod a.toInt b.toInt
      rw [if_neg hdvd] at hsign
      rw [← Int.sign_eq_neg_one_iff_neg, ← Int.sign_eq_neg_one_iff_neg, hsign]
      exact .inr .rfl

end

/-- Settles O47: the shifts by their equations for any amount, the divisions by the quotient and remainder of the library. -/
theorem engineShiftsAndDivides : Obligations.EngineShiftsAndDivides := by
  unfold Obligations.EngineShiftsAndDivides
  intro a b n f _
  refine ⟨?shl, ?shlC, ?shr, ?shrC, ?sar, ?sarC, ?divu, ?divs, ⟨rfl, rfl, rfl⟩, ?zero⟩
  case shl => rw [aluShift_shl, shiftLeft_eq_ofNat, shifted]
  case shlC => rw [aluShift_shl, bit_mul_two_pow, ← Bool.and_assoc, Bool.and_self, shifted]
  case shr => rw [aluShift_shr, ushiftRight_eq_ofNat, shifted]
  case shrC => rw [aluShift_shr, bit_toNat, shifted]
  case sar => rw [aluShift_sar, sshiftRight_eq_ofInt, shifted]
  case sarC => rw [aluShift_sar, ← toInt_sshiftRight_div, toInt_odd, shifted]
  case divu =>
    intro hb
    rw [run_divu f hb]
    refine ⟨_, _, rfl, rfl, ?_, ?_, rfl⟩
    · rw [BitVec.toNat_udiv, BitVec.toNat_umod, Nat.div_add_mod']
    · exact BitVec.umod_lt a ((BitVec.pos_iff_ne_zero b).mpr hb)
  case divs =>
    intro hb h
    obtain ⟨hsmaller, hsign⟩ := srem_spec (a := a) hb
    rw [run_divs f hb h]
    refine ⟨_, _, rfl, rfl, ?_, hsmaller, hsign, rfl⟩
    rw [BitVec.toInt_sdiv_of_ne_or_ne a b (Decidable.not_and_iff_or_not.mp h), BitVec.toInt_srem, Int.tdiv_mul_add_tmod]
  case zero =>
    rintro op (rfl | rfl)
    · exact ⟨rfl, rfl, rfl⟩
    · exact ⟨rfl, rfl, rfl⟩

end Sys2Proof.Machine

/-! The long instruction words of an engine, format by format (spec/11, R296, R301, R303, R304, R306, R308): O50. -/

namespace Sys2Proof.Machine

/-! ### The fields of a long word (R296, R303) -/

/-- A long word: its opcode, the fields D and A, and the 17 bits below them. -/
def longWord (op D A low : Nat) : Nat := op * 2 ^ 25 + D * 2 ^ 21 + A * 2 ^ 17 + low

theorem longWord_noA (op D low : Nat) : longWord op D 0 low = op * 2 ^ 25 + D * 2 ^ 21 + low := by
  rw [longWord, Nat.zero_mul, Nat.add_zero]

theorem bit_pair_longWord {op D A low : Nat} (hop : op < 64) (hD : D < 16) (hA : A < 16) (hlow : low < 2 ^ 17) :
    bit (longWord op D A low) 31 = false := by
  have hzero : bits (longWord op D A low) 31 1 = 0 := by
    unfold bits longWord
    omega
  rw [bit, hzero]
  rfl

theorem bits_opcode_longWord {op D A low : Nat} (hop : op < 64) (hD : D < 16) (hA : A < 16) (hlow : low < 2 ^ 17) :
    bits (longWord op D A low) 25 6 = op := by
  unfold bits longWord
  omega

theorem bits_D_longWord {op D A low : Nat} (hD : D < 16) (hA : A < 16) (hlow : low < 2 ^ 17) :
    bits (longWord op D A low) 21 4 = D := by
  unfold bits longWord
  omega

theorem bits_A_longWord {op D A low : Nat} (hA : A < 16) (hlow : low < 2 ^ 17) : bits (longWord op D A low) 17 4 = A := by
  unfold bits longWord
  omega

/-- The fields below A are those of the low bits. -/
theorem bits_low_longWord {op D A low lo n : Nat} (hlow : low < 2 ^ 17) (h : lo + n ≤ 17) :
    bits (longWord op D A low) lo n = bits low lo n := by
  have hhigh : longWord op D A low = 2 ^ 17 * (op * 2 ^ 8 + D * 2 ^ 4 + A) + low := by
    unfold longWord
    omega
  apply Nat.eq_of_testBit_eq
  intro i
  rw [testBit_bits, testBit_bits, hhigh, Nat.testBit_two_pow_mul_add _ hlow]
  by_cases hi : i < n
  · rw [if_pos (by omega)]
  · rw [decide_eq_false hi, Bool.false_and, Bool.false_and]

/-- A field that holds the whole number. -/
theorem bits_zero_of_lt {v n : Nat} (h : v < 2 ^ n) : bits v 0 n = v := by
  rw [bits, Nat.pow_zero, Nat.div_one, Nat.mod_eq_of_lt h]

/-- The signed immediate of 17 bits (R303). -/
theorem signedWord_imm {imm : Nat} (h : imm < 2 ^ 17) :
    signedWord 17 imm = BitVec.ofInt 32 (if imm < 2 ^ 16 then imm else (imm : Int) - 2 ^ 17) := by
  rw [signedWord, toSigned, Nat.mod_eq_of_lt h]
  rfl

/-- A branch offset that does not go back (R308). -/
theorem branchOff_forward {imm : Nat} (h : imm < 2 ^ 20) : branchOff 21 imm = BitVec.ofNat 32 (4 * imm) := by
  rw [branchOff, toSigned, Nat.mod_eq_of_lt (by omega), if_pos (by omega), ← BitVec.ofInt_natCast]
  rfl

/-! ### What each format decodes to -/

section
variable {w : Nat}

theorem decodeWord_long {x : Decoded} (hw : bit w 31 = false) (h : decodeLong w = some x) :
    decodeWord w = if x.bad then .trap x.row 0x02 else .long x.row x.op := by
  simp only [decodeWord, hw, Bool.not_false, if_true, h]

theorem decodeWord_undefined (hw : bit w 31 = false) (h : decodeLong w = none) : decodeWord w = .trap .undefinedWord 0x01 := by
  simp only [decodeWord, hw, Bool.not_false, if_true, h]

/-- Whether a register operation reserves the value of D: a comparison has no destination, and a pair begins at an even register. -/
def AluOp.reservesD (f : AluOp) (D : Nat) : Bool := ((f == .cmp || f == .tst) && D != 0) || (f.pairs && D % 2 == 1)

theorem decodeLong_registers {row : EngRow} {f : AluOp} (h : rrrOp (bits w 25 6) = some (row, f)) :
    decodeLong w = some ⟨row, decide (bits w 0 13 ≠ 0) || f.reservesD (bits w 21 4),
      .alu f (bits w 21 4) (bits w 17 4) (bits w 13 4)⟩ := by
  simp only [decodeLong, h, AluOp.reservesD, Bool.or_assoc]

theorem decodeLong_memory {row : EngRow} {st s : Bool} {n : Nat} (hr : rrrOp (bits w 25 6) = none)
    (h : memOp (bits w 25 6) = some (row, st, n, s)) (hn : n ≠ 8) :
    decodeLong w = some ⟨row, false, if st then .store n (bits w 21 4) (bits w 17 4) (signedWord 17 (bits w 0 17))
      else .load n s (bits w 21 4) (bits w 17 4) (signedWord 17 (bits w 0 17))⟩ := by
  simp only [decodeLong, hr, h, beq_eq_false_iff_ne.mpr hn, Bool.false_and]

theorem decodeLong_addi (h : bits w 25 6 = 0x18) :
    decodeLong w = some ⟨.addi, false, .aluImm .add (bits w 21 4) (bits w 17 4) (signedWord 17 (bits w 0 17))⟩ := by
  rw [decodeLong, h]
  rfl

theorem decodeLong_in (h : bits w 25 6 = 0x30) : decodeLong w = some ⟨.ioIn, !bit w 16 && bits w 17 4 != 0,
    .input (bits w 21 4) (if bit w 16 then some (bits w 17 4) else none) (bits w 0 16)⟩ := by
  rw [decodeLong, h]
  rfl

theorem decodeLong_out (h : bits w 25 6 = 0x31) : decodeLong w = some ⟨.ioOut, !bit w 16 && bits w 17 4 != 0,
    .output (bits w 21 4) (if bit w 16 then some (bits w 17 4) else none) (bits w 0 16)⟩ := by
  rw [decodeLong, h]
  rfl

theorem decodeLong_branch (h : bits w 25 6 = 0x32) :
    decodeLong w = some ⟨.br, false, .branch (bits w 21 4) (branchOff 21 (bits w 0 21))⟩ := by
  rw [decodeLong, h]
  rfl

/-- The opcodes that the map leaves out (R301, R304). -/
def undefinedOpcodes : List Nat := [0x00, 0x2F, 0x36, 0x37, 0x38, 0x39, 0x3A, 0x3B, 0x3C, 0x3D, 0x3E, 0x3F]

/-- Each of them reaches the end of the opcode map. -/
theorem decodeLong_undefined {op : Nat} (ho : op ∈ undefinedOpcodes) (h : bits w 25 6 = op) : decodeLong w = none := by
  rw [decodeLong, h]
  simp only [undefinedOpcodes, List.mem_cons, List.not_mem_nil, or_false] at ho
  rcases ho with rfl | rfl | rfl | rfl | rfl | rfl | rfl | rfl | rfl | rfl | rfl | rfl
  all_goals rfl

theorem undefinedOpcodes_lt : ∀ op ∈ undefinedOpcodes, op < 64 := by decide

end

/-! ### The words of each format -/

section
variable {op D A B imm : Nat} {row : EngRow} (hD : D < 16) (hA : A < 16)
include hD hA

/-- L-RRR with its reserved bits 0 (R304, R305). -/
theorem decodeWord_registers {f : AluOp} (hop : op < 64) (h : rrrOp op = some (row, f)) (hB : B < 16) :
    decodeWord (longWord op D A (B * 2 ^ 13)) = if f.reservesD D then .trap row 0x02 else .long row (.alu f D A B) := by
  have hlow : B * 2 ^ 13 < 2 ^ 17 := by omega
  have hb : bits (B * 2 ^ 13) 13 4 = B := by
    unfold bits
    omega
  have hzero : bits (B * 2 ^ 13) 0 13 = 0 := by
    unfold bits
    omega
  have hdec := decodeLong_registers (by rwa [bits_opcode_longWord hop hD hA hlow])
  rw [bits_D_longWord hD hA hlow, bits_A_longWord hA hlow, bits_low_longWord hlow (by decide), bits_low_longWord hlow (by decide), hb,
    hzero] at hdec
  exact decodeWord_long (bit_pair_longWord hop hD hA hlow) hdec

/-- L-RRR with a reserved bit 1. -/
theorem decodeWord_registers_reserved {f : AluOp} (hop : op < 64) (h : rrrOp op = some (row, f)) (hB : B < 16) :
    decodeWord (longWord op D A (B * 2 ^ 13 + 1)) = .trap row 0x02 := by
  have hlow : B * 2 ^ 13 + 1 < 2 ^ 17 := by omega
  have hone : bits (B * 2 ^ 13 + 1) 0 13 = 1 := by
    unfold bits
    omega
  have hdec := decodeLong_registers (by rwa [bits_opcode_longWord hop hD hA hlow])
  rw [bits_low_longWord hlow (by decide), hone] at hdec
  exact decodeWord_long (bit_pair_longWord hop hD hA hlow) hdec

theorem decodeWord_memory {st s : Bool} {n : Nat} (hop : op < 64) (hr : rrrOp op = none) (h : memOp op = some (row, st, n, s))
    (hn : n ≠ 8) (himm : imm < 2 ^ 17) :
    decodeWord (longWord op D A imm)
      = .long row (if st then .store n D A (signedWord 17 imm) else .load n s D A (signedWord 17 imm)) := by
  have ho := bits_opcode_longWord hop hD hA himm
  have hdec := decodeLong_memory (by rwa [ho]) (by rwa [ho]) hn
  rw [bits_D_longWord hD hA himm, bits_A_longWord hA himm, bits_low_longWord himm (by decide), bits_zero_of_lt himm] at hdec
  exact decodeWord_long (bit_pair_longWord hop hD hA himm) hdec

theorem decodeWord_addi (himm : imm < 2 ^ 17) :
    decodeWord (longWord 0x18 D A imm) = .long .addi (.aluImm .add D A (signedWord 17 imm)) := by
  have hdec := decodeLong_addi (bits_opcode_longWord (by decide) hD hA himm)
  rw [bits_D_longWord hD hA himm, bits_A_longWord hA himm, bits_low_longWord himm (by decide), bits_zero_of_lt himm] at hdec
  exact decodeWord_long (bit_pair_longWord (by decide) hD hA himm) hdec

/-- IN with X = 1 adds a register to the port number (R308). -/
theorem decodeWord_in (himm : imm < 2 ^ 16) : decodeWord (longWord 0x30 D A (2 ^ 16 + imm)) = .long .ioIn (.input D (some A) imm) := by
  have hlow : 2 ^ 16 + imm < 2 ^ 17 := by omega
  have hx : bit (longWord 0x30 D A (2 ^ 16 + imm)) 16 = true := by
    have hone : bits (2 ^ 16 + imm) 16 1 = 1 := by
      unfold bits
      omega
    rw [bit, bits_low_longWord hlow (by decide), hone]
    rfl
  have hport : bits (2 ^ 16 + imm) 0 16 = imm := by
    unfold bits
    omega
  have hdec := decodeLong_in (bits_opcode_longWord (by decide) hD hA hlow)
  rw [hx, bits_D_longWord hD hA hlow, bits_A_longWord hA hlow, bits_low_longWord hlow (by decide), hport] at hdec
  exact decodeWord_long (bit_pair_longWord (by decide) hD hA hlow) hdec

theorem decodeWord_undefined_opcode (ho : op ∈ undefinedOpcodes) (himm : imm < 2 ^ 17) :
    decodeWord (longWord op D A imm) = .trap .undefinedWord 0x01 := by
  have hop := undefinedOpcodes_lt op ho
  exact decodeWord_undefined (bit_pair_longWord hop hD hA himm) (decodeLong_undefined ho (bits_opcode_longWord hop hD hA himm))

end

section
variable {D imm : Nat} (hD : D < 16)
include hD

/-- OUT with X = 0 names the port alone (R308). -/
theorem decodeWord_out (himm : imm < 2 ^ 16) : decodeWord (longWord 0x31 D 0 imm) = .long .ioOut (.output D none imm) := by
  have h0 : 0 < 16 := by decide
  have hlow : imm < 2 ^ 17 := by omega
  have hx : bit (longWord 0x31 D 0 imm) 16 = false := by
    have hzero : bits imm 16 1 = 0 := by
      unfold bits
      omega
    rw [bit, bits_low_longWord hlow (by decide), hzero]
    rfl
  have hdec := decodeLong_out (bits_opcode_longWord (by decide) hD h0 hlow)
  rw [hx, bits_D_longWord hD h0 hlow, bits_A_longWord h0 hlow, bits_low_longWord hlow (by decide),
    bits_zero_of_lt himm] at hdec
  exact decodeWord_long (bit_pair_longWord (by decide) hD h0 hlow) hdec

theorem decodeWord_branch (himm : imm < 2 ^ 17) :
    decodeWord (longWord 0x32 D 0 imm) = .long .br (.branch D (BitVec.ofNat 32 (4 * imm))) := by
  have h0 : 0 < 16 := by decide
  have hoff : bits (longWord 0x32 D 0 imm) 0 21 = imm := by
    unfold bits longWord
    omega
  have hdec := decodeLong_branch (bits_opcode_longWord (by decide) hD h0 himm)
  rw [bits_D_longWord hD h0 himm, hoff, branchOff_forward (by omega)] at hdec
  exact decodeWord_long (bit_pair_longWord (by decide) hD h0 himm) hdec

end

/-- Settles O50, format by format; the rows of a format are looked up in its opcode table. -/
theorem engineWordsDecode : Obligations.EngineWordsDecode := by
  unfold Obligations.EngineWordsDecode
  intro D A B imm hD hA hB himm
  have hport : imm % 2 ^ 16 < 2 ^ 16 := Nat.mod_lt _ (by decide)
  rw [← signedWord_imm himm]
  refine ⟨?registers, ?pairs, ?comparisons, decodeWord_addi hD hA himm, ?loads, ?stores, ?input, ?output, ?branch, ?undefined⟩
  case registers =>
    intro x hx
    obtain ⟨hop, hrow, hfree⟩ := (by decide : ∀ x : Nat × EngRow × AluOp, x ∈ _ →
      x.1 < 64 ∧ rrrOp x.1 = some x.2 ∧ ∀ D < 16, x.2.2.reservesD D = false) x hx
    rw [Nat.add_assoc _ _ 1, ← longWord, ← longWord, decodeWord_registers hD hA hop hrow hB,
      decodeWord_registers_reserved hD hA hop hrow hB, hfree D hD]
    exact ⟨rfl, rfl⟩
  case pairs =>
    intro x hx
    obtain ⟨hop, hrow, heven⟩ := (by decide : ∀ x : Nat × EngRow × AluOp, x ∈ _ →
      x.1 < 64 ∧ rrrOp x.1 = some x.2 ∧ ∀ D < 16, x.2.2.reservesD D = !decide (D % 2 = 0)) x hx
    rw [← longWord, decodeWord_registers hD hA hop hrow hB, heven D hD]
    by_cases h : D % 2 = 0
    · rw [if_pos h, decide_eq_true h]
      rfl
    · rw [if_neg h, decide_eq_false h]
      rfl
  case comparisons =>
    intro x hx
    obtain ⟨hop, hrow, hnone⟩ := (by decide : ∀ x : Nat × EngRow × AluOp, x ∈ _ →
      x.1 < 64 ∧ rrrOp x.1 = some x.2 ∧ ∀ D < 16, x.2.2.reservesD D = !decide (D = 0)) x hx
    rw [← longWord, decodeWord_registers hD hA hop hrow hB, hnone D hD]
    by_cases h : D = 0
    · rw [if_pos h, decide_eq_true h, h]
      rfl
    · rw [if_neg h, decide_eq_false h]
      rfl
  case loads =>
    intro x hx
    obtain ⟨hop, hr, hrow, hsize⟩ := (by decide : ∀ x : Nat × EngRow × Nat × Bool, x ∈ _ →
      x.1 < 64 ∧ rrrOp x.1 = none ∧ memOp x.1 = some (x.2.1, false, x.2.2) ∧ x.2.2.1 ≠ 8) x hx
    rw [← longWord]
    exact decodeWord_memory hD hA hop hr hrow hsize himm
  case stores =>
    intro x hx
    obtain ⟨hop, hr, hrow, hsize⟩ := (by decide : ∀ x : Nat × EngRow × Nat, x ∈ _ →
      x.1 < 64 ∧ rrrOp x.1 = none ∧ memOp x.1 = some (x.2.1, true, x.2.2, false) ∧ x.2.2 ≠ 8) x hx
    rw [← longWord]
    exact decodeWord_memory hD hA hop hr hrow hsize himm
  case input =>
    rw [Nat.add_assoc _ (2 ^ 16), ← longWord]
    exact decodeWord_in hD hA hport
  case output =>
    rw [← longWord_noA]
    exact decodeWord_out hD hport
  case branch =>
    rw [← longWord_noA]
    exact decodeWord_branch hD himm
  case undefined =>
    intro o ho
    rw [← longWord]
    exact decodeWord_undefined_opcode hD hA ho himm

end Sys2Proof.Machine

/-! Pushes and pops of the hardware queues (spec/12, R340, R345, R346, R347): O52 and O53. -/

namespace Sys2Proof.Machine

/-! ### Doorbells and vectors -/

/-- Latching lines touches registers alone (R281). -/
theorem Dev.latchLines_only (d : Dev) (engines : List Nat) (kind index : Nat) :
    ∃ r, d.latchLines engines kind index = { d with regs := r } := by
  unfold Dev.latchLines
  refine List.foldlRecOn engines _ (motive := fun x : Dev => ∃ r, x = { d with regs := r }) ⟨d.regs, rfl⟩ (fun x hx n _ => ?_)
  refine List.foldlRecOn (List.range 8) _ (motive := fun x : Dev => ∃ r, x = { d with regs := r }) hx (fun x hx l _ => ?_)
  obtain ⟨r, rfl⟩ := hx
  split
  · exact ⟨_, rfl⟩
  · exact ⟨r, rfl⟩

/-- Posting a vector touches registers, the host interface and what leaves the device (R480). -/
theorem Dev.postVec_only (d : Dev) (v : Nat) : ∃ r h o, d.postVec v = { d with regs := r, hif := h, out := o } := by
  unfold Dev.postVec
  split
  · exact ⟨_, _, _, rfl⟩
  · split
    · split
      · exact ⟨_, _, _, rfl⟩
      · exact ⟨_, _, _, rfl⟩
    · exact ⟨_, _, _, rfl⟩

/-- So does a doorbell (R366). -/
theorem Dev.ring_only (d : Dev) (n : Nat) : ∃ r h o, d.ring n = { d with regs := r, hif := h, out := o } := by
  obtain ⟨r, hr⟩ := d.latchLines_only (List.range 64) 1 n
  unfold Dev.ring
  rw [hr]
  dsimp only
  unfold Dev.when
  split
  · obtain ⟨r', h', o', hv⟩ := Dev.postVec_only _ _
    exact ⟨r', h', o', hv⟩
  · exact ⟨_, _, _, rfl⟩

@[simp] theorem Dev.postVec_mem (d : Dev) (v : Nat) : (d.postVec v).mem = d.mem := by
  obtain ⟨r, h, o, e⟩ := d.postVec_only v; rw [e]
@[simp] theorem Dev.postVec_ldr (d : Dev) (v : Nat) : (d.postVec v).ldr = d.ldr := by
  obtain ⟨r, h, o, e⟩ := d.postVec_only v; rw [e]
@[simp] theorem Dev.ring_mem (d : Dev) (n : Nat) : (d.ring n).mem = d.mem := by
  obtain ⟨r, h, o, e⟩ := d.ring_only n; rw [e]
@[simp] theorem Dev.ring_ldr (d : Dev) (n : Nat) : (d.ring n).ldr = d.ldr := by
  obtain ⟨r, h, o, e⟩ := d.ring_only n; rw [e]

theorem Dev.when_ring_mem (d : Dev) (c : Bool) (n : Dev → Nat) : (d.when c (fun d => d.ring (n d))).mem = d.mem := by
  cases c
  · rw [Dev.when_false]
  · rw [Dev.when_true, Dev.ring_mem]

/-! ### Empty pops -/

theorem Dev.queuePop_empty {d : Dev} {q : Nat} (h : (d.queue q).depth = 0) : d.queuePop q = (d, 0) := by
  simp only [Dev.queuePop, h, beq_self_eq_true, Bool.or_true, Bool.true_or, if_true]

/-- An engine's pop of an empty queue latches the high word for its port (R279, R345). -/
theorem Dev.ioRead_pop_empty {d : Dev} {e q : Nat} (hq : q < 1024) (hright : d.queueRight q false (.engine e) = true)
    (hempty : (d.queue q).depth = 0) : d.ioRead e (0x1000 + 2 * q) = (d.ioLatch e (0x1000 + 2 * q + 1) 0, .done 0) := by
  have hpop : d.queuePopBy (.engine e) q = (d, .done 0) := by
    rw [Dev.queuePopBy, if_pos hright, Dev.queuePop_empty hempty]
  simp only [Dev.ioRead, ioPortOf_pop hq, hpop, ioPair, Nat.zero_div, Nat.zero_mod]

/-- The pop that a master makes through its port or register, of the low word alone. -/
theorem Dev.answers_queuePop (d : Dev) {m : Master} {q : Nat} (hr : d.inReset = false) (hm : m.ok = true) (hq : q < 1024) :
    d.answers (.queuePop m ⟨q, false⟩) (d.portGet m (0x1000 + 2 * q) (0x54000 + 0x10 * q)) :=
  d.answers_core (f := fun d => (d.portGet m (0x1000 + 2 * q) (0x54000 + 0x10 * q)).when false _) (fun _ => rfl)
    (by simp [hm, hq]) hr (Dev.when_false _ _)

/-- Settles O52: the pop answers 0 on the device as it stands, and the port or the register hands both words out. -/
theorem emptyQueuePops : Obligations.EmptyQueuePops := by
  unfold Obligations.EmptyQueuePops
  intro d m q hr hm hq hempty hright
  refine ⟨Dev.queuePop_empty hempty, fun e he hdepot => ?engine, fun hne hadmits => ?register⟩
  case engine =>
    subst he
    have hpop := d.answers_queuePop hr hm hq
    rwa [show d.portGet (.engine e) _ _ = d.engIn e _ from rfl, Dev.engIn_done hdepot (Dev.ioRead_pop_empty hq hright hempty)] at hpop
  case register =>
    have hpop := d.answers_queuePop hr hm hq
    rwa [Dev.portGet_bus d hne, Dev.get32_pop d hq hadmits hright, Dev.queuePop_empty hempty, Nat.zero_div,
      Nat.zero_mod] at hpop

/-! ### What a push and a pop do -/

/-- A queue is enabled, not in FAULT, and ordinary: it has no spill banks (R342). -/
def Dev.ordinaryRuns (d : Dev) (q : Nat) : Prop :=
  d.on (QM_Qn_CFG_EN q) = true ∧ (d.queue q).fault = false ∧ d.on (QM_Qn_CFG_ORG q) = false

theorem Dev.pushRoom_ordinary {d : Dev} {q : Nat} (h : d.on (QM_Qn_CFG_ORG q) = false) : d.pushRoom q = d := by
  rw [Dev.pushRoom, h, Bool.false_and, Dev.when_false]

@[simp] theorem Dev.queueHwm_mem (d : Dev) (q : Nat) : (d.queueHwm q).mem = d.mem := d.wr_mem _ _

theorem Dev.queue_congr {d e : Dev} (h : e.mem = d.mem) (k : Nat) : e.queue k = d.queue k := by rw [Dev.queue, h, Dev.queue]

/-- A queue with an entry behind those that wait (R346). -/
def Queue.enqueue (x : Queue) (v : Nat) : Queue := { x with win := x.win ++ [some (2 ^ 63 + v % 2 ^ 63)], refused := false }

/-- A push with room goes behind the entries that wait; the depth's going from 0 to 1 may ring (R347). -/
theorem Dev.queuePush_room {d : Dev} {q : Nat} (v : Nat) (h : d.ordinaryRuns q) (hroom : (d.queue q).depth < d.queueSize q) :
    d.queuePush q v = (((d.setQueue q ((d.queue q).enqueue v)).queueHwm q).when
      ((d.queue q).depth == 0 && ((d.setQueue q ((d.queue q).enqueue v)).queueHwm q).on (QM_Qn_CFG_DBEN q))
      (fun d => d.ring (d.rd (QM_Qn_CFG_DB q))), true) := by
  obtain ⟨hen, hfault, horg⟩ := h
  unfold Dev.queuePush
  dsimp only
  rw [if_pos (by rw [hen, hfault, decide_eq_true hroom]; rfl), Dev.pushRoom_ordinary horg, if_neg (by rw [hfault]; decide), horg]
  rfl

/-- It changes the queue alone, of all that the memory system holds. -/
theorem Dev.queuePush_room_mem {d : Dev} {q : Nat} (v : Nat) (h : d.ordinaryRuns q) (hroom : (d.queue q).depth < d.queueSize q) :
    (d.queuePush q v).1.mem = (d.setQueue q ((d.queue q).enqueue v)).mem := by
  rw [Dev.queuePush_room v h hroom, Dev.when_ring_mem, Dev.queueHwm_mem]

theorem Dev.queuePush_full {d : Dev} {q : Nat} (v : Nat) (hfull : d.queueSize q ≤ (d.queue q).depth) :
    d.queuePush q v = (d.pushRefuse q, false) := by
  rw [Dev.queuePush, decide_eq_false (Nat.not_lt.mpr hfull), Bool.and_false]
  rfl

/-- A pop with an entry in the window takes the oldest. -/
theorem Dev.queuePop_cons {d : Dev} {q x : Nat} {later : List (Option Nat)} (hen : d.on (QM_Qn_CFG_EN q) = true)
    (h : (d.queue q).win = some x :: later) :
    d.queuePop q = (d.setQueue q { d.queue q with win := later, hd := ((d.queue q).hd + 1) % (2 * d.queueSize q) }, x) := by
  have hdepth : ((d.queue q).depth == 0) = false := by
    rw [Queue.depth, h, List.length_cons, beq_eq_false_iff_ne]
    omega
  simp only [Dev.queuePop, hen, hdepth, h, List.isEmpty_cons, Bool.not_true, Bool.and_false, Bool.or_false, Bool.false_eq_true, if_false,
    Dev.when_false]

theorem Dev.pushRefuse_queue (d : Dev) (q : Nat) : (d.pushRefuse q).queue q = { d.queue q with refused := true } := by
  rw [Dev.pushRefuse, Dev.setQueue_queue_self, Dev.queue_congr (Dev.when_same Dev.mem (Dev.postEvent_mem _ _ _ _ _) _)]
  rfl

theorem Dev.pushRefuse_win (d : Dev) (q : Nat) : ((d.pushRefuse q).queue q).win = (d.queue q).win := by
  rw [Dev.pushRefuse_queue]

theorem Dev.pushRefuse_counts (d : Dev) (q : Nat) :
    (d.pushRefuse q).rd (QM_Qn_REF_REFUSED q) = min (d.rd (QM_Qn_REF_REFUSED q) + 1) 0xFFFF := by
  have hkey : (QM_Qn_REF_REFUSED q).key ∉ postKeys := by
    simp only [postKeys, QM_Qn_REF_REFUSED, EVR_LOST_CNT, EVR_ACCEPT_CNT, EVR_FIFO_HWM, EVR_STAT_LOSS, List.mem_cons, List.not_mem_nil, or_false]
    omega
  exact (Dev.when_same (fun x => x.rd (QM_Qn_REF_REFUSED q)) (Dev.rd_postEvent _ _ _ _ _ _ hkey) _).trans (d.rd_inc_self _)

/-- Only the first refusal after an accepted push is recorded (R346). -/
theorem Dev.pushRefuse_evr_again {d : Dev} {q : Nat} (h : (d.queue q).refused = true) : (d.pushRefuse q).evr = d.evr := by
  rw [Dev.pushRefuse, h, Dev.setQueue_evr, Bool.not_true, Dev.when_false, Dev.inc_evr]

theorem Dev.pushRefuse_evr_first {d : Dev} {q : Nat} (h : (d.queue q).refused = false) :
    (d.pushRefuse q).evr = ((d.inc (QM_Qn_REF_REFUSED q)).postEvent 0x0601 (0x100 + q) q).evr := by
  rw [Dev.pushRefuse, h, Dev.setQueue_evr, Bool.not_false, Dev.when_true]

/-- Settles O53: a push with room puts its entry behind the window, a pop takes the window's head, and a full queue refuses. -/
theorem queueKeepsOrder : Obligations.QueueKeepsOrder := by
  unfold Obligations.QueueKeepsOrder
  intro d q v hen hfault horg
  refine ⟨fun hroom => ?placed, fun x later hwin => ?taken, fun hfull => ?refused⟩
  case placed =>
    have hmem := Dev.queuePush_room_mem v ⟨hen, hfault, horg⟩ hroom
    have hqueue : (d.queuePush q v).1.queue q = (d.queue q).enqueue v := by
      rw [Dev.queue_congr hmem, Dev.setQueue_queue_self]
    refine ⟨?_, congrArg Queue.win hqueue, congrArg Queue.refused hqueue, congrArg (·.cells) hmem, fun k hk => ?_⟩
    · rw [Dev.queuePush_room v ⟨hen, hfault, horg⟩ hroom]
    · rw [Dev.queue_congr hmem, Dev.setQueue_queue_ne d _ hk]
  case taken =>
    rw [Dev.queuePop_cons hen hwin]
    exact ⟨rfl, congrArg Queue.win (d.setQueue_queue_self q _), d.setQueue_regs q _, fun k hk => d.setQueue_queue_ne _ hk⟩
  case refused =>
    rw [Dev.queuePush_full v hfull]
    exact ⟨rfl, d.pushRefuse_win q, d.pushRefuse_counts q, Dev.pushRefuse_evr_again,
      fun hfirst => ⟨d.inc (QM_Qn_REF_REFUSED q), rfl, Dev.pushRefuse_evr_first hfirst⟩⟩

end Sys2Proof.Machine

/-! Accesses to the shared memory (spec/12, R326, R328, R334, R477): O51. -/

namespace Sys2Proof.Machine

/-! ### The units that bytes touch -/

/-- The units of `k` bytes that `n` bytes from `a` touch lie between the unit of the first byte and that of the last. -/
theorem mem_unitsOf {k a n u : Nat} (hn : 0 < n) : u ∈ unitsOf k a n ↔ a / k ≤ u ∧ u ≤ (a + n - 1) / k := by
  have hle : a / k ≤ (a + n - 1) / k := Nat.div_le_div_right (by omega)
  simp only [unitsOf, Nat.ne_of_gt hn, if_false, List.mem_map, List.mem_range]
  constructor
  · rintro ⟨i, hi, rfl⟩
    omega
  · rintro ⟨hlo, hhi⟩
    exact ⟨u - a / k, by omega, by omega⟩

theorem unitsOf_one (k a : Nat) : unitsOf k a 1 = [a / k] := by
  rw [unitsOf, if_neg (by decide), Nat.add_sub_cancel, Nat.sub_self]
  exact congrArg (fun x => [x]) (Nat.zero_add _)

/-- Every byte written lies in a word that is touched. -/
theorem word_mem_unitsOf {a n j : Nat} (hlo : a ≤ j) (hhi : j < a + n) : j / 8 ∈ unitsOf 8 a n :=
  (mem_unitsOf (by omega)).mpr ⟨Nat.div_le_div_right hlo, Nat.div_le_div_right (by omega)⟩

/-! ### Words of a write -/

/-- The bytes of a write from `a` that fall into word `w`. -/
def wordPiece (a : Nat) (l : List Byte) (w : Nat) : List Byte :=
  (l.drop (max a (8 * w) - a)).take (min (a + l.length) (8 * w + 8) - max a (8 * w))

/-- The memory after the pieces of a list of words are written. -/
def wordsPut (m : List Host.Cell) (a : Nat) (l : List Byte) : List Nat → List Host.Cell
  | [] => m
  | w :: r => wordsPut (cellsPut m (max a (8 * w)) (wordPiece a l w)) a l r

theorem wordPiece_length (a : Nat) (l : List Byte) (w : Nat) :
    (wordPiece a l w).length = min (a + l.length) (8 * w + 8) - max a (8 * w) := by
  rw [wordPiece, List.length_take, List.length_drop]
  omega

/-- Writing a piece writes the bytes of its word that are in range. -/
theorem cellGet_wordPiece {m : List Host.Cell} (hm : Memory.wf m = true) (a : Nat) (l : List Byte) (w j : Nat) :
    cellGet (cellsPut m (max a (8 * w)) (wordPiece a l w)) j
      = if j / 8 = w ∧ a ≤ j ∧ j < a + l.length then l.getD (j - a) 0 else cellGet m j := by
  have hrange : (max a (8 * w) ≤ j ∧ j < max a (8 * w) + (wordPiece a l w).length) ↔ (j / 8 = w ∧ a ≤ j ∧ j < a + l.length) := by
    rw [wordPiece_length]
    omega
  rw [cellGet_cellsPut hm, ite_congr (propext hrange) (fun _ => rfl) (fun _ => rfl)]
  split
  case isTrue hin =>
    rw [wordPiece, List.getD_eq_getElem?_getD, List.getElem?_take_of_lt (by omega), List.getElem?_drop,
      show max a (8 * w) - a + (j - max a (8 * w)) = j - a by omega, List.getD_eq_getElem?_getD]
  case isFalse => rfl

theorem cellGet_wordsPut {m : List Host.Cell} (hm : Memory.wf m = true) (a : Nat) (l : List Byte) (ws : List Nat) (j : Nat) :
    cellGet (wordsPut m a l ws) j = if j / 8 ∈ ws ∧ a ≤ j ∧ j < a + l.length then l.getD (j - a) 0 else cellGet m j := by
  induction ws generalizing m with
  | nil => rw [wordsPut, if_neg (by simp)]
  | cons w r ih =>
    rw [wordsPut, ih (wf_cellsPut hm _ _), cellGet_wordPiece hm]
    by_cases hlater : j / 8 ∈ r
    · by_cases hin : a ≤ j ∧ j < a + l.length <;> simp [hlater, hin]
    · simp only [hlater, false_and, if_false, List.mem_cons, or_false]

/-- The pieces of all words touched make up the whole write. -/
theorem cellGet_wordsPut_units {m : List Host.Cell} (hm : Memory.wf m = true) (a : Nat) (l : List Byte) (j : Nat) :
    cellGet (wordsPut m a l (unitsOf 8 a l.length)) j = if a ≤ j ∧ j < a + l.length then l.getD (j - a) 0 else cellGet m j := by
  rw [cellGet_wordsPut hm]
  exact ite_congr (propext (and_iff_right_of_imp fun hin => word_mem_unitsOf hin.left hin.right)) (fun _ => rfl) (fun _ => rfl)

/-- Bytes each of which is known are read as their list. -/
theorem cellsGet_eq {m : List Host.Cell} {a : Nat} {l : List Byte} (h : ∀ i < l.length, cellGet m (a + i) = l.getD i 0) :
    cellsGet m a l.length = l := by
  refine List.ext_getElem (by rw [cellsGet, List.length_map, List.length_range]) (fun i _ hi => ?_)
  simp only [cellsGet, List.getElem_map, List.getElem_range, h i hi, List.getD_eq_getElem?_getD,
    List.getElem?_eq_getElem hi, Option.getD_some]

/-! ### Presenting an access -/

theorem Dev.handoverNow_none {d : Dev} {b : Nat} (h : tget d.mem.pend b = none) : d.handoverNow b = d := by
  rw [Dev.handoverNow, h]

theorem Dev.handoverEffect_none {d : Dev} {b : Nat} (h : tget d.mem.pend b = none) : d.handoverEffect b = d := by
  rw [Dev.handoverEffect, Dev.handoverNow_none h, h, Option.isSome_none, Bool.false_and, Dev.when_false]

theorem Dev.borrowAbort_none {d : Dev} (b : Nat) (h : d.mem.borrow = none) : d.borrowAbort b = d := by
  rw [Dev.borrowAbort, h, if_neg (by simp)]

theorem Dev.memAllowed_owner {d : Dev} {actor b : Nat} (write : Bool) (h : d.rd (MEM_BANKb_OWNER b) = actor) :
    d.memAllowed actor b write = true := by
  rw [Dev.memAllowed, h, beq_self_eq_true, Bool.true_or]

/-- A bank is written by its owner alone (R328). -/
theorem Dev.memAllowed_write {d : Dev} {actor b : Nat} (h : d.rd (MEM_BANKb_OWNER b) ≠ actor) : d.memAllowed actor b true = false := by
  rw [Dev.memAllowed, beq_false_of_ne h, Bool.not_true, Bool.false_and, Bool.or_false]

/-- The memories' banks are quiet: no handover drains, no bank is borrowed, and no word holds an error (R330, R334, R337). -/
def Dev.banksQuiet (d : Dev) : Prop := d.mem.ecc = [] ∧ d.mem.pend = [] ∧ d.mem.borrow = none

theorem Dev.presentAllBy_owned {d : Dev} (h : d.banksQuiet) {actor : Nat} (uid : Nat) (write : Bool) {bs : List Nat}
    (ho : ∀ b ∈ bs, d.rd (MEM_BANKb_OWNER b) = actor) :
    d.presentAllBy Dev.handoverEffect actor uid write bs = (d, true) := by
  obtain ⟨-, hpend, hborrow⟩ := h
  induction bs with
  | nil => rfl
  | cons b r ih =>
    have hfirst : d.presentBy Dev.handoverEffect actor uid b write = (d, true) := by
      rw [Dev.presentBy, Dev.handoverEffect_none (by rw [hpend, tget_nil]), Dev.memAllowed_owner write (ho b (List.mem_cons_self ..)),
        Dev.borrowAbort_none b hborrow, if_pos rfl]
    rw [Dev.presentAllBy, hfirst]
    exact ih (fun x hx => ho x (List.mem_cons_of_mem _ hx))

/-! ### Words without errors -/

theorem Dev.eccRead_clean {d : Dev} (h : d.mem.ecc = []) (w : Nat) : d.eccRead w = (d, true) := by
  rw [Dev.eccRead, h]
  rfl

theorem Dev.eccReads_clean {d : Dev} (h : d.mem.ecc = []) (ws : List Nat) : d.eccReads ws = (d, true) := by
  induction ws with
  | nil => rfl
  | cons w r ih =>
    rw [Dev.eccReads, Dev.eccRead_clean h]
    exact ih

/-- The device with other bytes in its shared memory. -/
def Dev.withCells (d : Dev) (m : List Host.Cell) : Dev := { d with mem := { d.mem with cells := m } }

/-- What becomes of a word that a write is about to reach: a whole word needs no read, a part of one reads it first (R334). -/
def Dev.wordReady (d : Dev) (a : Nat) (l : List Byte) (w : Nat) : Dev × Bool :=
  if min (a + l.length) (8 * w + 8) - max a (8 * w) = 8 then ({ d with mem := { d.mem with ecc := tdel d.mem.ecc w } }, true)
  else d.eccRead w

theorem Dev.writeWords_cons (d : Dev) (a : Nat) (l : List Byte) (w : Nat) (r : List Nat) :
    d.writeWords a l (w :: r) = if (d.wordReady a l w).2 then
      ((d.wordReady a l w).1.withCells
        (cellsPut (d.wordReady a l w).1.mem.cells (max a (8 * w)) (wordPiece a l w))).writeWords a l r
      else ((d.wordReady a l w).1, false) := rfl

theorem Dev.wordReady_clean {d : Dev} (h : d.mem.ecc = []) (a : Nat) (l : List Byte) (w : Nat) : d.wordReady a l w = (d, true) := by
  have hdel : ({ d with mem := { d.mem with ecc := tdel d.mem.ecc w } } : Dev) = d := by
    rw [h, show tdel ([] : Tab Nat) w = d.mem.ecc from h.symm]
  rw [Dev.wordReady, hdel, Dev.eccRead_clean h, ite_self]

theorem Dev.writeWords_clean {d : Dev} (h : d.mem.ecc = []) (a : Nat) (l : List Byte) (ws : List Nat) :
    d.writeWords a l ws = (d.withCells (wordsPut d.mem.cells a l ws), true) := by
  induction ws generalizing d with
  | nil => rfl
  | cons w r ih =>
    rw [d.writeWords_cons a l w r, Dev.wordReady_clean h, if_pos rfl]
    exact ih h

/-! ### Accesses -/

section
variable {d : Dev} {m : Master} {a : Nat}

theorem Dev.memAccess_write (h : d.banksQuiet) (l : List Byte)
    (ho : ∀ b ∈ unitsOf 0x40000 a l.length, d.rd (MEM_BANKb_OWNER b) = m.actor) :
    d.memAccess m a (some l) l.length = (d.withCells (wordsPut d.mem.cells a l (unitsOf 8 a l.length)), .ok []) := by
  have hwrite : d.memWrite m.actor m.uid a l = (d.withCells (wordsPut d.mem.cells a l (unitsOf 8 a l.length)), .ok []) := by
    rw [Dev.memWrite, Dev.memWriteBy, Dev.presentAllBy_owned h m.uid true ho]
    dsimp only
    rw [if_pos rfl, Dev.writeWords_clean h.left]
    rfl
  rw [Dev.memAccess, hwrite, MemRes.good, Bool.not_true, Bool.and_false, Dev.when_false]

theorem Dev.memAccess_read (h : d.banksQuiet) {n : Nat} (ho : ∀ b ∈ unitsOf 0x40000 a n, d.rd (MEM_BANKb_OWNER b) = m.actor) :
    d.memAccess m a none n = (d, .ok (cellsGet d.mem.cells a n)) := by
  have hread : d.memRead m.actor m.uid a n = (d, .ok (cellsGet d.mem.cells a n)) := by
    rw [Dev.memRead, Dev.presentAllBy_owned h m.uid false ho]
    dsimp only
    rw [if_pos rfl, Dev.eccReads_clean h.left]
    rfl
  rw [Dev.memAccess, hread, MemRes.good, Bool.not_true, Bool.and_false, Dev.when_false]

/-- A write of one byte by a master that acts for another owner. -/
theorem Dev.memAccess_refused (v : Byte) (hp : tget d.mem.pend (a / 0x40000) = none)
    (ho : d.rd (MEM_BANKb_OWNER (a / 0x40000)) ≠ m.actor) :
    d.memAccess m a (some [v]) 1 = ((d.postEvent 0x0501 0x0FD (m.uid * 2 ^ 16 + a / 0x40000)).when m.isHost
      (fun d => d.hostBusError m (0x1000000 + a)), .bus) := by
  have hpresent : d.presentBy Dev.handoverEffect m.actor m.uid (a / 0x40000) true
      = (d.postEvent 0x0501 0x0FD (m.uid * 2 ^ 16 + a / 0x40000), false) := by
    rw [Dev.presentBy, Dev.handoverEffect_none hp, Dev.memAllowed_write ho]
    rfl
  have hwrite : d.memWrite m.actor m.uid a [v] = (d.postEvent 0x0501 0x0FD (m.uid * 2 ^ 16 + a / 0x40000), .bus) := by
    rw [Dev.memWrite, Dev.memWriteBy, List.length_singleton, unitsOf_one, Dev.presentAllBy, hpresent]
    rfl
  rw [Dev.memAccess, hwrite]
  dsimp only
  rw [show MemRes.bus.good = false from rfl, Bool.not_false, Bool.and_true]

/-- An access that is not kept from the memories, without upsets. -/
theorem Dev.answers_sharedMemoryAccess {n : Nat} {w : Option (List Byte)} (hr : d.inReset = false)
    (hw : wellFormed (.sharedMemoryAccess m a n ⟨w, []⟩) = true) (hs : d.hostShutOut m (0x1000000 + a) = false) :
    d.answers (.sharedMemoryAccess m a n ⟨w, []⟩) (if w.isSome then (d.memAccess m a w n).1 else
      (d.memAccess m a w n).1.emit (.read m.uid
        (leNat (if (d.memAccess m a w n).2.good then (d.memAccess m a w n).2.data else List.replicate n 0xFF#8)))) :=
  d.answers_core (f := fun d => d.sharedAccess m a n w) (fun _ => rfl) hw hr (if_neg (by rw [hs]; decide))

theorem Dev.answers_sharedWrite (hq : d.banksQuiet) {l : List Byte} (hr : d.inReset = false)
    (hw : wellFormed (.sharedMemoryAccess m a l.length ⟨some l, []⟩) = true) (hs : d.hostShutOut m (0x1000000 + a) = false)
    (ho : ∀ b ∈ unitsOf 0x40000 a l.length, d.rd (MEM_BANKb_OWNER b) = m.actor) :
    d.answers (.sharedMemoryAccess m a l.length ⟨some l, []⟩) (d.withCells (wordsPut d.mem.cells a l (unitsOf 8 a l.length))) := by
  have hwrite := Dev.answers_sharedMemoryAccess hr hw hs
  rwa [Dev.memAccess_write hq l ho] at hwrite

theorem Dev.answers_sharedRead (hq : d.banksQuiet) {n : Nat} (hr : d.inReset = false)
    (hw : wellFormed (.sharedMemoryAccess m a n ⟨none, []⟩) = true) (hs : d.hostShutOut m (0x1000000 + a) = false)
    (ho : ∀ b ∈ unitsOf 0x40000 a n, d.rd (MEM_BANKb_OWNER b) = m.actor) :
    d.answers (.sharedMemoryAccess m a n ⟨none, []⟩) (d.emit (.read m.uid (leNat (cellsGet d.mem.cells a n)))) := by
  have hread := Dev.answers_sharedMemoryAccess hr hw hs
  rwa [Dev.memAccess_read hq ho] at hread

theorem Dev.answers_sharedRefused {v : Byte} (hr : d.inReset = false)
    (hw : wellFormed (.sharedMemoryAccess m a 1 ⟨some [v], []⟩) = true) (hs : d.hostShutOut m (0x1000000 + a) = false)
    (hp : tget d.mem.pend (a / 0x40000) = none) (ho : d.rd (MEM_BANKb_OWNER (a / 0x40000)) ≠ m.actor) :
    d.answers (.sharedMemoryAccess m a 1 ⟨some [v], []⟩) ((d.postEvent 0x0501 0x0FD (m.uid * 2 ^ 16 + a / 0x40000)).when m.isHost
      (fun d => d.hostBusError m (0x1000000 + a))) := by
  have hwrite := Dev.answers_sharedMemoryAccess hr hw hs
  rwa [Dev.memAccess_refused v hp ho] at hwrite

end

@[simp] theorem Dev.withCells_cells (d : Dev) (c : List Host.Cell) : (d.withCells c).mem.cells = c := rfl

/-- The banks that a well-formed access touches exist. -/
theorem banks_lt {a n b : Nat} (hn : 0 < n) (ha : a + n ≤ 2 ^ 24) (hb : b ∈ unitsOf 0x40000 a n) : b < 64 := by
  obtain ⟨-, hlast⟩ := (mem_unitsOf hn).mp hb
  omega

theorem wellFormed_sharedMemoryAccess_iff (m : Master) (a n : Nat) (w : BankAccess) :
    wellFormed (.sharedMemoryAccess m a n w) = true ↔
      m.ok = true ∧ m.isEngine = false ∧ 1 ≤ n ∧ a + n ≤ 2 ^ 24 ∧ w.ok n = true := by
  simp only [wellFormed, Bool.and_eq_true, Bool.not_eq_true', decide_eq_true_eq, and_assoc]

/-- After a write without errors its bytes are read back. -/
theorem cellsGet_wordsPut_units {m : List Host.Cell} (hm : Memory.wf m = true) (a : Nat) (l : List Byte) :
    cellsGet (wordsPut m a l (unitsOf 8 a l.length)) a l.length = l := by
  refine cellsGet_eq (fun i hi => ?_)
  rw [cellGet_wordsPut_units hm, if_pos (by omega), Nat.add_sub_cancel_left]

/-! ### The canonical form -/

theorem Dev.memOk_iff (d : Dev) : d.memOk = true ↔ Memory.wf d.mem.cells = true ∧ Memory.wf d.ldr.nor = true := by
  rw [Dev.memOk, Bool.and_eq_true]

/-- The canonical form rests on the shared memory's bytes and the loader's NOR alone. -/
theorem Dev.memOk_congr {d e : Dev} (hm : e.mem.cells = d.mem.cells) (hl : e.ldr = d.ldr) : e.memOk = d.memOk := by
  rw [Dev.memOk, hm, hl, Dev.memOk]

@[simp] theorem Dev.wr_memOk (d : Dev) (f : Fld) (v : Nat) : (d.wr f v).memOk = d.memOk := Dev.memOk_congr rfl rfl
@[simp] theorem Dev.put_memOk (d : Dev) (f : Fld) (b : Bool) : (d.put f b).memOk = d.memOk := Dev.memOk_congr rfl rfl
@[simp] theorem Dev.incBy_memOk (d : Dev) (f : Fld) (n : Nat) : (d.incBy f n).memOk = d.memOk := Dev.memOk_congr rfl rfl
@[simp] theorem Dev.inc_memOk (d : Dev) (f : Fld) : (d.inc f).memOk = d.memOk := Dev.memOk_congr rfl rfl
@[simp] theorem Dev.clrs_memOk (d : Dev) (fs : List Fld) : (d.clrs fs).memOk = d.memOk :=
  Dev.memOk_congr (by rw [Dev.clrs_mem]) (d.clrs_ldr fs)
@[simp] theorem Dev.emit_memOk (d : Dev) (e : Emit) : (d.emit e).memOk = d.memOk := Dev.memOk_congr rfl rfl
@[simp] theorem Dev.setQueue_memOk (d : Dev) (q : Nat) (x : Queue) : (d.setQueue q x).memOk = d.memOk := Dev.memOk_congr rfl rfl
@[simp] theorem Dev.setMatrix_memOk (d : Dev) (m : Nat) (x : Matrix) : (d.setMatrix m x).memOk = d.memOk := Dev.memOk_congr rfl rfl
@[simp] theorem Dev.setChan_memOk (d : Dev) (c : Nat) (x : Chan) : (d.setChan c x).memOk = d.memOk := Dev.memOk_congr rfl rfl
@[simp] theorem Dev.postEvent_memOk (d : Dev) (typ src detail : Nat) (test : Bool) : (d.postEvent typ src detail test).memOk = d.memOk :=
  Dev.memOk_congr (by rw [Dev.postEvent_mem]) (d.postEvent_ldr typ src detail test)
@[simp] theorem Dev.postVec_memOk (d : Dev) (v : Nat) : (d.postVec v).memOk = d.memOk :=
  Dev.memOk_congr (by rw [Dev.postVec_mem]) (d.postVec_ldr v)
@[simp] theorem Dev.ring_memOk (d : Dev) (n : Nat) : (d.ring n).memOk = d.memOk :=
  Dev.memOk_congr (by rw [Dev.ring_mem]) (d.ring_ldr n)
@[simp] theorem Dev.when_memOk (d : Dev) (c : Bool) {f : Dev → Dev} (h : ∀ d, (f d).memOk = d.memOk) : (d.when c f).memOk = d.memOk :=
  Dev.when_same Dev.memOk (h d) c

/-- Writing bytes keeps the canonical form. -/
theorem Dev.memOk_withCells {d : Dev} (h : d.memOk = true) (a : Nat) (l : List Byte) :
    (d.withCells (cellsPut d.mem.cells a l)).memOk = true := by
  rw [Dev.memOk_iff] at h ⊢
  exact ⟨wf_cellsPut h.left a l, h.right⟩

/-! ### What a handover does besides stopping matrices -/

@[simp] theorem Dev.borrowAbort_memOk (d : Dev) (b : Nat) : (d.borrowAbort b).memOk = d.memOk := by
  unfold Dev.borrowAbort
  split
  · rfl
  · rfl

@[simp] theorem Dev.eccRead_memOk (d : Dev) (w : Nat) : (d.eccRead w).1.memOk = d.memOk := by
  unfold Dev.eccRead
  dsimp only
  split
  · rfl
  · rfl
  · simp only [Dev.postEvent_memOk, Dev.put_memOk, Dev.wr_memOk, Dev.inc_memOk]

@[simp] theorem Dev.wordReady_memOk (d : Dev) (a : Nat) (l : List Byte) (w : Nat) : (d.wordReady a l w).1.memOk = d.memOk := by
  unfold Dev.wordReady
  split
  · rfl
  · exact d.eccRead_memOk w

@[simp] theorem Dev.eccReads_memOk (d : Dev) (ws : List Nat) : (d.eccReads ws).1.memOk = d.memOk := by
  induction ws generalizing d with
  | nil => rfl
  | cons w r ih =>
    rw [Dev.eccReads]
    split
    · rw [ih, Dev.eccRead_memOk]
    · exact d.eccRead_memOk w

@[simp] theorem Dev.spillTaken_memOk (d : Dev) (b : Nat) : (d.spillTaken b).memOk = d.memOk := by
  refine forNums_same Dev.memOk (fun q _ d => ?_) d
  dsimp only
  split
  · rw [Dev.postEvent_memOk, Dev.setQueue_memOk]
  · rfl

@[simp] theorem Dev.handoverNow_memOk (d : Dev) (b : Nat) : (d.handoverNow b).memOk = d.memOk := by
  unfold Dev.handoverNow
  split
  · rfl
  · dsimp only
    rw [Dev.when_memOk _ _ (fun d => d.spillTaken_memOk b), Dev.postEvent_memOk, Dev.clrs_memOk, Dev.wr_memOk]
    exact Dev.memOk_congr rfl rfl

/-! ### Writes -/

theorem Dev.writeWords_keeps_memOk {d : Dev} (a : Nat) (l : List Byte) (ws : List Nat) (h : d.memOk = true) :
    (d.writeWords a l ws).1.memOk = true := by
  induction ws generalizing d with
  | nil => exact h
  | cons w r ih =>
    have hready : (d.wordReady a l w).1.memOk = true := (d.wordReady_memOk a l w).trans h
    rw [d.writeWords_cons a l w r]
    split
    · exact ih (Dev.memOk_withCells hready _ _)
    · exact hready

section
variable {d : Dev} {eff : Dev → Nat → Dev} (heff : ∀ (d : Dev) (b : Nat), d.memOk = true → (eff d b).memOk = true)
include heff

theorem Dev.presentBy_keeps_memOk (actor uid b : Nat) (write : Bool) (h : d.memOk = true) :
    (d.presentBy eff actor uid b write).1.memOk = true := by
  have heffect := heff d b h
  unfold Dev.presentBy
  dsimp only
  split
  · rwa [Dev.borrowAbort_memOk]
  · rwa [Dev.postEvent_memOk]

theorem Dev.presentAllBy_keeps_memOk (actor uid : Nat) (write : Bool) (bs : List Nat) (h : d.memOk = true) :
    (d.presentAllBy eff actor uid write bs).1.memOk = true := by
  induction bs generalizing d with
  | nil => exact h
  | cons b r ih =>
    have hfirst := Dev.presentBy_keeps_memOk heff actor uid b write h
    rw [Dev.presentAllBy]
    split
    · exact ih hfirst
    · exact hfirst

theorem Dev.memWriteBy_keeps_memOk (actor uid a : Nat) (l : List Byte) (h : d.memOk = true) :
    (d.memWriteBy eff actor uid a l).1.memOk = true := by
  have hpresent := Dev.presentAllBy_keeps_memOk heff actor uid true (unitsOf 0x40000 a l.length) h
  unfold Dev.memWriteBy
  dsimp only
  split
  · exact Dev.writeWords_keeps_memOk _ _ _ hpresent
  · exact hpresent

end

/-! ### Matrices that stop -/

theorem Dev.sauWrite_keeps_memOk {d : Dev} (a : Nat) (l : List Byte) (h : d.memOk = true) : (d.sauWrite a l).memOk = true :=
  Dev.memWriteBy_keeps_memOk (fun d b hd => (d.handoverNow_memOk b).trans hd) _ _ _ _ h

@[simp] theorem Dev.rowNotify_memOk (d : Dev) (m : Nat) : (d.rowNotify m).memOk = d.memOk := by
  simp [Dev.rowNotify]

@[simp] theorem Dev.rowDeliver_memOk (d : Dev) (m seq : Nat) : (d.rowDeliver m seq).memOk = d.memOk := by
  unfold Dev.rowDeliver
  dsimp only
  split
  · split
    · rw [Dev.setChan_memOk]
    · simp
  · simp

@[simp] theorem Dev.loadShow_memOk (d : Dev) : d.loadShow.memOk = d.memOk := Dev.memOk_congr rfl rfl

@[simp] theorem Dev.dueRows_memOk (d : Dev) (m : Nat) : (d.dueRows m).memOk = d.memOk := Dev.memOk_congr rfl rfl

/-- A row that completes writes its absent cells, its flags, its header and its SEQ (R218, R223); nothing else reaches the memory. -/
theorem Dev.rowComplete_keeps_memOk {d : Dev} (m : Nat) (h : d.memOk = true) : (d.rowComplete m).memOk = true := by
  unfold Dev.rowComplete
  extract_lets x
  split
  next => exact h
  next r rest hrows =>
    split
    next => exact h
    next why hwhy =>
      extract_lets addr unsettled step
      have hcells (ics : List (Nat × Option Cell)) : (ics.foldl step (d, [], 0, 0)).1.memOk = true := by
        refine List.foldlRecOn (motive := fun acc : Dev × List Nat × Nat × Nat => acc.1.memOk = true) ics step h ?cell
        rintro ⟨d, fls, absent, last⟩ hd ic -
        simp only [step]
        split
        · exact hd
        · refine Dev.sauWrite_keeps_memOk _ _ ?_
          split <;> exact hd
      split
      next e fls absent last hfold =>
        have he : e.memOk = true := by
          have hlast := hcells ((List.range r.cells.length).zip r.cells)
          rwa [hfold] at hlast
        have hwrites {e : Dev} (he : e.memOk = true) (a1 a2 a3 : Nat) (l1 l2 l3 : List Byte) :
            (((e.sauWrite a1 l1).sauWrite a2 l2).sauWrite a3 l3).memOk = true :=
          Dev.sauWrite_keeps_memOk _ _ (Dev.sauWrite_keeps_memOk _ _ (Dev.sauWrite_keeps_memOk _ _ he))
        split
        all_goals simp only [Dev.rowDeliver_memOk, Dev.when_memOk, Dev.wr_memOk, Dev.inc_memOk, Dev.incBy_memOk,
          Dev.postEvent_memOk, Dev.setMatrix_memOk, eq_self, implies_true]
        case isTrue =>
          refine hwrites ?_ _ _ _ _ _ _
          split <;> exact he
        case isFalse => exact hwrites he _ _ _ _ _ _

theorem iter_keeps {α : Type} {P : α → Prop} {f : α → α} (hf : ∀ a, P a → P (f a)) (n : Nat) {a : α} (h : P a) : P (iter n f a) := by
  induction n generalizing a with
  | zero => exact h
  | succ n ih => exact ih (hf a h)

theorem Dev.rowsFinish_keeps_memOk {d : Dev} (m : Nat) (h : d.memOk = true) : (d.rowsFinish m).memOk = true :=
  iter_keeps (P := fun d : Dev => d.memOk = true) (fun _ => Dev.rowComplete_keeps_memOk m) _ h

theorem Dev.rowsClose_keeps_memOk {d : Dev} (m : Nat) (why : Close) (h : d.memOk = true) : (d.rowsClose m why).memOk = true :=
  Dev.rowsFinish_keeps_memOk m ((d.setMatrix_memOk m _).trans h)

theorem Dev.matrixDisable_keeps_memOk {d : Dev} (m : Nat) (h : d.memOk = true) : (d.matrixDisable m).memOk = true := by
  rw [Dev.matrixDisable, Dev.loadShow_memOk, Dev.put_memOk, Dev.put_memOk, Dev.put_memOk]
  exact Dev.rowsClose_keeps_memOk m _ ((d.dueRows_memOk m).trans h)

theorem Dev.ringKept_keeps_memOk {d : Dev} (m : Nat) (h : d.memOk = true) : (d.ringKept m).memOk = true := by
  unfold Dev.ringKept
  split
  · rw [Dev.postEvent_memOk]
    exact Dev.matrixDisable_keeps_memOk m h
  · exact h

theorem Dev.ringsKept_keeps_memOk {d : Dev} (h : d.memOk = true) : d.ringsKept.memOk = true :=
  iter_keeps (P := fun d : Dev => d.memOk = true) (fun _ hd => forNums_keeps (P := fun d : Dev => d.memOk = true)
    (fun m _ _ => Dev.ringKept_keeps_memOk m) hd) 2 h

/-! ### Accesses keep the canonical form -/

theorem Dev.when_keeps {P : Dev → Prop} {d : Dev} {f : Dev → Dev} (h : P d) (hf : P d → P (f d)) (c : Bool) : P (d.when c f) := by
  cases c
  · exact h
  · exact hf h

theorem Dev.handoverEffect_keeps_memOk (d : Dev) (b : Nat) (h : d.memOk = true) : (d.handoverEffect b).memOk = true :=
  Dev.when_keeps (P := fun d => d.memOk = true) ((d.handoverNow_memOk b).trans h) Dev.ringsKept_keeps_memOk _

theorem Dev.memRead_keeps_memOk {d : Dev} (actor uid a n : Nat) (h : d.memOk = true) : (d.memRead actor uid a n).1.memOk = true := by
  have hpresent := Dev.presentAllBy_keeps_memOk Dev.handoverEffect_keeps_memOk actor uid false (unitsOf 0x40000 a n) h
  unfold Dev.memRead
  dsimp only
  split
  · rwa [Dev.eccReads_memOk]
  · exact hpresent

@[simp] theorem Dev.hostBusError_mem (d : Dev) (m : Master) (off : Nat) : (d.hostBusError m off).mem = d.mem := by
  rw [Dev.hostBusError, Dev.postEvent_mem, Dev.wr_mem, Dev.put_mem]

@[simp] theorem Dev.hostBusError_memOk (d : Dev) (m : Master) (off : Nat) : (d.hostBusError m off).memOk = d.memOk := by
  rw [Dev.hostBusError, Dev.postEvent_memOk, Dev.wr_memOk, Dev.put_memOk]

theorem Dev.memAccess_keeps_memOk {d : Dev} (m : Master) (a : Nat) (w : Option (List Byte)) (n : Nat) (h : d.memOk = true) :
    (d.memAccess m a w n).1.memOk = true := by
  unfold Dev.memAccess
  dsimp only
  rw [Dev.when_memOk _ _ (fun d => d.hostBusError_memOk m _)]
  cases w with
  | none => exact Dev.memRead_keeps_memOk _ _ _ _ h
  | some l => exact Dev.memWriteBy_keeps_memOk Dev.handoverEffect_keeps_memOk _ _ _ _ h

theorem Dev.sharedAccess_keeps_memOk {d : Dev} (m : Master) (a n : Nat) (w : Option (List Byte)) (h : d.memOk = true) :
    (d.sharedAccess m a n w).memOk = true := by
  have haccess := Dev.memAccess_keeps_memOk m a w n h
  unfold Dev.sharedAccess
  dsimp only
  split
  · rwa [Dev.inc_memOk]
  · split
    · exact haccess
    · rwa [Dev.emit_memOk]

/-- An upset marks an error; it writes no byte (R334). -/
@[simp] theorem Dev.upset_memOk (d : Dev) (u : EccPlace × Bool) : (d.upset u).memOk = d.memOk := by
  obtain ⟨p, uncorrectable⟩ := u
  cases p with
  | entry q i =>
    unfold Dev.upset
    dsimp only
    split
    · rfl
    · split <;> rfl
  | _ => rfl

theorem Dev.upsets_keep_memOk {d : Dev} (us : List (EccPlace × Bool)) (h : d.memOk = true) : (us.foldl Dev.upset d).memOk = true :=
  List.foldlRecOn us Dev.upset (motive := fun d : Dev => d.memOk = true) h (fun d hd u _ => (d.upset_memOk u).trans hd)

/-- Every access keeps the canonical form, whatever handover takes effect under it. -/
theorem exec_sharedMemoryAccess_keeps_memOk {d t : Dev} {m : Master} {a n : Nat} {w : BankAccess} {rest : List Instr} (h : d.memOk = true)
    (hstep : exec (.sharedMemoryAccess m a n w) ⟨d, rest⟩ = .next ⟨t, rest⟩) : t.memOk = true := by
  have hdev : (if d.inReset then d else (w.upsets.foldl Dev.upset d).sharedAccess m a n w.write) = t := by
    have hcore : execSharedMemoryAccess m a n w ⟨d, rest⟩ = .next ⟨t, rest⟩ := hstep
    unfold execSharedMemoryAccess State.core State.act at hcore
    split at hcore
    case isTrue => exact congrArg State.dev (Host.Outcome.next.inj hcore)
    case isFalse => cases hcore
  rw [← hdev]
  split
  case isTrue => exact h
  case isFalse => exact Dev.sharedAccess_keeps_memOk m a n w.write (Dev.upsets_keep_memOk w.upsets h)

/-- Settles O51: the canonical form by the effects of an access; then, by who owns the banks, the words written and read back, or the
refusal. -/
theorem sharedMemoryAccesses : Obligations.SharedMemoryAccesses := by
  unfold Obligations.SharedMemoryAccesses
  refine ⟨fun _ _ _ _ _ _ _ => exec_sharedMemoryAccess_keeps_memOk, ?owned, ?refused⟩
  case owned =>
    intro d m a l hr hw hs hok hecc hpend hborrow howner
    have hquiet : d.banksQuiet := ⟨hecc, hpend, hborrow⟩
    obtain ⟨hwf, -⟩ := d.memOk_iff.mp hok
    obtain ⟨hm, hne, hlen, hend, -⟩ := (wellFormed_sharedMemoryAccess_iff m a l.length _).mp hw
    have hbanks : ∀ b ∈ unitsOf 0x40000 a l.length, d.rd (MEM_BANKb_OWNER b) = m.actor := by
      intro b hb
      obtain ⟨hfirst, hlast⟩ := (mem_unitsOf hlen).mp hb
      exact howner b (banks_lt hlen hend hb) hfirst hlast
    refine ⟨d.withCells (wordsPut d.mem.cells a l (unitsOf 8 a l.length)), ?written, cellGet_wordsPut_units hwf a l, rfl, ?readBack⟩
    case written => exact Dev.answers_sharedWrite hquiet hr hw hs hbanks
    case readBack =>
      have hread := Dev.answers_sharedRead (d := d.withCells (wordsPut d.mem.cells a l (unitsOf 8 a l.length))) hquiet hr
        ((wellFormed_sharedMemoryAccess_iff m a l.length _).mpr ⟨hm, hne, hlen, hend, rfl⟩) hs hbanks
      rwa [Dev.withCells_cells, cellsGet_wordsPut_units hwf] at hread
  case refused =>
    rintro d m a _ v hr hw hs rfl hpend howner
    refine ⟨_, Dev.answers_sharedRefused hr hw hs hpend howner, ?mem, fun hhost => ?other, fun hhost => ?host⟩
    case mem =>
      exact (Dev.when_same (f := fun d => d.hostBusError m (0x1000000 + a)) Dev.mem (Dev.hostBusError_mem _ m _) _).trans
        (d.postEvent_mem _ _ _ _)
    case other => rw [hhost, Dev.when_false]
    case host => rw [hhost, Dev.when_true, Dev.hostBusError]

end Sys2Proof.Machine

/-! Every command alike (spec/INDEX.md): what exec does with any of them, and the queue: O1, O28, O29, O30, O31, O32 -/

namespace Sys2Proof.Machine

/-! ### Every command's meaning has one of two shapes -/

/-- A meaning refuses exactly where its operands are bad, and acts on the device alone. -/
def ActsOnDev (ok : Bool) (x : State → Host.Outcome State Fault Refusal) : Prop := ∃ f, ∀ s, x s = s.act ok f

/-- A meaning that besides has no effect while the core is held in reset. -/
def ActsInCore (ok : Bool) (x : State → Host.Outcome State Fault Refusal) : Prop := ∃ f, ∀ s, x s = s.core ok f

theorem ActsInCore.onDev {ok : Bool} {x : State → Host.Outcome State Fault Refusal} (h : ActsInCore ok x) : ActsOnDev ok x := by
  obtain ⟨f, hf⟩ := h
  exact ⟨fun d => if d.inReset then d else f d, hf⟩

theorem actsOnDev_act (ok : Bool) (f : Dev → Dev) : ActsOnDev ok (fun s => s.act ok f) := ⟨f, fun _ => rfl⟩

theorem actsOnDev_tap (ok : Bool) (f : Dev → Dev) : ActsOnDev ok (fun s => s.tap ok f) := ⟨_, fun _ => rfl⟩

theorem actsInCore_core (ok : Bool) (f : Dev → Dev) : ActsInCore ok (fun s => s.core ok f) := ⟨f, fun _ => rfl⟩

theorem actsInCore_engine (e : Nat) (row : EngRow) : ActsInCore (decide (e < 64)) (fun s => s.engine e row) := ⟨_, fun _ => rfl⟩

theorem actsInCore_busW (ok : Bool) (m : Master) (off : Nat) (v : BitVec 32) : ActsInCore (m.ok && ok) (fun s => s.busW ok m off v) :=
  ⟨_, fun _ => rfl⟩

theorem actsInCore_busR (ok : Bool) (m : Master) (off : Nat) : ActsInCore (m.ok && ok) (fun s => s.busR ok m off) :=
  ⟨_, fun _ => rfl⟩

theorem actsInCore_busW_fixed (m : Master) (off : Nat) (v : BitVec 32) : ActsInCore m.ok (fun s => s.busW true m off v) := by
  simpa using actsInCore_busW true m off v

theorem actsInCore_busR_fixed (m : Master) (off : Nat) : ActsInCore m.ok (fun s => s.busR true m off) := by
  simpa using actsInCore_busR true m off

set_option maxRecDepth 4000 in
/-- A command of the core: an engine's instruction, a master's access to a register, or an effect of its own. -/
theorem exec_actsInCore (c : Instr) (hc : actsInReset c = false) : ActsInCore (wellFormed c) (fun s => exec c s) := by
  cases c
  case por | porEnd | vddBrownOut | rstN | refclkLoss | testen | warmEnd | coarseClockCheck | xtal32Check | writeInhibitStart |
    writeInhibitEnd | standbyCoreReset | wake | opsecIncrement | pcieLinkChange | extest | samplePreload | idcode | clamp | highz |
    bypass | dbgacc =>
    cases hc
  all_goals dsimp only [exec]
  case instructionPair | add | addc | sub | subb | and | or | xor | andn | shl | shr | sar | rol | ror | adds | subs | addus | subus |
    mulu | muls | divu | divs | cmp | tst | addi | andi | ori | xori | shi | cmpi | movl | movh | bfx | bfi | crc32 | crc32c | crc16 |
    ocadd | bswap | bswap16 | clz | berlen | mov | not | neg | ldb | ldbs | ldh | ldhs | ldw | ldd | stb | sth | stw | std | ldi | ioIn
    | ioOut | br | call | jr | ret | reti | rft | wfe | safe | trap | brk | gets | puts | push | pop | peek | drop |
    undefinedInstruction | instructionFetchFault =>
    exact actsInCore_engine _ _
  case capture | domainSet | domainStepWrite | incrNomWrite | offsetSubmit | servoDisable | portPowerDown | lanePowerUp | keyCommit |
    change | cancel | mirrorCommitWrite | ringEnable | survey | swgo | modeCommit | modeInvalidate | modeReadBack | streamEnable |
    streamDisable | matrixEnable | matrixDisable | rel | xclr | groupClockWrite | groupStart | groupHalt | instructionWrite |
    flagSetWrite | kick | clrshift | txFifoWrite | depotPowerOn | depotPowerOff | swapRequest | swapCancel | depotSwapGo |
    depotSwapCancel | run | halt | lockForce | txRequest | txAbort | borec | abr | functionResetRequest | ringTailWrite =>
    exact actsInCore_busW _ _ _ _
  case tableRead | tableWrite | tableInvalidate | tableFlush | supRst | norRead | norProgram | norErase4k | norErase64k | norCheck |
    faultSet | faultClear | watchdogKick | standby | clockGateWrite | supLock | clear | retest | inject | injectDataStage =>
    exact actsInCore_busW_fixed _ _ _
  case latchingRead | readClear | departureRecordRead | commandFifoRead | rxFifoRead | lockPeek =>
    exact actsInCore_busR _ _ _
  case edgeStampRead =>
    exact actsInCore_busR_fixed _ _
  all_goals exact actsInCore_core _ _

set_option maxRecDepth 4000 in
/-- A command that acts also while the core is held in reset: one of the JTAG port, or one with an effect of its own. -/
theorem exec_actsOnDev_inReset (c : Instr) (hc : actsInReset c = true) : ActsOnDev (wellFormed c) (fun s => exec c s) := by
  cases c
  all_goals dsimp only [exec]
  case extest | samplePreload | idcode | clamp | highz | bypass | dbgacc =>
    exact actsOnDev_tap _ _
  case por | porEnd | vddBrownOut | rstN | refclkLoss | testen | warmEnd | coarseClockCheck | xtal32Check | writeInhibitStart |
    writeInhibitEnd | standbyCoreReset | wake | opsecIncrement | pcieLinkChange =>
    exact actsOnDev_act _ _
  all_goals cases hc

/-- What a command of the core does: nothing but refuse a bad operand, or change the device where the core is not held. -/
theorem exec_eq_core (c : Instr) (hc : actsInReset c = false) : ∃ f, ∀ s, exec c s = s.core (wellFormed c) f := exec_actsInCore c hc

/-- What any command does: nothing but refuse a bad operand, or change the device. -/
theorem exec_eq_act (c : Instr) : ∃ f, ∀ s, exec c s = s.act (wellFormed c) f := by
  cases hc : actsInReset c with
  | true => exact exec_actsOnDev_inReset c hc
  | false => exact (exec_actsInCore c hc).onDev

/-! ### The obligations -/

/-- Settles O1: it is how a step is defined. -/
theorem stepRunsFrontCommand : Obligations.StepRunsFrontCommand := by
  unfold Obligations.StepRunsFrontCommand
  intros
  rfl

/-- Settles O28, by the shape of every command's meaning. -/
theorem illFormedCommandRefused : Obligations.IllFormedCommandRefused := by
  unfold Obligations.IllFormedCommandRefused
  intro c s
  obtain ⟨f, hf⟩ := exec_eq_act c
  rw [hf s]
  cases wellFormed c with
  | true => simp [State.act_ok]
  | false => simp [State.act_bad]

/-- Settles O29, by the shape of every command's meaning. -/
theorem wellFormedCommandCompletes : Obligations.WellFormedCommandCompletes := by
  unfold Obligations.WellFormedCommandCompletes
  intro c d rest hc
  obtain ⟨f, hf⟩ := exec_eq_act c
  exact ⟨f d, (hf _).trans (State.act_ok _ hc f)⟩

/-- Settles O32, by the shape of the meanings of the core's commands. -/
theorem coreHeldInReset : Obligations.CoreHeldInReset := by
  unfold Obligations.CoreHeldInReset
  intro c d rest hc hd hcore
  obtain ⟨f, hf⟩ := exec_eq_core c hcore
  exact (hf _).trans (State.core_held _ hc hd f)

/-- From a state whose waiting commands are well formed a step answers a next state, with the queue's rest waiting. -/
theorem step_of_queueOk (s : State) (hs : s.queueOk) : ∃ t, step s = .next t ∧ t.queueOk ∧ t.pending = s.pending.tail := by
  obtain ⟨d, pending⟩ := s
  cases pending with
  | nil => exact ⟨_, rfl, hs, rfl⟩
  | cons c rest =>
    have hfront : wellFormed c = true := hs c List.mem_cons_self
    have hrest : ∀ c' ∈ rest, wellFormed c' = true := fun c' hc' => hs c' (List.mem_cons_of_mem _ hc')
    obtain ⟨d', hd'⟩ := wellFormedCommandCompletes c d rest hfront
    exact ⟨⟨d', rest⟩, hd', hrest, rfl⟩

/-- Settles O30: a step only takes commands from the queue. -/
theorem queueInvariantKept : Obligations.QueueInvariantKept := by
  unfold Obligations.QueueInvariantKept
  intro s t hs hst
  obtain ⟨t', ht', hkept⟩ := step_of_queueOk s hs
  obtain rfl : t' = t := by simpa [ht'] using hst
  exact hkept

/-- Settles O31, by induction on the number of steps: each keeps the queue well formed. -/
theorem blockNeverStops : Obligations.BlockNeverStops := by
  unfold Obligations.BlockNeverStops State.goesOn
  intro s hs k
  induction k generalizing s with
  | zero => exact ⟨s, rfl⟩
  | succ k ih =>
    obtain ⟨t, hst, ht, -⟩ := step_of_queueOk s hs
    obtain ⟨u, hu⟩ := ih t ht
    have hrun : core.run (k + 1) s = core.run k t := by
      simp only [Host.Core.run, show core.step s = .next t from hst]
    exact ⟨u, hrun.trans hu⟩

end Sys2Proof.Machine

/-! Mailboxes, doorbells and locks (spec/13): O55, O54 -/

namespace Sys2Proof.Machine

/-! ### Locks (R368, R369) -/

theorem Dev.lockAcquire_free {d : Dev} {n : Nat} (who : Master) (h : (d.lock n).holder = none) :
    d.lockAcquire who n = ((d.setLock n ⟨some who.uid, false⟩).inc (MBX_LKn_CNT_ACQ n), lockValue 1 (d.lock n).broken who.uid) := by
  simp [Dev.lockAcquire, h]

theorem Dev.lockAcquire_own {d : Dev} {n : Nat} {who : Master} (h : (d.lock n).holder = some who.uid) :
    d.lockAcquire who n = (d, lockValue 3 (d.lock n).broken who.uid) := by
  simp [Dev.lockAcquire, h]

theorem Dev.lockAcquire_held {d : Dev} {n u : Nat} {who : Master} (h : (d.lock n).holder = some u) (hu : u ≠ who.uid) :
    d.lockAcquire who n = (d.inc (MBX_LKn_CNT_CONT n), lockValue 2 (d.lock n).broken u) := by
  simp [Dev.lockAcquire, h, hu]

theorem Dev.lockRelease_own {d : Dev} {n : Nat} {who : Master} (h : (d.lock n).holder = some who.uid) :
    d.lockRelease who n = (d.setLock n ⟨none, (d.lock n).broken⟩, .done 0) := if_pos h

/-- A release that is refused leaves the locks alone; only its event reaches the recorder. -/
theorem Dev.lockRelease_other {d : Dev} {n : Nat} {who : Master} (h : (d.lock n).holder ≠ some who.uid) :
    (d.lockRelease who n).2 = .refused ∧ (d.lockRelease who n).1.mbx = d.mbx
      ∧ (d.lockRelease who n).1.evr = (d.postEvent 0x0704 0x0FC (who.uid * 2 ^ 16 + n)).evr := by
  unfold Dev.lockRelease
  rw [if_neg h]
  cases who.isEngine with
  | true => simp
  | false => simp

theorem Dev.lock_congr {d d' : Dev} (h : d'.mbx = d.mbx) (k : Nat) : d'.lock k = d.lock k := by simp [Dev.lock, h]

/-- Settles O55, by the cases of an acquire and of a release. -/
theorem lockHasOneHolder : Obligations.LockHasOneHolder := by
  unfold Obligations.LockHasOneHolder
  intro d a b n hab hfree
  let d1 := (d.setLock n ⟨some a.uid, false⟩).inc (MBX_LKn_CNT_ACQ n)
  have hself : d1.lock n = ⟨some a.uid, false⟩ := d.setLock_lock_self n _
  have hheld : (d1.lock n).holder = some a.uid := by rw [hself]
  have hrelB := Dev.lockRelease_other (d := d1) (n := n) (who := b) (by rw [hheld]; simpa using hab)
  have hrelA := Dev.lockRelease_own hheld
  refine ⟨d1, ?acquire, hself, fun k hk => ?others, ?value, ?kept, ?again, hrelB.1, Dev.lock_congr hrelB.2.1 n, hrelB.2.2, ?done, ?freed,
    fun k hk => ?rest⟩
  case acquire => simp [Dev.lockAcquire_free a hfree, lockValue, d1]
  case others => exact d.setLock_lock_ne _ hk
  case value => simp [Dev.lockAcquire_held hheld hab, hself, lockValue]
  case kept => rw [Dev.lockAcquire_held hheld hab]; exact Dev.lock_congr rfl n
  case again => simp [Dev.lockAcquire_own hheld, hself, lockValue]
  case done => rw [hrelA]
  case freed => simp [hrelA, hself]
  case rest =>
    rw [hrelA]
    exact (d1.setLock_lock_ne _ hk).trans (d.setLock_lock_ne _ hk)

/-! ### Mailboxes (R356, R358, R359, R360) -/

@[simp] theorem Dev.postVec_mbx (d : Dev) (v : Nat) : (d.postVec v).mbx = d.mbx := by
  obtain ⟨r, h, o, e⟩ := d.postVec_only v
  rw [e]

@[simp] theorem Dev.ring_mbx (d : Dev) (n : Nat) : (d.ring n).mbx = d.mbx := by
  obtain ⟨r, h, o, e⟩ := d.ring_only n
  rw [e]

theorem Dev.when_postVec_mbx (d : Dev) (c : Bool) (v : Dev → Nat) : (d.when c (fun d => d.postVec (v d))).mbx = d.mbx := by
  cases c with
  | false => rw [Dev.when_false]
  | true => rw [Dev.when_true, Dev.postVec_mbx]

theorem Dev.when_ring_mbx (d : Dev) (c : Bool) (n : Dev → Nat) : (d.when c (fun d => d.ring (n d))).mbx = d.mbx := by
  cases c with
  | false => rw [Dev.when_false]
  | true => rw [Dev.when_true, Dev.ring_mbx]

/-- The homes of the fields that a post may change lie together in the recorder's block. -/
theorem not_mem_postKeys {k : Nat} (h : k < 0x180003 ∨ 0x1801C0 < k) : k ∉ postKeys := by
  simp only [postKeys, EVR_LOST_CNT, EVR_ACCEPT_CNT, EVR_FIFO_HWM, EVR_STAT_LOSS, List.mem_cons, List.not_mem_nil, or_false]
  omega

theorem Dev.box_congr {d d' : Dev} (h : d'.mbx = d.mbx) (k : Nat) : d'.box k = d.box k := by simp [Dev.box, h]

/-- The message that a post makes (R358). -/
def Dev.postedMsg (d : Dev) (who : Master) (n v : Nat) : Msg := {
  suid := who.uid, sepoch := d.epoch who.uid, repoch := d.epoch (d.rd (MBX_MBm_CFG_RCV n))
  seq := (d.rd (MBX_MBm_SEQ_LASTSEQ n) + 1) % 2 ^ 16, time := compact d.tb.lt
  data := tgetD (d.box n).staging who.uid [0, 0, 0] ++ [v % 2 ^ 32] }

/-- A post leaves the mailbox with its message and its sender's staging empty: the doorbell and the vector touch no mailbox. -/
theorem Dev.mbPosted_box (d : Dev) (who : Master) (n v : Nat) : (d.mbPosted who n v).box n
    = { d.box n with msg := some (d.postedMsg who n v), staging := tdel (d.box n).staging who.uid, refused := false } := by
  unfold Dev.mbPosted
  dsimp only
  exact (Dev.box_congr ((Dev.when_postVec_mbx ..).trans (Dev.when_ring_mbx ..)) n).trans (d.setBox_box_self n _)

theorem Dev.mbPost_empty {d : Dev} {who : Master} {n : Nat} (v : Nat) (hs : d.mbSender n who = true) (hen : d.on (MBX_MBm_CFG_EN n) = true)
    (hm : (d.box n).msg = none) : d.mbPost who n v = (d.mbPosted who n v, .done 0) := by
  simp [Dev.mbPost, hs, hen, hm]

/-- A post to a mailbox that holds a message is refused: it counts, and the mailbox's note of a refusal alone changes. -/
theorem Dev.mbPost_full {d : Dev} {who : Master} {n : Nat} {g : Msg} (v : Nat) (hs : d.mbSender n who = true)
    (hm : (d.box n).msg = some g) : d.mbPost who n v
      = ((((d.inc (MBX_MBm_STAT_REFCNT n)).when (!(d.box n).refused) (fun d => d.postEvent 0x0701 (0x600 + n) (who.uid * 2 ^ 16 + n))).setBox n
        { d.box n with refused := true }).mbRefuse who (mbWordOff n 7)) := by
  simp [Dev.mbPost, hs, hm]

@[simp] theorem Dev.mbRefuse_snd (d : Dev) (w : Master) (off : Nat) : (d.mbRefuse w off).2 = .refused := rfl

@[simp] theorem Dev.mbRefuse_mbx (d : Dev) (w : Master) (off : Nat) : (d.mbRefuse w off).1.mbx = d.mbx := by
  unfold Dev.mbRefuse
  cases w.isEngine with
  | true => rfl
  | false => simp

/-- A refusal leaves alone every field but the unit's note of it and the recorder's counters. -/
theorem Dev.rd_mbRefuse (d : Dev) (w : Master) (off : Nat) {g : Fld} (h1 : g.key ≠ MBX_STAT_REFUSED.key) (h2 : g.key ∉ postKeys) :
    (d.mbRefuse w off).1.rd g = d.rd g := by
  unfold Dev.mbRefuse
  cases w.isEngine with
  | true => rfl
  | false => exact (Dev.rd_postEvent _ _ _ _ _ g h2).trans (d.rd_put_ne _ h1)

theorem Msg.bit_words_valid (g : Msg) : bit (g.words.getD 0 0) 31 = true := by
  simp only [Msg.words, List.cons_append, List.getD_cons_zero, bit, bits, beq_iff_eq]
  omega

theorem Msg.words_seq (g : Msg) : g.words.getD 1 0 = g.seq % 2 ^ 16 := rfl

/-- The last word of a message of four data words is the last of them. -/
theorem Msg.words_last {g : Msg} {x y z v : Nat} (h : g.data = [x, y, z, v]) : g.words.getD 7 0 = v := by
  simp [Msg.words, h]

@[simp] theorem Dev.mbLatch_box (d : Dev) (who : Master) (n : Nat) :
    (d.mbLatch who n).box n = { d.box n with latch := tput (d.box n).latch who.uid (d.box n).words } := d.setBox_box_self n _

@[simp] theorem Dev.mbTake_regs (d : Dev) (who : Master) (n : Nat) : (d.mbTake who n).1.regs = d.regs := rfl

/-- A receiver whose latch holds the message that waits takes it. -/
theorem Dev.mbTake_latched {d : Dev} {who : Master} {n : Nat} {g : Msg} (hm : (d.box n).msg = some g)
    (hl : tget (d.box n).latch who.uid = some g.words) :
    (d.mbTake who n).2 = g.words.getD 7 0 ∧ ((d.mbTake who n).1.box n).msg = none := by
  have hl' : tgetD (d.box n).latch who.uid (d.box n).words = g.words := by simp [tgetD, hl]
  unfold Dev.mbTake
  simp only [hm, hl', g.bit_words_valid, g.words_seq, beq_self_eq_true, Bool.and_self, if_true, Dev.setBox_box_self, and_self]

/-- Settles O54, by the two outcomes of a post and what a latch and a take do to the mailbox. -/
theorem mailboxDeliversOnce : Obligations.MailboxDeliversOnce := by
  unfold Obligations.MailboxDeliversOnce
  intro d who r n v x y z hs hen hst
  refine ⟨fun hempty => ?posted, fun g hfull => ?refused⟩
  case posted =>
    rw [Dev.mbPost_empty v hs hen hempty]
    have hbox := d.mbPosted_box who n v
    have hmsg : ((d.mbPosted who n v).box n).msg = some (d.postedMsg who n v) := by rw [hbox]
    have hdata : (d.postedMsg who n v).data = [x, y, z, v % 2 ^ 32] := by simp [Dev.postedMsg, hst]
    have hlatched : tget (((d.mbPosted who n v).mbLatch r n).box n).latch r.uid = some (d.postedMsg who n v).words := by
      simp [Mailbox.words, hmsg]
    have hstill : (((d.mbPosted who n v).mbLatch r n).box n).msg = some (d.postedMsg who n v) := by simp [hmsg]
    obtain ⟨hlast, htaken⟩ := Dev.mbTake_latched hstill hlatched
    have hunstaged : tget ((d.mbPosted who n v).box n).staging who.uid = none := by rw [hbox]; exact tget_tdel_self ..
    exact ⟨rfl, d.mbPosted who n v, d.postedMsg who n v, rfl, hmsg, rfl, hdata, rfl, hunstaged, hstill, hlatched,
      hlast.trans (Msg.words_last hdata), htaken, Dev.mbTake_regs ..⟩
  case refused =>
    rw [Dev.mbPost_full v hs hfull]
    have hbox (d' : Dev) (b : Mailbox) : ((d'.setBox n b).mbRefuse who (mbWordOff n 7)).1.box n = b :=
      (Dev.box_congr (Dev.mbRefuse_mbx ..) n).trans (d'.setBox_box_self n b)
    refine ⟨rfl, by rw [hbox]; exact hfull, by rw [hbox], ?count⟩
    have hkey : 0x1801C0 < (MBX_MBm_STAT_REFCNT n).key := by simp only [MBX_MBm_STAT_REFCNT]; omega
    have hne : (MBX_MBm_STAT_REFCNT n).key ≠ MBX_STAT_REFUSED.key := by simp only [MBX_MBm_STAT_REFCNT, MBX_STAT_REFUSED]; omega
    have hpost := not_mem_postKeys (.inr hkey)
    have hinc : (d.inc (MBX_MBm_STAT_REFCNT n)).rd (MBX_MBm_STAT_REFCNT n) = min (d.rd (MBX_MBm_STAT_REFCNT n) + 1) 0xFFFF := d.rd_inc_self _
    rw [Dev.rd_mbRefuse _ who _ hne hpost, Dev.setBox_rd, ← hinc]
    cases (d.box n).refused with
    | true => rw [Bool.not_true, Dev.when_false]
    | false => rw [Bool.not_false, Dev.when_true, Dev.rd_postEvent _ _ _ _ _ _ hpost]

end Sys2Proof.Machine

/-! CAN transmit buffers (spec/14): O56 -/

namespace Sys2Proof.Machine

/-! ### A notification's doorbell beyond the 512 that exist (R384, R366) -/

/-- A device whose `CAN_NOTIFY.DB` holds a number that its nine bits cannot: the pending word of that doorbell would have the home of the
state of transmit buffer 0, which is PENDING. No write stores such a number, but the statement speaks of every state. -/
def notifyOutOfRange : Dev := { State.reset.dev with
  regs := [((CAN_TXBb_STAT_TXST 0 0).key, txPending), ((CAN_NOTIFY_DBEN 0).key, 1), ((CAN_NOTIFY_DB 0).key, 32 * 0x1B00F2 + 1)] }

theorem notifyOutOfRange_shared_home : (MBX_DBPENDi_PEND 0x1B00F2).key = (CAN_TXBb_STAT_TXST 0 0).key := rfl

theorem notifyOutOfRange_pending : notifyOutOfRange.txst 0 0 = txPending := rfl

set_option maxRecDepth 20000 in
/-- The abort stores ABORTED, 5, and the doorbell that it rings then sets bit 1 of it. -/
theorem notifyOutOfRange_aborted : (notifyOutOfRange.txAbort 0 (2 ^ 0)).txst 0 0 = 7 := by decide

/-- Refutes O56: in a state whose `CAN_NOTIFY.DB` is out of its range, the doorbell rung by an abort writes over the buffer's state. -/
theorem not_canTransmitRequests : ¬ Obligations.CanTransmitRequests := by
  unfold Obligations.CanTransmitRequests
  intro h
  obtain ⟨-, -, -, haborted, -⟩ := h notifyOutOfRange 0 0 (by decide) (by decide)
  have h5 := haborted notifyOutOfRange_pending
  rw [notifyOutOfRange_aborted] at h5
  exact absurd h5 (by decide)

end Sys2Proof.Machine

/-! Event recorder (spec/17): O58 -/

namespace Sys2Proof.Machine

/-! ### Where a post goes (R461, R462) -/

/-- The device with the note of a refusal that a post of some types leaves. -/
def Dev.noted (d : Dev) (typ : Nat) : Dev := if refusalTypes.contains typ then { d with refused := true } else d

@[simp] theorem Dev.noted_evr (d : Dev) (typ : Nat) : (d.noted typ).evr = d.evr := by
  unfold Dev.noted
  split <;> rfl

@[simp] theorem Dev.noted_regs (d : Dev) (typ : Nat) : (d.noted typ).regs = d.regs := by
  unfold Dev.noted
  split <;> rfl

theorem Dev.noted_rd (d : Dev) (typ : Nat) (f : Fld) : (d.noted typ).rd f = d.rd f := Dev.rd_congr (d.noted_regs typ) f

theorem Dev.noted_inhibit (d : Dev) (typ : Nat) : (d.noted typ).inhibit = d.inhibit := by
  unfold Dev.inhibit Dev.on
  rw [d.noted_rd]

/-- A record accepted as a new entry (R461). -/
def Dev.enqueued (d : Dev) (r : EvRec) : Dev :=
  let d := d.lossGiven
  let d := { d with evr := { d.evr with fifo := d.evr.fifo ++ [r], tailOk := true } }
  (d.wr EVR_FIFO_HWM (max (d.rd EVR_FIFO_HWM) d.evr.fifo.length)).inc EVR_ACCEPT_CNT

theorem Dev.postEvent_folds {d : Dev} {typ src detail : Nat} {e : Evr} (test : Bool)
    (h : d.evr.fold typ src (detail % 2 ^ 32) = some e) :
    d.postEvent typ src detail test = { d.noted typ with evr := e }.inc EVR_ACCEPT_CNT := by
  unfold Dev.postEvent
  rw [← Dev.noted]
  dsimp only
  rw [d.noted_evr, h]

theorem Dev.postEvent_discards {d : Dev} {typ src detail : Nat} (test : Bool)
    (h : d.evr.fold typ src (detail % 2 ^ 32) = none) (hfull : 256 ≤ d.evr.fifo.length) :
    d.postEvent typ src detail test = (d.noted typ).evrDiscard 1 := by
  unfold Dev.postEvent
  rw [← Dev.noted]
  dsimp only
  rw [d.noted_evr, h]
  exact if_pos (.inl hfull)

theorem Dev.postEvent_enqueues {d : Dev} {typ src detail : Nat} (test : Bool)
    (h : d.evr.fold typ src (detail % 2 ^ 32) = none) (hroom : d.evr.fifo.length < 256) (hi : d.inhibit = false)
    (hl : d.evr.logFail = false) :
    d.postEvent typ src detail test = (d.noted typ).enqueued ((d.noted typ).newRec typ src detail test) := by
  unfold Dev.postEvent
  rw [← Dev.noted]
  dsimp only
  rw [d.noted_evr, h]
  dsimp only
  rw [d.noted_inhibit, hi, hl, if_neg (by simpa using hroom)]
  rfl

/-! ### What each outcome leaves -/

/-- Nothing folds where no tail stands or a loss is to be marked. -/
theorem Evr.fold_of_no_tail {e : Evr} (h : e.tailOk = false ∨ e.lossDue = true) (typ src detail : Nat) : e.fold typ src detail = none := by
  unfold Evr.fold
  rw [if_neg]
  rcases h with h | h <;> simp [h]

theorem mapLast_append {α : Type} (f : α → α) (l : List α) (x : α) : mapLast f (l ++ [x]) = l ++ [f x] := by
  induction l with
  | nil => rfl
  | cons a l ih =>
    cases l with
    | nil => rfl
    | cons b l => exact congrArg (a :: ·) ih

/-- A post that matches the newest waiting entry folds into it. -/
theorem Evr.fold_last {e : Evr} {l : List EvRec} {r : EvRec} {typ src detail : Nat} (hl : e.fifo = l ++ [r]) (ht : e.tailOk = true)
    (hd : e.lossDue = false) (hs : r.same typ src detail = true) :
    e.fold typ src detail = some { e with fifo := l ++ [{ r with rep := r.rep + 1 }] } := by
  unfold Evr.fold
  rw [if_pos (by simp [ht, hd]), hl, List.getLast?_concat, mapLast_append]
  simp [hs]

theorem Dev.enqueued_evr (d : Dev) (r : EvRec) :
    (d.enqueued r).evr = { d.evr with lossDue := false, fifo := d.evr.fifo ++ [r], tailOk := true } := by
  have hfifo : d.lossGiven.evr = { d.evr with lossDue := false } := by
    unfold Dev.lossGiven
    cases d.evr.lossDue with
    | true => rfl
    | false => rfl
  simp only [Dev.enqueued, Dev.inc_evr, Dev.wr_evr, hfifo]

/-- Settles O58, by the three ways of a post. -/
theorem eventsFoldOrQueue : Obligations.EventsFoldOrQueue := by
  unfold Obligations.EventsFoldOrQueue
  intro d typ src detail test hdet
  refine ⟨fun l r hfifo htail hloss htyp hsrc hdetail hrep => ?folded, fun hnone hroom hinh hlog => ?queued, fun hnone hfull => ?lost⟩
  case folded =>
    have hsame : r.same typ src (detail % 2 ^ 32) = true := by
      rw [Nat.mod_eq_of_lt hdet]
      simp [EvRec.same, htyp, hsrc, hdetail, hrep]
    rw [Dev.postEvent_folds test (Evr.fold_last hfifo htail hloss hsame)]
    rfl
  case queued =>
    have hevr := congrArg Dev.evr (Dev.postEvent_enqueues test (Evr.fold_of_no_tail hnone typ src (detail % 2 ^ 32)) hroom hinh hlog)
    rw [Dev.enqueued_evr, Dev.noted_evr] at hevr
    rw [hevr]
    exact ⟨_, rfl, rfl, rfl, Nat.mod_eq_of_lt hdet, rfl, rfl, congrArg Evr.lossDue (d.noted_evr typ), rfl⟩
  case lost =>
    rw [Dev.postEvent_discards test (Evr.fold_of_no_tail hnone typ src (detail % 2 ^ 32)) hfull]
    have hcount : ((d.noted typ).evrDiscard 1).rd EVR_LOST_CNT = min (d.rd EVR_LOST_CNT + 1) (2 ^ 64 - 1) := by
      rw [← d.noted_rd typ]
      exact (d.noted typ).rd_incBy_self EVR_LOST_CNT 1
    exact ⟨by rw [← d.noted_evr typ]; rfl, rfl, hcount⟩

end Sys2Proof.Machine

/-! MSI-X vectors (spec/18): O60 -/

namespace Sys2Proof.Machine

/-! ### Pending bits (R480, R481) -/

theorem pend_key_ne {i j : Nat} (h : i ≠ j) : (HIF_PENDi_PEND i).key ≠ (HIF_PENDi_PEND j).key := by
  simp only [HIF_PENDi_PEND]
  omega

theorem bit_mod_word (v : Nat) {i : Nat} (h : i < 32) : bit (v % 2 ^ 32) i = bit v i := by
  simp only [bit_eq_testBit, Nat.testBit_mod_two_pow, h, decide_true, Bool.true_and]

theorem bit_setBits_self (v i : Nat) (b : Bool) : bit (setBits v i 1 (b01 b)) i = b := by
  unfold bit
  rw [setBits_bits]
  cases b <;> rfl

/-- The bits of a number that another bit of it does not touch, above it or below. -/
theorem bit_setBits_other (v : Nat) {i j x : Nat} (h : i ≠ j) : bit (setBits v j 1 x) i = bit v i := by
  rcases Nat.lt_or_gt_of_ne h with h | h
  · exact bit_setBits_ne v h
  · exact congrArg (· == 1) (bits_setBits_other v x (.inl h))

theorem Dev.vecPending_setVecPending_self (d : Dev) (v : Nat) (b : Bool) : (d.setVecPending v b).vecPending v = b := by
  have hlt : v % 32 < 32 := Nat.mod_lt v (by decide)
  calc (d.setVecPending v b).vecPending v
      = bit (setBits (d.rd (HIF_PENDi_PEND (v / 32))) (v % 32) 1 (b01 b) % 2 ^ 32) (v % 32) := congrArg (bit · (v % 32)) (Dev.rd_wr_self ..)
    _ = b := by rw [bit_mod_word _ hlt, bit_setBits_self]

/-- A vector's pending bit does not touch another's. -/
theorem Dev.vecPending_setVecPending_ne (d : Dev) {v u : Nat} (b : Bool) (h : u ≠ v) : (d.setVecPending v b).vecPending u = d.vecPending u := by
  have hlt : u % 32 < 32 := Nat.mod_lt u (by decide)
  unfold Dev.vecPending Dev.setVecPending
  by_cases hword : u / 32 = v / 32
  · have hbit : u % 32 ≠ v % 32 := by omega
    rw [hword, Dev.rd_wr_self]
    exact (bit_mod_word _ hlt).trans (bit_setBits_other _ hbit)
  · rw [Dev.rd_wr_ne _ _ (pend_key_ne hword)]

theorem Dev.rd_setVecPending_ne (d : Dev) (v : Nat) (b : Bool) {g : Fld} (h : g.key ≠ (HIF_PENDi_PEND (v / 32)).key) :
    (d.setVecPending v b).rd g = d.rd g := d.rd_wr_ne _ h

theorem Dev.vecPending_sendVec (d : Dev) (v u : Nat) : (d.sendVec v).vecPending u = d.vecPending u := by
  have hkey : (HIF_PENDi_PEND (u / 32)).key ≠ HIF_MSIXSENT_CNT.key := by
    simp only [HIF_PENDi_PEND, HIF_MSIXSENT_CNT]
    omega
  exact congrArg (bit · (u % 32)) (Dev.rd_inc_ne (d.emit _) hkey)

/-- What decides whether a vector can be sent: the link and the host's configuration. -/
theorem Dev.vecOpen_congr {d d' : Dev} (hlink : d'.rd HIF_STAT_LINK = d.rd HIF_STAT_LINK) (hhif : d'.hif = d.hif) (u : Nat) :
    d'.vecOpen u = d.vecOpen u := by
  simp only [Dev.vecOpen, Dev.hostReachable, Dev.on, Dev.vector, hlink, hhif]

theorem Dev.vecOpen_setVecPending (d : Dev) (v u : Nat) (b : Bool) : (d.setVecPending v b).vecOpen u = d.vecOpen u := by
  refine Dev.vecOpen_congr (d.rd_setVecPending_ne v b ?_) rfl u
  simp only [HIF_PENDi_PEND, HIF_STAT_LINK]
  omega

theorem Dev.vecOpen_sendVec (d : Dev) (v u : Nat) : (d.sendVec v).vecOpen u = d.vecOpen u :=
  Dev.vecOpen_congr (Dev.rd_inc_ne (d.emit _) (by decide)) rfl u

/-! ### Posts of a vector -/

theorem Dev.postVec_pending {d : Dev} {v : Nat} (h : d.vecPending v = true) : d.postVec v = d.inc HIF_MSIXMERGE_CNT := by
  simp [Dev.postVec, h]

theorem Dev.postVec_closed {d : Dev} {v : Nat} (hp : d.vecPending v = false) (ho : d.vecOpen v = false) :
    d.postVec v = d.setVecPending v true := by
  simp [Dev.postVec, hp, ho]

theorem Dev.postVec_merged {d : Dev} {v : Nat} (hp : d.vecPending v = false) (ho : d.vecOpen v = true)
    (ht : tget d.hif.posted v = some d.tb.lt) : d.postVec v = d.inc HIF_MSIXMERGE_CNT := by
  simp [Dev.postVec, hp, ho, ht]

theorem Dev.postVec_sent {d : Dev} {v : Nat} (hp : d.vecPending v = false) (ho : d.vecOpen v = true)
    (ht : tget d.hif.posted v ≠ some d.tb.lt) :
    d.postVec v = (d.sendVec v).modHif (fun x => { x with posted := tput d.hif.posted v d.tb.lt }) := by
  simp [Dev.postVec, hp, ho, ht]
  rfl

theorem Dev.answers_msixPost (d : Dev) {v : Nat} {d' : Dev} (hr : d.inReset = false) (hv : v < 256) (h : d.postVec v = d') :
    d.answers (.msixPost v) d' :=
  d.answers_core (ok := decide (v < 256)) (f := fun d => d.postVec v) (fun _ => rfl) (decide_eq_true hv) hr h

/-! ### The pending vectors flushed -/

/-- One vector's turn when the pending vectors are flushed. -/
def Dev.flushVec (v : Nat) (d : Dev) : Dev := if d.vecPending v && d.vecOpen v then (d.setVecPending v false).sendVec v else d

theorem Dev.flushVecs_eq (d : Dev) : d.flushVecs = forNums 256 Dev.flushVec d := rfl

/-- A vector does not wait that could be sent. -/
def Dev.vecSettled (d : Dev) (v : Nat) : Prop := ¬(d.vecPending v = true ∧ d.vecOpen v = true)

theorem Dev.vecSettled_flushVec (d : Dev) (v : Nat) : (d.flushVec v).vecSettled v := by
  unfold Dev.flushVec
  split
  case isTrue =>
    rintro ⟨hp, -⟩
    rw [Dev.vecPending_sendVec, Dev.vecPending_setVecPending_self] at hp
    cases hp
  case isFalse h => exact fun hboth => h (Bool.and_eq_true_iff.mpr hboth)

/-- The turn of one vector leaves another settled. -/
theorem Dev.vecSettled.flushVec {d : Dev} {u : Nat} (h : d.vecSettled u) {v : Nat} (huv : u ≠ v) : (d.flushVec v).vecSettled u := by
  unfold Dev.flushVec
  split
  · rintro ⟨hp, ho⟩
    rw [Dev.vecPending_sendVec, Dev.vecPending_setVecPending_ne _ _ huv] at hp
    rw [Dev.vecOpen_sendVec, Dev.vecOpen_setVecPending] at ho
    exact h ⟨hp, ho⟩
  · exact h

/-- After the turns of the first n vectors, each of them is settled. -/
theorem Dev.vecSettled_flushed (d : Dev) (n v : Nat) (hv : v < n) : (forNums n Dev.flushVec d).vecSettled v := by
  induction n with
  | zero => omega
  | succ n ih =>
    rw [forNums_succ]
    rcases Nat.lt_succ_iff_lt_or_eq.mp hv with hlt | rfl
    · exact (ih hlt).flushVec (Nat.ne_of_lt hlt)
    · exact Dev.vecSettled_flushVec _ _

/-- Settles O60: the four outcomes of a post, and the turns of a flush. -/
theorem interruptMessages : Obligations.InterruptMessages := by
  unfold Obligations.InterruptMessages
  refine ⟨fun d v hr hv => ⟨fun hp => ?pending, fun hp ho => ?closed, fun hp ho ht => ?merged, fun hp ho ht => ?sent⟩, fun d v hv => ?flush⟩
  case pending => exact d.answers_msixPost hr hv (Dev.postVec_pending hp)
  case closed =>
    exact ⟨_, d.answers_msixPost hr hv (Dev.postVec_closed hp ho), d.vecPending_setVecPending_self v true, rfl,
      fun u _ hu => d.vecPending_setVecPending_ne true hu⟩
  case merged => exact d.answers_msixPost hr hv (Dev.postVec_merged hp ho ht)
  case sent =>
    refine ⟨_, d.answers_msixPost hr hv (Dev.postVec_sent hp ho ht), ?_, rfl, ?_⟩
    · exact (d.vecPending_sendVec v v).trans hp
    · exact (d.emit _).rd_inc_self HIF_MSIXSENT_CNT
  case flush => exact d.vecSettled_flushed 256 v hv

end Sys2Proof.Machine

/-! Accesses that are turned away, software records and function resets (spec/15, spec/16, spec/17): O37, O59, O57 -/

namespace Sys2Proof.Machine

/-! ### Accesses that are turned away (R422, R453, R477, R524) -/

theorem Dev.hostShutOut_of_loading {d : Dev} {m : Master} {off : Nat} (hm : m.isHost = true) (hs : d.rd LDR_STAT_STATE < 5)
    (ho : (0x8000 ≤ off ∧ off < 0x10000) ∨ 0x40000 ≤ off) : d.hostShutOut m off = true := by
  simp only [Dev.hostShutOut, unlistedAtStart, hm, Bool.true_and, Bool.and_eq_true, Bool.or_eq_true, bne_iff_ne, ne_eq, decide_eq_true_eq]
  omega

theorem Dev.put32_shutOut {d : Dev} {m : Master} {off : Nat} (v : Nat) (h : d.hostShutOut m off = true) :
    d.put32 m off v = d.inc LDR_HOSTREF_REFS := by
  unfold Dev.put32 Dev.busWrite
  rw [if_pos h]

theorem Dev.put32_gated {d : Dev} {m : Master} {off : Nat} (v : Nat) (hs : d.hostShutOut m off = false) (hlow : off < 0x1000000)
    (ho : offReserved off = false) (hg : d.gatedAt off = true) : d.put32 m off v = d.gatedAccess off := by
  unfold Dev.put32 Dev.busWrite
  rw [if_neg (by simp [hs]), if_neg (by omega), if_neg (by simp [ho]), if_pos hg]

theorem Master.not_engine_of_host {m : Master} (h : m.isHost = true) : m.isEngine = false := by
  cases m with
  | pcie | spi => rfl
  | supervisor | dma | engine | loader => cases h

theorem Dev.put32_reserved {d : Dev} {m : Master} {off : Nat} (v : Nat) (hm : m.isHost = true) (hs : d.hostShutOut m off = false)
    (hlow : off < 0x1000000) (ho : offReserved off = true) : d.put32 m off v = d.hostBusError m off := by
  unfold Dev.put32 Dev.busWrite
  rw [if_neg (by simp [hs]), if_neg (by omega), if_pos ho, Dev.busErrorAt, m.not_engine_of_host hm, hm]
  rfl

/-- Settles O37, by the three ways in which a write is turned away. -/
theorem accessTurnedAway : Obligations.AccessTurnedAway := by
  unfold Obligations.AccessTurnedAway
  intro d m off v hr hw
  refine ⟨fun hm hs ho => ?shutOut, fun hs hlow ho hg => ?gated, fun hm hs hlow ho => ?reserved⟩
  case shutOut => exact d.answers_registerWrite hr hw (Dev.put32_shutOut _ (Dev.hostShutOut_of_loading hm hs ho))
  case gated => exact d.answers_registerWrite hr hw (Dev.put32_gated _ hs hlow ho hg)
  case reserved => exact d.answers_registerWrite hr hw (Dev.put32_reserved _ hm hs hlow ho)

/-! ### Places of registers that a command writes -/

/-- An offset is that of the last word of a register of the map that a master writes by its fields: what an accepted write needs. -/
structure RegRow.Reached (r : RegRow) (ix : List Nat) (off : Nat) : Prop where
  found : findReg off = some (r.last ix)
  place : (r.last ix).off + 4 * (r.last ix).word = off := by decide
  low : off < 0x1000000 := by decide
  mapped : offReserved off = false := by decide
  noWindow : winAt off = none := by decide
  fields : r.kind.window = false := by rfl
  words : (r.last ix).word + 1 = r.words := by rfl
  writable : r.writable = true := by rfl

/-- A command that writes a register's last word, where the write is accepted. -/
theorem Dev.answers_reached (d : Dev) {c : Instr} {ok : Bool} {m : Master} {off : Nat} {v : BitVec 32} {r : RegRow} {ix : List Nat}
    {x : Nat} {d' : Dev} (h : ∀ s, exec c s = s.busW ok m off v) (hk : (m.ok && ok) = true) (hr : d.inReset = false)
    (hs : r.Reached ix off) (hx : d.committed m (r.last ix) (d.presentValue (r.last ix)) v.toNat = x)
    (ha : d.accepts m (r.last ix) x = true) (he : (d.dropStaged m (r.last ix)).regApply m (r.last ix) x = d') : d.answers c d' := by
  obtain ⟨hf, ho, h1, h2, h3, hw, hl, hwr⟩ := hs
  exact d.answers_write h hk hr hf ho h1 h2 h3 hw hl hwr hx ha he

/-- The same for a register of one word, whose committed value is the word written. -/
theorem Dev.answers_reachedWord (d : Dev) {c : Instr} {ok : Bool} {m : Master} {off : Nat} {v : BitVec 32} {r : RegRow} {ix : List Nat}
    {d' : Dev} (h : ∀ s, exec c s = s.busW ok m off v) (hk : (m.ok && ok) = true) (hr : d.inReset = false)
    (hs : r.Reached ix off) (hx : r.words = 1) (ha : d.accepts m (r.last ix) v.toNat = true)
    (he : (d.dropStaged m (r.last ix)).regApply m (r.last ix) v.toNat = d') : d.answers c d' :=
  d.answers_reached h hk hr hs (d.committed_word m _ v hx) ha he

/-! ### Software records (R471) -/

theorem reached_injData : row_EVR_INJDATA.Reached [] 0x30064 where
  found := at_EVR_INJDATA

theorem reached_inject : row_EVR_INJECT.Reached [] 0x30060 where
  found := at_EVR_INJECT

theorem Dev.answers_injectDataStage (d : Dev) {m : Master} {v : BitVec 32} (hr : d.inReset = false) (hm : m.ok = true)
    (ha : d.accepts m (row_EVR_INJDATA.last []) v.toNat = true) :
    d.answers (.injectDataStage m v) ((d.dropStaged m (row_EVR_INJDATA.last [])).injectStage m v.toNat) :=
  d.answers_reachedWord (fun _ => rfl) ((Bool.and_true _).trans hm) hr reached_injData rfl ha rfl

theorem Dev.answers_inject (d : Dev) {m : Master} {v : BitVec 32} (hr : d.inReset = false) (hm : m.ok = true)
    (ha : d.accepts m (row_EVR_INJECT.last []) v.toNat = true) :
    d.answers (.inject m v) ((d.dropStaged m (row_EVR_INJECT.last [])).inject m v.toNat) :=
  d.answers_reachedWord (fun _ => rfl) ((Bool.and_true _).trans hm) hr reached_inject rfl ha rfl

@[simp] theorem Dev.dropStaged_evr (d : Dev) (m : Master) (a : RegAt) : (d.dropStaged m a).evr = d.evr := rfl

/-- A record that a master injects carries the detail word that it has staged. -/
theorem Dev.inject_staged {d : Dev} {m : Master} {x : Nat} (h : tget d.evr.injdata m.uid = some x) (w : Nat) :
    d.inject m w = d.postEvent (0x10F0 + bits w 0 4) m.uid x true := by
  simp [Dev.inject, tgetD, h, bits]

/-- Settles O59, by the two writes. -/
theorem softwareRecords : Obligations.SoftwareRecords := by
  unfold Obligations.SoftwareRecords
  intro d m v w hr hm hstage hinject
  let d1 := (d.dropStaged m (row_EVR_INJDATA.last [])).injectStage m v.toNat
  have hstaged : tget (d1.dropStaged m (row_EVR_INJECT.last [])).evr.injdata m.uid = some v.toNat := by
    rw [← bitVec32_mod v]
    exact tget_tput_self ..
  refine ⟨d1, _, _, d.answers_injectDataStage hr hm hstage, rfl, fun u hu => tget_tput_ne _ _ hu, d1.answers_inject hr hm hinject, rfl, ?_⟩
  exact Dev.inject_staged hstaged w.toNat

/-! ### Function resets (R430, R434) -/

theorem Dev.fnReset_other {d : Dev} {uid : Nat} (f : Dev → Dev) (h : ¬d.resetting uid) : d.fnReset uid f = d := by
  unfold Dev.fnReset
  exact if_neg (by simpa [Dev.resetting] using h)

/-- A request while another is carried out is refused (R430). -/
theorem Dev.fnResetWrite_busy {d : Dev} {m : Master} {uid : Nat} (hu : uid < 4096) (h0 : resettable uid = true)
    (h1 : d.on SUP_FNLAST_BUSY = true) :
    d.fnResetWrite m (BitVec.ofNat 32 (0xC3000000 + uid)).toNat = (d.put SUP_STAT_REFUSED true).postEvent 0x0107 0x000 0x10010 := by
  have hword : (BitVec.ofNat 32 (0xC3000000 + uid)).toNat = 0xC3000000 + uid := by
    rw [BitVec.toNat_ofNat, Nat.mod_eq_of_lt (by omega)]
  have huid : bits (0xC3000000 + uid) 0 12 = uid := by unfold bits; omega
  have hkey : bits (0xC3000000 + uid) 24 8 = 0xC3 := by unfold bits; omega
  rw [hword]
  unfold Dev.fnResetWrite
  rw [huid, hkey, if_neg (by decide), if_neg (by simp [h0]), if_pos h1]
  rfl

/-- The request for a unit's reset that the supervisor has taken up (R430). -/
def Dev.fnRequested (d : Dev) (m : Master) (uid : Nat) : Dev :=
  (((d.wr SUP_FNRST_UID uid).wr SUP_FNLAST_TARGET uid).wr SUP_FNLAST_REQ m.uid).put SUP_FNLAST_BUSY true

theorem Master.uid_lt {m : Master} (h : m.ok = true) : m.uid < 4096 := by
  cases m with
  | dma c | engine c =>
    have hc := of_decide_eq_true h
    simp only [Master.uid]
    omega
  | pcie | spi | supervisor | loader => decide

theorem Dev.fnRequested_resetting (d : Dev) (m : Master) {uid : Nat} (hu : uid < 4096) : (d.fnRequested m uid).resetting uid := by
  refine ⟨Dev.on_put_self _ _ true rfl, ?_⟩
  unfold Dev.fnRequested
  rw [Dev.rd_put_ne _ _ (by decide), Dev.rd_wr_ne _ _ (by decide), Dev.rd_wr_self]
  exact Nat.mod_eq_of_lt hu

theorem Dev.fnRequested_req (d : Dev) {m : Master} (uid : Nat) (hm : m.ok = true) : (d.fnRequested m uid).rd SUP_FNLAST_REQ = m.uid := by
  unfold Dev.fnRequested
  rw [Dev.rd_put_ne _ _ (by decide), Dev.rd_wr_self]
  exact Nat.mod_eq_of_lt (m.uid_lt hm)

theorem Dev.sameBut_fnRequested (d : Dev) (m : Master) (uid : Nat) :
    d.sameBut (d.fnRequested m uid) [SUP_FNRST_UID, SUP_FNLAST_TARGET, SUP_FNLAST_REQ, SUP_FNLAST_BUSY] := by
  refine ⟨fun g hg => ?_, rfl⟩
  simp only [List.forall_mem_cons] at hg
  obtain ⟨huid, htarget, hreq, hbusy, -⟩ := hg
  unfold Dev.fnRequested
  rw [Dev.rd_put_ne _ _ hbusy, Dev.rd_wr_ne _ _ hreq, Dev.rd_wr_ne _ _ htarget, Dev.rd_wr_ne _ _ huid]

/-- Settles O57: a request that is taken up, one that is refused, and the resets that are not due. -/
theorem functionResetRequests : Obligations.FunctionResetRequests := by
  unfold Obligations.FunctionResetRequests
  intro d m uid hr hw
  have hw' : m.ok = true ∧ uid < 4096 := by simpa [wellFormed] using hw
  obtain ⟨hm, hu⟩ := hw'
  refine ⟨fun ha hres h2 => ⟨fun hfree => ?taken, fun hbusy => ?refused⟩, fun q hq hn => ?queue, fun n hn hno => ?mailbox⟩
  case taken =>
    refine ⟨(d.dropStaged m (row_SUP_FNRST.last [])).fnRequested m uid, ?_, Dev.fnRequested_resetting _ m hu, Dev.fnRequested_req _ uid hm,
      Dev.sameBut_of_dropStaged (Dev.sameBut_fnRequested _ m uid)⟩
    exact d.answers_supWrite (k := .fnRst) (fun _ => rfl) hw hr at_SUP_FNRST {} ha (Dev.fnResetWrite_starts hu hres hfree h2)
  case refused =>
    exact d.answers_supWrite (k := .fnRst) (fun _ => rfl) hw hr at_SUP_FNRST {} ha (Dev.fnResetWrite_busy hu hres hbusy)
  case queue =>
    exact d.answers_core (ok := decide (q < 1024)) (f := fun d => d.fnReset (0x100 + q) (fun d => d.queueReset q)) (fun _ => rfl)
      (decide_eq_true hq) hr (Dev.fnReset_other _ hn)
  case mailbox =>
    exact d.answers_core (ok := decide (n < 256)) (f := fun d => d.fnReset (0x600 + n) (fun d => d.mbReset n)) (fun _ => rfl)
      (decide_eq_true hn) hr (Dev.fnReset_other _ hno)

end Sys2Proof.Machine

/-! Places of the registers that the commands of the *CommandsComplete statements write (spec/02 to spec/18) -/

namespace Sys2Proof.Machine

/-! ### Registers outside the windows of the map -/

/-- The number of a unit that a command names is in its range, where its operands are good. -/
theorem lt_of_ok {b : Bool} {n k : Nat} (h : (b && decide (n < k)) = true) : n < k := of_decide_eq_true (Bool.and_eq_true_iff.mp h).2

/-- An offset lies where the map has registers alone, and no window. -/
def inRegisters (off : Nat) : Prop :=
  (0x8000 ≤ off ∧ off < 0x70000) ∨ (0x80000 ≤ off ∧ off < 0x1B0000) ∨ (0x200000 ≤ off ∧ off < 0x480000)
    ∨ (0x500000 ≤ off ∧ off < 0x800000) ∨ (0x800000 ≤ off ∧ off < 0x1000000 ∧ off % 0x100000 < 0x20000)

theorem inRegisters.intro {off : Nat} (h : (0x8000 ≤ off ∧ off < 0x70000) ∨ (0x80000 ≤ off ∧ off < 0x1B0000)
    ∨ (0x200000 ≤ off ∧ off < 0x480000) ∨ (0x500000 ≤ off ∧ off < 0x800000)
    ∨ (0x800000 ≤ off ∧ off < 0x1000000 ∧ off % 0x100000 < 0x20000)) : inRegisters off := h

theorem inRegisters.low {off : Nat} (h : inRegisters off) : off < 0x1000000 := by
  unfold inRegisters at h
  omega

theorem inRegisters.mapped {off : Nat} (h : inRegisters off) : offReserved off = false := by
  unfold inRegisters at h
  simp only [offReserved, Bool.or_eq_false_iff, Bool.and_eq_false_iff, decide_eq_false_iff_not]
  omega

theorem inRegisters.noWindow {off : Nat} (h : inRegisters off) : winAt off = none := by
  rcases h with h | h | h | h | h
  · exact winAt_low (by omega) (by omega)
  · exact winAt_low (by omega) (by omega)
  · exact winAt_low (by omega) (by omega)
  · exact winAt_mid (by omega) (by omega)
  · exact winAt_depot (by omega) (by omega) (by omega)

/-- The place of a register whose last word the map finds. -/
theorem RegRow.Reached.of_found {r : RegRow} {ix : List Nat} {off : Nat} (found : findReg off = some (r.last ix))
    (place : r.base + instOff r.dims ix + 4 * (r.words - 1) = off) (hin : inRegisters off) (fields : r.kind.window = false)
    (words : (r.last ix).word + 1 = r.words) (writable : r.writable = true) : r.Reached ix off where
  found := found
  place := place
  low := hin.low
  mapped := hin.mapped
  noWindow := hin.noWindow
  fields := fields
  words := words
  writable := writable

/-! ### Each register -/

theorem reached_TB_SNAPn_CTRL {i : Nat} (h : i < 4) : row_TB_SNAPn_CTRL.Reached [i] (0x80100 + 0x40 * i) :=
  .of_found (at_TB_SNAPn_CTRL h) rfl (.intro (by omega)) rfl rfl rfl

theorem reached_TB_TDn_CFG {i : Nat} (h : i < 4) : row_TB_TDn_CFG.Reached [i] (0x81000 + 0x100 * i) :=
  .of_found (at_TB_TDn_CFG h) rfl (.intro (by omega)) rfl rfl rfl

theorem reached_TB_TDn_INCR_NOM {i : Nat} (h : i < 4) : row_TB_TDn_INCR_NOM.Reached [i] (0x8100C + 0x100 * i) :=
  .of_found (at_TB_TDn_INCR_NOM h) (Nat.add_right_comm ..) (.intro (by omega)) rfl rfl rfl

theorem reached_TB_TDn_SET {i : Nat} (h : i < 4) : row_TB_TDn_SET.Reached [i] (0x81020 + 0x100 * i) :=
  .of_found (at_TB_TDn_SET h) (Nat.add_right_comm ..) (.intro (by omega)) rfl rfl rfl

theorem reached_TB_TDn_STEP {i : Nat} (h : i < 4) : row_TB_TDn_STEP.Reached [i] (0x8102C + 0x100 * i) :=
  .of_found (at_TB_TDn_STEP h) (Nat.add_right_comm ..) (.intro (by omega)) rfl rfl rfl

theorem reached_TB_TDn_OFFS {i : Nat} (h : i < 4) : row_TB_TDn_OFFS.Reached [i] (0x81034 + 0x100 * i) :=
  .of_found (at_TB_TDn_OFFS h) (Nat.add_right_comm ..) (.intro (by omega)) rfl rfl rfl

theorem reached_PRT_CTRL {i : Nat} (h : i < 22) : row_PRT_CTRL.Reached [i] (0x100000 + 0x8000 * i) :=
  .of_found (at_PRT_CTRL h) rfl (.intro (by omega)) rfl rfl rfl

theorem reached_SCH_CTRL {i : Nat} (h : i < 22) : row_SCH_CTRL.Reached [i] (0x300000 + 0x8000 * i) :=
  .of_found (at_SCH_CTRL h) rfl (.intro (by omega)) rfl rfl rfl

theorem reached_KS_KEY {i : Nat} (h : i < 256) : row_KS_KEY.Reached [i] (0x23003C + 0x40 * i) :=
  .of_found (at_KS_KEY h) (Nat.add_right_comm ..) (.intro (by omega)) rfl rfl rfl

theorem reached_TRN_CFG {i : Nat} (h : i < 2) : row_TRN_CFG.Reached [i] (0x400000 + 0x4000 * i) :=
  .of_found (at_TRN_CFG h) rfl (.intro (by omega)) rfl rfl rfl

theorem reached_TRN_MCTRL {i : Nat} (h : i < 2) : row_TRN_MCTRL.Reached [i] (0x400030 + 0x4000 * i) :=
  .of_found (at_TRN_MCTRL h) rfl (.intro (by omega)) rfl rfl rfl

theorem reached_TRN_MCMD {i : Nat} (h : i < 2) : row_TRN_MCMD.Reached [i] (0x400080 + 0x4000 * i) :=
  .of_found (at_TRN_MCMD h) rfl (.intro (by omega)) rfl rfl rfl

theorem reached_SAU_S_CFG {i : Nat} (h : i < 256) : row_SAU_S_CFG.Reached [i] (0x510000 + 0x80 * i) :=
  .of_found (at_SAU_S_CFG h) rfl (.intro (by omega)) rfl rfl rfl

theorem reached_SAU_Mm_CFG {i : Nat} (h : i < 4) : row_SAU_Mm_CFG.Reached [i] (0x501000 + 0x100 * i) :=
  .of_found (at_SAU_Mm_CFG h) rfl (.intro (by omega)) rfl rfl rfl

theorem reached_PIN_IOn_XDRV {i : Nat} (h : i < 48) : row_PIN_IOn_XDRV.Reached [i] (0x601008 + 0x10 * i) :=
  .of_found (at_PIN_IOn_XDRV h) rfl (.intro (by omega)) rfl rfl rfl

theorem reached_PIN_GRP_CLK {i : Nat} (h : i < 2) : row_PIN_GRP_CLK.Reached [i] (0x602000 + 0x1000 * i) :=
  .of_found (at_PIN_GRP_CLK h) rfl (.intro (by omega)) rfl rfl rfl

theorem reached_PIN_GRP_START {i : Nat} (h : i < 2) : row_PIN_GRP_START.Reached [i] (0x602004 + 0x1000 * i) :=
  .of_found (at_PIN_GRP_START h) rfl (.intro (by omega)) rfl rfl rfl

theorem reached_PIN_GRP_HALT {i : Nat} (h : i < 2) : row_PIN_GRP_HALT.Reached [i] (0x602008 + 0x1000 * i) :=
  .of_found (at_PIN_GRP_HALT h) rfl (.intro (by omega)) rfl rfl rfl

theorem reached_PIN_GRP_FLAGSET {i : Nat} (h : i < 2) : row_PIN_GRP_FLAGSET.Reached [i] (0x602024 + 0x1000 * i) :=
  .of_found (at_PIN_GRP_FLAGSET h) rfl (.intro (by omega)) rfl rfl rfl

theorem reached_PIN_GRP_IMEMw {g w : Nat} (hg : g < 2) (hw : w < 64) : row_PIN_GRP_IMEMw.Reached [g, w] (0x602100 + 0x1000 * g + 4 * w) :=
  .of_found (at_PIN_GRP_IMEMw hg hw) (Nat.add_assoc ..).symm (.intro (by omega)) rfl rfl rfl

theorem reached_PIN_SEQ_CTRL {q : Nat} (h : q < 8) : row_PIN_SEQ_CTRL.Reached [q / 4, q % 4] (0x60242C + 0x1000 * (q / 4) + 0x80 * (q % 4)) :=
  .of_found (at_PIN_SEQ_CTRL h) (Nat.add_assoc ..).symm (.intro (by omega)) rfl rfl rfl

theorem reached_DEP_CTRL {i : Nat} (h : i < 8) : row_DEP_CTRL.Reached [i] (0x800000 + 0x100000 * i) :=
  .of_found (at_DEP_CTRL h) rfl (.intro (by omega)) rfl rfl rfl

theorem reached_DEP_SWAP {i : Nat} (h : i < 8) : row_DEP_SWAP.Reached [i] (0x800008 + 0x100000 * i) :=
  .of_found (at_DEP_SWAP h) rfl (.intro (by omega)) rfl rfl rfl

theorem reached_ENG_CTRL {q : Nat} (h : q < 64) : row_ENG_CTRL.Reached [q / 8, q % 8] (0x810000 + 0x100000 * (q / 8) + 0x1000 * (q % 8)) :=
  .of_found (at_ENG_CTRL h) (Nat.add_assoc ..).symm (.intro (by omega)) rfl rfl rfl

theorem reached_ENG_SWAP {q : Nat} (h : q < 64) : row_ENG_SWAP.Reached [q / 8, q % 8] (0x810050 + 0x100000 * (q / 8) + 0x1000 * (q % 8)) :=
  .of_found (at_ENG_SWAP h) (Nat.add_assoc ..).symm (.intro (by omega)) rfl rfl rfl

theorem reached_MEM_BANKb {i : Nat} (h : i < 64) : row_MEM_BANKb.Reached [i] (0x60000 + 0x10 * i) :=
  .of_found (at_MEM_BANKb h) rfl (.intro (by omega)) rfl rfl rfl

theorem reached_MBX_LKn_FORCE {i : Nat} (h : i < 64) : row_MBX_LKn_FORCE.Reached [i] (0x42008 + 0x10 * i) :=
  .of_found (at_MBX_LKn_FORCE h) rfl (.intro (by omega)) rfl rfl rfl

theorem reached_CAN_CTRL {i : Nat} (h : i < 2) : row_CAN_CTRL.Reached [i] (0x700000 + 0x8000 * i) :=
  .of_found (at_CAN_CTRL h) rfl (.intro (by omega)) rfl rfl rfl

theorem reached_CAN_TXREQ {i : Nat} (h : i < 2) : row_CAN_TXREQ.Reached [i] (0x700040 + 0x8000 * i) :=
  .of_found (at_CAN_TXREQ h) rfl (.intro (by omega)) rfl rfl rfl

theorem reached_CAN_TXABT {i : Nat} (h : i < 2) : row_CAN_TXABT.Reached [i] (0x700048 + 0x8000 * i) :=
  .of_found (at_CAN_TXABT h) rfl (.intro (by omega)) rfl rfl rfl

theorem reached_LDR_NORCMD : row_LDR_NORCMD.Reached [] 0x20050 where
  found := at_LDR_NORCMD

theorem reached_SUP_RST : row_SUP_RST.Reached [] 0x10018 where
  found := at_SUP_RST

theorem reached_EVR_CTRL : row_EVR_CTRL.Reached [] 0x30008 where
  found := at_EVR_CTRL

theorem reached_FAB_TBLCMD : row_FAB_TBLCMD.Reached [] 0x202000 where
  found := at_FAB_TBLCMD

theorem reached_HIF_CHc_CTAIL {i : Nat} (h : i < 8) : row_HIF_CHc_CTAIL.Reached [i] (0x9014 + 0x100 * i) :=
  .of_found (at_HIF_CHc_CTAIL h) rfl (.intro (by omega)) rfl rfl rfl

theorem reached_HIF_CHc_RTAIL {i : Nat} (h : i < 8) : row_HIF_CHc_RTAIL.Reached [i] (0x902C + 0x100 * i) :=
  .of_found (at_HIF_CHc_RTAIL h) rfl (.intro (by omega)) rfl rfl rfl

/-! ### Reads of a register's words (R535) -/

theorem Dev.takeLatched_some {d : Dev} {m : Master} {off w : Nat} (present : Nat) (h : wordOf d.latched m.uid off = some w) :
    d.takeLatched m off present = ({ d with latched := wordsDrop d.latched m.uid off (off + 4) }, w) := by
  simp only [Dev.takeLatched, h]

/-- A read of a word of a register that has no effect of its own on reads: its value, its RC fields cleared, what it removes. -/
theorem Dev.regRead_fields (d : Dev) (m : Master) {a : RegAt} (hk : a.row.kind.window = false) : d.regRead m a
    = (((d.readWord m a (d.view a)).1.readClears a).readRemoves a, .done (d.readWord m a (d.view a)).2) := by
  unfold Dev.regRead
  split <;> simp_all [RegKind.window]

theorem Dev.readClears_none (d : Dev) {a : RegAt} (h : ∀ f ∈ a.row.fields, f.acc ≠ .rc) : d.readClears a = d := by
  unfold Dev.readClears
  generalize a.row.fields = l at h
  induction l with
  | nil => rfl
  | cons f l ih =>
    obtain ⟨hf, hl⟩ := List.forall_mem_cons.mp h
    rw [List.foldl_cons, if_neg (fun hc => hf hc.1)]
    exact ih hl

/-- The device without a register's word among those that a master has latched. -/
def Dev.unlatched (d : Dev) (m : Master) (a : RegAt) : Dev :=
  { d with latched := wordsDrop d.latched m.uid (a.off + 4 * a.word) (a.off + 4 * a.word + 4) }

/-- A read of a higher word of a register answers what the read of its lowest word latched (R535). -/
theorem Dev.regRead_latched {d : Dev} {m : Master} {a : RegAt} {w : Nat} (hk : a.row.kind.window = false) (hw : a.word ≠ 0)
    (hc : ∀ f ∈ a.row.fields, f.acc ≠ .rc) (hl : wordOf d.latched m.uid (a.off + 4 * a.word) = some w) :
    d.regRead m a = ((d.unlatched m a).readRemoves a, .done w) := by
  rw [d.regRead_fields m hk, Dev.readWord, if_neg hw, Dev.takeLatched_some _ hl, Dev.readClears_none _ hc]
  rfl

/-- A command that reads a register's last word, where the reader has latched it: the word leaves the latch, and the register gives up what
such a read removes. -/
theorem Dev.answers_readLatched (d : Dev) {c : Instr} {ok : Bool} {m : Master} {off w : Nat} {r : RegRow} {ix : List Nat} {d' : Dev}
    (h : ∀ s, exec c s = s.busR ok m off) (hk : (m.ok && ok) = true) (hr : d.inReset = false)
    (found : findReg off = some (r.last ix)) (place : r.base + instOff r.dims ix + 4 * (r.words - 1) = off) (hin : inRegisters off)
    (ha : d.admits m (r.last ix) = true) (hl : wordOf d.latched m.uid ((r.last ix).off + 4 * (r.last ix).word) = some w)
    (he : ((d.unlatched m (r.last ix)).readRemoves (r.last ix)).emit (.read m.uid w) = d')
    (hwin : r.kind.window = false := by rfl) (hword : r.words - 1 ≠ 0 := by decide)
    (hrc : ∀ f ∈ r.fields, f.acc ≠ .rc := by decide) : d.answers c d' := by
  have hread := Dev.regRead_latched (a := r.last ix) hwin hword hrc hl
  exact d.answers_read h hk hr found place hin.low hin.mapped hin.noWindow ha (by rw [hread]; exact he)

end Sys2Proof.Machine

/-! Time base and stamps (spec/02): O3 -/

namespace Sys2Proof.Machine

/-! ### What a write of each register comes to, where nothing refuses it -/

theorem Dev.regApply_snapCtrl (d : Dev) (m : Master) (n : Nat) {v : Nat} (h : bit v 0 = true) :
    d.regApply m (row_TB_SNAPn_CTRL.last [n]) v = d.capture n := by
  show d.when (bit v 0) (fun d => d.capture n) = _
  rw [h, Dev.when_true]

/-- A step by software that R35 allows waits, first in its tick, and drops the tick's offsets (R54). -/
theorem Dev.softStep_allowed {d : Dev} {n : Nat} (off : Nat) (s : Step) (h : d.stepAllowed n = true) :
    d.softStep n off s = (d.setDom n { d.dom n with
      steps := (d.dom n).steps ++ [(s, true)], offsets := (d.dom n).offsets.filter (fun e => e.1 != d.tb.lt) }).wr (TB_TDn_STAT_CONS n) 0 :=
  if_pos h

theorem Dev.regApply_tdSet {d : Dev} (m : Master) {n : Nat} (v : Nat) (h : d.stepAllowed n = true) :
    d.regApply m (row_TB_TDn_SET.last [n]) v = (d.setDom n { d.dom n with
      steps := (d.dom n).steps ++ [(.goTo (ofTs96 v * 2 ^ 16), true)]
      offsets := (d.dom n).offsets.filter (fun e => e.1 != d.tb.lt) }).wr (TB_TDn_STAT_CONS n) 0 :=
  Dev.softStep_allowed _ _ h

theorem Dev.regApply_tdStep {d : Dev} (m : Master) {n : Nat} (v : Nat) (h : d.stepAllowed n = true) :
    d.regApply m (row_TB_TDn_STEP.last [n]) v = (d.setDom n { d.dom n with
      steps := (d.dom n).steps ++ [(.adv (toSigned 64 v * 2 ^ 16), true)]
      offsets := (d.dom n).offsets.filter (fun e => e.1 != d.tb.lt) }).wr (TB_TDn_STAT_CONS n) 0 :=
  Dev.softStep_allowed _ _ h

theorem Dev.regApply_incrNom {d : Dev} (m : Master) {n : Nat} (v : Nat) (h : d.on (TB_TDn_CFG_SERVO n) = false) :
    d.regApply m (row_TB_TDn_INCR_NOM.last [n]) v = (d.regStore (row_TB_TDn_INCR_NOM.last [n]) v).setEff n := by
  show (if d.on (TB_TDn_CFG_SERVO n) then _ else _) = _
  rw [h]
  rfl

/-- An offset given to a servo that runs on the source it comes from, with no step by software waiting (R29, R54). -/
theorem Dev.offerOffset_taken {d : Dev} {n psrc : Nat} (o : Int) (hs : d.on (TB_TDn_CFG_SERVO n) = true)
    (hp : d.rd (TB_TDn_CFG_PSRC n) = psrc) (hn : (d.dom n).steps.any (fun e => e.2) = false) :
    d.offerOffset n psrc o = d.setDom n { d.dom n with offsets := (d.dom n).offsets ++ [(d.tb.lt, o)] } := by
  simp [Dev.offerOffset, hs, hp, hn]

theorem Dev.regApply_tdOffs {d : Dev} (m : Master) {n : Nat} (v : Nat) (hs : d.on (TB_TDn_CFG_SERVO n) = true)
    (hp : d.rd (TB_TDn_CFG_PSRC n) = 1) (hn : (d.dom n).steps.any (fun e => e.2) = false) :
    d.regApply m (row_TB_TDn_OFFS.last [n]) v
      = d.setDom n { d.dom n with offsets := (d.dom n).offsets ++ [(d.tb.lt, toSigned 64 v)] } := by
  show (if d.on (TB_TDn_CFG_SERVO n) && d.rd (TB_TDn_CFG_PSRC n) == 1 then d.offerOffset n 1 (toSigned 64 v) else _) = _
  rw [if_pos (by simp [hs, hp]), Dev.offerOffset_taken _ hs hp hn]

theorem Dev.regApply_tdCfg_off {d : Dev} (m : Master) {n : Nat} {v : Nat} (hs : d.on (TB_TDn_CFG_SERVO n) = true) (hv : bit v 4 = false) :
    d.regApply m (row_TB_TDn_CFG.last [n]) v = ((d.regStore (row_TB_TDn_CFG.last [n]) v).servoOff n).timeChanged := by
  show (if d.on (TB_TDn_CFG_SERVO n) && !bit v 4 then _ else _) = _
  rw [hs, hv]
  rfl

/-! ### What each command does, where its condition holds -/

theorem Dev.snapshotValid_due {d : Dev} {n : Nat} (h : n ∈ d.tb.snapDue) : d.snapshotValid n
    = { d with tb := { d.tb with snapDue := d.tb.snapDue.filter (fun i => !(i == n)) } }.put (TB_SNAPn_CTRL_VALID n) true :=
  if_pos (List.contains_iff_mem.mpr h)

theorem Dev.domainStep_single {d : Dev} {n : Nat} {e : Step × Bool} (h : (d.dom n).steps = [e]) :
    d.domainStep n = ((((d.setDom n { d.dom n with steps := [] }).sauDue n).oneStep n e.1).sauStepped n (d.dom n).time
      (((((d.setDom n { d.dom n with steps := [] }).sauDue n).oneStep n e.1).dom n).time)).schsStepped n := by
  simp [Dev.domainStep, h]

theorem Dev.servoTurn_ready {d : Dev} {n t : Nat} {o : Int} {later : List (Nat × Int)} (h : (d.dom n).offsets = (t, o) :: later)
    (ht : t < d.tb.lt) : d.servoTurn n = ((d.setDom n { d.dom n with offsets := later }).servoUpdate n t o).timeChanged.muteUpdate n := by
  have hready : d.servoReady n = true := by simp [Dev.servoReady, h, ht]
  simp [Dev.servoTurn, Dev.servoNext, h, hready]

theorem Dev.servoTimeout_acquire {d : Dev} {n : Nat} (hs : d.on (TB_TDn_CFG_SERVO n) = true) (ha : d.rd (TB_TDn_STAT_STATE n) = 1)
    (hq : d.servoSilent n = true) : d.servoTimeout n
      = (((d.servoState n 0).setDom n { (d.servoState n 0).dom n with f := 0, integ := 0 }).setEff n).refreshEst n := by
  unfold Dev.servoTimeout
  rw [if_pos (by simp [hs, hq]), ha]
  rfl

theorem Dev.calibrate_good (d : Dev) (p : Nat) (tx : Bool) {taps : Nat} (h1 : 48 ≤ taps) (h2 : taps ≤ 96) : d.calibrate p tx taps
    = (fun (x : Dev) => (x.wr (if tx then TB_Pp_CAL_TXTAPS p else TB_Pp_CAL_RXTAPS p) taps).put (TB_Pp_CAL_CALOK p)
        (x.tdcOk p false && x.tdcOk p true))
      { d with tb := { d.tb with tdcs := tdcNum p tx :: d.tb.tdcs.filter (fun i => i != tdcNum p tx) } } :=
  if_pos ⟨h1, h2⟩

theorem Dev.ppsEdge_first {d : Dev} {rising : Bool} {width : Nat} (sub : Nat) (hen : d.on TB_PPSIN_CFG_EN = true)
    (hpol : rising = !d.on TB_PPSIN_CFG_POL) (hw : d.rd TB_PPSIN_CFG_MINW * 16 ≤ width) (hl : d.tb.ppsLast = none) :
    d.ppsEdge rising width sub = d.ppsAccept (d.ltToDom (d.rd TB_PPSIN_CFG_DOM) (Int.ofNat (d.tb.lt + sub % 64 * 4096))) := by
  unfold Dev.ppsEdge
  dsimp only
  rw [if_pos (by simp [hen, hpol, hw]), hl]

theorem Dev.ppsMiss_late {d : Dev} {last : Int} (hl : d.tb.ppsLast = some last) (hen : d.on TB_PPSIN_CFG_EN = true)
    (ht : last + Int.ofNat (sec16 + d.ppsWindow) ≤ Int.ofNat (d.domTime (d.rd TB_PPSIN_CFG_DOM))) :
    d.ppsMiss = (fun (x : Dev) => { x with tb := { x.tb with ppsLast := none } })
      ((d.inc TB_PPSIN_CNT_MISSING).postEvent 0x0B04 (0x0D0 + d.rd TB_PPSIN_CFG_DOM) d.tb.ppsCount) := by
  unfold Dev.ppsMiss
  rw [hl]
  dsimp only
  rw [if_pos (Bool.and_eq_true_iff.mpr ⟨hen, decide_eq_true ht⟩)]

theorem Dev.freqWindow_good {d : Dev} {ppb : Int} (hen : d.on TB_FREQIN_CFG_EN = true)
    (hw : absNat ppb ≤ d.rd TB_FREQIN_CFG_WIN * 1000) : d.freqWindow true ppb
      = (fun (x : Dev) => { x with tb := { x.tb with freqGood := x.tb.freqGood + 1 } })
        ((d.put TB_FREQIN_STAT_PRESENT true).wr TB_FREQIN_MEAS_MEAS (ofSigned 32 ppb)) := by
  have hwin : ((d.put TB_FREQIN_STAT_PRESENT true).wr TB_FREQIN_MEAS_MEAS (ofSigned 32 ppb)).rd TB_FREQIN_CFG_WIN = d.rd TB_FREQIN_CFG_WIN := by
    rw [Dev.rd_wr_ne _ _ (by decide), Dev.rd_put_ne _ _ (by decide)]
  unfold Dev.freqWindow
  dsimp only
  rw [if_pos hen, Dev.when_true, Bool.true_and, if_pos (decide_eq_true (by rw [hwin]; exact hw))]

theorem Dev.ppsoStart_next {d : Dev} {k : Nat} {e : Nat × Nat} (hen : d.on (TB_PPSOk_CFG_EN k) = true) (hg : d.ppsoGated k = false)
    (he : d.ppsoPulse k = some e) (hp : (tget d.tb.pulses k).map (·.1) ≠ some e.1) : d.ppsoStart k
      = (({ d with tb := { d.tb with pulses := tput d.tb.pulses k e } } : Dev).put (TB_PPSOk_STAT_ACTIVE k) true).emit (.ppso k e.1 true) := by
  unfold Dev.ppsoStart
  rw [he]
  dsimp only
  rw [if_pos (by simpa [hen, hg] using hp)]

theorem Dev.ppsoEnd_over {d : Dev} {k : Nat} {e : Nat × Nat} (hp : tget d.tb.pulses k = some e) (ha : d.on (TB_PPSOk_STAT_ACTIVE k) = true)
    (he : e.2 < d.tb.lt + tick16) : d.ppsoEnd k = (d.put (TB_PPSOk_STAT_ACTIVE k) false).emit (.ppso k e.2 false) := by
  unfold Dev.ppsoEnd
  rw [hp]
  dsimp only
  rw [if_pos (Bool.and_eq_true_iff.mpr ⟨ha, decide_eq_true he⟩)]

/-- Settles O3, clause by clause: each names what its command's write or effect comes to. -/
theorem timebaseCommandsComplete : Obligations.TimebaseCommandsComplete := by
  unfold Obligations.TimebaseCommandsComplete
  intro d hr
  refine ⟨?capture, ?snapshotValid, ?domainSet, ?domainStepWrite, ?incrNomWrite, ?offsetSubmit, ?servoDisable, ?domainStep, ?servoUpdate,
    ?servoHoldTimeout, ?estRecompute, ?tdcCalibration, ?ppsEdge, ?ppsMissed, ?freqWindowEnd, ?ppsoPulseStart, ?ppsoPulseStartNext,
    ?ppsoPulseEnd, ?departureRecordRead, ?domainReset, ?timestampUnitReset⟩
  case capture =>
    intro m n v hw ha
    exact d.answers_reachedWord (fun _ => rfl) hw hr (reached_TB_SNAPn_CTRL (lt_of_ok hw)) rfl ha
      (Dev.regApply_snapCtrl _ m n (bit_withField_one v (by decide)))
  case snapshotValid =>
    intro n hw hdue
    exact d.answers_core (f := fun d => d.snapshotValid n) (fun _ => rfl) hw hr (Dev.snapshotValid_due hdue)
  case domainSet =>
    intro m n v hw ha hstep
    exact d.answers_reached (fun _ => rfl) hw hr (reached_TB_TDn_SET (lt_of_ok hw)) rfl ha (Dev.regApply_tdSet m _ hstep)
  case domainStepWrite =>
    intro m n v hw ha hstep
    exact d.answers_reached (fun _ => rfl) hw hr (reached_TB_TDn_STEP (lt_of_ok hw)) rfl ha (Dev.regApply_tdStep m _ hstep)
  case incrNomWrite =>
    intro m n v hw ha hservo
    exact d.answers_reached (fun _ => rfl) hw hr (reached_TB_TDn_INCR_NOM (lt_of_ok hw)) rfl ha (Dev.regApply_incrNom m _ hservo)
  case offsetSubmit =>
    intro m n v hw ha hservo hsrc hsteps
    exact d.answers_reached (fun _ => rfl) hw hr (reached_TB_TDn_OFFS (lt_of_ok hw)) rfl ha
      (Dev.regApply_tdOffs m _ hservo hsrc hsteps)
  case servoDisable =>
    intro m n v hw ha hservo
    exact d.answers_reachedWord (fun _ => rfl) hw hr (reached_TB_TDn_CFG (lt_of_ok hw)) rfl ha
      (Dev.regApply_tdCfg_off m hservo (bit_withField_zero v (by decide)))
  case domainStep =>
    intro n e hw hsteps
    exact d.answers_core (f := fun d => d.domainStep n) (fun _ => rfl) hw hr (Dev.domainStep_single hsteps)
  case servoUpdate =>
    intro n t o later hw hoffs ht
    exact d.answers_core (f := fun d => d.servoTurn n) (fun _ => rfl) hw hr (Dev.servoTurn_ready hoffs ht)
  case servoHoldTimeout =>
    intro n hw hservo hstate hsilent
    exact d.answers_core (f := fun d => (d.servoTimeout n).timeChanged) (fun _ => rfl) hw hr
      (congrArg Dev.timeChanged (Dev.servoTimeout_acquire hservo hstate hsilent))
  case estRecompute =>
    exact d.answers_core (f := fun d => (forNums 4 (fun n d => d.refreshEst n) d).timeChanged) (fun _ => rfl) rfl hr rfl
  case tdcCalibration =>
    intro p tx taps hw h1 h2
    exact d.answers_core (f := fun d => d.calibrate p tx taps) (fun _ => rfl) hw hr (d.calibrate_good p tx h1 h2)
  case ppsEdge =>
    intro rising width sub hw hio hen hpol hwidth hlast
    exact d.answers_core (f := fun d => if d.sup.ioB then d.ppsEdge rising width sub else d) (fun _ => rfl) hw hr
      ((if_pos hio).trans (Dev.ppsEdge_first sub hen hpol hwidth hlast))
  case ppsMissed =>
    intro last hlast hen hlate
    exact d.answers_core (f := Dev.ppsMiss) (fun _ => rfl) rfl hr (Dev.ppsMiss_late hlast hen hlate)
  case freqWindowEnd =>
    rintro present ppb hw hio hen rfl hgood
    exact d.answers_core (f := fun d => d.freqWindow (true && d.sup.ioB) ppb) (fun _ => rfl) hw hr
      (by rw [hio, Bool.true_and]; exact Dev.freqWindow_good hen hgood)
  case ppsoPulseStart =>
    intro k e hw hen hgate hpulse hnone
    exact d.answers_core (f := fun d => d.ppsoStart k) (fun _ => rfl) hw hr (Dev.ppsoStart_next hen hgate hpulse (by simp [hnone]))
  case ppsoPulseStartNext =>
    intro k e b hw hen hgate hpulse hlast hne
    exact d.answers_core (f := fun d => d.ppsoStart k) (fun _ => rfl) hw hr
      (Dev.ppsoStart_next hen hgate hpulse (by simpa [hlast] using hne))
  case ppsoPulseEnd =>
    intro k e hw hpulse hactive hover
    exact d.answers_core (f := fun d => d.ppsoEnd k) (fun _ => rfl) hw hr (Dev.ppsoEnd_over hpulse hactive hover)
  case departureRecordRead =>
    intro m p w hw ha hl
    have hp := lt_of_ok hw
    exact d.answers_readLatched (fun _ => rfl) hw hr (at_TB_Pp_DRQ hp) (Nat.add_right_comm ..) (.intro (by omega)) ha hl rfl
  case domainReset =>
    intro n hw hb
    exact d.answers_fn (f := fun d => d.domainReset n) (fun _ => rfl) hw hr hb
  case timestampUnitReset => exact fun hb => d.answers_fn (fun _ => rfl) rfl hr hb

end Sys2Proof.Machine

/-! Ethernet ports (spec/03): O4 -/

namespace Sys2Proof.Machine

/-! ### The shared parts of the ports' commands -/

/-- The half-duplex ports are P20 and P21: what the operands of their commands are checked for first. -/
theorem serial_of_ok {p : Nat} {b : Bool} (h : (decide (20 ≤ p) && b) = true) : 20 ≤ p := of_decide_eq_true (Bool.and_eq_true_iff.mp h).1

theorem Dev.fnReset_target {d : Dev} {uid : Nat} (f : Dev → Dev) (h : d.resetting uid) : d.fnReset uid f = (f d).put SUP_FNLAST_BUSY false := by
  obtain ⟨hbusy, htarget⟩ := h
  simp [Dev.fnReset, hbusy, htarget]

/-- The trains watch the links of a change by what it leaves. -/
theorem Dev.watchLinks_congr {d : Dev} {f g : Dev → Dev} (h : f d = g d) : d.watchLinks f = d.watchLinks g := by
  unfold Dev.watchLinks
  rw [h]

theorem Dev.regApply_prtCtrl (d : Dev) (m : Master) (p v : Nat) : d.regApply m (row_PRT_CTRL.last [p]) v
    = d.watchLinks (fun d => (d.regStore (row_PRT_CTRL.last [p]) v).pwrdnWritten p (d.on (PRT_CTRL_PWRDN p)) (bit v 1)) := rfl

/-- An access of PLCA's media, or a collision, notes the medium's state on the ports that share one. -/
theorem Dev.mediumIdle_port {d : Dev} {p : Nat} (hp : 20 ≤ p) (mine : Bool) (start : Nat) :
    ((d.mediumIdle p mine start).port p).colls = (d.port p).colls ∧ ((d.mediumIdle p mine start).port p).lfsr = (d.port p).lfsr := by
  unfold Dev.mediumIdle
  simp [show ¬p < 20 by omega]

@[simp] theorem Dev.mediumIdle_rd (d : Dev) (p : Nat) (mine : Bool) (start : Nat) (f : Fld) : (d.mediumIdle p mine start).rd f = d.rd f := by
  unfold Dev.mediumIdle
  by_cases h : p < 20 <;> simp [h]

@[simp] theorem Dev.mediumIdle_tb (d : Dev) (p : Nat) (mine : Bool) (start : Nat) : (d.mediumIdle p mine start).tb = d.tb := by
  unfold Dev.mediumIdle
  by_cases h : p < 20 <;> simp [h]

theorem Dev.plcaHit_inactive {d : Dev} {p : Nat} (h : d.on (PRT_STAT_PLCAACT p) = false) : d.plcaHit p = d := by
  unfold Dev.plcaHit
  rw [h, Dev.when_false]

/-! ### Frames and mPackets that come in -/

theorem Dev.receive_frame {d : Dev} {p : Nat} {f : RxFrame}
    (h : (d.mediumIdle p false (d.tb.lt - f.ago * tick16)).takenByTrain p f.bytes = false) :
    d.receive p f = (d.mediumIdle p false (d.tb.lt - f.ago * tick16)).frameIn p f :=
  if_neg (by simp [h])

theorem Dev.mpacket_start {d : Dev} {p n : Nat} {f : MPacket} (hup : d.portUp p = true) (hs : f.smd = .start n) (ha : (d.port p).asm = none)
    (hl : f.last = false) : d.mpacket p f = (d.setPort p { d.port p with
      asm := some { num := n, next := 0, bytes := f.data, sub := f.sub, lt := d.tb.lt - f.ago * tick16, codeErr := f.codeErr } }).inc
      (PRT_FRAG_RX_CNT p) := by
  simp [Dev.mpacket, hup, hs, ha, hl]

theorem Dev.verifyReceived_up {d : Dev} {p : Nat} (hup : d.portUp p = true) (hp : p < 20) : d.verifyReceived p = d.emit (.respond p) :=
  if_pos (by simp [hup, hp])

theorem Dev.respondReceived_waited {d : Dev} {p : Nat} (hup : d.portUp p = true) (hv : d.rd (PRT_STAT_VERSTAT p) = 2) :
    d.respondReceived p = d.wr (PRT_STAT_VERSTAT p) 3 :=
  if_pos (by simp [hup, hv])

theorem Dev.verifyTimer_fails {d : Dev} {p : Nat} (hv : d.rd (PRT_STAT_VERSTAT p) = 2)
    (ht : (d.port p).verAt + d.rd (PRT_PREEMPT_VERTIME p) * (1000000 * 65536) ≤ d.tb.lt) (hn : 3 ≤ (d.port p).verifies) :
    d.verifyTimer p = (d.wr (PRT_STAT_VERSTAT p) 4).postEvent 0x0803 (prtUid p) (d.port p).verifies :=
  (if_pos ⟨hv, ht⟩).trans (if_pos hn)

/-! ### Links -/

theorem Dev.upWithAbility_fixed {d : Dev} {p : Nat} (w : BitVec 16) (remote : Bool) (han : d.on (PRT_CFG_ANEN p) = false) :
    d.upWithAbility p w remote = d.linkUpCondition p remote := by
  simp [Dev.upWithAbility, han]

theorem Dev.linkUpCondition_ready {d : Dev} {p : Nat} (remote : Bool) (h : d.laneReady p = true) : d.linkUpCondition p remote
    = ((d.put (PRT_STAT_LFAULT p) false).put (PRT_STAT_RFAULT p) (remote && d.rd (PRT_CFG_MODE p) == 0)).setPort p
      { d.port p with up := true, down := none, since := if (d.port p).up then (d.port p).since else d.tb.lt } :=
  if_pos h

theorem Dev.linkDownCondition_ready {d : Dev} {p : Nat} (cause : Nat) (remote : Bool) (h : d.laneReady p = true) :
    d.linkDownCondition p cause remote
      = (((d.put (PRT_STAT_LFAULT p) (cause == 1 || (cause == 4 && d.rd (PRT_CFG_MODE p) == 0))).put (PRT_STAT_RFAULT p)
        ((cause == 4 && d.rd (PRT_CFG_MODE p) == 3) || (remote && d.rd (PRT_CFG_MODE p) == 0))).setPort p
        { d.port p with up := false, down := some cause, since := if (d.port p).down.isSome then (d.port p).since else d.tb.lt }).when
        ((d.port p).down.isNone && (d.rd (PRT_CFG_MODE p) == 0 || d.rd (PRT_CFG_MODE p) == 3)) (fun d => d.emit (.lineFault p)) :=
  if_pos h

theorem Dev.linkUp_due {d : Dev} {p : Nat} (hup : (d.port p).up = true) (hl : d.laneReady p = true) (hd : d.on (PRT_STAT_LINK p) = false)
    (ht : (d.port p).since + d.rd (PRT_LINK_LUDEB p) * (1000000 * 65536) ≤ d.tb.lt) :
    d.linkUp p = ((((d.put (PRT_STAT_LINK p) true).put (PRT_STAT_LINKCHG p) true).wr (PRT_STAT_SPEED p)
      (speedCode (d.rd (PRT_CFG_MODE p)))).postEvent 0x0801 (prtUid p) (speedCode (d.rd (PRT_CFG_MODE p)))).verifyStart p := by
  unfold Dev.linkUp
  exact if_pos (by rw [hup, hl, hd, decide_eq_true ht]; rfl)

theorem Dev.linkDown_due {d : Dev} {p cause : Nat} (hd : (d.port p).down = some cause) (hl : d.on (PRT_STAT_LINK p) = true)
    (ht : (d.port p).since + d.rd (PRT_LINK_LDDEB p) * (100 * 65536) ≤ d.tb.lt) :
    d.linkDown p = (d.linkGoesDown p cause).offIfDue p := by
  unfold Dev.linkDown
  rw [hd]
  exact if_pos (by rw [hl, decide_eq_true ht]; rfl)

theorem Dev.mdioPoll_up {d : Dev} {p : Nat} (hp : 20 ≤ p) (hl : d.laneReady p = true) (ht : (d.port p).pollAt ≤ d.tb.lt) :
    d.mdioPoll p true
      = (d.setPort p { d.port p with pollAt := d.tb.lt + d.rd (PRT_HDX_MDPOLL p) * (1000000 * 65536) }).linkUpCondition p false := by
  unfold Dev.mdioPoll
  exact if_pos (by rw [decide_eq_true hp, hl, decide_eq_true ht]; rfl)

theorem Dev.laneUp_serial {d : Dev} {p : Nat} (sdOk : Bool) (rxTaps txTaps : Nat) (hoff : d.on (PRT_CTRL_PWRDN p) = false)
    (hrdy : d.on (PRT_STAT_PWRDY p) = false) (hp : 20 ≤ p) : d.laneUp p sdOk rxTaps txTaps
      = ((d.calibrate p false rxTaps).calibrate p true txTaps).put (PRT_STAT_PWRDY p)
        (((d.calibrate p false rxTaps).calibrate p true txTaps).on (TB_Pp_CAL_CALOK p)) := by
  have hlow : ¬p < 20 := by omega
  simp [Dev.laneUp, hoff, hrdy, hlow]

/-! ### Half duplex (R67 to R69) -/

theorem Dev.collision_again {d : Dev} {p : Nat} {t : Tx} (hp : 20 ≤ p) (ht : (d.port p).tx = some t) (hw : t.waits = false)
    (ha : d.on (PRT_STAT_PLCAACT p) = false) (hn : (d.port p).colls + 1 < d.rd (PRT_HDX_ATTLIM p)) : d.collision p
      = (((d.emit (.jam p)).mediumIdle p false d.tb.lt).inc (PRT_COLL_CNT p)).setPort p
        { ((d.emit (.jam p)).mediumIdle p false d.tb.lt).port p with
          colls := (d.port p).colls + 1, lfsr := Config.lfsrNext (d.port p).lfsr % 2 ^ 32
          backoff := Config.lfsrNext (d.port p).lfsr % 2 ^ 32 % 2 ^ min ((d.port p).colls + 1) 10
          backAt := d.tb.lt + bitTimes (32 + 512 * (Config.lfsrNext (d.port p).lfsr % 2 ^ 32 % 2 ^ min ((d.port p).colls + 1) 10))
          tx := some { t with waits := true } } := by
  let d1 := (d.emit (.jam p)).mediumIdle p false d.tb.lt
  obtain ⟨hcolls, hlfsr⟩ := Dev.mediumIdle_port (d := d.emit (.jam p)) hp false d.tb.lt
  have hhit : (d1.inc (PRT_COLL_CNT p)).plcaHit p = d1.inc (PRT_COLL_CNT p) := by
    refine Dev.plcaHit_inactive (Eq.trans ?_ ha)
    have hne : (PRT_STAT_PLCAACT p).key ≠ (PRT_COLL_CNT p).key := by simp only [PRT_STAT_PLCAACT, PRT_COLL_CNT]; omega
    exact congrArg (· == 1) ((Dev.rd_inc_ne d1 hne).trans (Dev.mediumIdle_rd ..))
  have hlim : (d1.inc (PRT_COLL_CNT p)).rd (PRT_HDX_ATTLIM p) = d.rd (PRT_HDX_ATTLIM p) := by
    have hne : (PRT_HDX_ATTLIM p).key ≠ (PRT_COLL_CNT p).key := by simp only [PRT_HDX_ATTLIM, PRT_COLL_CNT]; omega
    exact (Dev.rd_inc_ne d1 hne).trans (Dev.mediumIdle_rd ..)
  have hport : (d1.inc (PRT_COLL_CNT p)).port p = d1.port p := rfl
  have htb : (d1.inc (PRT_COLL_CNT p)).tb = d.tb := Dev.mediumIdle_tb ..
  unfold Dev.collision
  rw [ht]
  dsimp only
  rw [if_neg (by simp [hw]; omega), hhit, hlim, hport, htb, hcolls, hlfsr]
  exact if_neg (Nat.not_le.mpr hn)

theorem Dev.backoffExpiry_due {d : Dev} {p : Nat} {t : Tx} (sub : Nat) (ht : (d.port p).tx = some t) (hw : t.waits = true)
    (hat : (d.port p).backAt ≤ d.tb.lt) (hopen : d.plcaOpen p = true) : d.backoffExpiry p sub
      = ((d.plcaNote p).depart p t.desc sub).1.setPort p
        { ((d.plcaNote p).depart p t.desc sub).1.port p with
          backoff := 0, tx := some { ((d.plcaNote p).depart p t.desc sub).2 with waits := false } } := by
  unfold Dev.backoffExpiry
  rw [ht]
  exact if_pos (by rw [hw, decide_eq_true hat, hopen]; rfl)

theorem Dev.lateCollision_late {d : Dev} {p bitTime : Nat} {t : Tx} (hp : 20 ≤ p) (ht : (d.port p).tx = some t) (hw : t.waits = false)
    (hb : 512 < bitTime) : d.lateCollision p bitTime
      = (((((d.emit (.jam p)).mediumIdle p false d.tb.lt).plcaHit p).inc (PRT_DROP_LATECOL_CNT p)).postEvent 0x0805 (prtUid p)
        bitTime).dropCollided p t := by
  unfold Dev.lateCollision
  rw [ht]
  exact if_neg (by simp [hw]; omega)

theorem Dev.plca_rises {d : Dev} {p : Nat} (hp : 20 ≤ p) (hn : d.rd (PRT_PLCA_NODEID p) ≠ 255) (ha : d.on (PRT_STAT_PLCAACT p) = false) :
    d.plca p true = ((d.put (PRT_STAT_PLCAACT p) true).setPort p
      { d.port p with plcaAt := (d.rd (PRT_PLCA_NODECNT p), d.tb.lt, 0) }).plcaBeacon p := by
  unfold Dev.plca
  exact if_pos (by simp [hp, hn, ha])

theorem Dev.plca_falls {d : Dev} {p : Nat} (hp : 20 ≤ p) (ha : d.on (PRT_STAT_PLCAACT p) = true) :
    d.plca p false = (d.put (PRT_STAT_PLCAACT p) false).postEvent 0x0807 (prtUid p) 0 := by
  unfold Dev.plca
  exact if_pos (by simp [hp, ha])

/-! ### Flow control (R71 to R74) -/

theorem Dev.pauseEffect_cons {d : Dev} {p q : Nat} {later : List Nat} (h : (d.port p).pauseDue = q :: later) :
    d.pauseEffect p = ((d.setPort p { d.port p with pauseDue := later }).loadPause p 8 q).put (PRT_STAT_PAUSED p) (q != 0) := by
  simp only [Dev.pauseEffect, h]

theorem Dev.pfcEffect_cons {d : Dev} {p en : Nat} {qs : List Nat} {later : List (Nat × List Nat)}
    (h : (d.port p).pfcDue = (en, qs) :: later) : d.pfcEffect p
      = ((forNums 8 (fun c d => d.when (bit en c) (fun d => d.loadPause p c (qs.getD c 0))) d).setPort p
        { (forNums 8 (fun c d => d.when (bit en c) (fun d => d.loadPause p c (qs.getD c 0))) d).port p with pfcDue := later }).wr
        (PRT_STAT_PFCACT p) ((List.range 8).foldl (fun v c => if bit en c then setBits v c 1 (b01 (qs.getD c 0 != 0)) else v)
          (d.rd (PRT_STAT_PFCACT p))) := by
  simp only [Dev.pfcEffect, h]

theorem Dev.pauseExpiry_over {d : Dev} {p t : Nat} (h : d.pauseOver p t = true) : d.pauseExpiry p t
    = if t = 8 then d.put (PRT_STAT_PAUSED p) false else d.wr (PRT_STAT_PFCACT p) (setBits (d.rd (PRT_STAT_PFCACT p)) t 1 0) := by
  simp [Dev.pauseExpiry, h]

theorem Dev.pauseRefresh_due {d : Dev} {p : Nat} (hp : p < 20) (hcs : d.refreshDue p ≠ 0) (hq : d.rd (PRT_PAUSETX_QUANTA p) ≠ 0)
    (hl : d.on (PRT_STAT_LINK p) = true) : d.pauseRefresh p
      = d.setPort p { d.port p with
        own := (d.port p).own ++ [(d.refreshDue p, d.rd (PRT_PAUSETX_QUANTA p))]
        xoffAt := (numsWhere 9 (bit (d.refreshDue p))).foldl (fun t c => tput t c d.tb.lt) (d.port p).xoffAt } := by
  unfold Dev.pauseRefresh Dev.flowFrame
  rw [if_neg (Nat.not_le.mpr hp), if_neg (by simp [hcs, hl])]
  dsimp only
  rw [if_neg hq]

/-- Settles O4, clause by clause: each names what its command's write or effect comes to. -/
theorem portCommandsComplete : Obligations.PortCommandsComplete := by
  unfold Obligations.PortCommandsComplete
  intro d hr
  refine ⟨?frameReceived, ?mpacketReceived, ?verifyReceived, ?respondReceived, ?verifyTimer, ?upCondition, ?downCondition, ?linkUp, ?linkDown,
    ?mdioPoll, ?collision, ?backoffExpiry, ?lateCollision, ?plcaActive, ?plcaInactive, ?pause, ?pfc, ?pauseOver, ?classOver, ?refresh,
    ?powerDown, ?powerUp, ?laneReady, ?portReset⟩
  case frameReceived =>
    intro p f hw htrain
    exact d.answers_core (f := fun d => d.ringLooped p (d.receive p f)) (fun _ => rfl) hw hr
      (congrArg (d.ringLooped p) (Dev.receive_frame htrain))
  case mpacketReceived =>
    intro p f n hw hup hs ha hl
    exact d.answers_core (f := fun d => d.mpacket p f) (fun _ => rfl) hw hr (Dev.mpacket_start hup hs ha hl)
  case verifyReceived =>
    intro p hw hup
    exact d.answers_core (f := fun d => d.looped p (d.verifyReceived p)) (fun _ => rfl) hw hr
      (congrArg (d.looped p) (Dev.verifyReceived_up hup (of_decide_eq_true hw)))
  case respondReceived =>
    intro p hw hup hv
    exact d.answers_core (f := fun d => d.respondReceived p) (fun _ => rfl) hw hr (Dev.respondReceived_waited hup hv)
  case verifyTimer =>
    intro p hw hv ht hn
    exact d.answers_core (f := fun d => d.looped p (d.verifyTimer p)) (fun _ => rfl) hw hr
      (congrArg (d.looped p) (Dev.verifyTimer_fails hv ht hn))
  case upCondition =>
    intro p line hw hl han
    exact d.answers_core (f := fun d => d.upWithAbility p line.ability line.remote) (fun _ => rfl) hw hr
      ((Dev.upWithAbility_fixed _ _ han).trans (Dev.linkUpCondition_ready _ hl))
  case downCondition =>
    intro p line hw hl
    exact d.answers_core (f := fun d => d.linkDownCondition p line.cause line.remote) (fun _ => rfl) hw hr
      (Dev.linkDownCondition_ready _ _ hl)
  case linkUp =>
    intro p hw hup hl hd ht
    exact d.answers_core (f := fun d => d.looped p (d.linkUp p)) (fun _ => rfl) hw hr (congrArg (d.looped p) (Dev.linkUp_due hup hl hd ht))
  case linkDown =>
    intro p cause hw hd hl ht
    exact d.answers_core (f := fun d => d.watchLinks (fun d => d.linkDown p)) (fun _ => rfl) hw hr
      (Dev.watchLinks_congr (Dev.linkDown_due hd hl ht))
  case mdioPoll =>
    rintro p link hw hl ht rfl
    exact d.answers_core (f := fun d => d.mdioPoll p true) (fun _ => rfl) hw hr (Dev.mdioPoll_up (serial_of_ok hw) hl ht)
  case collision =>
    intro p t hw ht hwait ha hn
    exact d.answers_core (f := fun d => d.collision p) (fun _ => rfl) hw hr (Dev.collision_again (serial_of_ok hw) ht hwait ha hn)
  case backoffExpiry =>
    intro p sub t hw ht hwait hat hopen
    exact d.answers_core (f := fun d => d.backoffExpiry p sub) (fun _ => rfl) hw hr (Dev.backoffExpiry_due sub ht hwait hat hopen)
  case lateCollision =>
    intro p bitTime t hw ht hwait hb
    exact d.answers_core (f := fun d => d.lateCollision p bitTime) (fun _ => rfl) hw hr
      (Dev.lateCollision_late (serial_of_ok hw) ht hwait hb)
  case plcaActive =>
    intro p hw hn ha
    exact d.answers_core (f := fun d => d.plca p true) (fun _ => rfl) hw hr (Dev.plca_rises (serial_of_ok hw) hn ha)
  case plcaInactive =>
    intro p hw _ ha
    exact d.answers_core (f := fun d => d.plca p false) (fun _ => rfl) hw hr (Dev.plca_falls (serial_of_ok hw) ha)
  case pause =>
    intro p q later hw h
    exact d.answers_core (f := fun d => d.pauseEffect p) (fun _ => rfl) hw hr (Dev.pauseEffect_cons h)
  case pfc =>
    intro p en qs later hw h
    exact d.answers_core (f := fun d => d.pfcEffect p) (fun _ => rfl) hw hr (Dev.pfcEffect_cons h)
  case pauseOver =>
    rintro p t hw rfl hover
    exact d.answers_core (f := fun d => d.pauseExpiry p 8) (fun _ => rfl) hw hr (Dev.pauseExpiry_over hover)
  case classOver =>
    intro p t hw ht hover
    exact d.answers_core (f := fun d => d.pauseExpiry p t) (fun _ => rfl) hw hr
      ((Dev.pauseExpiry_over hover).trans (if_neg (Nat.ne_of_lt ht)))
  case refresh =>
    intro p hw hcs hq hl
    exact d.answers_core (f := fun d => d.pauseRefresh p) (fun _ => rfl) hw hr (Dev.pauseRefresh_due (of_decide_eq_true hw) hcs hq hl)
  case powerDown =>
    intro m p v hw ha
    refine d.answers_reachedWord (fun _ => rfl) hw hr (reached_PRT_CTRL (lt_of_ok hw)) rfl ha ?_
    rw [Dev.regApply_prtCtrl, bit_withField_one v (by decide)]
    rfl
  case powerUp =>
    intro m p v hw ha
    refine d.answers_reachedWord (fun _ => rfl) hw hr (reached_PRT_CTRL (lt_of_ok hw)) rfl ha ?_
    rw [Dev.regApply_prtCtrl, bit_withField_zero v (by decide)]
    rfl
  case laneReady =>
    intro p sdOk rxTaps txTaps hw hoff hrdy hp
    exact d.answers_core (f := fun d => d.laneUp p sdOk rxTaps txTaps) (fun _ => rfl) hw hr (Dev.laneUp_serial sdOk rxTaps txTaps hoff hrdy hp)
  case portReset =>
    intro p hw hb
    exact d.answers_core (f := fun d => d.watchLinks (fun d => d.fnReset (prtUid p) (fun d => d.portReset p))) (fun _ => rfl) hw hr
      (Dev.watchLinks_congr (Dev.fnReset_target _ hb))

end Sys2Proof.Machine

/-! Forwarding and redundancy (spec/04): O5 -/

namespace Sys2Proof.Machine

/-- A flush of the learned entries of the FDB, table 2 of FAB_TBLCMD. -/
theorem Dev.tableCommand_flush {d : Dev} {v : Nat} (ho : bits v 3 2 = 3) (ht : bits v 0 3 = 2) : d.tableCommand v
    = { (((d.wr FAB_TBLCMD_TABLE 2).wr FAB_TBLCMD_OP 3).wr FAB_TBLCMD_INDEX (bits v 8 16)).put FAB_TBLCMD_BUSY true with
      fab := { d.fab with learned := [] } } := by
  unfold Dev.tableCommand
  rw [ho, ht]
  rfl

theorem Dev.ageOut_old {d : Dev} {k : Nat} {e : LearnedFdb} (he : tget d.fab.learned k = some e) (ha : d.rd FAB_AGE_AGE ≠ 0)
    (ht : e.seen + d.rd FAB_AGE_AGE * sec16 ≤ d.tb.lt) :
    d.ageOut k = { d with fab := { d.fab with learned := tdel d.fab.learned k } } := by
  unfold Dev.ageOut
  rw [he]
  exact if_pos ⟨ha, ht⟩

/-- Settles O5, clause by clause: the table commands are writes of one register. -/
theorem fabricCommandsComplete : Obligations.FabricCommandsComplete := by
  unfold Obligations.FabricCommandsComplete
  intro d hr
  refine ⟨?read, ?write, ?invalidate, ?flush, ?done, ?ageing, ?key, ?fabric, ?redundancy, ?authentication, ?express⟩
  case read | write | invalidate =>
    exact fun m v hw ha => d.answers_reachedWord (fun _ => rfl) ((Bool.and_true _).trans hw) hr reached_FAB_TBLCMD rfl ha rfl
  case flush =>
    intro m v hw ha ht
    exact d.answers_reachedWord (fun _ => rfl) ((Bool.and_true _).trans hw) hr reached_FAB_TBLCMD rfl ha
      (Dev.tableCommand_flush (bits_withField v 3 (by decide)) ht)
  case done => exact d.answers_core (f := fun d => d.put FAB_TBLCMD_BUSY false) (fun _ => rfl) rfl hr rfl
  case ageing =>
    intro k e hw he ha ht
    exact d.answers_core (f := fun d => d.ageOut k) (fun _ => rfl) hw hr (Dev.ageOut_old he ha ht)
  case key =>
    intro m k v hw ha
    exact d.answers_reached (fun _ => rfl) hw hr (reached_KS_KEY (lt_of_ok hw)) rfl ha rfl
  case fabric | redundancy | authentication | express => exact fun hb => d.answers_fn (fun _ => rfl) rfl hr hb

end Sys2Proof.Machine

/-! Egress scheduling (spec/05): O6 -/

namespace Sys2Proof.Machine

/-! ### Descriptors and departures -/

theorem Dev.handoverNext_plain {d : Dev} {p : Nat} {x : Desc} {later : List Desc} (hh : (d.port p).hand = x :: later)
    (ht : d.redTarget p x = none) (hp : d.popsNow p x.tc = false) :
    d.handoverNext p = (d.setPort p { d.port p with hand := later }).handover1 p x := by
  simp [Dev.handoverNext, hh, ht, hp]

theorem Dev.handoverNext_redundant {d : Dev} {p j side : Nat} {x : Desc} {later : List Desc} (hh : (d.port p).hand = x :: later)
    (ht : d.redTarget p x = some (j, side)) (hp : (d.redPair j side).any (fun e => d.popsNow e x.tc) = false) : d.handoverNext p
      = ((d.setPort p { d.port p with hand := later }).redSend j side x.bytes).1.foldl
        (fun d e => d.handover1 e.1 (if e.1 = p then { x with bytes := e.2 } else { x with bytes := e.2, origin := .copy }))
        ((d.setPort p { d.port p with hand := later }).redSent j ((d.setPort p { d.port p with hand := later }).redSend j side x.bytes).2) := by
  unfold Dev.handoverNext
  rw [hh]
  dsimp only
  rw [ht]
  dsimp only
  rw [hp]
  rfl

theorem Dev.transmitStart_own {d : Dev} {p : Nat} (sub : Nat) (hup : d.portUp p = true) (hopen : d.plcaOpen p = true)
    (hf : d.on SUP_STAT_FAULT = false) (ht : (d.port p).tx = none) (ho : (d.port p).own ≠ []) : d.transmitStart p sub = d.startOwn p sub := by
  simp [Dev.transmitStart, hup, hopen, hf, ht, ho]

theorem Dev.transmitStart_queued {d : Dev} {p : Nat} (sub : Nat) (hup : d.portUp p = true) (hopen : d.plcaOpen p = true)
    (hf : d.on SUP_STAT_FAULT = false) (ho : (d.port p).own = []) : d.transmitStart p sub = (d.settlePort p).startNext p sub := by
  simp [Dev.transmitStart, hup, hopen, hf, ho]

theorem Dev.launchReached_due {d : Dev} {p c i : Nat} {x : Desc} (hx : (d.classQ p c)[i]? = some x) (hl : d.hasLaunch p x = true)
    (ht : d.launchAt p x ≤ d.schNow p) : d.launchReached p c i = d.setClassQ p c ((d.classQ p c).set i { x with due := true }) := by
  simp [Dev.launchReached, hx, hl, ht]

theorem Dev.lateExpiry_late {d : Dev} {p c i : Nat} {x : Desc} (hx : (d.classQ p c)[i]? = some x) (hl : d.tooLate p x = true) :
    d.lateExpiry p c i
      = ((d.setClassQ p c ((d.classQ p c).eraseIdx i)).dropQueued p x rsLateDropped).settleHead p c (i == 0) 257 := by
  simp [Dev.lateExpiry, hx, hl]

/-- A class whose turn it is starts its first frame, with no frame to resume and no PLCA to commit to. -/
theorem Dev.startNext_head {d : Dev} {p c : Nat} (sub : Nat) (hc : d.nextClass p = some c) (ht : (d.port p).tx = none)
    (hpre : d.preReady p c = false) (hplca : d.on (PRT_STAT_PLCAACT p) = false) : d.startNext p sub = d.startHead p c sub := by
  simp [Dev.startNext, hc, ht, hpre, hplca]

/-! ### Gates -/

theorem Dev.preemptClosed_open {d : Dev} {p : Nat} (h : d.closedUnder p = false) : d.preemptClosed p = d := by
  rw [Dev.preemptClosed, h, Dev.when_false]

theorem Dev.gateEvent_open {d : Dev} {p : Nat} (hg : d.on (SCH_CTRL_GATEEN p) = true) (hl : d.rd (SCH_OPERLEN_LEN p) ≠ 0)
    (ho : ((d.noteGates p (d.eventAt p)).setPos p).closedUnder p = false) : d.gateEvent p = (d.noteGates p (d.eventAt p)).setPos p := by
  unfold Dev.gateEvent
  rw [if_pos (by simp [hg, hl]), Dev.preemptClosed_open ho]

/-- What a write of `SCH_CTRL` does while the gates were enabled before it. -/
theorem Dev.regApply_schCtrl {d : Dev} (m : Master) {p : Nat} (v : Nat) (hg : d.on (SCH_CTRL_GATEEN p) = true) :
    d.regApply m (row_SCH_CTRL.last [p]) v
      = (((((d.regStore (row_SCH_CTRL.last [p]) v).when (bit v 2) (fun d => d.schChange p)).when (bit v 3) (fun d => d.schCancel p)).holdJudge
        p).preemptClosed p).settlePort p := by
  show d.writeSch (row_SCH_CTRL.last [p]) .ctrl v = _
  simp only [Dev.writeSch, RegRow.last_i, List.getD_cons_zero, hg, Bool.not_true, Bool.and_false, Dev.when_false]

theorem Dev.configSwap_due {d : Dev} {p t : Nat} (hc : d.changeAt p = some t) (ht : t ≤ d.schNow p) : d.configSwap p
    = (let n := d.rd (SCH_ADMLEN_LEN p)
       let d1 := forNums 1024 (fun e d => d.wr (SCH_OPERLISTe_ENTRY p e) (d.rd (SCH_ADMLISTe_ENTRY p e))) (d.noteGates p t)
       let d2 := ((d1.wr (SCH_OPERLEN_LEN p) n).wr (SCH_OPERCYCLE_CYCLE p) (d1.admCycle p)).wr (SCH_OPERBASE_BASE p)
         (d1.rd (SCH_ADMBASE_BASE p))
       (((((((d2.clr (SCH_STAT_PENDING p)).put (SCH_STAT_SWAPPED p) true).inc (SCH_SWAPCNT_CNT p)).postEvent 0x0A03 (schUid p)
         (n % 1024)).setPos p).holdJudge p).preemptClosed p).settleSwap p) := by
  unfold Dev.configSwap
  rw [hc]
  exact if_neg (Nat.not_lt.mpr ht)

theorem Dev.macHold_idle {d : Dev} {p : Nat} (ho : d.opAt p (d.schNow p + d.rd (SCH_PADV_HOLDADV p) * 2 ^ 16) = 1)
    (hh : d.on (SCH_STAT_HOLD p) = false) (ht : (d.port p).tx = none) :
    d.macHold p = (d.put (SCH_STAT_HOLD p) true).inc (SCH_HOLDCNT_CNT p) := by
  have htx : (((d.put (SCH_STAT_HOLD p) true).inc (SCH_HOLDCNT_CNT p)).port p).tx = none := ht
  unfold Dev.macHold
  rw [if_pos ⟨ho, by simp [hh]⟩]
  dsimp only
  rw [htx]

/-- Settles O6, clause by clause: each names what its command's write or effect comes to. -/
theorem schedulerCommandsComplete : Obligations.SchedulerCommandsComplete := by
  unfold Obligations.SchedulerCommandsComplete
  intro d hr
  refine ⟨?handover, ?handoverPair, ?startQueued, ?startOwn, ?transmitEnd, ?gateEvent, ?change, ?cancel, ?swap, ?hold, ?release, ?launch,
    ?late, ?reset⟩
  case handover =>
    intro p x later hw hh ht hp
    exact d.answers_core (f := fun d => d.handoverNext p) (fun _ => rfl) hw hr (Dev.handoverNext_plain hh ht hp)
  case handoverPair =>
    intro p x later j side hw hh ht hp
    exact d.answers_core (f := fun d => d.handoverNext p) (fun _ => rfl) hw hr (Dev.handoverNext_redundant hh ht hp)
  case startQueued =>
    intro p sub c hw hup hopen hf ho hc ht hpre hplca
    exact d.answers_core (f := fun d => d.looped p (d.transmitStart p sub)) (fun _ => rfl) hw hr
      (congrArg (d.looped p) ((Dev.transmitStart_queued sub hup hopen hf ho).trans (Dev.startNext_head sub hc ht hpre hplca)))
  case startOwn =>
    intro p sub hw hup hopen hf ht ho
    exact d.answers_core (f := fun d => d.looped p (d.transmitStart p sub)) (fun _ => rfl) hw hr
      (congrArg (d.looped p) (Dev.transmitStart_own sub hup hopen hf ht ho))
  case transmitEnd =>
    intro p t hw _ _
    exact d.answers_core (f := fun d => d.looped p (d.watchLinks (fun d => d.transmitEnd p))) (fun _ => rfl) hw hr rfl
  case gateEvent =>
    intro p hw hg hl ho
    exact d.answers_core (f := fun d => d.looped p (d.gateEvent p)) (fun _ => rfl) hw hr
      (congrArg (d.looped p) (Dev.gateEvent_open hg hl ho))
  case change =>
    intro m p v hw ha h3 hg
    refine d.answers_reachedWord (fun _ => rfl) hw hr (reached_SCH_CTRL (lt_of_ok hw)) rfl ha ?_
    rw [Dev.regApply_schCtrl (d := d.dropStaged m (row_SCH_CTRL.last [p])) m _ hg, h3, bit_withField_one v (by decide)]
    rfl
  case cancel =>
    intro m p v hw ha h2 hg
    refine d.answers_reachedWord (fun _ => rfl) hw hr (reached_SCH_CTRL (lt_of_ok hw)) rfl ha ?_
    rw [Dev.regApply_schCtrl (d := d.dropStaged m (row_SCH_CTRL.last [p])) m _ hg, h2, bit_withField_one v (by decide)]
    rfl
  case swap =>
    intro p t hw hc ht
    exact d.answers_core (f := fun d => d.looped p (d.configSwap p)) (fun _ => rfl) hw hr
      (congrArg (d.looped p) (Dev.configSwap_due hc ht))
  case hold =>
    intro p hw ho hh ht
    exact d.answers_core (f := fun d => d.looped p (d.macHold p)) (fun _ => rfl) hw hr (congrArg (d.looped p) (Dev.macHold_idle ho hh ht))
  case release =>
    intro p hw ho
    exact d.answers_core (f := fun d => d.macRelease p) (fun _ => rfl) hw hr (if_pos ho)
  case launch =>
    intro p c i x hw hx hl ht
    exact d.answers_core (f := fun d => d.launchReached p c i) (fun _ => rfl) hw hr (Dev.launchReached_due hx hl ht)
  case late =>
    intro p c i x hw hx hl
    exact d.answers_core (f := fun d => d.lateExpiry p c i) (fun _ => rfl) hw hr (Dev.lateExpiry_late hx hl)
  case reset =>
    intro p hw hb
    exact d.answers_fn (f := fun d => d.schReset p) (fun _ => rfl) hw hr hb

end Sys2Proof.Machine

/-! Train controllers (spec/06, spec/07): O7 -/

namespace Sys2Proof.Machine

/-! ### Coaches and the cycle -/

/-- Two neighbours of a ring in different modes forward no coach (R147). -/
theorem Dev.coach_modes {d : Dev} {p : Nat} {f : RxFrame} (ht : d.takenByTrain p f.bytes = true) (hl : d.on (PRT_STAT_LINK p) = true)
    (hf : d.on SUP_STAT_FAULT = false) (hm : d.rd (PRT_CFG_MODE (outPort (p / 2))) ≠ d.rd (PRT_CFG_MODE (inPort (p / 2)))) :
    d.coach p f = d.postEvent 0x0C08 0x0E0 (p / 2) := by
  unfold Dev.coach
  rw [if_neg (by simp [ht, hl, hf])]
  exact if_pos hm

theorem Dev.outTake_plain {d : Dev} {r c t : Nat} {m : TrnMaster} (hm : (d.trn r).master = some m) (hn : m.next = some (c, t))
    (hk : m.taken = false) (ht : t ≤ d.trnNow r + lead16) (hs : inSurvey m.plan c = false) :
    d.outTake r = (d.modMaster r (fun m => { m with taken := true })).outFlips r := by
  simp [Dev.outTake, hm, hn, hk, ht, hs]

theorem Dev.cycleMark_live {d : Dev} {r : Nat} (j : Nat) (h : d.role r ≠ roleOff) (hd : d.derailed r = false)
    (hn : (d.rollCycle r).derailsNow r = false) : d.cycleMark r j
      = match tget ((d.rollCycle r).trn r).owed j, ((d.rollCycle r).trn r).cur with
        | some y, _ => ((d.rollCycle r).modTrn r (fun x => { x with owed := tdel x.owed j })).markOf r j y
        | none, none => d.rollCycle r
        | none, some y =>
          if y.markCome j ((d.rollCycle r).trnNow r) then
            ((d.rollCycle r).modTrn r (fun x => { x with cur := some { y with fired := y.fired ++ [j] } })).markOf r j y
          else d.rollCycle r := by
  unfold Dev.cycleMark
  rw [if_neg (by simp [h, hd])]
  dsimp only
  rw [if_neg (by simp [hn])]
  rfl

theorem Dev.cycleMark_due {d : Dev} {r j : Nat} {y : TrnCycle} (h : d.role r ≠ roleOff) (hd : d.derailed r = false)
    (hn : (d.rollCycle r).derailsNow r = false) (ho : tget ((d.rollCycle r).trn r).owed j = none)
    (hy : ((d.rollCycle r).trn r).cur = some y) (hc : y.markCome j ((d.rollCycle r).trnNow r) = true) : d.cycleMark r j
      = ((d.rollCycle r).modTrn r (fun x => { x with cur := some { y with fired := y.fired ++ [j] } })).markOf r j y := by
  rw [Dev.cycleMark_live j h hd hn, ho, hy]
  exact if_pos hc

/-- A mark still owed by the cycle before comes first. -/
theorem Dev.cycleMark_owed {d : Dev} {r j : Nat} {y : TrnCycle} (h : d.role r ≠ roleOff) (hd : d.derailed r = false)
    (hn : (d.rollCycle r).derailsNow r = false) (ho : tget ((d.rollCycle r).trn r).owed j = some y) : d.cycleMark r j
      = ((d.rollCycle r).modTrn r (fun x => { x with owed := tdel x.owed j })).markOf r j y := by
  rw [Dev.cycleMark_live j h hd hn, ho]

/-! ### Registers of the trains -/

theorem Dev.regApply_trnCfg_on {d : Dev} (m : Master) {r v : Nat} (hv : bit v 0 = true) (he : d.on (TRN_CFG_EN r) = false) :
    d.regApply m (row_TRN_CFG.last [r]) v = ((d.regStore (row_TRN_CFG.last [r]) v).prioWritten r).ringEnable r true := by
  show d.writeTrn (row_TRN_CFG.last [r]) .cfg v = _
  simp only [Dev.writeTrn, RegRow.last_i, List.getD_cons_zero, he, hv]
  rfl

theorem Dev.regApply_trnMctrl (d : Dev) (m : Master) (r v : Nat) : d.regApply m (row_TRN_MCTRL.last [r]) v
    = (d.when (bit v 0) (fun d => d.surveyAsk r)).when (bit v 1) (fun d => d.swGo r) := rfl

theorem Dev.modeCommand_idle {d : Dev} {r : Nat} (m op : Nat) (h : d.on (TRN_MCMD_BUSY r) = false) : d.modeCommand r m op
    = (let d := (d.wr (TRN_MCMD_MODE r) m).wr (TRN_MCMD_OP r) op
      match op with
      | 0 => d.put (TRN_MCMD_BUSY r) true
      | 1 => d.wr (TRN_MVALID_VALID r) (setBits (d.rd (TRN_MVALID_VALID r)) m 1 0)
      | 2 => d.stage r (d.modeTab r m)
      | _ => d) := by
  unfold Dev.modeCommand
  exact if_neg (by simp [h])

/-- A write of TRN_MCMD that leaves INVALID alone is the command of its OP (R186). -/
theorem Dev.regApply_trnMcmd {d : Dev} (m : Master) {r v op : Nat} (hi : bit v 30 = false) (ho : bits v 3 2 = op) :
    d.regApply m (row_TRN_MCMD.last [r]) v = d.modeCommand r (bits v 0 3) op := by
  show d.writeTrn (row_TRN_MCMD.last [r]) .mcmd v = _
  simp only [Dev.writeTrn, RegRow.last_i, List.getD_cons_zero, hi, ho, Dev.when_false]

/-! ### The master: claims, surveys and returns -/

theorem Dev.silence_over {d : Dev} {r : Nat} (he : d.on (TRN_CFG_EN r) = true) (hn : d.role r = roleNode) (hm : d.mayClaim r = true)
    (ht : (d.trn r).heard + d.rd (TRN_SILENCE_SILENCE r) * (10000 * 65536) ≤ d.tb.lt) : d.silence r = d.claimStart r := by
  unfold Dev.silence
  exact if_pos (by rw [he, hn, hm, decide_eq_true ht]; rfl)

theorem Dev.startTimeout_over {d : Dev} {r : Nat} (hc : d.role r = roleClaiming) (hm : d.mayClaim r = true)
    (hw : (d.trn r).claim.wait.any (fun w => decide (w.2 + d.maxRt r ≤ d.tb.lt)) = true) : d.startTimeout r
      = d.setTrn r { d.trn r with claim := { count := ((d.trn r).claim.count + 1) % 2 ^ 32 } } := by
  unfold Dev.startTimeout
  exact if_pos ⟨hc, hm, hw⟩

theorem Dev.windowEnd_won {d : Dev} {r : Nat} (hc : d.role r = roleClaiming) (hm : d.mayClaim r = true) (hb : (d.trn r).claim.back = 3)
    (ht : (d.trn r).claim.start + 3 * d.maxRt r < d.tb.lt) : d.windowEnd r = d.becomeMaster r := by
  unfold Dev.windowEnd
  exact if_pos ⟨hc, hm, hb, ht⟩

theorem Dev.surveyAbandon_due {d : Dev} {r c t k : Nat} {m : TrnMaster} {q : TrnMeasure} (hm : (d.trn r).master = some m)
    (hq : m.meas = some q) (hn : m.next = some (c, t)) (hk : m.plan = some k) (hc : c = (k + 1) % 2 ^ 32)
    (hw : q.whole (d.on (TRN_CFG_TOPO r)) = false) (ht : t ≤ d.trnNow r + lead16) : d.surveyAbandon r
      = (d.ringEvent 0x0C13 r 1).modMaster r (fun m => { m with plan := none, meas := none }) := by
  simp only [Dev.surveyAbandon, hm, hq, hn, hk]
  exact if_pos (by simp [hc, hw, ht])

/-- A train whose coaches are overdue ends; one with seats keeps its place in the tallies (R194). -/
theorem Dev.returnTimeout_over {d : Dev} {r : Nat} {m : TrnMaster} {t : TrnTrain} (hm : (d.trn r).master = some m)
    (ht : m.trains.find? (fun t => t.out && decide (t.s + d.maxRt r ≤ d.trnNow r)) = some t) (hf : t.fwOut = true) : d.returnTimeout r
      = ((((d.inc (TRN_CNT_RETMISS_CNT r)).ringEvent 0x0C12 r 0).breakEnter r).modMaster r (fun m =>
        { (if t.seats then m.keep t.c t.mode 0 false false false [] else m) with trains := m.trains.filter (fun x => x != t) })).judgeTallies
        r { t with fwOut := false, rvOut := false } := by
  simp only [Dev.returnTimeout, hm, Option.bind_some, ht, hf, Dev.when_true]

/-- Settles O7, clause by clause: each names what its command's write or effect comes to. -/
theorem trainCommandsComplete : Obligations.TrainCommandsComplete := by
  unfold Obligations.TrainCommandsComplete
  intro d hr
  refine ⟨?coach, ?coachModes, ?surveyDelay, ?departure, ?outTake, ?markDue, ?markOwed, ?mirror, ?ringEnable, ?silence,
    ?startSend, ?startTimeout, ?windowEnd, ?survey, ?surveyAbandon, ?swgo, ?modeCommit, ?commitApply, ?modeInvalidate,
    ?modeReadBack, ?lateDeadline, ?returnPlain, ?returnSeats, ?fifoRead, ?reset⟩
  case coach =>
    intro p f hw _ _ _ _
    exact d.answers_core (f := fun d => d.ringLooped p (d.coach p f)) (fun _ => rfl) hw hr rfl
  case coachModes =>
    intro p f hw ht hl hf hm
    exact d.answers_core (f := fun d => d.ringLooped p (d.coach p f)) (fun _ => rfl) hw hr
      (congrArg (d.ringLooped p) (Dev.coach_modes ht hl hf hm))
  case surveyDelay =>
    intro r q hw _
    exact d.answers_core (f := fun d => d.surveyDelays r) (fun _ => rfl) hw hr rfl
  case departure =>
    intro r sub c t hw _ _ _ _
    exact d.answers_core (f := fun d => d.trainDeparture r sub) (fun _ => rfl) hw hr rfl
  case outTake =>
    intro r m c t hw hm hn hk ht hs
    exact d.answers_core (f := fun d => d.outTake r) (fun _ => rfl) hw hr (Dev.outTake_plain hm hn hk ht hs)
  case markDue =>
    intro r j y hw h hd hn ho hy hc
    exact d.answers_core (f := fun d => d.cycleMark r j) (fun _ => rfl) hw hr (Dev.cycleMark_due h hd hn ho hy hc)
  case markOwed =>
    intro r j y hw h hd hn ho
    exact d.answers_core (f := fun d => d.cycleMark r j) (fun _ => rfl) hw hr (Dev.cycleMark_owed h hd hn ho)
  case mirror =>
    intro m r a v hw hs hg
    exact d.answers_mirror hr (by simpa [wellFormed] using hw) hs hg
  case ringEnable =>
    intro m r v hw ha he
    exact d.answers_reachedWord (fun _ => rfl) hw hr (reached_TRN_CFG (lt_of_ok hw)) rfl ha
      (Dev.regApply_trnCfg_on m (bit_withField_one v (by decide)) he)
  case silence =>
    intro r hw he hn hm ht
    exact d.answers_core (f := fun d => d.silence r) (fun _ => rfl) hw hr (Dev.silence_over he hn hm ht)
  case startSend =>
    intro r sub hw _ _ _ _
    exact d.answers_core (f := fun d => d.startSend r sub) (fun _ => rfl) hw hr rfl
  case startTimeout =>
    intro r hw hc hm ht
    exact d.answers_core (f := fun d => d.startTimeout r) (fun _ => rfl) hw hr (Dev.startTimeout_over hc hm ht)
  case windowEnd =>
    intro r hw hc hm hb ht
    exact d.answers_core (f := fun d => d.windowEnd r) (fun _ => rfl) hw hr (Dev.windowEnd_won hc hm hb ht)
  case survey =>
    intro m r v hw ha h1
    refine d.answers_reachedWord (fun _ => rfl) hw hr (reached_TRN_MCTRL (lt_of_ok hw)) rfl ha ?_
    rw [Dev.regApply_trnMctrl, h1, bit_withField_one v (by decide)]
    rfl
  case surveyAbandon =>
    intro r m q c t k hw hm hq hn hk hc hwhole ht
    exact d.answers_core (f := fun d => d.surveyAbandon r) (fun _ => rfl) hw hr (Dev.surveyAbandon_due hm hq hn hk hc hwhole ht)
  case swgo =>
    intro m r v x hw ha h0 _ _ _ _ _ _
    refine d.answers_reachedWord (fun _ => rfl) hw hr (reached_TRN_MCTRL (lt_of_ok hw)) rfl ha ?_
    rw [Dev.regApply_trnMctrl, h0, bit_withField_one v (by decide)]
    rfl
  case modeCommit | modeInvalidate | modeReadBack =>
    intro m r v hw ha hi hb
    exact d.answers_reachedWord (fun _ => rfl) hw hr (reached_TRN_MCMD (lt_of_ok hw)) rfl ha
      ((Dev.regApply_trnMcmd m hi (bits_withField v _ (by decide))).trans (Dev.modeCommand_idle _ _ hb))
  case commitApply =>
    intro r hw _ _
    exact d.answers_core (f := fun d => d.commitApply r) (fun _ => rfl) hw hr rfl
  case lateDeadline =>
    intro r c hw _ _ _
    exact d.answers_core (f := fun d => d.lateDeadline r) (fun _ => rfl) hw hr rfl
  case returnPlain =>
    intro r m t hw hm ht hs hf
    exact d.answers_core (f := fun d => d.returnTimeout r) (fun _ => rfl) hw hr (by rw [Dev.returnTimeout_over hm ht hf, hs]; rfl)
  case returnSeats =>
    intro r m t hw hm ht hs hf
    exact d.answers_core (f := fun d => d.returnTimeout r) (fun _ => rfl) hw hr (by rw [Dev.returnTimeout_over hm ht hf, hs]; rfl)
  case fifoRead =>
    intro m r w hw ha hl
    have hb := lt_of_ok hw
    exact d.answers_readLatched (fun _ => rfl) hw hr (at_TRN_CMDFIFO hb) (Nat.add_right_comm ..) (.intro (by omega)) ha hl rfl
  case reset => exact fun hb => d.answers_fn (fun _ => rfl) rfl hr hb

end Sys2Proof.Machine

/-! Sample Alignment Unit (spec/08): O8 -/

namespace Sys2Proof.Machine

theorem Dev.sampleFrame_off {d : Dev} {f : SvFrame} {later : List SvFrame} (ecc : Bool) (hq : d.sau.inq = f :: later)
    (he : d.on (SAU_S_CFG_EN f.stream) = false) : d.sampleFrame ecc = { d with sau := { d.sau with inq := later } } := by
  simp only [Dev.sampleFrame, hq]
  exact if_pos (congrArg (!·) he)

/-- A frame that holds no savPdu is counted as one of a wrong format (R206). -/
theorem Dev.sampleFrame_foreign {d : Dev} {f : SvFrame} {later : List SvFrame} (hq : d.sau.inq = f :: later)
    (he : d.on (SAU_S_CFG_EN f.stream) = true) (hs : savPdu f.bytes = none) : d.sampleFrame false
      = (forNums 4 (fun m d => d.dueRows m) ({ d with sau := { d.sau with inq := later } } : Dev)).svDiscard f.stream 1
        (SAU_S_FORMAT_CNT f.stream) := by
  simp only [Dev.sampleFrame, hq, hs, Dev.when_false]
  exact if_neg (show ¬(!d.on (SAU_S_CFG_EN f.stream)) = true by simp [he])

theorem Dev.streamTimeout_run {d : Dev} {i : Nat} (hs : d.rd (SAU_S_STAT_STATE i) = svRun)
    (ht : (d.stream i).heard + d.rd (SAU_S_TMO_TMO i) * 1000000 * 65536 ≤ d.tb.lt) : d.streamTimeout i
      = (((d.setStream i { d.stream i with slots := [], anchor := none }).streamState i svLost).postEvent 0x0D03 sauUid i).settleAll
        (fun _ => false) := by
  unfold Dev.streamTimeout
  exact if_pos ⟨.inr hs, ht⟩

theorem Dev.rowDeadline_over {d : Dev} {i j : Nat} {r : MRow} (hj : (d.matrix i).rows.findIdx? (fun r => r.close.isNone) = some j)
    (hr : (d.matrix i).rows[j]? = some r)
    (ht : r.g + Int.ofNat (d.rd (SAU_Mm_DEADLINE_DEADLINE i) * 1000 * 65536) ≤ Int.ofNat (d.domTime (d.matDom i))) : d.rowDeadline i
      = d.setMatrix i { d.matrix i with rows := (d.matrix i).rows.set j { r with close := some .deadline } } := by
  simp only [Dev.rowDeadline, hj, hr]
  exact if_pos ht

/-- Settles O8, clause by clause: streams and matrices are enabled by writes of their CFG. -/
theorem sampleUnitCommandsComplete : Obligations.SampleUnitCommandsComplete := by
  unfold Obligations.SampleUnitCommandsComplete
  intro d hr
  refine ⟨?frameOff, ?frameForeign, ?frame, ?streamTimeout, ?streamEnable, ?streamDisable, ?matrixEnable, ?matrixDisable, ?rowOpen,
    ?rowDeadline, ?rowComplete, ?reset⟩
  case frameOff =>
    intro ecc f later hw hq he
    exact d.answers_core (f := fun d => d.sampleFrame ecc) (fun _ => rfl) hw hr (Dev.sampleFrame_off ecc hq he)
  case frameForeign =>
    rintro ecc f later hw hq he rfl hs
    exact d.answers_core (f := fun d => d.sampleFrame false) (fun _ => rfl) hw hr (Dev.sampleFrame_foreign hq he hs)
  case frame =>
    intro ecc f later hw _ _
    exact d.answers_core (f := fun d => d.sampleFrame ecc) (fun _ => rfl) hw hr rfl
  case streamTimeout =>
    intro i hw hs ht
    exact d.answers_core (f := fun d => d.streamTimeout i) (fun _ => rfl) hw hr (Dev.streamTimeout_run hs ht)
  case streamEnable | streamDisable =>
    intro m i v hw ha _
    exact d.answers_reachedWord (fun _ => rfl) hw hr (reached_SAU_S_CFG (lt_of_ok hw)) rfl ha rfl
  case matrixEnable | matrixDisable =>
    intro m i v hw ha _
    exact d.answers_reachedWord (fun _ => rfl) hw hr (reached_SAU_Mm_CFG (lt_of_ok hw)) rfl ha rfl
  case rowOpen =>
    intro i hw _ _
    exact d.answers_core (f := fun d => d.rowOpen i) (fun _ => rfl) hw hr rfl
  case rowDeadline =>
    intro i r j hw hj hrow ht
    exact d.answers_core (f := fun d => d.rowDeadline i) (fun _ => rfl) hw hr (Dev.rowDeadline_over hj hrow ht)
  case rowComplete =>
    intro i r later why hw _ _
    exact d.answers_core (f := fun d => (d.rowComplete i).ringsKept) (fun _ => rfl) hw hr rfl
  case reset => exact fun hb => d.answers_fn (fun _ => rfl) rfl hr hb

end Sys2Proof.Machine

/-! Pin bank (spec/09): O9 -/

namespace Sys2Proof.Machine

/-! ### Express holds (R246) -/

theorem Dev.holdExpiry_ends {d : Dev} {n x : Nat} (hh : (d.pn n).hold = some x) (ht : x ≤ d.tb.lt) (hl : d.on (PIN_IOn_XDRV_XLATCH n) = false) :
    d.holdExpiry n = (d.setPn n { d.pn n with hold := none, clrDue := false }).put (PIN_IOn_SAFE_XACT n) false := by
  simp [Dev.holdExpiry, hh, ht, hl]

theorem Dev.holdExpiry_latched {d : Dev} {n x : Nat} (hh : (d.pn n).hold = some x) (ht : x ≤ d.tb.lt)
    (hl : d.on (PIN_IOn_XDRV_XLATCH n) = true) (hc : (d.pn n).clrDue = false) :
    d.holdExpiry n = d.setPn n { d.pn n with hold := none } := by
  simp [Dev.holdExpiry, hh, ht, hl, hc]

theorem Dev.regApply_xdrvClear {d : Dev} (m : Master) {n v : Nat} (hv : bit v 3 = true) (hn : n < 16) (hb : d.pinBound n = true)
    (hx : d.on (PIN_IOn_SAFE_XACT n) = true) (hh : (d.pn n).hold = none) :
    d.regApply m (row_PIN_IOn_XDRV.last [n]) v = d.put (PIN_IOn_SAFE_XACT n) false := by
  show d.ioXdrvWrite (row_PIN_IOn_XDRV.last [n]) v = _
  simp [Dev.ioXdrvWrite, RegRow.last_i, Dev.xclr, hv, Nat.not_le.mpr hn, hb, hx, hh]

/-! ### Groups and sequencers -/

theorem Dev.grpClock_free {d : Dev} {g : Nat} (v : Nat) (h : d.grpBusy g = false) : d.grpClock g v
    = ((d.wr (PIN_GRP_CLK_DIVINT g) (bits v 0 16)).wr (PIN_GRP_CLK_DIVFRAC g) (bits v 16 8)).setGrp g { d.grp g with newDiv := true } := by
  unfold Dev.grpClock
  exact if_neg (by simp [h])

theorem Dev.grpStartWrite_now {d : Dev} {g v : Nat}
    (h : (List.range 4).any (fun s => bit (bits v 0 4) s && d.seqState (4 * g + s) != 0) = false) (hv : bit v 8 = false) :
    d.grpStartWrite g v = d.grpStart g (bits v 0 4) (bit v 9) false := by
  unfold Dev.grpStartWrite
  exact (if_neg (by simp only [h]; decide)).trans (if_neg (by rw [hv]; decide))

/-- A start for an instant that is not past arms the group (R260). -/
theorem Dev.grpStartWrite_timed {d : Dev} {g v : Nat}
    (h : (List.range 4).any (fun s => bit (bits v 0 4) s && d.seqState (4 * g + s) != 0) = false) (hv : bit v 8 = true)
    (ht : d.domTime (d.rd (PIN_GRP_TDOM_TDOM g)) ≤ ofTs96 (d.rd (PIN_GRP_TSTART_T g))) :
    d.grpStartWrite g v = d.setGrp g { d.grp g with armed := some (bits v 0 4, bit v 9) } := by
  unfold Dev.grpStartWrite
  exact (if_neg (by simp only [h]; decide)).trans ((if_pos hv).trans (if_neg (Nat.not_lt.mpr ht)))

theorem Dev.timedStart_due {d : Dev} {g mask : Nat} {ds : Bool} (ha : (d.grp g).armed = some (mask, ds))
    (he : d.edgePast g (d.rd (PIN_GRP_TDOM_TDOM g)) (ofTs96 (d.rd (PIN_GRP_TSTART_T g))) = true) :
    d.timedStart g = (d.setGrp g { d.grp g with armed := none }).grpStart g mask ds true := by
  unfold Dev.timedStart
  rw [ha]
  exact if_pos he

theorem Dev.imemWrite_free {d : Dev} {g w : Nat} (v : Nat)
    (h : (List.range 4).any (fun s => d.seqState (4 * g + s) != 0 && decide (d.rd (PIN_SEQ_PROG_LO g s) ≤ w)
      && decide (w ≤ d.rd (PIN_SEQ_PROG_HI g s))) = false) : d.imemWrite g w v = d.wr (PIN_GRP_IMEMw_INSTR g w) v := by
  unfold Dev.imemWrite
  exact if_neg (by simp only [h]; decide)

theorem Dev.regApply_seqCtrl (d : Dev) (m : Master) (q v : Nat) : d.regApply m (row_PIN_SEQ_CTRL.last [q / 4, q % 4]) v
    = (d.when (bit v 0) (fun d => d.clrShift q)).when (bit v 1) (fun d => d.kick q) := by
  show d.writePin (row_PIN_SEQ_CTRL.last [q / 4, q % 4]) .seqCtrl v = _
  simp only [Dev.writePin, RegRow.last_seq, show 4 * (q / 4) + q % 4 = q by omega]

/-- Settles O9, clause by clause: most of the pin bank's commands are writes of one register. -/
theorem pinCommandsComplete : Obligations.PinCommandsComplete := by
  unfold Obligations.PinCommandsComplete
  intro d hr
  refine ⟨?edge, ?stampRead, ?rel, ?holdEnds, ?holdLatched, ?xclr, ?clock, ?start, ?arm, ?timedStart, ?halt, ?instruction, ?flagSet, ?kick,
    ?clrShift, ?groupReset, ?bankReset, ?txf, ?rxf⟩
  case edge =>
    intro n level ago sub hw _ _
    exact d.answers_core (f := fun d => d.filteredEdge n level (d.tb.lt - ago * tick16 + sub * 4096)) (fun _ => rfl) hw hr rfl
  case stampRead =>
    intro m w hw ha hl
    exact d.answers_readLatched (fun _ => rfl) ((Bool.and_true _).trans hw) hr at_PIN_ESQ rfl (.intro (by omega)) ha hl rfl
  case rel =>
    intro m n v hw ha _
    obtain ⟨hm, hn⟩ := Bool.and_eq_true_iff.mp hw
    exact d.answers_rel hr hm (of_decide_eq_true hn) ha
  case holdEnds =>
    intro n x hw hh ht hl
    exact d.answers_core (f := fun d => d.holdExpiry n) (fun _ => rfl) hw hr (Dev.holdExpiry_ends hh ht hl)
  case holdLatched =>
    intro n x hw hh ht hl hc
    exact d.answers_core (f := fun d => d.holdExpiry n) (fun _ => rfl) hw hr (Dev.holdExpiry_latched hh ht hl hc)
  case xclr =>
    intro m n v hw ha hn hb hx hh
    exact d.answers_reachedWord (fun _ => rfl) hw hr (reached_PIN_IOn_XDRV (lt_of_ok hw)) rfl ha
      (Dev.regApply_xdrvClear m (bit_withField_one v (by decide)) hn hb hx hh)
  case clock =>
    intro m g v hw ha h
    exact d.answers_reachedWord (fun _ => rfl) hw hr (reached_PIN_GRP_CLK (lt_of_ok hw)) rfl ha (Dev.grpClock_free _ h)
  case start =>
    intro m g v hw ha h hv
    exact d.answers_reachedWord (fun _ => rfl) hw hr (reached_PIN_GRP_START (lt_of_ok hw)) rfl ha (Dev.grpStartWrite_now h hv)
  case arm =>
    intro m g v hw ha h hv ht
    exact d.answers_reachedWord (fun _ => rfl) hw hr (reached_PIN_GRP_START (lt_of_ok hw)) rfl ha (Dev.grpStartWrite_timed h hv ht)
  case timedStart =>
    intro g mask ds hw ha he
    exact d.answers_core (f := fun d => d.timedStart g) (fun _ => rfl) hw hr (Dev.timedStart_due ha he)
  case halt =>
    intro m g v hw ha
    exact d.answers_reachedWord (fun _ => rfl) hw hr (reached_PIN_GRP_HALT (lt_of_ok hw)) rfl ha rfl
  case instruction =>
    intro m g w v hw ha h
    obtain ⟨-, hgw⟩ := Bool.and_eq_true_iff.mp hw
    obtain ⟨hg, hlt⟩ := Bool.and_eq_true_iff.mp hgw
    exact d.answers_reachedWord (fun _ => rfl) hw hr (reached_PIN_GRP_IMEMw (of_decide_eq_true hg) (of_decide_eq_true hlt)) rfl ha
      (Dev.imemWrite_free _ h)
  case flagSet =>
    intro m g v hw ha
    exact d.answers_reachedWord (fun _ => rfl) hw hr (reached_PIN_GRP_FLAGSET (lt_of_ok hw)) rfl ha rfl
  case kick =>
    intro m q v hw ha h0
    refine d.answers_reachedWord (fun _ => rfl) hw hr (reached_PIN_SEQ_CTRL (lt_of_ok hw)) rfl ha ?_
    rw [Dev.regApply_seqCtrl, h0, bit_withField_one v (by decide)]
    rfl
  case clrShift =>
    intro m q v hw ha h1
    refine d.answers_reachedWord (fun _ => rfl) hw hr (reached_PIN_SEQ_CTRL (lt_of_ok hw)) rfl ha ?_
    rw [Dev.regApply_seqCtrl, h1, bit_withField_one v (by decide)]
    rfl
  case groupReset =>
    intro g hw hb
    exact d.answers_fn (f := fun d => d.grpReset g) (fun _ => rfl) hw hr hb
  case bankReset => exact fun hb => d.answers_fn (fun _ => rfl) rfl hr hb
  case txf =>
    intro m q v hw ha hl
    exact d.answers_txf hr (by simpa [wellFormed] using hw) ha hl
  case rxf =>
    intro m q x later hw ha hl
    exact d.answers_rxf hr (by simpa [wellFormed] using hw) ha hl

end Sys2Proof.Machine

/-! Sequencers (spec/09): O10 -/

namespace Sys2Proof.Machine

/-! ### Instructions that go on whatever the state is -/

theorem Dev.seqBranch_always (d : Dev) {q arg : Nat} (h : bits arg 6 4 = 0) : d.seqBranch q arg = .go d (some (bits arg 0 6)) := by
  unfold Dev.seqBranch
  rw [h]
  rfl

theorem Dev.seqCount_literal (d : Dev) (q : Nat) {arg : Nat} (h : bit arg 13 = false) : d.seqCount q arg
    = .go (d.wr (if bit arg 14 then PIN_SEQ_CNTR_C1 (q / 4) (q % 4) else PIN_SEQ_CNTR_C0 (q / 4) (q % 4)) (bits arg 0 13)) none := by
  unfold Dev.seqCount
  rw [h]
  rfl

theorem Dev.seqCount_reload (d : Dev) (q : Nat) {arg : Nat} (h : bit arg 13 = true) : d.seqCount q arg
    = .go (d.wr (if bit arg 14 then PIN_SEQ_CNTR_C1 (q / 4) (q % 4) else PIN_SEQ_CNTR_C0 (q / 4) (q % 4))
      (if bit arg 14 then d.rd (PIN_SEQ_CRLD_CRLD1 (q / 4) (q % 4)) else d.rd (PIN_SEQ_CRLD_CRLD0 (q / 4) (q % 4)))) none := by
  unfold Dev.seqCount
  rw [h]
  rfl

theorem Dev.seqDrive_set (d : Dev) {arg : Nat} (h : bits arg 6 2 = 1) : d.seqDrive arg = .go (d.latch (bits arg 0 6) true true) none := by
  simp only [Dev.seqDrive, h]

theorem Dev.seqSignal_flag (d : Dev) (q : Nat) {arg : Nat} (h : bits arg 0 2 = 0) : d.seqSignal q arg
    = .go (d.softFlag (q / 4) (24 + bits arg 2 3)) none := by
  simp only [Dev.seqSignal, h]

theorem Dev.seqSignal_doorbell (d : Dev) (q : Nat) {arg : Nat} (h : bits arg 0 2 = 2) : d.seqSignal q arg
    = .go (d.ring (d.rd (PIN_SEQ_SIG_DB (q / 4) (q % 4)))) none := by
  simp only [Dev.seqSignal, h]

/-! ### The words between the FIFOs and the shift registers (R251) -/

theorem Dev.spfFeed_next {d : Dev} {q x : Nat} {later : List Nat} (hs : (d.seq q).spf = none) (ht : (d.seq q).txf = x :: later)
    (hf : d.on (PIN_SEQ_CFG_FEED (q / 4) (q % 4)) = true) (hg : d.grpFree (q / 4) (8 + q % 4) = true) : d.spfFeed q
      = (d.setSeq q { d.seq q with spf := some x, txf := later }).grpMark (q / 4) (8 + q % 4) := by
  simp [Dev.spfFeed, hs, ht, hf, hg]

/-- The word goes to the receive FIFO; the completion that the shift register kept, if any, then settles. -/
theorem Dev.thdDeliver_word {d : Dev} {q x : Nat} (ht : (d.seq q).thd = some x) (hl : (d.seq q).rxf.length < 8)
    (hg : d.grpFree (q / 4) (4 + q % 4) = true) : d.thdDeliver q
      = ((((d.setSeq q { d.seq q with thd := none, rxf := (d.seq q).rxf ++ [x] }).grpMark (q / 4) (4 + q % 4)).settleKept q).getD
        ((d.setSeq q { d.seq q with thd := none, rxf := (d.seq q).rxf ++ [x] }).grpMark (q / 4) (4 + q % 4))) := by
  unfold Dev.thdDeliver
  rw [ht]
  exact if_pos ⟨hl, hg⟩

theorem Dev.grpMark_setSeq_seq (d : Dev) (q : Nat) (x : Seq) (g k : Nat) : ((d.setSeq q x).grpMark g k).seq q = x :=
  tgetD_tput_self ..

theorem Dev.thdDeliver_plain {d : Dev} {q x : Nat} (ht : (d.seq q).thd = some x) (hl : (d.seq q).rxf.length < 8)
    (hg : d.grpFree (q / 4) (4 + q % 4) = true) (hk : (d.seq q).kept = false) : d.thdDeliver q
      = (d.setSeq q { d.seq q with thd := none, rxf := (d.seq q).rxf ++ [x] }).grpMark (q / 4) (4 + q % 4) := by
  rw [Dev.thdDeliver_word ht hl hg]
  simp only [Dev.settleKept, Dev.grpMark_setSeq_seq, hk]
  rfl

theorem Dev.thdDeliver_kept {d : Dev} {q x : Nat} (ht : (d.seq q).thd = some x) (hl : (d.seq q).rxf.length < 8)
    (hg : d.grpFree (q / 4) (4 + q % 4) = true) (hk : (d.seq q).kept = true) : d.thdDeliver q
      = (((d.setSeq q { d.seq q with thd := none, rxf := (d.seq q).rxf ++ [x] }).grpMark (q / 4) (4 + q % 4)).setSeq q
        { d.seq q with thd := some (d.tkrWord q), rxf := (d.seq q).rxf ++ [x], kept := false }).clrTkr q := by
  rw [Dev.thdDeliver_word ht hl hg]
  simp only [Dev.settleKept, Dev.grpMark_setSeq_seq, hk]
  rfl

/-- An instruction that is the sequencer's next, passes its check and goes on, completes with what it goes on with. -/
theorem Dev.answers_seq (d : Dev) {c : Instr} {q op : Nat} {e : Dev} {jump : Option Nat} (mine : Nat → Bool) (f : Dev → Nat → SeqOut)
    (h : ∀ s, exec c s = s.core (decide (q < 8)) (fun d => d.seqStep q mine f)) (hw : decide (q < 8) = true) (hr : d.inReset = false)
    (ha : d.atInstr q op) (hm : mine op = true) (hf : f (d.sideSet q (d.seqWord q)) (d.seqWord q) = .go e jump) :
    d.answers c (e.seqDone q jump) :=
  d.answers_core (f := fun d => d.seqStep q mine f) h hw hr (d.seqStep_go ha hm hf)

/-- Settles O10: an instruction completes with what it goes on with (`Dev.answers_seq`). -/
theorem sequencerInstructionsComplete : Obligations.SequencerInstructionsComplete := by
  unfold Obligations.SequencerInstructionsComplete
  intro d hr
  refine ⟨?send, ?take, ?load, ?store, ?always, ?branch, ?wait, ?literal, ?reload, ?drive, ?flag, ?doorbell, ?nop, ?eccHalt, ?spfFeed,
    ?thdPlain, ?thdKept⟩
  case send =>
    intro q e hw h hgo
    exact d.answers_seq (· == 1) (fun d w => d.seqSend q (bits (seqArg w) 0 4)) (fun _ => rfl) hw hr h rfl hgo
  case take =>
    intro q e hw h hgo
    exact d.answers_seq (· == 2) (fun d w => d.seqTake q (seqArg w)) (fun _ => rfl) hw hr h rfl hgo
  case load =>
    intro q e hw h hgo
    exact d.answers_seq (· == 3) (fun d w => d.seqLoad q (seqArg w)) (fun _ => rfl) hw hr h rfl hgo
  case store =>
    intro q e hw h hgo
    exact d.answers_seq (· == 4) (fun d w => d.seqStore q (seqArg w)) (fun _ => rfl) hw hr h rfl hgo
  case always =>
    intro q hw h hb
    exact d.answers_seq (· == 5) (fun d w => d.seqBranch q (seqArg w)) (fun _ => rfl) hw hr h rfl (Dev.seqBranch_always _ hb)
  case branch =>
    intro q e jump hw h hgo
    exact d.answers_seq (· == 5) (fun d w => d.seqBranch q (seqArg w)) (fun _ => rfl) hw hr h rfl hgo
  case wait =>
    intro q e hw h hgo
    exact d.answers_seq (· == 6)
      (fun d w => d.seqWait q (if d.on (PIN_SEQ_CFG_SIDEMODE (q / 4) (q % 4)) then 0 else seqSide w) (seqArg w)) (fun _ => rfl) hw hr h rfl hgo
  case literal =>
    intro q hw h hb
    exact d.answers_seq (· == 7) (fun d w => d.seqCount q (seqArg w)) (fun _ => rfl) hw hr h rfl (Dev.seqCount_literal _ q hb)
  case reload =>
    intro q hw h hb
    exact d.answers_seq (· == 7) (fun d w => d.seqCount q (seqArg w)) (fun _ => rfl) hw hr h rfl (Dev.seqCount_reload _ q hb)
  case drive =>
    intro q hw h hb
    exact d.answers_seq (· == 8) (fun d w => d.seqDrive (seqArg w)) (fun _ => rfl) hw hr h rfl (Dev.seqDrive_set _ hb)
  case flag =>
    intro q hw h hb
    exact d.answers_seq (· == 9) (fun d w => d.seqSignal q (seqArg w)) (fun _ => rfl) hw hr h rfl (Dev.seqSignal_flag _ q hb)
  case doorbell =>
    intro q hw h hb
    exact d.answers_seq (· == 9) (fun d w => d.seqSignal q (seqArg w)) (fun _ => rfl) hw hr h rfl (Dev.seqSignal_doorbell _ q hb)
  case nop =>
    rintro q ecc hw rfl h
    exact d.answers_seq (fun op => op == 0 || decide (9 < op)) (fun d _ => .go d none) (fun _ => rfl) hw hr h rfl rfl
  case eccHalt =>
    rintro q ecc hw rfl hs
    exact d.answers_core (f := fun d => if d.seqState q = 0 then d else d.seqHalt q 0x08) (fun _ => rfl) hw hr (if_neg hs)
  case spfFeed =>
    intro q x later hw hs ht hf hg
    exact d.answers_core (f := fun d => d.spfFeed q) (fun _ => rfl) hw hr (Dev.spfFeed_next hs ht hf hg)
  case thdPlain =>
    intro q x hw ht hl hg hk
    exact d.answers_core (f := fun d => d.thdDeliver q) (fun _ => rfl) hw hr (Dev.thdDeliver_plain ht hl hg hk)
  case thdKept =>
    intro q x hw ht hl hg hk
    exact d.answers_core (f := fun d => d.thdDeliver q) (fun _ => rfl) hw hr (Dev.thdDeliver_kept ht hl hg hk)

end Sys2Proof.Machine

/-! Depots and engine control (spec/10): O11 -/

namespace Sys2Proof.Machine

/-! ### Registers of the engines -/

/-- The engine of a register's two indices is the one they were split from. -/
theorem depotEngine_eq (e : Nat) : 8 * (e / 8) + e % 8 = e := by omega

theorem reached_engCtrl {e : Nat} (h : e < 64) : row_ENG_CTRL.Reached [e / 8, e % 8] (engBase e) := by
  rw [engBase_eq]
  exact reached_ENG_CTRL h

theorem reached_engSwap {e : Nat} (h : e < 64) : row_ENG_SWAP.Reached [e / 8, e % 8] (engBase e + 0x50) := by
  rw [show engBase e + 0x50 = 0x810050 + 0x100000 * (e / 8) + 0x1000 * (e % 8) by rw [engBase_eq]; omega]
  exact reached_ENG_SWAP h

theorem Dev.regApply_engCtrl (d : Dev) (m : Master) (e v : Nat) : d.regApply m (row_ENG_CTRL.last [e / 8, e % 8]) v = d.engCtrl e v := by
  show d.engCtrl (8 * (e / 8) + e % 8) v = _
  rw [depotEngine_eq]

theorem Dev.regApply_engSwap (d : Dev) (m : Master) (e v : Nat) : d.regApply m (row_ENG_SWAP.last [e / 8, e % 8]) v = d.swapWrite e v := by
  show d.swapWrite (8 * (e / 8) + e % 8) v = _
  rw [depotEngine_eq]

theorem Dev.engCtrl_run {d : Dev} {e v : Nat} (h0 : bit v 0 = true) (h1 : bit v 1 = false) (h2 : bit v 2 = false)
    (hs : d.engState e = engHalted) (hon : d.depotOn (e / 8) = true) : d.engCtrl e v
      = ((d.modEng e (fun x => { x with pc := BitVec.ofNat 32 (4 * d.rd (ENG_BOOT_PC e)), parked := false })).wr (ENG_STAT_STATE e)
        engRunning).clr (ENG_RPT0_RPTV e) := by
  simp only [Dev.engCtrl, h0, h1, h2, Dev.when_true, Dev.when_false]
  exact if_pos ⟨hs, hon⟩

theorem Dev.engCtrl_halt (d : Dev) (e : Nat) {v : Nat} (h0 : bit v 0 = false) (h1 : bit v 1 = true) (h2 : bit v 2 = false) :
    d.engCtrl e v = d.engHalt e := by
  simp only [Dev.engCtrl, h0, h1, h2, Dev.when_true, Dev.when_false]

/-! ### Power -/

theorem Dev.depCtrl_on {d : Dev} {n v : Nat} (hv : bit v 0 = true) (hp : d.rd (DEP_STAT_PWRSTATE n) = 0) : d.depCtrl n v
    = ((depotEngines n).foldl (fun d' e => d'.setEng e {}) (d.put (DEP_CTRL_PWRON n) true)).wr (DEP_STAT_PWRSTATE n) 1 := by
  have hne : (DEP_STAT_PWRSTATE n).key ≠ (DEP_CTRL_PWRON n).key := by simp only [DEP_STAT_PWRSTATE, DEP_CTRL_PWRON]; omega
  unfold Dev.depCtrl Dev.depotPowerOn
  rw [if_pos hv, Dev.rd_put_ne d true hne]
  exact if_pos hp

theorem Dev.depCtrl_off {d : Dev} {n v : Nat} (hv : bit v 0 = false) (hp : d.on (DEP_CTRL_PWRON n) = true) :
    d.depCtrl n v = d.depotPowerOff n := by
  unfold Dev.depCtrl
  exact (if_neg (by simp [hv])).trans (if_pos hp)

theorem Dev.depotWakeDone_due {d : Dev} {n : Nat} (h : d.rd (DEP_STAT_PWRSTATE n) = 1) : d.depotWakeDone n
    = ((depotEngines n).foldl (fun d' e => (d'.wr (ENG_STAT_STATE e) engHalted).clr (ENG_RPT0_RPTV e)) d).wr (DEP_STAT_PWRSTATE n) 2 :=
  if_pos h

theorem Dev.depotOffDone_due {d : Dev} {n : Nat} (h : d.rd (DEP_STAT_PWRSTATE n) = 3) : d.depotOffDone n
    = (((depotEngines n).foldl (fun d' e => d'.setEng e {}) d).setDepot n {}).wr (DEP_STAT_PWRSTATE n) 0 :=
  if_pos h

/-! ### Frames -/

theorem Dev.ioRead_ingress {d : Dev} {e i x : Nat} {later : List Nat} (hi : i < 2) (h : (d.rxRing (e / 8) i).descs = x :: later) :
    d.ioRead e (0x300 + 2 * i) = ((d.setRxRing (e / 8) i { d.rxRing (e / 8) i with descs := later }).ioLatch e (0x300 + 2 * i + 1)
      (x / 2 ^ 32), .done (x % 2 ^ 32)) := by
  rw [Dev.ioRead, ioPortOf_ingress hi]
  simp only [Dev.rxPop, h]
  rfl

theorem Dev.ioWrite_egressStage (d : Dev) (e v : Nat) {j w : Nat} (hj : j < 2) (hw : w < 5) : d.ioWrite e (0x320 + 8 * j + w) v
    = (d.modEng e (fun x => { x with stage := tput x.stage (8 * j + w) v }), .done 0) := by
  rw [Dev.ioWrite, ioPortOf_egress hj (by omega)]
  exact if_neg (by omega)

/-- The sixth word of a descriptor pushes it, with the five that are staged (R272). -/
theorem Dev.ioWrite_egressPush {d : Dev} {e j : Nat} (v : Nat) (hj : j < 2) (hl : (tgetD (d.depot (e / 8)).tx j []).length < 32) :
    d.ioWrite e (0x325 + 8 * j) v
      = ((d.setDepot (e / 8) { d.depot (e / 8) with tx := tput (d.depot (e / 8)).tx j (tgetD (d.depot (e / 8)).tx j []
        ++ [(List.range 5).map (fun i => tgetD (d.eng e).stage (8 * j + i) 0) ++ [v]]) }).modEng e
        (fun x => { x with stage := tput x.stage (8 * j + 5) v }), .done 0) := by
  rw [show 0x325 + 8 * j = 0x320 + 8 * j + 5 by omega, Dev.ioWrite, ioPortOf_egress hj (by omega)]
  simp only [Dev.egressWrite, Dev.txPush, Nat.not_le.mpr hl, if_true, if_false]

theorem Dev.copyComplete_quiet {d : Dev} {n : Nat} {ws : List Nat} {l : List Byte} (h : (d.depot n).copying = some (ws, l))
    (hb : bit (descWord ws 1) 28 = false) : d.copyComplete n
      = ((d.setDepot n { d.depot n with copying := none }).inc (DEP_TXFRM_CNT n)).handTo (bits (descWord ws 1) 14 5) (depotDesc n ws l) := by
  simp only [Dev.copyComplete, h, hb, Dev.when_false]

/-! ### Interrupts, sleep and swaps -/

/-- A line of kind 3 is serviced: the return address and the flags go to the stacks (R282). -/
theorem Dev.interruptEntry_level {d : Dev} {e l : Nat} (hs : d.engState e = engRunning) (hl : d.lineToTake e = some l)
    (hr : (d.eng e).rsd < 32) (hd : (d.eng e).dsd < 32) (hk : d.rd (ENG_IRQSELL_KIND e l) = 3) : d.interruptEntry e
      = (d.wr (ENG_IRQ_INSVC e) (setBits (d.rd (ENG_IRQ_INSVC e)) l 1 1)).setEng e
        { ((d.eng e).pushR (d.eng e).pc).pushD (BitVec.ofNat 32 (d.eng e).fl.val) with
          pc := BitVec.ofNat 32 (16 * (d.wr (ENG_IRQ_INSVC e) (setBits (d.rd (ENG_IRQ_INSVC e)) l 1 1)).rd (ENG_IVEC_IVEC e) + 16 * l) } := by
  simp only [Dev.interruptEntry, hs, hl, hk, beq_self_eq_true, Nat.ne_of_lt hr, Nat.ne_of_lt hd, if_false]
  rfl

theorem Dev.wfeWake_due {d : Dev} {e : Nat} (hs : d.engState e = engSleeping) (hw : d.wakePending e = true)
    (hp : (d.eng e).parked = false) : d.wfeWake e = d.wr (ENG_STAT_STATE e) engRunning := by
  unfold Dev.wfeWake
  exact if_pos ⟨hs, hw, hp⟩

theorem Dev.swapOverdue_true {d : Dev} {n since : Nat} (h0 : d.rd (DEP_SWTMO_SWTMO n) ≠ 0)
    (ht : since + d.rd (DEP_SWTMO_SWTMO n) * (1000 * 65536) ≤ d.tb.lt) : d.swapOverdue n since = true := by
  unfold Dev.swapOverdue
  rw [decide_eq_true ht, Bool.and_true]
  exact bne_iff_ne.mpr h0

theorem Dev.depotSwapWrite_cancel (d : Dev) (n : Nat) {v : Nat} (h9 : bit v 9 = true) (h8 : bit v 8 = false) :
    d.depotSwapWrite n v = d.depotSwapFail n false := by
  unfold Dev.depotSwapWrite
  rw [h9, h8]
  rfl

/-- Settles O11, clause by clause: each names what its command's write or effect comes to. -/
theorem depotCommandsComplete : Obligations.DepotCommandsComplete := by
  unfold Obligations.DepotCommandsComplete
  intro d hr
  refine ⟨?powerOn, ?wakeDone, ?powerOff, ?offDone, ?rxRelease, ?ingressPop, ?egressStage, ?egressPush, ?fetch, ?copy, ?compare,
    ?interrupt, ?wake, ?swapRequest, ?swapCancel, ?swapTimeout, ?depotTimeout, ?depotSwapGo, ?depotSwapCancel, ?run, ?halt, ?step,
    ?engineReset, ?depotReset⟩
  case powerOn =>
    intro m n v hw ha hp
    exact d.answers_reachedWord (fun _ => rfl) hw hr (reached_DEP_CTRL (lt_of_ok hw)) rfl ha
      (Dev.depCtrl_on (bit_withField_one v (by decide)) hp)
  case wakeDone =>
    intro n hw h
    exact d.answers_core (f := fun d => d.depotWakeDone n) (fun _ => rfl) hw hr (Dev.depotWakeDone_due h)
  case powerOff =>
    intro m n v hw ha hp
    exact d.answers_reachedWord (fun _ => rfl) hw hr (reached_DEP_CTRL (lt_of_ok hw)) rfl ha
      (Dev.depCtrl_off (bit_withField_zero v (by decide)) hp)
  case offDone =>
    intro n hw h
    exact d.answers_core (f := fun d => d.depotOffDone n) (fun _ => rfl) hw hr (Dev.depotOffDone_due h)
  case rxRelease =>
    intro e i v hw hon h0 hocc
    have hport := d.ioWrite_rxRel e v.toNat (lt_of_ok hw)
    rw [Dev.rxRelease_occupied h0 hocc] at hport
    exact d.answers_core (f := fun d => d.engOut e (0x304 + i) v.toNat) (fun _ => rfl) hw hr (Dev.engOut_done hon hport)
  case ingressPop =>
    intro e i x later hw hon h
    exact d.answers_core (f := fun d => d.engIn e (0x300 + 2 * i)) (fun _ => rfl) hw hr
      (Dev.engIn_done hon (Dev.ioRead_ingress (lt_of_ok hw) h))
  case egressStage =>
    intro e j w v hw hon
    obtain ⟨hej, hlt⟩ := Bool.and_eq_true_iff.mp hw
    exact d.answers_core (f := fun d => d.engOut e (0x320 + 8 * j + w) v.toNat) (fun _ => rfl) hw hr
      (Dev.engOut_done hon (d.ioWrite_egressStage e v.toNat (lt_of_ok hej) (of_decide_eq_true hlt)))
  case egressPush =>
    intro e j v hw hon hl
    exact d.answers_core (f := fun d => d.engOut e (0x325 + 8 * j) v.toNat) (fun _ => rfl) hw hr
      (Dev.engOut_done hon (Dev.ioWrite_egressPush v.toNat (lt_of_ok hw) hl))
  case fetch =>
    intro n ws later hw _ _
    exact d.answers_core (f := fun d => d.frameFetch n) (fun _ => rfl) hw hr rfl
  case copy =>
    intro n ws l hw h hb
    exact d.answers_core (f := fun d => d.copyComplete n) (fun _ => rfl) hw hr (Dev.copyComplete_quiet h hb)
  case compare =>
    intro n k hw _ _
    exact d.answers_core (f := fun d => d.compareFire n k) (fun _ => rfl) hw hr rfl
  case interrupt =>
    intro e l hw hs hl hrs hds hk
    exact d.answers_core (f := fun d => d.interruptEntry e) (fun _ => rfl) hw hr (Dev.interruptEntry_level hs hl hrs hds hk)
  case wake =>
    intro e hw hs hwake hp
    exact d.answers_core (f := fun d => d.wfeWake e) (fun _ => rfl) hw hr (Dev.wfeWake_due hs hwake hp)
  case swapRequest =>
    intro m e v hw ha _ _ _
    exact d.answers_reachedWord (fun _ => rfl) hw hr (reached_engSwap (lt_of_ok hw)) rfl ha (Dev.regApply_engSwap _ m e _)
  case swapCancel =>
    intro m e v hw ha _ _
    exact d.answers_reachedWord (fun _ => rfl) hw hr (reached_engSwap (lt_of_ok hw)) rfl ha (Dev.regApply_engSwap _ m e _)
  case swapTimeout =>
    rintro t e hw rfl h0 ht
    exact d.answers_core (f := fun d => d.swapTimeout (.engine e)) (fun _ => rfl) hw hr (if_pos (Dev.swapOverdue_true h0 ht))
  case depotTimeout =>
    rintro t n hw rfl h0 ht
    exact d.answers_core (f := fun d => d.swapTimeout (.depot n)) (fun _ => rfl) hw hr (if_pos (Dev.swapOverdue_true h0 ht))
  case depotSwapGo =>
    intro m n v hw ha _ _ _
    exact d.answers_reachedWord (fun _ => rfl) hw hr (reached_DEP_SWAP (lt_of_ok hw)) rfl ha rfl
  case depotSwapCancel =>
    intro m n v hw ha h8
    exact d.answers_reachedWord (fun _ => rfl) hw hr (reached_DEP_SWAP (lt_of_ok hw)) rfl ha
      (Dev.depotSwapWrite_cancel _ n (bit_withField_one v (by decide)) h8)
  case run =>
    intro m e v hw ha h1 h2 hs hon
    exact d.answers_reachedWord (fun _ => rfl) hw hr (reached_engCtrl (lt_of_ok hw)) rfl ha
      ((Dev.regApply_engCtrl _ m e _).trans (Dev.engCtrl_run (bit_withField_one v (by decide)) h1 h2 hs hon))
  case halt =>
    intro m e v hw ha h0 h2
    exact d.answers_reachedWord (fun _ => rfl) hw hr (reached_engCtrl (lt_of_ok hw)) rfl ha
      ((Dev.regApply_engCtrl _ m e _).trans (Dev.engCtrl_halt _ e h0 (bit_withField_one v (by decide)) h2))
  case step =>
    intro m e v hw ha h0 h1 hs hon
    exact d.answers_step hr (by simpa [wellFormed] using hw) ha h0 h1 hs hon
  case engineReset =>
    intro e hw hb
    exact d.answers_fn (f := fun d => d.engResetAs e 1) (fun _ => rfl) hw hr hb
  case depotReset =>
    intro n hw hb
    exact d.answers_fn (f := fun d => d.depotReset n) (fun _ => rfl) hw hr hb

end Sys2Proof.Machine

/-! Shared memory and queues (spec/12): O12 -/

namespace Sys2Proof.Machine

/-! ### Banks -/

/-- A write of all of a one-word register, by a command that puts the word together itself. -/
theorem Dev.put32_reached (d : Dev) {m : Master} {off v : Nat} {r : RegRow} {ix : List Nat} (hs : r.Reached ix off) (hx : r.words = 1)
    (hv : v < 2 ^ 32) (ha : d.accepts m (r.last ix) v = true) :
    d.put32 m off v = (d.dropStaged m (r.last ix)).regApply m (r.last ix) v := by
  obtain ⟨hf, ho, h1, h2, h3, hw, hl, hwr⟩ := hs
  exact Dev.put32_accepts d m v hf ho h1 h2 h3 hw hl hwr ((Dev.committed_one d m _ _ _ hx).trans (Nat.mod_eq_of_lt hv)) ha

/-- A write that names another owner pends its handover (R330). -/
theorem Dev.bankWrite_handover {d : Dev} {m : Master} {b v : Nat} (hw : d.bankWriter m b = true) (ho : bits v 0 12 ≠ d.rd (MEM_BANKb_OWNER b)) :
    d.bankWrite m b v = (d.when (bit v 16) (fun d => d.clr (MEM_BANKb_REFUSED b))).bankPend b (bits v 0 12) := by
  have hother : (bits v 0 12 == d.rd (MEM_BANKb_OWNER b)) = false := beq_false_of_ne ho
  simp only [Dev.bankWrite, hw, hother, Bool.not_true, Bool.false_and, Bool.or_false, Bool.false_eq_true, if_false]

theorem Dev.scrubStep_on {d : Dev} (h : d.on MEM_SCRUB_EN = true) :
    d.scrubStep = forNums 64 (fun b d => if d.mem.borrow = some b then d else d.scrubBank b) d :=
  if_pos h

theorem Dev.borrowBegin_next {d : Dev} {b : Nat} (he : d.on BTU_CFG_EN = true) (hn : d.mem.borrow = none) (hb : d.borrowBank = some b) :
    d.borrowBegin = forNums 64 (fun i d' => (d'.eccRead (b * 32768 + tgetD d.mem.rows b 0 * 64 + i)).1)
      ((((({ d with mem := { d.mem with borrow := some b } } : Dev).put (MEM_BANKb_BORROWED b) true).put BTU_STAT_ACTIVE true).wr
        BTU_STAT_BANK b).wr BTU_STAT_ROW (tgetD d.mem.rows b 0)) := by
  simp only [Dev.borrowBegin, he, hn, hb]

theorem Dev.borrowEnd_good {d : Dev} {b : Nat} (hb : d.mem.borrow = some b) (hn : (tgetD d.mem.rows b 0 + 1) % 512 ≠ 0) : d.borrowEnd none
    = ({ (d.borrowReturn b).inc BTU_ROWS_CNT with mem := { ((d.borrowReturn b).inc BTU_ROWS_CNT).mem with
      rows := tput ((d.borrowReturn b).inc BTU_ROWS_CNT).mem.rows b ((tgetD d.mem.rows b 0 + 1) % 512) } } : Dev).wr BTU_STAT_ROW
        ((tgetD d.mem.rows b 0 + 1) % 512) := by
  simp only [Dev.borrowEnd, hb, beq_false_of_ne hn, Dev.when_false]

/-! ### Queues -/

theorem Dev.ioWrite_push {d : Dev} {e q v : Nat} (hq : q < 1024) (hr : d.queueRight q true (.engine e) = true)
    (hp : (d.queuePush q (d.ioLatched e (0x1801 + 2 * q) * 2 ^ 32 + v)).2 = true) : d.ioWrite e (0x1800 + 2 * q) v
      = ((d.queuePush q (d.ioLatched e (0x1801 + 2 * q) * 2 ^ 32 + v)).1.ioLatch e (0x1801 + 2 * q) 0, .done 0) := by
  simp only [Dev.ioWrite, ioPortOf_push hq, show 0x1800 + 2 * q + 1 = 0x1801 + 2 * q by omega, Dev.queuePushBy, hr, hp, if_true]

theorem Dev.ioWrite_pushHigh {d : Dev} {e q : Nat} (v : Nat) (hq : q < 1024) (hr : d.queueRight q true (.engine e) = true) :
    d.ioWrite e (0x1801 + 2 * q) v = (d.ioLatch e (0x1801 + 2 * q) v, .done 0) := by
  rw [Dev.ioWrite, ioPortOf_pushHigh hq]
  exact if_pos hr

theorem Dev.ioRead_pop {d : Dev} {e q : Nat} (hq : q < 1024) (hr : d.queueRight q false (.engine e) = true) : d.ioRead e (0x1000 + 2 * q)
    = ((d.queuePop q).1.ioLatch e (0x1000 + 2 * q + 1) ((d.queuePop q).2 / 2 ^ 32), .done ((d.queuePop q).2 % 2 ^ 32)) := by
  simp only [Dev.ioRead, ioPortOf_pop hq, Dev.queuePopBy, hr, if_true, ioPair]

theorem Dev.queueMove_refill {d : Dev} {q : Nat} (ho : d.on (QM_Qn_CFG_ORG q) = true) (hf : (d.queue q).fault = false)
    (hw : (d.queue q).win.length ≤ 8) (hs : 0 < (d.queue q).spilled + (d.queue q).tail.length) : d.queueMove q = d.queueRefill q := by
  unfold Dev.queueMove
  exact (if_neg (by simp [ho, hf])).trans (if_pos (by rw [decide_eq_true hw, decide_eq_true hs]; rfl))

/-- Settles O12, clause by clause: a queue's ports and its registers come to the same push and pop. -/
theorem memoryAndQueueCommandsComplete : Obligations.MemoryAndQueueCommandsComplete := by
  unfold Obligations.MemoryAndQueueCommandsComplete
  intro d hr
  refine ⟨?read, ?write, ?access, ?bankConfig, ?handover, ?effect, ?scrub, ?borrowBegin, ?borrowGood, ?borrowEnd, ?borrowAbort, ?btuReset,
    ?pushPort, ?pushBus, ?pushWide, ?stagePort, ?stageBus, ?popPort, ?popBus, ?popWide, ?refill, ?queueReset, ?managerReset⟩
  case read =>
    rintro m a n ⟨w, u⟩ hw rfl hs rfl
    exact Dev.answers_sharedMemoryAccess hr hw hs
  case write =>
    rintro m a n ⟨w, u⟩ l hw rfl hs rfl
    exact Dev.answers_sharedMemoryAccess hr hw hs
  case access =>
    intro m a n w hw
    exact d.answers_core (f := fun d => (w.upsets.foldl Dev.upset d).sharedAccess m a n w.write) (fun _ => rfl) hw hr rfl
  case bankConfig =>
    intro m b v hw ha
    exact d.answers_core (f := fun d => d.put32 m (0x60000 + 0x10 * b) (setBits v.toNat 0 12 (d.rd (MEM_BANKb_OWNER b)))) (fun _ => rfl)
      hw hr (d.put32_reached (reached_MEM_BANKb (lt_of_ok hw)) rfl (setBits_lt v.isLt (by decide)) ha)
  case handover =>
    intro m b v hw ha hwriter ho
    exact d.answers_core (f := fun d => if bits v.toNat 0 12 == d.rd (MEM_BANKb_OWNER b) then d else d.put32 m (0x60000 + 0x10 * b) v.toNat)
      (fun _ => rfl) hw hr ((if_neg (by simpa using ho)).trans
        ((d.put32_reached (reached_MEM_BANKb (lt_of_ok hw)) rfl v.isLt ha).trans (Dev.bankWrite_handover hwriter ho)))
  case effect =>
    intro b o hw _
    exact d.answers_core (f := fun d => d.handoverEffect b) (fun _ => rfl) hw hr rfl
  case scrub => exact fun h => d.answers_core (f := Dev.scrubStep) (fun _ => rfl) rfl hr (Dev.scrubStep_on h)
  case borrowBegin =>
    intro b he hn hb
    exact d.answers_core (f := Dev.borrowBegin) (fun _ => rfl) rfl hr (Dev.borrowBegin_next he hn hb)
  case borrowGood =>
    rintro diff b hw rfl hb hn
    exact d.answers_core (f := fun d => d.borrowEnd none) (fun _ => rfl) hw hr (Dev.borrowEnd_good hb hn)
  case borrowEnd =>
    intro diff b hw _
    exact d.answers_core (f := fun d => d.borrowEnd diff) (fun _ => rfl) hw hr rfl
  case borrowAbort =>
    intro b hw hb
    exact d.answers_core (f := fun d => d.borrowAbort b) (fun _ => rfl) hw hr (if_pos hb)
  case btuReset | managerReset => exact fun hb => d.answers_fn (fun _ => rfl) rfl hr hb
  case pushPort =>
    rintro m q v e x hw rfl rfl hon hright hp
    have hq := lt_of_ok (Bool.and_eq_true_iff.mp hw).1
    exact d.answers_core (f := fun d => d.pushWord (.engine e) q (.low x)) (fun _ => rfl) hw hr
      (Dev.engOut_done hon (Dev.ioWrite_push hq hright hp))
  case pushBus =>
    rintro m q v x hw hm rfl ha hright
    have hq := lt_of_ok (Bool.and_eq_true_iff.mp hw).1
    refine d.answers_core (f := fun d => d.pushWord m q (.low x)) (fun _ => rfl) hw hr ?_
    show d.portPut m (0x1800 + 2 * q) (0x54008 + 0x10 * q) x.toNat = _
    rw [Dev.portPut_bus d hm, Dev.put32_push d hq ha, Nat.mod_eq_of_lt x.isLt]
    exact congrArg Prod.fst (if_pos hright)
  case pushWide =>
    rintro m q v hi x hw rfl rfl hright hs
    refine d.answers_core (f := fun d => d.pushWord .pcie q (.wide hi x)) (fun _ => rfl) hw hr ?_
    simp only [Dev.pushWord, hright, hs, Bool.not_false, Bool.and_true, Dev.when_true]
    rfl
  case stagePort =>
    rintro m q v e hw rfl hon hright
    exact d.answers_core (f := fun d => d.portPut (.engine e) (0x1801 + 2 * q) (0x5400C + 0x10 * q) v.toNat) (fun _ => rfl) hw hr
      (Dev.engOut_done hon (Dev.ioWrite_pushHigh v.toNat (lt_of_ok hw) hright))
  case stageBus =>
    intro m q v hw hm ha hright
    exact d.answers_core (f := fun d => d.portPut m (0x1801 + 2 * q) (0x5400C + 0x10 * q) v.toNat) (fun _ => rfl) hw hr
      ((Dev.portPut_bus d hm _ _ _).trans (Dev.put32_pushHigh d (lt_of_ok hw) ha hright))
  case popPort =>
    rintro m r e q hw rfl rfl hon hright
    obtain ⟨hm, hq⟩ := Bool.and_eq_true_iff.mp (Bool.and_eq_true_iff.mp hw).1
    have hpop := d.answers_queuePop hr hm (of_decide_eq_true hq)
    rwa [show d.portGet (.engine e) _ _ = d.engIn e _ from rfl,
      Dev.engIn_done hon (Dev.ioRead_pop (of_decide_eq_true hq) hright)] at hpop
  case popBus =>
    rintro m r q hw hne rfl ha hright
    obtain ⟨hm, hq⟩ := Bool.and_eq_true_iff.mp (Bool.and_eq_true_iff.mp hw).1
    have hpop := d.answers_queuePop hr hm (of_decide_eq_true hq)
    rwa [Dev.portGet_bus d hne, Dev.get32_pop d (of_decide_eq_true hq) ha hright] at hpop
  case popWide =>
    rintro m r q hw rfl rfl ha hright
    have hq := lt_of_ok (Bool.and_eq_true_iff.mp hw).1
    exact d.answers_core (f := fun d => (d.get32 .pcie (0x54000 + 0x10 * q)).get32 .pcie (0x54004 + 0x10 * q)) (fun _ => rfl) hw hr
      (congrArg (fun d : Dev => d.get32 .pcie (0x54004 + 0x10 * q)) (Dev.get32_pop d hq ha hright))
  case refill =>
    intro q hw ho hf hwin hs
    exact d.answers_core (f := fun d => d.queueMove q) (fun _ => rfl) hw hr (Dev.queueMove_refill ho hf hwin hs)
  case queueReset =>
    intro q hw hb
    exact d.answers_fn (f := fun d => d.queueReset q) (fun _ => rfl) hw hr hb

end Sys2Proof.Machine

/-! Mailboxes, doorbells and locks (spec/13): O13 -/

namespace Sys2Proof.Machine

/-! ### A read of a register of one word -/

theorem Dev.regRead_single (d : Dev) (m : Master) {r : RegRow} {ix : List Nat} (hk : r.kind.window = false) (hw : r.words = 1)
    (hc : ∀ f ∈ r.fields, f.acc ≠ .rc) :
    d.regRead m (r.last ix) = (d.readRemoves (r.last ix), .done (bits (d.view (r.last ix)) 0 32)) := by
  have hword : (r.last ix).word = 0 := by rw [RegRow.last, hw]
  rw [d.regRead_fields m hk, Dev.readWord, if_pos hword]
  show ((forNums (r.words - 1) _ d).readClears (r.last ix) |>.readRemoves (r.last ix), _) = _
  rw [hw]
  exact congrArg (fun x : Dev => (x.readRemoves (r.last ix), IoRes.done (bits (d.view (r.last ix)) 0 32))) (d.readClears_none hc)

theorem Dev.answers_readSingle (d : Dev) {c : Instr} {ok : Bool} {m : Master} {off : Nat} {r : RegRow} {ix : List Nat} {d' : Dev}
    (h : ∀ s, exec c s = s.busR ok m off) (hk : (m.ok && ok) = true) (hr : d.inReset = false)
    (found : findReg off = some (r.last ix)) (place : r.base + instOff r.dims ix + 4 * (r.words - 1) = off) (hin : inRegisters off)
    (ha : d.admits m (r.last ix) = true)
    (he : (d.readRemoves (r.last ix)).emit (.read m.uid (bits (d.view (r.last ix)) 0 32)) = d')
    (hwin : r.kind.window = false := by rfl) (hword : r.words = 1 := by rfl)
    (hrc : ∀ f ∈ r.fields, f.acc ≠ .rc := by decide) : d.answers c d' := by
  have hread := d.regRead_single m (ix := ix) hwin hword hrc
  exact d.answers_read h hk hr found place hin.low hin.mapped hin.noWindow ha (by rw [hread]; exact he)

/-! ### Mailboxes -/

theorem Dev.mbWrite_stage {d : Dev} {m : Master} {n w : Nat} (v : Nat) (h4 : 4 ≤ w) (h7 : w < 7) (hs : d.mbSender n m = true) :
    d.mbWrite m n w v = (d.mbStaged m.uid n w v, .done 0) := by
  unfold Dev.mbWrite
  exact (if_neg (by omega)).trans ((if_pos h7).trans (if_pos hs))

theorem Dev.mbWrite_post {d : Dev} {m : Master} {n : Nat} (v : Nat) (hs : d.mbSender n m = true) (hen : d.on (MBX_MBm_CFG_EN n) = true)
    (hm : (d.box n).msg = none) : d.mbWrite m n 7 v = (d.mbPosted m n v, .done 0) :=
  Dev.mbPost_empty v hs hen hm

theorem Dev.mbRead_header {d : Dev} {m : Master} {n : Nat} (h : d.mbReceiver n m = true) : d.mbRead m n 0
    = (d.mbLatch m n, .done ((tgetD ((d.mbLatch m n).box n).latch m.uid []).getD 0 0)) := by
  unfold Dev.mbRead
  exact if_pos h

theorem Dev.mbRead_take {d : Dev} {m : Master} {n : Nat} (h : d.mbReceiver n m = true) :
    d.mbRead m n 7 = ((d.mbTake m n).1, .done (d.mbTake m n).2) := by
  unfold Dev.mbRead
  exact if_pos h

theorem Dev.ioWrite_box (d : Dev) (e v : Nat) {n w : Nat} (hn : n < 256) (hw : w < 8) :
    d.ioWrite e (0x800 + 8 * n + w) v = d.mbWrite (.engine e) n w v := by
  rw [Dev.ioWrite, ioPortOf_mailbox hn hw]

theorem Dev.ioRead_box (d : Dev) (e : Nat) {n w : Nat} (hn : n < 256) (hw : w < 8) :
    d.ioRead e (0x800 + 8 * n + w) = d.mbRead (.engine e) n w := by
  rw [Dev.ioRead, ioPortOf_mailbox hn hw]

/-! ### Doorbells and locks -/

theorem Dev.ioWrite_doorbell (d : Dev) (e v : Nat) {n : Nat} (hn : n < 512) : d.ioWrite e (0x400 + n) v = (d.ring n, .done 0) := by
  rw [Dev.ioWrite, ioPortOf_doorbell hn]

theorem Dev.ioRead_lock (d : Dev) (e : Nat) {n : Nat} (hn : n < 64) :
    d.ioRead e (0x600 + n) = ((d.lockAcquire (.engine e) n).1, .done (d.lockAcquire (.engine e) n).2) := by
  rw [Dev.ioRead, ioPortOf_lock hn]

theorem Dev.ioWrite_lock (d : Dev) (e v : Nat) {n : Nat} (hn : n < 64) : d.ioWrite e (0x600 + n) v = d.lockRelease (.engine e) n := by
  rw [Dev.ioWrite, ioPortOf_lock hn]

/-- A peek counts as contention where the lock is held (R368). -/
theorem Dev.readRemoves_peek (d : Dev) (n : Nat) :
    d.readRemoves (row_MBX_LKn_PEEK.last [n]) = d.when ((d.lock n).holder.isSome) (fun d => d.inc (MBX_LKn_CNT_CONT n)) := rfl

theorem Dev.regApply_force (d : Dev) (n : Nat) {v : Nat} (hv : bit v 0 = true) :
    d.regApply .supervisor (row_MBX_LKn_FORCE.last [n]) v
      = if (d.lock n).holder.isSome then d.breakLock n true else d.setLock n ⟨none, true⟩ := by
  show d.when (bit v 0 || Master.supervisor != .supervisor) (fun d => d.lockForce .supervisor n) = _
  rw [hv]
  rfl

/-- Settles O13, clause by clause: the engines' ports and the registers come to the same operations. -/
theorem mailboxCommandsComplete : Obligations.MailboxCommandsComplete := by
  unfold Obligations.MailboxCommandsComplete
  intro d hr
  refine ⟨?stagePort, ?stageBus, ?postPort, ?postBus, ?headerPort, ?headerBus, ?takePort, ?takeBus, ?reset, ?unitReset, ?ringPort, ?ringBus,
    ?acquirePort, ?acquireBus, ?peekFree, ?peekHeld, ?releasePort, ?releaseBus, ?forceHeld, ?forceFree⟩
  case stagePort =>
    rintro m n w v e hw rfl hon hs
    obtain ⟨h4w, h7⟩ := Bool.and_eq_true_iff.mp hw
    obtain ⟨hn, h4⟩ := Bool.and_eq_true_iff.mp h4w
    have hport := (d.ioWrite_box e v.toNat (lt_of_ok hn) (Nat.lt_succ_of_lt (of_decide_eq_true h7))).trans
      (Dev.mbWrite_stage v.toNat (of_decide_eq_true h4) (of_decide_eq_true h7) hs)
    exact d.answers_core (f := fun d => d.portPut (.engine e) (0x0800 + 8 * n + w) (mbWordOff n w) v.toNat) (fun _ => rfl) hw hr
      (Dev.engOut_done hon hport)
  case stageBus =>
    intro m n w v hw hm ha hs
    obtain ⟨h4w, h7⟩ := Bool.and_eq_true_iff.mp hw
    obtain ⟨hn, h4⟩ := Bool.and_eq_true_iff.mp h4w
    refine d.answers_core (f := fun d => d.portPut m (0x0800 + 8 * n + w) (mbWordOff n w) v.toNat) (fun _ => rfl) hw hr ?_
    rw [Dev.portPut_bus d hm, d.put32_box (lt_of_ok hn) (Nat.lt_succ_of_lt (of_decide_eq_true h7)) hm ha,
      Dev.mbWrite_stage v.toNat (of_decide_eq_true h4) (of_decide_eq_true h7) hs]
  case postPort =>
    rintro m n v e hw rfl hon hs hen hm
    exact d.answers_core (f := fun d => d.portPut (.engine e) (0x0800 + 8 * n + 7) (mbWordOff n 7) v.toNat) (fun _ => rfl) hw hr
      (Dev.engOut_done hon ((d.ioWrite_box e v.toNat (lt_of_ok hw) (by decide)).trans (Dev.mbWrite_post v.toNat hs hen hm)))
  case postBus =>
    intro m n v hw hm ha hs hen hempty
    refine d.answers_core (f := fun d => d.portPut m (0x0800 + 8 * n + 7) (mbWordOff n 7) v.toNat) (fun _ => rfl) hw hr ?_
    rw [Dev.portPut_bus d hm, d.put32_box (lt_of_ok hw) (by decide) hm ha, Dev.mbWrite_post v.toNat hs hen hempty]
  case headerPort =>
    rintro m n e hw rfl hon h
    exact d.answers_core (f := fun d => d.portGet (.engine e) (0x0800 + 8 * n + 0) (mbWordOff n 0)) (fun _ => rfl) hw hr
      (Dev.engIn_done hon ((d.ioRead_box e (lt_of_ok hw) (by decide)).trans (Dev.mbRead_header h)))
  case headerBus =>
    intro m n hw hm ha h
    refine d.answers_core (f := fun d => d.portGet m (0x0800 + 8 * n + 0) (mbWordOff n 0)) (fun _ => rfl) hw hr ?_
    rw [Dev.portGet_bus d hm, d.get32_box (lt_of_ok hw) (by decide) hm ha, Dev.mbRead_header h]
    rfl
  case takePort =>
    rintro m n e hw rfl hon h
    exact d.answers_core (f := fun d => d.portGet (.engine e) (0x0800 + 8 * n + 7) (mbWordOff n 7)) (fun _ => rfl) hw hr
      (Dev.engIn_done hon ((d.ioRead_box e (lt_of_ok hw) (by decide)).trans (Dev.mbRead_take h)))
  case takeBus =>
    intro m n hw hm ha h
    refine d.answers_core (f := fun d => d.portGet m (0x0800 + 8 * n + 7) (mbWordOff n 7)) (fun _ => rfl) hw hr ?_
    rw [Dev.portGet_bus d hm, d.get32_box (lt_of_ok hw) (by decide) hm ha, Dev.mbRead_take h]
    rfl
  case reset =>
    intro n hw hb
    exact d.answers_fn (f := fun d => d.mbReset n) (fun _ => rfl) hw hr hb
  case unitReset => exact fun hb => d.answers_fn (fun _ => rfl) rfl hr hb
  case ringPort =>
    rintro m n e hw rfl hon
    exact d.answers_core (f := fun d => d.portPut (.engine e) (0x0400 + n) 0x40400 n) (fun _ => rfl) hw hr
      (Dev.engOut_done hon (d.ioWrite_doorbell e n (lt_of_ok hw)))
  case ringBus =>
    intro m n hw hm ha
    exact d.answers_core (f := fun d => d.portPut m (0x0400 + n) 0x40400 n) (fun _ => rfl) hw hr
      ((Dev.portPut_bus d hm _ _ _).trans (d.put32_ring (lt_of_ok hw) ha))
  case acquirePort =>
    rintro m n e hw rfl hon hfree
    have hport := d.ioRead_lock e (lt_of_ok hw)
    rw [Dev.lockAcquire_free _ hfree] at hport
    exact d.answers_core (f := fun d => d.portGet (.engine e) (0x0600 + n) (0x42000 + 0x10 * n)) (fun _ => rfl) hw hr
      (Dev.engIn_done hon hport)
  case acquireBus =>
    intro m n hw hm ha hfree
    refine d.answers_core (f := fun d => d.portGet m (0x0600 + n) (0x42000 + 0x10 * n)) (fun _ => rfl) hw hr ?_
    rw [Dev.portGet_bus d hm, d.get32_lock (lt_of_ok hw) ha, Dev.lockAcquire_free _ hfree]
  case peekFree =>
    intro m n hw ha hfree
    have hn := lt_of_ok hw
    refine d.answers_readSingle (fun _ => rfl) hw hr (at_MBX_LKn_PEEK hn) rfl (.intro (by omega)) ha ?_
    rw [d.readRemoves_peek n, hfree]
    rfl
  case peekHeld =>
    intro m n hw ha hheld
    have hn := lt_of_ok hw
    refine d.answers_readSingle (fun _ => rfl) hw hr (at_MBX_LKn_PEEK hn) rfl (.intro (by omega)) ha ?_
    rw [d.readRemoves_peek n, Option.isSome_iff_ne_none.mpr hheld]
    rfl
  case releasePort =>
    rintro m n v e hw rfl hon hown
    exact d.answers_core (f := fun d => d.portPut (.engine e) (0x0600 + n) (0x42000 + 0x10 * n) v.toNat) (fun _ => rfl) hw hr
      (Dev.engOut_done hon ((d.ioWrite_lock e v.toNat (lt_of_ok hw)).trans (Dev.lockRelease_own hown)))
  case releaseBus =>
    intro m n v hw hm ha hown
    refine d.answers_core (f := fun d => d.portPut m (0x0600 + n) (0x42000 + 0x10 * n) v.toNat) (fun _ => rfl) hw hr ?_
    rw [Dev.portPut_bus d hm, d.put32_lock (lt_of_ok hw) ha, Dev.lockRelease_own hown]
  case forceHeld =>
    rintro m n v hw ha rfl hheld
    exact d.answers_reachedWord (fun _ => rfl) hw hr (reached_MBX_LKn_FORCE (of_decide_eq_true hw)) rfl ha
      ((Dev.regApply_force _ n (bit_withField_one v (by decide))).trans (if_pos (Option.isSome_iff_ne_none.mpr hheld)))
  case forceFree =>
    rintro m n v hw ha rfl hfree
    exact d.answers_reachedWord (fun _ => rfl) hw hr (reached_MBX_LKn_FORCE (of_decide_eq_true hw)) rfl ha
      ((Dev.regApply_force _ n (bit_withField_one v (by decide))).trans (if_neg (Option.not_isSome_iff_eq_none.mpr hfree)))

end Sys2Proof.Machine

/-! CAN (spec/14): O14 -/

namespace Sys2Proof.Machine

/-! ### Frames sent (R382, R383, R385) -/

theorem Dev.maySend_idle {d : Dev} {p : Nat} (hj : (d.canOf p).joins = true) (hc : (d.canOf p).cur = none) (hm : d.rd (CAN_CTRL_MODE p) ≠ 1)
    (hf : d.on SUP_STAT_FAULT = false) : d.maySend p = true := by
  simp [Dev.maySend, hj, hc, hm, hf]

/-- The frame chosen when the bus came idle goes first, else the one that the priorities choose now. -/
theorem Dev.attemptStart_with {d : Dev} {p b : Nat} (hs : d.maySend p = true) (hb : (d.canOf p).next.or (d.txChoice p) = some b) :
    d.attemptStart p = ((d.wr (CAN_TXBb_STAT_TXST p b) txActive).inc (CAN_TXBb_STAT_ATTEMPTS p b)).setCan p
      { d.canOf p with cur := some b, abort := false, idle := false, next := none } := by
  simp only [Dev.attemptStart, hs, hb]
  exact if_neg (by decide)

theorem Dev.attemptStart_none {d : Dev} {p : Nat} (hs : d.maySend p = true) (hn : (d.canOf p).next = none) (hc : d.txChoice p = none) :
    d.attemptStart p = d.setCan p { d.canOf p with idle := true } := by
  simp only [Dev.attemptStart, hs, hn, hc, Option.or_none]
  exact if_neg (by decide)

theorem Dev.arbitrationLost_aborted {d : Dev} {p b : Nat} (hc : (d.canOf p).cur = some b) (ha : (d.canOf p).abort = true) :
    d.arbitrationLost p = ((d.setCan p { d.canOf p with cur := none, abort := false }).inc (CAN_ARBLOST_CNT p)).txFinal p b 5 := by
  simp only [Dev.arbitrationLost, hc, ha, if_true]

theorem Dev.arbitrationLost_again {d : Dev} {p b : Nat} (hc : (d.canOf p).cur = some b) (ha : (d.canOf p).abort = false) :
    d.arbitrationLost p
      = (fun d' : Dev => if d'.on (CAN_TXBb_ID_ONESHOT p b) then d'.txFinal p b 7 else d'.wr (CAN_TXBb_STAT_TXST p b) txPending)
        ((d.setCan p { d.canOf p with cur := none, abort := false }).inc (CAN_ARBLOST_CNT p)) := by
  simp only [Dev.arbitrationLost, hc, ha]
  exact if_neg (by decide)

/-! ### Frames and errors met while none of the port's own is on the bus -/

theorem Dev.canReceived_plain {d : Dev} {p : Nat} {f : CanFrame} (sof : Nat) (hj : (d.canOf p).joins = true) (hc : (d.canOf p).cur = none)
    (ha : d.on (CAN_STAT_ABRBUSY p) = false) (hf : f.fdf = false ∨ d.on (CAN_CFG_FDEN p) = true) : d.canReceived p f sof
      = ((((d.canBusy p).inc (CAN_RXOK_CNT p)).clr (CAN_STAT_NOACK p)).canReceivedOk p).canAcked p f sof := by
  have hfd : (f.fdf && (false || !d.on (CAN_CFG_FDEN p))) = false := by
    rcases hf with h | h <;> simp [h]
  simp only [Dev.canReceived, hj, hc, ha, hfd, Option.isSome_none, Bool.not_true, Bool.or_self, Bool.false_and, Bool.false_eq_true, if_false,
    Dev.when_false]

/-- A receiver's error counts, and its flag is the port's own (R389). -/
theorem Dev.canError_received {d : Dev} {p : Nat} {e : CanErr} (hj : (d.canOf p).joins = true) (hc : (d.canOf p).cur = none)
    (ha : d.on (CAN_STAT_ABRBUSY p) = false) (ht : e.tx = false) (hl : e.lec ≠ 3) : d.canError p e
      = ((((d.canBusy p).wr (CAN_ERR_LEC p) e.lec).inc (CAN_RXERR_CNT p)).canFlag p).canCounters p (d.canOf p).txErr
        ((d.canOf p).rxErr + (if e.primary then 8 else 1)) := by
  have h3 : (e.lec == 3) = false := beq_false_of_ne hl
  simp only [Dev.canError, hj, hc, ha, ht, h3, Bool.not_true, Bool.false_and, Bool.or_self, Bool.false_eq_true, if_false]

theorem Dev.canError_sent {d : Dev} {p b : Nat} {e : CanErr} (hj : (d.canOf p).joins = true) (hc : (d.canOf p).cur = some b)
    (ha : d.on (CAN_STAT_ABRBUSY p) = false) (ht : e.tx = true) (hl : e.lec ≠ 3 ∨ d.rd (CAN_CTRL_MODE p) ≠ 2) :
    d.canError p e = d.canTxError p b e := by
  have hack : (e.lec == 3 && d.rd (CAN_CTRL_MODE p) == 2) = false := by
    rcases hl with h | h <;> simp [h]
  simp only [Dev.canError, hj, hc, ha, ht, hack, Bool.not_true, Bool.false_or, Bool.false_eq_true, if_false]

theorem Dev.canException_counted {d : Dev} {p : Nat} (hj : (d.canOf p).joins = true) (ha : d.on (CAN_STAT_ABRBUSY p) = false)
    (hx : d.on (CAN_CFG_PXDIS p) = false) : d.canException p
      = (fun d' : Dev => d'.setCan p { d'.canOf p with waiting := true, idle := false, next := none })
        ((d.inc (CAN_PXCNT_CNT p)).postEvent 0x0F09 (canUid p) 0) := by
  simp only [Dev.canException, hj, ha, hx, Bool.not_true, Bool.false_and, Bool.false_eq_true, if_false, Dev.when_false]

/-! ### Bus-off and the bit-rate search (R381, R389) -/

theorem Dev.canRecovered_due {d : Dev} {p : Nat} (ho : (d.canOf p).on = true) (he : (d.canOf p).errState = 2)
    (hr : (d.canOf p).recovering = true) : d.canRecovered p
      = ((d.setCan p { d.canOf p with recovering := false }).canCounters p 0 0).postEvent 0x0F03 (canUid p) 0 := by
  unfold Dev.canRecovered
  exact if_pos ⟨ho, he, hr⟩

theorem Dev.canCtrl_search {d : Dev} {p v : Nat} (h3 : bit v 3 = true) (h0 : bit v 0 = false) (h4 : bit v 4 = false)
    (he : d.on (CAN_CTRL_EN p) = false) : d.canCtrl p v = (d.wr (CAN_CTRL_MODE p) (bits v 1 2)).canAbrStart p := by
  simp only [Dev.canCtrl, h3, h0, h4, he, Bool.or_self, Bool.and_false, Bool.false_and, Bool.false_eq_true, if_false, if_true, Dev.when_false]

theorem Dev.canDwell_over {d : Dev} {p : Nat} (ha : d.on (CAN_STAT_ABRBUSY p) = true)
    (ht : (d.canOf p).taken + d.rd (CAN_ABRCFG_DWELL p) * (1000000 * 65536) ≤ d.tb.lt) : d.canDwell p = d.canAbrNext p := by
  have hover : d.dwellOver p = true := decide_eq_true ht
  unfold Dev.canDwell
  exact if_pos (by rw [ha, hover]; rfl)

/-- Settles O14, clause by clause: each names what its command's write or effect comes to. -/
theorem canCommandsComplete : Obligations.CanCommandsComplete := by
  unfold Obligations.CanCommandsComplete
  intro d hr
  refine ⟨?request, ?abort, ?startChosen, ?startNext, ?startNone, ?lostAborted, ?lostAgain, ?sent, ?received, ?errorReceived, ?errorSent,
    ?exception, ?waitEnd, ?borec, ?recovered, ?search, ?dwell, ?reset⟩
  case request =>
    intro m p v hw ha
    exact d.answers_reachedWord (fun _ => rfl) hw hr (reached_CAN_TXREQ (lt_of_ok hw)) rfl ha rfl
  case abort =>
    intro m p v hw ha
    exact d.answers_reachedWord (fun _ => rfl) hw hr (reached_CAN_TXABT (lt_of_ok hw)) rfl ha rfl
  case startChosen =>
    intro p b hw hj hc hm hf hn hb
    exact d.answers_core (f := fun d => d.attemptStart p) (fun _ => rfl) hw hr
      (Dev.attemptStart_with (Dev.maySend_idle hj hc hm hf) (by rw [hn, hb]; rfl))
  case startNext =>
    intro p b hw hs hn
    exact d.answers_core (f := fun d => d.attemptStart p) (fun _ => rfl) hw hr (Dev.attemptStart_with hs (by rw [hn]; rfl))
  case startNone =>
    intro p hw hs hn hc
    exact d.answers_core (f := fun d => d.attemptStart p) (fun _ => rfl) hw hr (Dev.attemptStart_none hs hn hc)
  case lostAborted =>
    intro p b hw hc ha
    exact d.answers_core (f := fun d => d.arbitrationLost p) (fun _ => rfl) hw hr (Dev.arbitrationLost_aborted hc ha)
  case lostAgain =>
    intro p b hw hc ha
    exact d.answers_core (f := fun d => d.arbitrationLost p) (fun _ => rfl) hw hr (Dev.arbitrationLost_again hc ha)
  case sent =>
    intro p sof tdcv b hw _ _
    exact d.answers_core (f := fun d => d.canSent p sof tdcv) (fun _ => rfl) hw hr rfl
  case received =>
    intro p f sof hw hj hc ha hf
    exact d.answers_core (f := fun d => d.canReceived p f sof) (fun _ => rfl) hw hr (Dev.canReceived_plain sof hj hc ha hf)
  case errorReceived =>
    intro p e hw hj hc ha ht hl
    exact d.answers_core (f := fun d => d.canError p e) (fun _ => rfl) hw hr (Dev.canError_received hj hc ha ht hl)
  case errorSent =>
    intro p e b hw hj hc ha ht hl
    exact d.answers_core (f := fun d => d.canError p e) (fun _ => rfl) hw hr (Dev.canError_sent hj hc ha ht hl)
  case exception =>
    intro p hw hj ha hx
    exact d.answers_core (f := fun d => d.canException p) (fun _ => rfl) hw hr (Dev.canException_counted hj ha hx)
  case waitEnd =>
    intro p hw
    exact d.answers_core (f := fun d => d.canWaitEnd p) (fun _ => rfl) hw hr rfl
  case borec =>
    intro m p v hw ha _ _ _ _
    exact d.answers_reachedWord (fun _ => rfl) hw hr (reached_CAN_CTRL (lt_of_ok hw)) rfl ha rfl
  case recovered =>
    intro p hw ho he hrec
    exact d.answers_core (f := fun d => d.canRecovered p) (fun _ => rfl) hw hr (Dev.canRecovered_due ho he hrec)
  case search =>
    intro m p v hw ha h0 h4 he
    exact d.answers_reachedWord (fun _ => rfl) hw hr (reached_CAN_CTRL (lt_of_ok hw)) rfl ha
      (Dev.canCtrl_search (bit_withField_one v (by decide)) h0 h4 he)
  case dwell =>
    intro p hw ha ht
    exact d.answers_core (f := fun d => d.canDwell p) (fun _ => rfl) hw hr (Dev.canDwell_over ha ht)
  case reset =>
    intro p hw hb
    exact d.answers_fn (f := fun d => d.canReset p) (fun _ => rfl) hw hr hb

end Sys2Proof.Machine

/-! Start, image loader and NOR (spec/15, spec/16): O15 -/

namespace Sys2Proof.Machine

/-! ### Clock checks (R397) -/

theorem Dev.fineCheck_within {d : Dev} {n : Nat} (hr : d.on LDR_CLKSTAT_RCFALL = false) (hx : d.on LDR_CLKSTAT_X32OK = true)
    (h : 781094 ≤ n ∧ n ≤ 781406) : d.fineCheck n = (d.wr LDR_REFMEAS_COUNT n).put LDR_CLKSTAT_REFFINE true := by
  unfold Dev.fineCheck
  exact (if_neg (by rw [hr, hx]; decide)).trans (if_pos h)

theorem Dev.fineCheck_out {d : Dev} {n : Nat} (hr : d.on LDR_CLKSTAT_RCFALL = false) (hx : d.on LDR_CLKSTAT_X32OK = true)
    (h : n < 781094 ∨ 781406 < n) : d.fineCheck n
      = (((d.wr LDR_REFMEAS_COUNT n).put LDR_CLKSTAT_REFFINE false).put LDR_CLKSTAT_REFDIS true).postEvent 0x0208 0x0F9 2 := by
  unfold Dev.fineCheck
  exact (if_neg (by rw [hr, hx]; decide)).trans (if_neg (by omega))

/-- Out of reset no cause waits for the reference clock. -/
theorem Dev.causes_of_running {d : Dev} (h : d.inReset = false) : d.sup.por = false ∧ d.sup.causes = 0 := by
  simp only [Dev.inReset, Bool.or_eq_false_iff, bne_eq_false_iff_eq] at h
  exact h.1

theorem Dev.coarseCheck_judged {d : Dev} (n : Nat) (hr : d.inReset = false) (hs : d.rd LDR_STAT_STATE = 0)
    (ho : d.on LDR_CLKSTAT_REFOK = false) : d.coarseCheck n
      = if 24414 * 95 ≤ n * 100 ∧ n * 100 ≤ 24414 * 105 then (d.put LDR_CLKSTAT_REFOK true).modSup (fun x => { x with refGood := true })
        else (d.inc LDR_CLKFAIL_FAILS).modSup (fun x => { x with coarseDue := true }) := by
  obtain ⟨hpor, hcauses⟩ := Dev.causes_of_running hr
  have hheld : bit 0 8 = false := by decide
  simp only [Dev.coarseCheck, hpor, hcauses, hheld, hr, hs, ho, Bool.false_and, Bool.false_or, Bool.not_false, Bool.true_and]
  exact if_neg (by decide)

/-! ### Bursts of the NOR flash (R402) -/

theorem Dev.cmdReading_loading {d : Dev} (h : d.loading = true) : d.cmdReading = none := by
  unfold Dev.cmdReading
  exact if_pos h

theorem Dev.burstDone_loading {d : Dev} (n : Nat) (h : d.loading = true) : d.burstDone n
    = d.modLdr (fun x => { x with got := min (hdrLength (d.slotHdr (d.rd LDR_STAT_SLOT)) + 128) (x.got + min n 4096) }) := by
  simp only [Dev.burstDone, Dev.cmdReading_loading h, h, Dev.when_true]

theorem Dev.burstDone_command {d : Dev} {c : NorCmd} (n : Nat) (h : d.cmdReading = some c) :
    d.burstDone n = d.modLdr (fun x => { x with cmd := some { c with got := c.got + min n 4096 } }) := by
  simp only [Dev.burstDone, h]

theorem Dev.burstFails_loading {d : Dev} (h : d.loading = true) : d.burstFails = d.loadBurstFails := by
  simp only [Dev.burstFails, Dev.cmdReading_loading h, h, Dev.when_true]

theorem Dev.burstFails_command {d : Dev} {c : NorCmd} (h : d.cmdReading = some c) : d.burstFails = d.cmdBurstFails c := by
  simp only [Dev.burstFails, h]

/-! ### Records and commands of the loader -/

/-- A record of a type that is reserved is refused where another would be applied (R416). -/
theorem Dev.record_reserved {d : Dev} {r : Rec} {n typ : Nat} (h : d.atRecord r n typ) (ht : typ = 0 ∨ 6 < typ) :
    d.record (fun t => t == 0 || decide (6 < t)) (fun d _ => (d, .refused 0x12))
      = d.recordRefused r n (d.recBytes (d.rd LDR_STAT_SLOT) r) 0x12 :=
  d.record_at h (by simpa using ht)

theorem Dev.norDone_failed {d : Dev} {c : NorCmd} (l : List (BitVec 8)) (hc : d.ldr.cmd = some c) (hi : d.on LDR_NORSTAT_INHIB = false)
    (hs : d.on LDR_NORSTAT_SUSP = false) : d.norDone (some l)
      = ((d.modLdr (fun x => { x with nor := cellsPut x.nor c.range.1 ((l.take c.range.2).map (fun b => ~~~b)) })).put LDR_NORSTAT_ERR
        true).norEnds := by
  simp only [Dev.norDone, hc, hi, hs, Bool.or_self, Bool.false_eq_true, if_false]

/-! ### Resets (R427 to R429) -/

theorem Dev.regApply_supRst (d : Dev) (m : Master) : d.regApply m (row_SUP_RST.last []) 0x3C000001 = d.warm 3 := by
  show d.writeSup m (row_SUP_RST.last []) .rst 0x3C000001 = _
  unfold Dev.writeSup
  exact if_pos (by decide)

theorem Dev.porEnd_begins {d : Dev} (hp : d.sup.por = true) (hv : d.sup.vddLate = false) : d.porEnd = d.startUp 1 := by
  unfold Dev.porEnd
  exact (if_neg (by rw [hp, hv]; decide)).trans (if_pos (by rw [hp]; rfl))

theorem Dev.porEnd_late {d : Dev} (hp : d.sup.por = true) (hv : d.sup.vddLate = true) : d.porEnd
    = (d.wr AON_RSTCAUSE_CAUSE 3).modSup (fun x => { x with por := false, vddLate := false, causes := 2 }) := by
  unfold Dev.porEnd
  exact if_pos (by rw [hp, hv]; rfl)

theorem Dev.brownOut_on {d : Dev} (hp : d.sup.por = false) (hs : d.sup.phase ≠ .standby) :
    d.brownOut = ((d.put AON_SUPPLY_VDDOK false).put AON_SUPPLY_BOSEEN true).warm 1 true := by
  unfold Dev.brownOut
  exact (if_neg (by simp [hp])).trans (if_neg hs)

/-- In Standby the core is off: a brown-out reaches what the recorder holds alone (R443). -/
theorem Dev.brownOut_standby {d : Dev} (hp : d.sup.por = false) (hs : d.sup.phase = .standby) : d.brownOut
    = { (d.put AON_SUPPLY_VDDOK false).put AON_SUPPLY_BOSEEN true with
      evr := ((d.put AON_SUPPLY_VDDOK false).put AON_SUPPLY_BOSEEN true).evrWarm true } := by
  unfold Dev.brownOut
  exact (if_neg (by simp [hp])).trans (if_pos hs)

theorem Dev.refclkLoss_on {d : Dev} (hp : d.sup.por = false) (hs : d.sup.phase ≠ .standby) :
    d.refclkLoss = ((d.put LDR_CLKSTAT_REFOK false).modSup (fun x => { x with refGood := false })).warm 8 := by
  unfold Dev.refclkLoss
  exact (if_neg (by simp [hp])).trans (if_neg hs)

theorem Dev.warmEnd_starts {d : Dev} (hp : d.sup.por = false) (hc : d.sup.causes ≠ 0) (hs : d.sup.phase = .on)
    (hr : bit d.sup.causes 8 = false ∨ d.sup.refGood = true) : d.warmEnd = d.startUp d.sup.causes := by
  have hclock : (bit d.sup.causes 8 && !d.sup.refGood) = false := by
    rcases hr with h | h <;> simp [h]
  unfold Dev.warmEnd
  exact if_neg (by simp [hp, hc, hs, hclock])

/-- Settles O15: the commands of the core first, then those of the island, which a held core does not stop. -/
theorem startAndLoaderCommandsComplete : Obligations.StartAndLoaderCommandsComplete := by
  unfold Obligations.StartAndLoaderCommandsComplete
  intro d
  refine ⟨fun hr => ⟨?supRst, ?pllLock, ?fineGood, ?fineBad, ?probe, ?burstLoading, ?burstCommand, ?burstLoadFails, ?burstCommandFails,
    ?burstTimeout, ?regwrite, ?memload, ?engimage, ?table, ?pinsafe, ?keyref, ?reserved, ?poll, ?delay, ?rollback, ?signature, ?commit,
    ?norRead, ?norProgram, ?norErase4k, ?norErase64k, ?norCheck, ?doneWell, ?doneBadly, ?loaderReset⟩, ?por, ?porEnd, ?porLate,
    ?brownPor, ?brownOn, ?brownStandby, ?rstN, ?rstNWake, ?refclkLoss, ?testen, ?warmEnd, ?coarseGood, ?coarseBad, ?xtalGood, ?xtalBad⟩
  case supRst =>
    intro m hw ha
    exact d.answers_reachedWord (fun _ => rfl) ((Bool.and_true _).trans hw) hr reached_SUP_RST rfl ha (Dev.regApply_supRst _ m)
  case pllLock => exact fun _ _ => d.answers_core (f := Dev.pllLock) (fun _ => rfl) rfl hr rfl
  case fineGood =>
    intro n hw hrc hx h1 h2
    exact d.answers_core (f := fun d => d.fineCheck n) (fun _ => rfl) hw hr (Dev.fineCheck_within hrc hx ⟨h1, h2⟩)
  case fineBad =>
    intro n hw hrc hx h
    exact d.answers_core (f := fun d => d.fineCheck n) (fun _ => rfl) hw hr (Dev.fineCheck_out hrc hx h)
  case probe =>
    intro density failsA failsB hw _
    exact d.answers_core (f := fun d => d.norProbe density failsA failsB) (fun _ => rfl) hw hr rfl
  case burstLoading =>
    rintro n good hw rfl h
    exact d.answers_core (f := fun d => d.burstDone n) (fun _ => rfl) hw hr (Dev.burstDone_loading n h)
  case burstCommand =>
    rintro n good c hw rfl h
    exact d.answers_core (f := fun d => d.burstDone n) (fun _ => rfl) hw hr (Dev.burstDone_command n h)
  case burstLoadFails =>
    rintro n good hw rfl h
    exact d.answers_core (f := Dev.burstFails) (fun _ => rfl) hw hr (Dev.burstFails_loading h)
  case burstCommandFails =>
    rintro n good c hw rfl h
    exact d.answers_core (f := Dev.burstFails) (fun _ => rfl) hw hr (Dev.burstFails_command h)
  case burstTimeout => exact fun h => d.answers_core (f := Dev.burstFails) (fun _ => rfl) rfl hr (Dev.burstFails_loading h)
  case regwrite =>
    exact fun r n h => d.answers_core (f := fun d => d.record (· == 1) Dev.regWriteRecord) (fun _ => rfl) rfl hr (d.record_at h rfl)
  case memload => exact fun r n h => d.answers_core (f := fun d => d.record (· == 2) Dev.memLoad) (fun _ => rfl) rfl hr (d.record_at h rfl)
  case engimage => exact fun r n h => d.answers_core (f := fun d => d.record (· == 3) Dev.engImage) (fun _ => rfl) rfl hr (d.record_at h rfl)
  case table => exact fun r n h => d.answers_core (f := fun d => d.record (· == 4) Dev.tableRecord) (fun _ => rfl) rfl hr (d.record_at h rfl)
  case pinsafe => exact fun r n h => d.answers_core (f := fun d => d.record (· == 5) Dev.pinSafe) (fun _ => rfl) rfl hr (d.record_at h rfl)
  case keyref => exact fun r n h => d.answers_core (f := fun d => d.record (· == 6) Dev.keyRef) (fun _ => rfl) rfl hr (d.record_at h rfl)
  case reserved =>
    intro r n typ h ht
    exact d.answers_core (f := fun d => d.record (fun t => t == 0 || decide (6 < t)) (fun d _ => (d, .refused 0x12))) (fun _ => rfl) rfl hr
      (Dev.record_reserved h ht)
  case poll =>
    intro expired r n i hw h hwait hop
    exact d.answers_core (f := fun d => d.recordGoes 1 (fun d l i => d.pollAgain l i expired)) (fun _ => rfl) hw hr
      (d.recordGoes_at h hwait hop)
  case delay =>
    intro r n i e es h hwait hdrop hop ht
    exact d.answers_core (f := fun d => d.recordGoes 2 Dev.delayOver) (fun _ => rfl) rfl hr (d.delay_at h hwait hdrop hop ht)
  case rollback => exact fun _ => d.answers_core (f := Dev.rollback) (fun _ => rfl) rfl hr rfl
  case signature => exact fun _ _ _ => d.answers_core (f := Dev.signature) (fun _ => rfl) rfl hr rfl
  case commit => exact fun _ => d.answers_core (f := Dev.commit) (fun _ => rfl) rfl hr rfl
  case norRead =>
    intro m v hw ha hs hb
    exact d.answers_reachedWord (fun _ => rfl) ((Bool.and_true _).trans hw) hr reached_LDR_NORCMD rfl ha
      (Dev.norCommand_starts hs hb (.inl (bits_withField v 0 (by decide))))
  case norProgram =>
    intro m v hw ha hs hb ht
    exact d.answers_reachedWord (fun _ => rfl) ((Bool.and_true _).trans hw) hr reached_LDR_NORCMD rfl ha
      (Dev.norCommand_starts hs hb (.inr (.inr (by rw [bits_withField v 1 (by decide)]; exact ht))))
  case norErase4k =>
    intro m v hw ha hs hb ht
    exact d.answers_reachedWord (fun _ => rfl) ((Bool.and_true _).trans hw) hr reached_LDR_NORCMD rfl ha
      (Dev.norCommand_starts hs hb (.inr (.inr (by rw [bits_withField v 2 (by decide)]; exact ht))))
  case norErase64k =>
    intro m v hw ha hs hb ht
    exact d.answers_reachedWord (fun _ => rfl) ((Bool.and_true _).trans hw) hr reached_LDR_NORCMD rfl ha
      (Dev.norCommand_starts hs hb (.inr (.inr (by rw [bits_withField v 3 (by decide)]; exact ht))))
  case norCheck =>
    intro m v hw ha hs hb
    exact d.answers_reachedWord (fun _ => rfl) ((Bool.and_true _).trans hw) hr reached_LDR_NORCMD rfl ha
      (Dev.norCommand_starts hs hb (.inr (.inl (by rw [bits_withField v 4 (by decide)]; decide))))
  case doneWell =>
    rintro left c hw rfl _ _ _
    exact d.answers_core (f := fun d => d.norDone none) (fun _ => rfl) hw hr rfl
  case doneBadly =>
    rintro left c l hw rfl hc hi hs
    exact d.answers_core (f := fun d => d.norDone (some l)) (fun _ => rfl) hw hr (Dev.norDone_failed l hc hi hs)
  case loaderReset => exact fun hb => d.answers_fn (fun _ => rfl) rfl hr hb
  case por => exact d.answers_act (f := Dev.powerOnReset) (fun _ => rfl) rfl rfl
  case porEnd => exact fun hp hv => d.answers_act (f := Dev.porEnd) (fun _ => rfl) rfl (Dev.porEnd_begins hp hv)
  case porLate => exact fun hp hv => d.answers_act (f := Dev.porEnd) (fun _ => rfl) rfl (Dev.porEnd_late hp hv)
  case brownPor => exact fun _ => d.answers_act (f := Dev.brownOut) (fun _ => rfl) rfl rfl
  case brownOn => exact fun hp hs => d.answers_act (f := Dev.brownOut) (fun _ => rfl) rfl (Dev.brownOut_on hp hs)
  case brownStandby => exact fun hp hs => d.answers_act (f := Dev.brownOut) (fun _ => rfl) rfl (Dev.brownOut_standby hp hs)
  case rstN =>
    exact fun hs => d.answers_act (f := fun d => d.holdReset (fun d => d.wake .rstN)) (fun _ => rfl) rfl (if_pos hs)
  case rstNWake =>
    exact fun hs => d.answers_act (f := fun d => d.holdReset (fun d => d.wake .rstN)) (fun _ => rfl) rfl (if_neg hs)
  case refclkLoss => exact fun hp hs => d.answers_act (f := Dev.refclkLoss) (fun _ => rfl) rfl (Dev.refclkLoss_on hp hs)
  case testen => exact fun hs => d.answers_act (f := Dev.testen) (fun _ => rfl) rfl (if_pos hs)
  case warmEnd => exact fun hp hc hs hrg => d.answers_act (f := Dev.warmEnd) (fun _ => rfl) rfl (Dev.warmEnd_starts hp hc hs hrg)
  case coarseGood =>
    intro n hw hr hs ho h1 h2
    exact d.answers_act (f := fun d => d.coarseCheck n) (fun _ => rfl) hw ((Dev.coarseCheck_judged n hr hs ho).trans (if_pos ⟨h1, h2⟩))
  case coarseBad =>
    intro n hw hr hs ho h
    exact d.answers_act (f := fun d => d.coarseCheck n) (fun _ => rfl) hw
      ((Dev.coarseCheck_judged n hr hs ho).trans (if_neg (by omega)))
  case xtalGood =>
    rintro good hw rfl
    exact d.answers_act (f := fun d => d.xtalCheck true) (fun _ => rfl) hw rfl
  case xtalBad =>
    rintro good hw rfl hr
    refine d.answers_act (f := fun d => d.xtalCheck false) (fun _ => rfl) hw ?_
    have hrun : ((d.put LDR_CLKSTAT_X32OK false).put LDR_CLKSTAT_RCFALL true).inReset = false := hr
    simp only [Dev.xtalCheck, Bool.not_false, hrun, Bool.and_self, Dev.when_true]

end Sys2Proof.Machine

/-! Event recorder (spec/17): O17 -/

namespace Sys2Proof.Machine

/-! ### The writer's turns (R463 to R468) -/

theorem Dev.writerTurn_ready {d : Dev} (f : Dev → Dev) (h : d.rd LDR_STAT_STATE ≠ 0) : d.writerTurn f = f d := if_neg h

theorem Dev.recordWrite_next {d : Dev} {r : EvRec} (w : WriteEnd) (hi : d.inhibit = false) (hl : d.evr.logFail = false)
    (hd : d.evr.dirty = false) (hr : d.evr.next = some r) : d.recordWrite w
      = match w with
        | .good => { d with evr := d.evr.taken.store r }
        | .bad => d.slotLost.sectorFails d.evr.widx.val
        | .cut => d.slotLost := by
  unfold Dev.recordWrite
  rw [if_neg (by rw [hi, hl, hd]; decide), hr]
  cases w <;> rfl

/-- Word 7 of the last record, written again in its own slot. -/
theorem Dev.word7Write_slot {d : Dev} {i : Nat} {r : EvRec} (w : WriteEnd) (hi : d.inhibit = false) (hf : d.evr.logFail = false)
    (hd : d.evr.dirty = true) (hl : d.evr.last = some (i, r)) (hw : d.evr.whole = false) : d.word7Write w
      = match w with
        | .good => { d with evr := { d.evr with log := tput d.evr.log i r, spoilt := tdel d.evr.spoilt i, dirty := false, held := false } }
        | .bad => (({ d with evr := { d.evr with whole := true, count := Trip.of (d.evr.count.val - 1) } } : Dev).spoil i).sectorFails i
        | .cut => d.spoil i := by
  simp only [Dev.word7Write, hl, hi, hf, hd, hw, Bool.not_true, Bool.or_self, Bool.false_eq_true, if_false] <;> rfl

/-- A record whose slot failed is written again whole, in the next slot. -/
theorem Dev.word7Write_whole {d : Dev} {i : Nat} {r : EvRec} (hi : d.inhibit = false) (hf : d.evr.logFail = false)
    (hd : d.evr.dirty = true) (hl : d.evr.last = some (i, r)) (hw : d.evr.whole = true) :
    d.word7Write .good = { d with evr := d.evr.store r } := by
  simp only [Dev.word7Write, hl, hi, hf, hd, hw, Bool.not_true, Bool.or_self, Bool.false_eq_true, if_false, if_true]

/-- While no record can be written, the oldest entry moves to the fallback buffer (R467, R468). -/
theorem Dev.fallbackWrite_moves {d : Dev} {r : EvRec} {rest : List EvRec} (hi : d.inhibit = true ∨ d.evr.logFail = true)
    (hn : d.evr.first = none) (hf : d.evr.fifo = r :: rest) (hl : d.evr.fb.length < 16) : d.fallbackWrite
      = { d with evr := { d.evr with fifo := rest, fb := d.evr.fb ++ [{ r with fb := true }] } } := by
  have hroom : decide (16 ≤ d.evr.fb.length) = false := decide_eq_false (Nat.not_le.mpr hl)
  have hkept : (d.inhibit || d.evr.logFail) = true := by simpa using hi
  simp only [Dev.fallbackWrite, hroom, hkept, hn, hf, Bool.not_true, Bool.not_false, Bool.false_and, Bool.or_self, Bool.false_eq_true, if_false,
    if_true]

/-! ### Registers of the recorder -/

theorem Dev.evrCtrl_clear (d : Dev) : d.evrCtrl 0xE5000001 = d.logClear := by
  unfold Dev.evrCtrl
  rw [show bits 0xE5000001 24 8 = 0xE5 from rfl, show bit 0xE5000001 0 = true from rfl, show bit 0xE5000001 1 = false from rfl]
  rfl

theorem Dev.evrCtrl_retest (d : Dev) : d.evrCtrl 0xE5000002 = d.logRetest := by
  unfold Dev.evrCtrl
  rw [show bits 0xE5000002 24 8 = 0xE5 from rfl, show bit 0xE5000002 0 = false from rfl, show bit 0xE5000002 1 = true from rfl]
  rfl

/-- Settles O17: the writer's commands by the end of each write, the others by the registers that they write. -/
theorem recorderCommandsComplete : Obligations.RecorderCommandsComplete := by
  unfold Obligations.RecorderCommandsComplete
  intro d
  refine ⟨fun hr => ⟨?post, ?writeGood, ?writeBad, ?writeCut, ?word7Good, ?word7Bad, ?word7Whole, ?fallback, ?clear, ?retest, ?inject, ?stage,
    ?reset⟩, ?opsec⟩
  case post =>
    intro typ src detail hw
    exact d.answers_core (f := fun d => d.postEvent typ src detail.toNat) (fun _ => rfl) hw hr rfl
  case writeGood =>
    rintro w r hw rfl hs hi hf hd hn
    exact d.answers_core (f := fun d => d.writerTurn (fun d => d.recordWrite .good)) (fun _ => rfl) hw hr
      ((Dev.writerTurn_ready _ hs).trans (Dev.recordWrite_next .good hi hf hd hn))
  case writeBad =>
    rintro w r hw rfl hs hi hf hd hn
    exact d.answers_core (f := fun d => d.writerTurn (fun d => d.recordWrite .bad)) (fun _ => rfl) hw hr
      ((Dev.writerTurn_ready _ hs).trans (Dev.recordWrite_next .bad hi hf hd hn))
  case writeCut =>
    rintro w r hw rfl hs hi hf hd hn
    exact d.answers_core (f := fun d => d.writerTurn (fun d => d.recordWrite .cut)) (fun _ => rfl) hw hr
      ((Dev.writerTurn_ready _ hs).trans (Dev.recordWrite_next .cut hi hf hd hn))
  case word7Good =>
    rintro w i r hw rfl hs hi hf hd hl hwhole
    exact d.answers_core (f := fun d => d.writerTurn (fun d => d.word7Write .good)) (fun _ => rfl) hw hr
      ((Dev.writerTurn_ready _ hs).trans (Dev.word7Write_slot .good hi hf hd hl hwhole))
  case word7Bad =>
    rintro w i r hw rfl hs hi hf hd hl hwhole
    exact d.answers_core (f := fun d => d.writerTurn (fun d => d.word7Write .bad)) (fun _ => rfl) hw hr
      ((Dev.writerTurn_ready _ hs).trans (Dev.word7Write_slot .bad hi hf hd hl hwhole))
  case word7Whole =>
    rintro w i r hw rfl hs hi hf hd hl hwhole
    exact d.answers_core (f := fun d => d.writerTurn (fun d => d.word7Write .good)) (fun _ => rfl) hw hr
      ((Dev.writerTurn_ready _ hs).trans (Dev.word7Write_whole hi hf hd hl hwhole))
  case fallback =>
    intro r rest hs hi hn hf hl
    exact d.answers_core (f := fun d => d.writerTurn Dev.fallbackWrite) (fun _ => rfl) rfl hr
      ((Dev.writerTurn_ready _ hs).trans (Dev.fallbackWrite_moves hi hn hf hl))
  case clear =>
    intro m hw ha
    exact d.answers_reachedWord (fun _ => rfl) ((Bool.and_true _).trans hw) hr reached_EVR_CTRL rfl ha (Dev.evrCtrl_clear _)
  case retest =>
    intro m hw ha
    exact d.answers_reachedWord (fun _ => rfl) ((Bool.and_true _).trans hw) hr reached_EVR_CTRL rfl ha (Dev.evrCtrl_retest _)
  case inject => exact fun m v hw ha => d.answers_inject hr hw ha
  case stage => exact fun m v hw ha => d.answers_injectDataStage hr hw ha
  case reset => exact fun hb => d.answers_fn (fun _ => rfl) rfl hr hb
  case opsec =>
    intro hp hs
    exact d.answers_act (f := fun d => if d.sup.por || d.sup.phase == .standby then d else d.opsecTick) (fun _ => rfl) rfl
      (if_neg (by simp [hp, hs]))

end Sys2Proof.Machine

/-! Host interface and JTAG (spec/18, spec/20): O18 -/

namespace Sys2Proof.Machine

/-! ### Function-level resets (R435) -/

theorem Dev.flr_host (d : Dev) : d.flr false = d.hostReset.resetReport 0x03 0x001 0 := by
  unfold Dev.flr
  exact if_neg (by decide)

theorem Dev.flr_function (d : Dev) : d.flr true = d.fnReset 0x001 (fun d => d.hostReset.resetReport 0x03 0x001 0) := by
  unfold Dev.flr
  exact if_pos rfl

/-! ### Rings of the channels (R483) -/

theorem reached_commandTail {c : Nat} (h : c < 8) : row_HIF_CHc_CTAIL.Reached [c] (tailOff c false) := by
  rw [show tailOff c false = 0x9014 + 0x100 * c from Nat.add_right_comm ..]
  exact reached_HIF_CHc_CTAIL h

theorem reached_receiveTail {c : Nat} (h : c < 8) : row_HIF_CHc_RTAIL.Reached [c] (tailOff c true) := by
  rw [show tailOff c true = 0x902C + 0x100 * c from Nat.add_right_comm ..]
  exact reached_HIF_CHc_RTAIL h

theorem Dev.tailWrite_room {d : Dev} {c v : Nat} {rx : Bool} (h : (v % 65536 + 65536 - d.ringHead c rx) % 65536 ≤ d.ringSize c rx) :
    d.tailWrite c rx v = if rx then d.wr (HIF_CHc_RTAIL_TAIL c) (v % 65536) else d.wr (HIF_CHc_CTAIL_TAIL c) (v % 65536) := by
  unfold Dev.tailWrite
  exact if_neg (Nat.not_lt.mpr h)

theorem Dev.transferComplete_desc {d : Dev} {c st rs n : Nat} {h : HDesc} (hb : (d.chan c).busy = some (.desc h st rs n)) :
    d.transferComplete c = (d.setChan c { d.chan c with busy := none }).chComplete c h st rs n := by
  simp only [Dev.transferComplete, hb]

/-! ### SPI frames (R490, R491) -/

theorem Dev.spiRead_done {d : Dev} {l : List Byte} {ws : List Nat} (hc : spiCrcOk l = true) (hs : d.spiShut (spiOff l) (spiField l + 1) = false)
    (hr : (d.spiReads (spiOff l) (spiField l + 1)).2 = some ws) :
    d.spiRead l = (d.spiReads (spiOff l) (spiField l + 1)).1.spiEnd spiOk ws := by
  simp only [Dev.spiRead, hc, hs, hr, Bool.not_true, Bool.false_eq_true, if_false]

theorem Dev.spiWrite_done {d : Dev} {l : List Byte} (hc : spiCrcOk l = true) (hs : d.spiShut (spiOff l) (spiField l + 1) = false)
    (hw : (d.spiWrites (spiOff l) ((List.range (spiField l + 1)).map (fun i => fieldAt l (4 + 4 * i) 4))).2 = true) : d.spiWrite l
      = (d.spiWrites (spiOff l) ((List.range (spiField l + 1)).map (fun i => fieldAt l (4 + 4 * i) 4))).1.spiEnd spiOk [] := by
  simp only [Dev.spiWrite, hc, hs, hw, Bool.not_true, Bool.false_eq_true, if_false, if_true]

theorem Dev.spiReset_keyed {d : Dev} {l : List Byte} (hc : spiCrcOk l = true) (hf : spiField l = 0) (hk : fieldAt l 1 3 = 0x00003C) :
    d.spiReset l = (d.spiEnd spiOk []).warm 4 := by
  unfold Dev.spiReset
  exact (if_neg (by simp [hc])).trans (if_neg (by simp [hf, hk]))

/-! ### The PCIe link (R476) -/

theorem Dev.pcieChange_up {d : Dev} (rate width : Nat) (hr : d.inReset = false) (hp : d.perstHeld = false) :
    d.pcieChange rate width .up = d.linkChange true rate width :=
  if_neg (by rw [hp, hr]; decide)

theorem Dev.pcieChange_down {d : Dev} (rate width : Nat) (hr : d.inReset = false) : d.pcieChange rate width .down = d.linkChange false 0 0 :=
  if_neg (by rw [hr]; decide)

/-! ### The TAP (R509, R516, R517) -/

theorem Dev.answers_tap (d : Dev) {c : Instr} {ok : Bool} {f : Dev → Dev} {d' : Dev} (h : ∀ s, exec c s = s.tap ok f) (hk : ok = true)
    (hp : d.padsB = true) (he : f d = d') : d.answers c d' :=
  d.answers_act (f := fun d => if d.padsB then f d else d) h hk ((if_pos hp).trans he)

/-- An access of DBGACC runs where the one before has ended and the core is not held. -/
theorem Dev.dbgAcc_runs {d : Dev} (v : Nat) (hd : d.jtag.done = true) (hr : d.inReset = false) : d.dbgAcc v
    = (let d := d.jtagSelect 0x1C (d.jtag.data + b01 d.jtag.done * 2 ^ 32 + b01 d.jtag.err * 2 ^ 33)
      let r := if bit v 63 then d.busWrite .spi (bits v 34 24 * 4) (bits v 0 32) else d.busRead .spi (bits v 34 24 * 4)
      r.1.modJtag (fun j => { j with data := if bit v 63 then j.data else r.2.val, done := true, err := r.2 == .bus })) := by
  have hdone : (!d.jtag.done || d.inReset) = false := by rw [hd, hr]; rfl
  exact if_neg (fun h => Bool.noConfusion (hdone.symm.trans h))

theorem Dev.dbgAcc_write {d : Dev} {v : Nat} (hd : d.jtag.done = true) (hr : d.inReset = false) (hv : bit v 63 = true) : d.dbgAcc v
    = (fun r : Dev × IoRes => r.1.modJtag (fun j => { j with done := true, err := r.2 == .bus }))
      ((d.jtagSelect 0x1C (d.jtag.data + b01 d.jtag.done * 2 ^ 32 + b01 d.jtag.err * 2 ^ 33)).busWrite .spi (bits v 34 24 * 4)
        (bits v 0 32)) := by
  simp only [Dev.dbgAcc_runs v hd hr, hv, if_true]

theorem Dev.dbgAcc_read {d : Dev} {v : Nat} (hd : d.jtag.done = true) (hr : d.inReset = false) (hv : bit v 63 = false) : d.dbgAcc v
    = (fun r : Dev × IoRes => r.1.modJtag (fun j => { j with data := r.2.val, done := true, err := r.2 == .bus }))
      ((d.jtagSelect 0x1C (d.jtag.data + b01 d.jtag.done * 2 ^ 32 + b01 d.jtag.err * 2 ^ 33)).busRead .spi (bits v 34 24 * 4)) := by
  simp only [Dev.dbgAcc_runs v hd hr, hv, Bool.false_eq_true, if_false]

/-- Settles O18: the commands of the core first, then those of the link and of the TAP, which a held core does not stop. -/
theorem hostInterfaceCommandsComplete : Obligations.HostInterfaceCommandsComplete := by
  unfold Obligations.HostInterfaceCommandsComplete
  intro d
  refine ⟨fun hr => ⟨?flr, ?flrByFn, ?vecSent, ?vecHeld, ?vecMerged, ?unmask, ?config, ?commandTail, ?receiveTail, ?fetch, ?dmaRead, ?dmaWrite,
    ?dmaTx, ?rxbuf, ?row, ?complete, ?channelReset, ?spiRead, ?spiWrite, ?spiReset, ?spiBroken, ?spiReserved⟩, ?linkUp, ?linkDown, ?perst,
    ?ioB, ?extest, ?sample, ?idcode, ?clamp, ?highz, ?bypass, ?dbgWrite, ?dbgRead⟩
  case flr =>
    rintro byFn hw rfl
    exact d.answers_core (f := fun d => d.flr false) (fun _ => rfl) hw hr d.flr_host
  case flrByFn =>
    rintro byFn hw rfl hb
    exact d.answers_core (f := fun d => d.flr true) (fun _ => rfl) hw hr (d.flr_function.trans (Dev.fnReset_target _ hb))
  case vecSent => exact fun v hw hp ho ht => d.answers_msixPost hr (of_decide_eq_true hw) (Dev.postVec_sent hp ho ht)
  case vecHeld => exact fun v hw hp ho => d.answers_msixPost hr (of_decide_eq_true hw) (Dev.postVec_closed hp ho)
  case vecMerged => exact fun v hw hp => d.answers_msixPost hr (of_decide_eq_true hw) (Dev.postVec_pending hp)
  case unmask =>
    rintro c v addr data masked hw rfl
    exact d.answers_core (f := fun d => d.hostConfig (.entry v addr data masked)) (fun _ => rfl) hw hr rfl
  case config =>
    intro c hw
    exact d.answers_core (f := fun d => d.hostConfig c) (fun _ => rfl) hw hr rfl
  case commandTail =>
    rintro m c rx v hw rfl ha h
    exact d.answers_reachedWord (fun _ => rfl) hw hr (reached_commandTail (lt_of_ok hw)) rfl ha
      (Dev.tailWrite_room (d := d.dropStaged m (row_HIF_CHc_CTAIL.last [c])) (rx := false) h)
  case receiveTail =>
    rintro m c rx v hw rfl ha h
    exact d.answers_reachedWord (fun _ => rfl) hw hr (reached_receiveTail (lt_of_ok hw)) rfl ha
      (Dev.tailWrite_room (d := d.dropStaged m (row_HIF_CHc_RTAIL.last [c])) (rx := true) h)
  case fetch =>
    intro c rx answer hw _ _ _
    exact d.answers_core (f := fun d => d.descFetch c rx answer) (fun _ => rfl) hw hr rfl
  case dmaRead =>
    intro c err h hw _
    exact d.answers_core (f := fun d => d.dmaRead c err) (fun _ => rfl) hw hr rfl
  case dmaWrite =>
    intro c data h hw _
    exact d.answers_core (f := fun d => d.dmaWrite c data) (fun _ => rfl) hw hr rfl
  case dmaTx =>
    intro c data h hw _
    exact d.answers_core (f := fun d => d.dmaTx c data) (fun _ => rfl) hw hr rfl
  case rxbuf =>
    intro c err h l r hw _ _ _ _
    exact d.answers_core (f := fun d => d.rxbuf c err) (fun _ => rfl) hw hr rfl
  case row =>
    intro c err r rest hw _ _ _ _
    exact d.answers_core (f := fun d => d.rowTransfer c err) (fun _ => rfl) hw hr rfl
  case complete =>
    intro c h st rs n hw hb
    exact d.answers_core (f := fun d => d.transferComplete c) (fun _ => rfl) hw hr (Dev.transferComplete_desc hb)
  case channelReset =>
    intro c hw hb
    exact d.answers_fn (f := fun d => d.channelReset c) (fun _ => rfl) hw hr hb
  case spiRead =>
    intro l ws hw hio hc hs hws
    exact d.answers_core (f := fun d => if d.sup.ioB then d.spiRead l else d) (fun _ => rfl) hw hr
      ((if_pos hio).trans (Dev.spiRead_done hc hs hws))
  case spiWrite =>
    intro l hw hio hc hs hok
    exact d.answers_core (f := fun d => if d.sup.ioB then d.spiWrite l else d) (fun _ => rfl) hw hr
      ((if_pos hio).trans (Dev.spiWrite_done hc hs hok))
  case spiReset =>
    intro l hw hio hc hf hk
    exact d.answers_core (f := fun d => if d.sup.ioB then d.spiReset l else d) (fun _ => rfl) hw hr
      ((if_pos hio).trans (Dev.spiReset_keyed hc hf hk))
  case spiBroken =>
    intro l hw hio h
    exact d.answers_core (f := fun d => if d.sup.ioB then d.spiDiscard l else d) (fun _ => rfl) hw hr ((if_pos hio).trans (if_neg h))
  case spiReserved =>
    intro l hw hio h5 hcmd
    exact d.answers_core (f := fun d => if d.sup.ioB then d.spiDiscard l else d) (fun _ => rfl) hw hr
      ((if_pos hio).trans (if_pos ⟨h5, by rw [hcmd]; rfl⟩))
  case linkUp =>
    rintro c rate width hw rfl hr hp
    exact d.answers_act (f := fun d => d.pcieChange rate width .up) (fun _ => rfl) hw (Dev.pcieChange_up rate width hr hp)
  case linkDown =>
    rintro c rate width hw rfl hr
    exact d.answers_act (f := fun d => d.pcieChange rate width .down) (fun _ => rfl) hw (Dev.pcieChange_down rate width hr)
  case perst =>
    rintro c rate width low hw rfl
    exact d.answers_act (f := fun d => d.pcieChange rate width (.perst low)) (fun _ => rfl) hw rfl
  case ioB =>
    rintro c rate width there hw rfl
    exact d.answers_act (f := fun d => d.pcieChange rate width (.ioB there)) (fun _ => rfl) hw rfl
  case extest =>
    intro cells hw hp
    exact d.answers_tap (f := fun d => d.boundaryScan 0x00 ((List.range scanCells).zip cells)) (fun _ => rfl) hw hp rfl
  case sample =>
    intro cells hw hp
    exact d.answers_tap (f := fun d => d.boundaryScan 0x01 ((List.range scanCells).zip cells)) (fun _ => rfl) hw hp rfl
  case idcode => exact fun hp => d.answers_tap (f := fun d => d.jtagSelect 0x02 jtagId) (fun _ => rfl) rfl hp rfl
  case clamp => exact fun hp => d.answers_tap (f := fun d => d.jtagSelect 0x03 0) (fun _ => rfl) rfl hp rfl
  case highz => exact fun hp => d.answers_tap (f := fun d => d.jtagSelect 0x04 0) (fun _ => rfl) rfl hp rfl
  case bypass =>
    intro code hw hp
    exact d.answers_tap (f := fun d => d.jtagSelect code 0) (fun _ => rfl) hw hp rfl
  case dbgWrite =>
    intro v hw hp hd hr hv
    exact d.answers_tap (f := fun d => d.dbgAcc v.toNat) (fun _ => rfl) hw hp (Dev.dbgAcc_write hd hr hv)
  case dbgRead =>
    intro v hw hp hd hr hv
    exact d.answers_tap (f := fun d => d.dbgAcc v.toNat) (fun _ => rfl) hw hp (Dev.dbgAcc_read hd hr hv)

end Sys2Proof.Machine
